-- ==== Sys2Proof/Word.lean ====
section
/-! DEFINITION. The word types of the node: bytes and the 128-byte descriptor. -/

namespace Sys2Proof

/-- One byte of memory, of a packet or of a message. -/
abbrev Byte := BitVec 8

/-- A 128-byte descriptor as one word, bit 0 first (R169). -/
abbrev Desc := BitVec 1024

end Sys2Proof
end

