-- ==== Sys2Proof/Syntax.lean ====
section
/-! DEFINITION. The commands of the node: one constructor per row of the table of operations and events. The table
gives no operands; they are the model's (log 3). -/

namespace Sys2Proof

/-- The channel that carries a dictionary access; it fixes the caller class (R390). -/
inductive Chan where
  | mailbox
  | mgmtQp (qp : BitVec 16)
  | i3c
  | dataQp (qp : BitVec 16)
deriving DecidableEq, Repr

/-- A dictionary entry: index, subindex, and the domain of a domain-scoped entry (0 for a node-wide one) (R388, R392). -/
structure PdKey where
  idx : Nat
  sub : Nat
  dom : Nat
deriving DecidableEq, Repr

/-- What the trailer of a stripe says (R83). -/
structure StripeResult where
  abftOk : Bool
  residueOk : Bool
  crcOk : Bool
  corrected : Bool
  uncorrected : Bool
deriving DecidableEq, Repr

/-- The two halves of a sweep: the clean run passed; the corrupted run was caught (R87, R155, R333). -/
structure SweepResult where
  cleanPass : Bool
  corruptCaught : Bool
deriving DecidableEq, Repr

/-- The checkers swept by the fault collector (R333). -/
inductive Checker where
  | encoder | conversion | identity | coverage | completion | linkCrc | indexDigest | husk
deriving DecidableEq, Repr

/-- A unit whose sweep is late (R334). -/
inductive LateUnit where
  | awn (u : BitVec 32)
  | tile (t : BitVec 7)
  | shared (c : Checker)
deriving DecidableEq, Repr

/-- What a read of a slot met (R88, R336): single-bit errors, an uncorrected error, bytes that fail the CRCs or, in a
scrubbed FREE slot, are not zero. -/
structure ReadResult where
  corrected : Bool
  uncorrected : Bool
  mismatch : Bool
deriving DecidableEq, Repr

/-- The limit that a tier transfer exceeded; the CAUSE of ST_TIER_LATE (R227, R228). -/
inductive TierLimit where
  | hostRead | hostWrite | remote | queue
deriving DecidableEq, Repr

/-- The two IDE streams (R365). -/
inductive IdeStream where
  | io | cachemem
deriving DecidableEq, Repr

/-- Outcome of the start-up BIST: islands that failed and SRAM rows repaired (R426). -/
structure BistOutcome where
  failing : List (BitVec 12)
  rowsRepaired : Nat
deriving DecidableEq, Repr

/-- Transports of SPDM (R378). -/
inductive SpdmTransport where
  | doe | mctp
deriving DecidableEq, Repr

/-- SPDM requests by name (R378); `absent` stands for a request of a capability the node lacks. -/
inductive SpdmReq where
  | getVersion
  | getCapabilities
  | negotiateAlgorithms
  | getDigests
  | getCertificate (slot : BitVec 8)
  | challenge (slot : BitVec 8) (nonce : List Byte)
  | keyExchange
  | finish (session : Nat)
  | heartbeat (session : Nat)
  | keyUpdate (session : Nat)
  | endSession (session : Nat)
  | absent (code : Byte)
deriving DecidableEq, Repr

/-- IDE key management messages (R365). -/
inductive IdeKm where
  | keyProg | kSetGo | kSetStop
deriving DecidableEq, Repr

/-- MCTP control messages on I3C (R369). -/
inductive MctpCtl where
  | setEndpointId (eid : Byte)
  | getEndpointId
  | getVersion
  | getMessageTypes
  | other (code : Byte)
deriving DecidableEq, Repr

/-- Score-program state entries (R117, PD 0x2100 to 0x2105). -/
inductive ScoreEntry where
  | program (n : BitVec 3)
  | layerProgram
  | const
  | headTable (n : BitVec 2)
  | biasTable (n : BitVec 3)
  | capTable (n : BitVec 2)
deriving DecidableEq, Repr

/-- Outcome of a tile BIST (R427). -/
structure LbistOutcome where
  signature : BitVec 32
  memoryFail : Bool
  rows : Nat
deriving DecidableEq, Repr

/-- Outcome of an awn-stack BIST: failing awns, physical channels and slots (R428). -/
structure AsbOutcome where
  awns : List (BitVec 32)
  channels : List (BitVec 6)
  slots : List (BitVec 25)
deriving DecidableEq, Repr

/-- One queue's delay at a sample (R318). -/
structure QueueDelay where
  sq : BitVec 16
  delayNs : BitVec 32
deriving DecidableEq, Repr

/-- The fault sources in the order of their IDs (R322). -/
inductive FaultSource where
  | arrayCe | arrayUe | channelPredict | channelLoss | awnCheck | awnSweep | tileCheck | tileSweep
  | sramCe | sramUe | pageCrc | identity | coverage | outputCrc | linkCe | linkUe
  | indexDigest | domainStateUe | tableUe | checkerLate | clockIsland | hostLink | mgmtHang | mgmtStorm
  | mgmtImage | thermalCrit | powerFault | collector
deriving DecidableEq, Repr

/-- A fault record as it reaches the collector (R327, R339). `keyWord` says that damaged domain state is a key (R323), `constStore`
that an SRAM word is one of a tile's constant store (R153). -/
structure FaultIn where
  source : FaultSource
  island : BitVec 12
  unit : BitVec 32
  page : Option (BitVec 25)
  slot : Option (BitVec 25)
  tag : Option (BitVec 14)
  dom : Option (BitVec 12)
  keyWord : Bool
  constStore : Bool
  injected : Bool
deriving DecidableEq, Repr

/-- A unit that a spare replaces (R107, R157). -/
inductive SpareUnit where
  | awn (u : BitVec 32)
  | tile (t : BitVec 7)
deriving DecidableEq, Repr

/-- What a firmware restart finds: cores failing their self-test, and whether the SRAM copy verifies (R348). -/
structure RestartOutcome where
  failedCores : Nat
  imageOk : Bool
deriving DecidableEq, Repr

/-- One poll of the regulator monitor: temperatures in 1/16 C by island (R340), hottest core die and base die of each
stack, coolant, input voltage, current and power, and the regulator pages that were read (R421, R424). -/
structure Readings where
  islands : List (BitVec 12 × Int)
  cores : List (BitVec 4 × Int)
  bases : List (BitVec 4 × Int)
  inlet : Int
  outlet : Int
  vinMv : BitVec 32
  iinMa : BitVec 32
  pinMw : BitVec 32
  rails : List (Nat × BitVec 128)
deriving DecidableEq, Repr

/-- The rails (R413). -/
inductive Rail where
  | vbus | vaux | vsram | vcore | vstkPp | vstkDd | vstkQ | vser
deriving DecidableEq, Repr

/-- A received XNT packet: the sub-port, whether frame, IP and UDP were valid for XNT, the CE mark, base header,
extension headers, payload as received and husk tag (R241, R257), and the FEC codewords that the sub-port corrected and could not
correct since the packet before (R275). -/
structure RxPacket where
  subport : BitVec 5
  frameOk : Bool
  ce : Bool
  base : BitVec 256
  ext : List Byte
  payload : List Byte
  tag : List Byte
  fecCorrected : BitVec 32 := 0
  fecUncorrected : BitVec 32 := 0
deriving DecidableEq, Repr

/-- The addresses of an ARP request, neighbour solicitation or echo request: the one asked for and the asker's (R239). -/
structure AddrPair where
  target : BitVec 128
  sender : BitVec 128
deriving DecidableEq, Repr

/-- The VLAN of a received echo request, where it has one, and its data (R239). -/
structure EchoIn where
  vlan : Option (BitVec 12)
  data : List Byte
deriving DecidableEq, Repr

/-- A SERVICE message as it is acted on in PSN order: the SVC header and the payload (R260, R270). -/
structure SvcMsg where
  hdr : BitVec 256
  payload : List Byte
deriving DecidableEq, Repr

/-- One bank pair of a logical channel (R26). -/
structure BankPair where
  stack : BitVec 4
  ch : BitVec 5
  bp : BitVec 5
deriving DecidableEq, Repr

/-- The commands: one constructor per row of spec/opcode_table.json. -/
inductive Instr where
  /-- NOP (R178) -/
  | nop (sq : BitVec 16) (d : Desc)
  /-- SEQ_OPEN (R38) -/
  | seqOpen (sq : BitVec 16) (d : Desc)
  /-- SEQ_FORK (R47) -/
  | seqFork (sq : BitVec 16) (d : Desc)
  /-- SEQ_TRIM (R55) -/
  | seqTrim (sq : BitVec 16) (d : Desc)
  /-- SEQ_CLOSE (R56) -/
  | seqClose (sq : BitVec 16) (d : Desc)
  /-- KV_APPEND (R34) -/
  | kvAppend (sq : BitVec 16) (d : Desc)
  /-- KV_APPEND_LAYER (R180) -/
  | kvAppendLayer (sq : BitVec 16) (d : Desc)
  /-- ATTEND (R130) -/
  | attend (sq : BitVec 16) (d : Desc)
  /-- WINNOW (R182) -/
  | winnow (sq : BitVec 16) (d : Desc)
  /-- PREFIX_FIND (R206) -/
  | prefixFind (sq : BitVec 16) (d : Desc)
  /-- PREFIX_ADD (R205) -/
  | prefixAdd (sq : BitVec 16) (d : Desc)
  /-- PREFIX_DROP (R210) -/
  | prefixDrop (sq : BitVec 16) (d : Desc)
  /-- PAGE_SWAP_OUT (R221) -/
  | pageSwapOut (sq : BitVec 16) (d : Desc)
  /-- PAGE_SWAP_IN (R222) -/
  | pageSwapIn (sq : BitVec 16) (d : Desc)
  /-- PAGE_MIGRATE_OUT (R224) -/
  | pageMigrateOut (sq : BitVec 16) (d : Desc)
  /-- PAGE_MIGRATE_IN (R225) -/
  | pageMigrateIn (sq : BitVec 16) (d : Desc)
  /-- PAGE_MIGRATE_MOVE (R22) -/
  | pageMigrateMove (sq : BitVec 16) (d : Desc)
  /-- PAGE_VIEW (R99) -/
  | pageView (sq : BitVec 16) (d : Desc)
  /-- PAGE_UNVIEW (R103) -/
  | pageUnview (sq : BitVec 16) (d : Desc)
  /-- MASK_PUT (R121) -/
  | maskPut (sq : BitVec 16) (d : Desc)
  /-- MASK_DROP (R123) -/
  | maskDrop (sq : BitVec 16) (d : Desc)
  /-- TABLE_BUILD (R234) -/
  | tableBuild (sq : BitVec 16) (d : Desc)
  /-- RING_JOIN (R279) -/
  | ringJoin (sq : BitVec 16) (d : Desc)
  /-- RING_LEAVE (R292) -/
  | ringLeave (sq : BitVec 16) (d : Desc)
  /-- FENCE (R187) -/
  | fence (sq : BitVec 16) (d : Desc)
  /-- SQ_TAIL_DOORBELL (R168) -/
  | sqTailDoorbell (sq : BitVec 16) (tail : BitVec 16)
  /-- CQ_HEAD_DOORBELL (R168) -/
  | cqHeadDoorbell (cq : BitVec 16) (head : BitVec 16)
  /-- DESCRIPTOR_FETCH (R172) -/
  | descriptorFetch (sq : BitVec 16)
  /-- COMMAND_ADMIT (R173) -/
  | commandAdmit (sq : BitVec 16)
  /-- COMMAND_WAIT_LIMIT (R174) -/
  | commandWaitLimit (id : Nat)
  /-- COMMAND_COMMIT (R178) -/
  | commandCommit (id : Nat)
  /-- SHEAF_BUILD (R189) -/
  | sheafBuild (slice : BitVec 4)
  /-- TURN_END (R190) -/
  | turnEnd (tile : BitVec 6) (overrunNs : BitVec 32)
  /-- ITEM_START (R148) -/
  | itemStart (tag : BitVec 14)
  /-- ITEM_OVERRUN (R146) -/
  | itemOverrun (tag : BitVec 14)
  /-- ITEM_END (R149) -/
  | itemEnd (tag : BitVec 14)
  /-- PREEMPT_WAIT (R193) -/
  | preemptWait (tag : BitVec 14)
  /-- STRIPE_END (R79) -/
  | stripeEnd (stripeTag : BitVec 32) (r : StripeResult)
  /-- REFRESH_DUE (R93) -/
  | refreshDue (bp : BankPair)
  /-- REFRESH_MANAGEMENT (R93) -/
  | refreshManagement (bp : BankPair)
  /-- SWEEP (R87) -/
  | sweep (awn : BitVec 32) (r : SweepResult)
  /-- TILE_SWEEP (R155) -/
  | tileSweep (tile : BitVec 7) (r : SweepResult)
  /-- CHECKER_SWEEP (R333) -/
  | checkerSweep (chk : Checker) (r : SweepResult)
  /-- CHECKER_LATE (R334) -/
  | checkerLate (u : LateUnit)
  /-- SCRUB (R91) -/
  | scrub (slot : BitVec 25) (uncorrected : Bool)
  /-- PATROL (R336) -/
  | patrol (slot : BitVec 25) (r : ReadResult)
  /-- PATROL_SUSPECT_VERIFY (R337) -/
  | patrolSuspectVerify (slot : BitVec 25) (r : ReadResult)
  /-- INDEX_REBALANCE (R201) -/
  | indexRebalance (bank : BitVec 6)
  /-- INDEX_SWEEP (R212) -/
  | indexSweep
  /-- PRECLEAN (R230) -/
  | preclean (page : BitVec 25)
  /-- TIER_FLUSH_READ_DONE (R221) -/
  | tierFlushReadDone (id : Nat)
  /-- TIER_TRANSFER_DONE (R226) -/
  | tierTransferDone (id : Nat) (page : BitVec 25) (dmaOk : Bool)
  /-- TIER_LATE (R227) -/
  | tierLate (id : Nat) (page : BitVec 25) (limit : TierLimit)
  /-- REMOTE_RELEASE_TIMEOUT (R225) -/
  | remoteReleaseTimeout (node : BitVec 12) (page : BitVec 25)
  /-- MOVE_FINAL_TIMEOUT (R272) -/
  | moveFinalTimeout (index : BitVec 24)
  /-- MOVE_QUERY_TIMER (R272) -/
  | moveQueryTimer (index : BitVec 24)
  /-- CXL_MEM_READ (R100) -/
  | cxlMemRead (addr : BitVec 64) (uncorrected : Bool)
  /-- CXL_MEM_WRITE (R101) -/
  | cxlMemWrite (addr : BitVec 64) (data : BitVec 512)
  /-- H2D_SNOOP (R363) -/
  | h2dSnoop (addr : BitVec 64)
  /-- HDM_DECODER_COMMIT (R362) -/
  | hdmDecoderCommit (base : BitVec 64) (size : BitVec 64) (ways : BitVec 8)
  /-- VIRAL (R364) -/
  | viral
  /-- IDE_INTEGRITY_FAILURE (R365) -/
  | ideIntegrityFailure (stream : IdeStream)
  /-- LINK_TRAINED (R360) -/
  | linkTrained (width : BitVec 5) (fullSpeed : Bool)
  /-- FW_LOAD_CHUNK (R368) -/
  | fwLoadChunk (offset : BitVec 32) (length : BitVec 32) (reserved : BitVec 64) (data : List Byte)
  /-- FW_LOAD_DMA (R368) -/
  | fwLoadDma (addr : BitVec 64) (length : BitVec 32) (offset : BitVec 32)
  /-- FW_START (R373) -/
  | fwStart (length : BitVec 32)
  /-- FW_VERIFY_DONE (R374) -/
  | fwVerifyDone (coresOk : Bool)
  /-- FW_ABORT (R368) -/
  | fwAbort
  /-- CERT_LOAD (R377) -/
  | certLoad (length : BitVec 32) (bundle : List Byte)
  /-- BOOT_STATUS (R371) -/
  | bootStatus (viaI3c : Bool)
  /-- PD_ACCESS (R368) -/
  | pdAccess (req : List Byte)
  /-- FIRMWARE_RUNNING (R370) -/
  | firmwareRunning (b : BistOutcome)
  /-- SPDM_REQUEST (R378) -/
  | spdmRequest (t : SpdmTransport) (r : SpdmReq)
  /-- GET_MEASUREMENTS (R379) -/
  | getMeasurements (t : SpdmTransport) (index : BitVec 8) (signed : Bool) (nonce : List Byte)
  /-- CXL_IDE_KM (R365) -/
  | cxlIdeKm (session : Nat) (stream : IdeStream) (m : IdeKm)
  /-- DOE_DISCOVERY (R367) -/
  | doeDiscovery (index : BitVec 8)
  /-- CDAT_READ (R367) -/
  | cdatRead (handle : BitVec 16)
  /-- MCTP_CONTROL (R369) -/
  | mctpControl (m : MctpCtl)
  /-- PD_REQUEST (R400) -/
  | pdRequest (ch : Chan) (req : List Byte)
  /-- CMD_EFFECT (R395) -/
  | cmdEffect (k : PdKey)
  /-- DRAIN_APPLY (R396) -/
  | drainApply
  /-- DRAIN_WAIT_LIMIT (R396) -/
  | drainWaitLimit
  /-- CREATE_SQ (R164) -/
  | createSq (ch : Chan)
  /-- DELETE_SQ (R164) -/
  | deleteSq (ch : Chan)
  /-- DELETE_SQ_DONE (R164) -/
  | deleteSqDone (sq : BitVec 16)
  /-- CREATE_CQ (R164) -/
  | createCq (ch : Chan)
  /-- DELETE_CQ (R164) -/
  | deleteCq (ch : Chan)
  /-- QP_CONNECT (R250) -/
  | qpConnect (ch : Chan)
  /-- QP_LISTEN (R249) -/
  | qpListen (ch : Chan)
  /-- QP_DISCONNECT (R249) -/
  | qpDisconnect (ch : Chan)
  /-- QP_RESET (R249) -/
  | qpReset (ch : Chan)
  /-- DOMAIN_CREATE (R298) -/
  | domainCreate (ch : Chan) (dom : BitVec 12)
  /-- DOMAIN_TEARDOWN (R195) -/
  | domainTeardown (ch : Chan) (dom : BitVec 12)
  /-- TEARDOWN_DONE (R195) -/
  | teardownDone (dom : BitVec 12)
  /-- DOMAIN_DELETE (R299) -/
  | domainDelete (ch : Chan) (dom : BitVec 12)
  /-- PROFILE_COMMIT (R62) -/
  | profileCommit (ch : Chan)
  /-- SCORE_PROGRAM (R117) -/
  | scoreProgram (ch : Chan) (entry : ScoreEntry) (value : List Byte)
  /-- SLICE (R17) -/
  | slice (ch : Chan) (n : BitVec 4) (value : List Byte)
  /-- MAP_EPOCH_CURRENT (R25) -/
  | mapEpochCurrent (ch : Chan) (v : BitVec 32)
  /-- MAP_EPOCH_OLDEST_LIVE (R20) -/
  | mapEpochOldestLive (ch : Chan) (v : BitVec 32)
  /-- PARTITION_MODE (R305) -/
  | partitionMode (ch : Chan) (v : Byte)
  /-- DMA_REGION (R366) -/
  | dmaRegion (ch : Chan) (dom : BitVec 12) (n : BitVec 4) (v : BitVec 128)
  /-- SHAPER_FABRIC (R317) -/
  | shaperFabric (ch : Chan) (dom : BitVec 12) (v : BitVec 256)
  /-- SHAPER_TIER (R317) -/
  | shaperTier (ch : Chan) (dom : BitVec 12) (v : BitVec 256)
  /-- XTS_KEY (R303) -/
  | xtsKey (ch : Chan) (dom : BitVec 12) (key : List Byte)
  /-- FABRIC_KEY (R303) -/
  | fabricKey (ch : Chan) (dom : BitVec 12) (key : List Byte)
  /-- MGMT_FABRIC_KEY (R303) -/
  | mgmtFabricKey (ch : Chan) (key : List Byte)
  /-- HOST_TIER_BASE (R217) -/
  | hostTierBase (ch : Chan) (dom : BitVec 12) (v : BitVec 64)
  /-- HOST_TIER_UNITS (R217) -/
  | hostTierUnits (ch : Chan) (dom : BitVec 12) (v : BitVec 32)
  /-- HINT_FLAGS (R229) -/
  | hintFlags (ch : Chan) (dom : BitVec 12) (v : BitVec 32)
  /-- GROUP_MEMBERS (R203) -/
  | groupMembers (ch : Chan) (members : List Byte)
  /-- REMOTE_HOLD_RELEASE (R225) -/
  | remoteHoldRelease (ch : Chan) (v : BitVec 16)
  /-- MOVE_ABANDON (R272) -/
  | moveAbandon (ch : Chan) (v : BitVec 32)
  /-- SHADOW_START (R351) -/
  | shadowStart (ch : Chan)
  /-- SHADOW_TAKEOVER (R352) -/
  | shadowTakeover (ch : Chan)
  /-- SHADOW_ABANDON (R352) -/
  | shadowAbandon (ch : Chan)
  /-- SHADOW_RESET (R352) -/
  | shadowReset (ch : Chan)
  /-- ERRN_CLEAR (R329) -/
  | errnClear (ch : Chan)
  /-- FAULT_INJECT (R345) -/
  | faultInject (ch : Chan) (v : BitVec 128)
  /-- SOURCE_REACTION (R326) -/
  | sourceReaction (ch : Chan) (n : BitVec 8) (v : BitVec 32)
  /-- LBIST_START (R427) -/
  | lbistStart (ch : Chan) (v : BitVec 64)
  /-- LBIST_DONE (R427) -/
  | lbistDone (r : LbistOutcome)
  /-- ASB_PREPARE (R428) -/
  | asbPrepare (ch : Chan) (stack : BitVec 4)
  /-- ASB_START (R428) -/
  | asbStart (ch : Chan) (stack : BitVec 4)
  /-- ASB_DONE (R428) -/
  | asbDone (stack : BitVec 4) (r : AsbOutcome)
  /-- ASB_RELEASE (R428) -/
  | asbRelease (ch : Chan) (stack : BitVec 4)
  /-- MGMT_RESTART (R397) -/
  | mgmtRestart (ch : Chan)
  /-- MGMT_KICK (R348) -/
  | mgmtKick
  /-- MIN_SVN_RAISE (R375) -/
  | minSvnRaise (ch : Chan) (v : BitVec 16)
  /-- SAMPLE_CLEAR (R320) -/
  | sampleClear (ch : Chan)
  /-- EVENT_RING_HEAD (R347) -/
  | eventRingHead (ch : Chan) (v : BitVec 32)
  /-- EVENT_RING_RECONFIG (R347) -/
  | eventRingReconfig
  /-- EVENT_FRAME (R403) -/
  | eventFrame
  /-- QUEUE_SAMPLE (R318) -/
  | queueSample (delays : List QueueDelay)
  /-- FAULT_EVENT (R327) -/
  | faultEvent (f : FaultIn)
  /-- SPARE_MAP (R107) -/
  | spareMap (u : SpareUnit)
  /-- CHANNEL_COPY_SWITCH (R106) -/
  | channelCopySwitch (stack : BitVec 4) (ch : BitVec 5)
  /-- CHIP_RESET (R328) -/
  | chipReset
  /-- ERRN_PULSE_END (R329) -/
  | errnPulseEnd
  /-- ISLAND_LINK_TIMEOUT (R419) -/
  | islandLinkTimeout (receiver : BitVec 12)
  /-- CLOCK_CHECK (R420) -/
  | clockCheck (deviating : List (BitVec 12))
  /-- MGMT_HANG (R348) -/
  | mgmtHang (r : RestartOutcome)
  /-- MGMT_RESTARTED (R349) -/
  | mgmtRestarted
  /-- TEMP_READING (R422) -/
  | tempReading (r : Readings)
  /-- TILE_FREQUENCY_STEP_DOWN (R423) -/
  | tileFrequencyStepDown (tile : BitVec 7)
  /-- PWR_EN_HIGH (R413) -/
  | pwrEnHigh (vinMv : BitVec 32)
  /-- PWR_GOOD (R413) -/
  | pwrGood
  /-- PWR_EN_LOW (R415) -/
  | pwrEnLow
  /-- BROWN_OUT (R414) -/
  | brownOut
  /-- VIN_LOW (R415) -/
  | vinLow
  /-- VIN_OVER (R415) -/
  | vinOver
  /-- INPUT_OVER_CURRENT (R415) -/
  | inputOverCurrent
  /-- RAIL_FAULT (R415) -/
  | railFault (rail : Rail)
  /-- RST_N_LOW (R417) -/
  | rstNLow
  /-- RST_N_RELEASE (R417) -/
  | rstNRelease
  /-- PERST_N (R417) -/
  | perstN
  /-- CXL_RESET (R381) -/
  | cxlReset
  /-- LINK_DOWN (R381) -/
  | linkDown
  /-- WARM_RESET_ENTRY (R383) -/
  | warmResetEntry
  /-- FIRMWARE_START_AFTER_RESET (R383) -/
  | firmwareStartAfterReset (b : BistOutcome)
  /-- XNT_WRITE (R258) -/
  | xntWrite (p : RxPacket)
  /-- XNT_WRITE_IMM (R260) -/
  | xntWriteImm (p : RxPacket)
  /-- READ_REQ (R263) -/
  | readReq (p : RxPacket)
  /-- READ_RESP (R263) -/
  | readResp (p : RxPacket)
  /-- XNT_ACK (R261) -/
  | xntAck (p : RxPacket)
  /-- XNT_NAK (R261) -/
  | xntNak (p : RxPacket)
  /-- RNR (R269) -/
  | rnr (p : RxPacket)
  /-- REFUSAL_ACK (R261) -/
  | refusalAck (p : RxPacket)
  /-- CONNECT (R250) -/
  | connect (p : RxPacket)
  /-- CONNECT_REPLY (R250) -/
  | connectReply (p : RxPacket)
  /-- CONNECT_REFUSE (R249) -/
  | connectRefuse (p : RxPacket)
  /-- DISCONNECT (R249) -/
  | disconnect (p : RxPacket)
  /-- DISCONNECT_ACK (R249) -/
  | disconnectAck (p : RxPacket)
  /-- RETRANSMIT_TIMEOUT (R254) -/
  | retransmitTimeout (qp : BitVec 16) (psn : BitVec 24)
  /-- ACK_DELAY (R262) -/
  | ackDelay (qp : BitVec 16)
  /-- RATE_PERIOD (R264) -/
  | ratePeriod (qp : BitVec 16)
  /-- PATH_HOLDDOWN (R251) -/
  | pathHolddown (qp : BitVec 16) (path : BitVec 7)
  /-- CONNECT_RETRY (R249) -/
  | connectRetry (qp : BitVec 16)
  /-- DRAIN_LIMIT (R249) -/
  | drainLimit (qp : BitVec 16)
  /-- PSN_GUARD (R250) -/
  | psnGuard (qp : BitVec 16)
  /-- RNR_RESEND (R269) -/
  | rnrResend (qp : BitVec 16) (psn : BitVec 24)
  /-- RNR_LIMIT (R269) -/
  | rnrLimit (qp : BitVec 16) (psn : BitVec 24)
  /-- ODP_BIND (R268) -/
  | odpBind (qp : BitVec 16) (psn : BitVec 24)
  /-- ODP_STALL_LIMIT (R268) -/
  | odpStallLimit (qp : BitVec 16) (psn : BitVec 24)
  /-- REVOCATION_COMPLETE (R266) -/
  | revocationComplete (rkey : BitVec 16)
  /-- RKEY_FREE (R266) -/
  | rkeyFree (rkey : BitVec 16)
  /-- ARP_REQUEST (R239) -/
  | arpRequest (subport : BitVec 5) (v6 : Bool) (addrs : AddrPair) (vlan : Option (BitVec 12))
  /-- ICMP_ECHO (R239) -/
  | icmpEcho (subport : BitVec 5) (v6 : Bool) (addrs : AddrPair) (data : EchoIn)
  /-- HOLD_OFFER (R271) -/
  | holdOffer (qp : BitVec 16) (m : SvcMsg)
  /-- HOLD_READY (R271) -/
  | holdReady (qp : BitVec 16) (m : SvcMsg)
  /-- HOLD_COMMIT (R271) -/
  | holdCommit (qp : BitVec 16) (m : SvcMsg)
  /-- HOLD_DONE (R271) -/
  | holdDone (qp : BitVec 16) (m : SvcMsg)
  /-- HOLD_RELEASE (R225) -/
  | holdRelease (qp : BitVec 16) (m : SvcMsg)
  /-- RELEASED (R225) -/
  | released (qp : BitVec 16) (m : SvcMsg)
  /-- MOVE_BEGIN (R57) -/
  | moveBegin (qp : BitVec 16) (m : SvcMsg)
  /-- MOVE_READY (R272) -/
  | moveReady (qp : BitVec 16) (m : SvcMsg)
  /-- MOVE_FINAL (R272) -/
  | moveFinal (qp : BitVec 16) (m : SvcMsg)
  /-- MOVE_DONE (R22) -/
  | moveDone (qp : BitVec 16) (m : SvcMsg)
  /-- MOVE_QUERY (R272) -/
  | moveQuery (qp : BitVec 16) (m : SvcMsg)
  /-- REFUSE (R270) -/
  | refuse (qp : BitVec 16) (m : SvcMsg)
  /-- RING_HELLO (R279) -/
  | ringHello (qp : BitVec 16) (m : SvcMsg)
  /-- STOOK (R285) -/
  | stook (qp : BitVec 16) (m : SvcMsg)
  /-- CREDIT (R286) -/
  | credit (qp : BitVec 16) (m : SvcMsg)
  /-- LAP_MARK (R289) -/
  | lapMark (qp : BitVec 16) (m : SvcMsg)
  /-- LAP_COMMIT (R289) -/
  | lapCommit (qp : BitVec 16) (m : SvcMsg)
  /-- LAP_ABORT (R290) -/
  | lapAbort (qp : BitVec 16) (m : SvcMsg)
  /-- RING_STOP (R292) -/
  | ringStop (qp : BitVec 16) (m : SvcMsg)
  /-- RING_END (R292) -/
  | ringEnd (qp : BitVec 16) (m : SvcMsg)
  /-- RING_PULSE (R290) -/
  | ringPulse
  /-- RING_IDLE_LIMIT (R290) -/
  | ringIdleLimit (qp : BitVec 16)
  /-- RING_JOIN_LIMIT (R279) -/
  | ringJoinLimit (id : Nat)
  /-- SHADOW_HELLO (R351) -/
  | shadowHello (qp : BitVec 16) (m : SvcMsg)
  /-- SHADOW_CMD (R354) -/
  | shadowCmd (qp : BitVec 16) (m : SvcMsg)
  /-- SHADOW_COMMIT (R352) -/
  | shadowCommit (qp : BitVec 16) (m : SvcMsg)
  /-- SHADOW_END (R352) -/
  | shadowEnd (qp : BitVec 16) (m : SvcMsg)
  /-- RECODE_NARROW (R89) -/
  | recodeNarrow (dom : BitVec 12) (seq : BitVec 64) (plane : BitVec 13) (ordinal : BitVec 32)
  /-- SHAPER_TICK (R315) -/
  | shaperTick (dtNs : BitVec 32)
  /-- INTERFACE_SLOT (R311) -/
  | interfaceSlot (stack : BitVec 4) (i : BitVec 6)
  /-- GRANULE_ZERO_FILL_DONE (R152) -/
  | granuleZeroFillDone (tile : BitVec 7)
  /-- REFRESH_DONE (R93) -/
  | refreshDone (bp : BankPair)
  /-- SUBPORT_LINK_CHANGE (R237) -/
  | subportLinkChange (n : BitVec 5) (up : Bool)
  /-- VIN_DROPOUT (R414) -/
  | vinDropout
  /-- HELLO_HOLD_EXPIRY (R279) -/
  | helloHoldExpiry (qp : BitVec 16)
deriving DecidableEq, Repr

end Sys2Proof
end

