-- ==== Sys2Proof/Decode.lean ====
section
/-! DEFINITION. The table of operations and events gives no command any bits: a command reaches the node as a descriptor
in a queue, a message, a packet or an event, and no word of the table spells one. -/

namespace Sys2Proof

/-- The command that a word of the operation table spells: no row has bits, so no word spells a command. -/
def decodeTableWord (_nbits _w : Nat) : Option Instr := none

end Sys2Proof
end

