-- ==== Sys2Proof/Config.lean ====
section
/-! DEFINITION. What the unit's fuses and ROM fix, and the free values: constants without a body, so that no proof can
lean on a value (log 5, log 8). -/

namespace Sys2Proof

/-- Fused minimum security version number (R375): 0 to 64, a thermometer code. -/
opaque Config.fusedMinSvn : Nat
/-- Spare SRAM rows left at reset (R430); the manual gives no number. -/
opaque Config.sramSpareRows : Nat
/-- The unit's serial number, at most 16 bytes (R385). -/
opaque Config.serial : List Byte
/-- The unit's 32-byte unique device secret (R375). -/
opaque Config.uds : List Byte
/-- SHA-256 of the attestation root public key (R375). -/
opaque Config.rootCaHash : List Byte
/-- Fused hash of signing-key slot `n` (R375). -/
opaque Config.keySlotHash : Nat → List Byte
/-- Revoke fuse of key slot `n` blown (R375). -/
opaque Config.keySlotRevoked : Nat → Bool
/-- Measurement of the boot ROM (R376). -/
opaque Config.romMeasurement : List Byte
/-- Checks of R377 on a certificate bundle that hash the root, verify the DER chain and compare the DeviceID key. The
chain's certificates are DER of other standards; the answer is free (log 18). -/
opaque Config.certChainValid : List Byte → Bool
/-- An ECDSA signature by the Alias key over a byte string (R378, R379): free (log 19). -/
opaque Config.aliasSign : List Byte → List Byte
/-- The Alias certificate (R376), DER of other standards: free (log 19). -/
opaque Config.aliasCert : List Byte → List Byte
/-- The image's segments fit their targets (R374 check 9); the sizes of the targets are not stated: free (log 19). -/
opaque Config.segmentsFit : List Byte → Bool
/-- A candidate for the `n`-th free choice among free indices (R38, R42, R121, R265): free (log 5). -/
opaque Config.pick : Nat → Nat
/-- The `n`-th 64-bit value drawn from the random number generator or a tick counter (R246, R339): free (log 5). -/
opaque Config.fresh : Nat → BitVec 64
/-- The CDAT structures the node answers (R367), formats of another standard: free (log 18). -/
opaque Config.cdat : Nat → List Byte
/-- Sign and payload bits of a NaN result of FP32 arithmetic on three operands: IEEE 754 leaves them open (R5, R112): free
(log 21). -/
opaque Config.nanBits : BitVec 32 → BitVec 32 → BitVec 32 → BitVec 32
/-- exp2ref outside its domain (R124 defines it for arguments that are not positive): free (log 21). -/
opaque Config.exp2Open : BitVec 32 → BitVec 32
/-- A value element of a visible key token whose value page the sequence does not hold (R111, R125); the manual states
none: free (log 23). -/
opaque Config.absentValue : BitVec 32

end Sys2Proof
end

