-- ==== Sys2Proof/Machine/Bits.lean ====
section
/-! DEFINITION. Bit fields, byte order, tables keyed by numbers, sparse memory, serial comparison and CRC-32C. -/

namespace Sys2Proof.Machine

/-- Bits `hi` to `lo` of a word, as a number. -/
def fld {w : Nat} (d : BitVec w) (lo len : Nat) : Nat := (d.extractLsb' lo len).toNat

/-- Bit `i` of a word. -/
def bit {w : Nat} (d : BitVec w) (i : Nat) : Bool := d.getLsbD i

/-- `v` placed at bit `lo` in a word of `w` bits. -/
def put {w : Nat} (lo : Nat) (v : Nat) : BitVec w := BitVec.ofNat w (v * 2 ^ lo)

/-- Number of a truth value. -/
def b2n (b : Bool) : Nat := if b then 1 else 0

/-- Little-endian bytes of a number, `n` of them (R2). -/
def leBytes : Nat → Nat → List Byte
  | 0, _ => []
  | n + 1, v => BitVec.ofNat 8 (v % 256) :: leBytes n (v / 256)

/-- The number that little-endian bytes hold (R2). -/
def leNat : List Byte → Nat
  | [] => 0
  | b :: r => b.toNat + 256 * leNat r

/-- The number that big-endian bytes hold. -/
def beNat (l : List Byte) : Nat := l.foldl (fun a b => a * 256 + b.toNat) 0

/-- Big-endian bytes of a number, `n` of them. -/
def beBytes (n v : Nat) : List Byte := (leBytes n v).reverse

/-- Bytes `off` to `off + n - 1` of a list, zero beyond its end. -/
def slice (l : List Byte) (off n : Nat) : List Byte :=
  let t := (l.drop off).take n
  t ++ List.replicate (n - t.length) 0

/-- The bytes of a list padded with zeros, or cut, to `n`. -/
def padTo (n : Nat) (l : List Byte) : List Byte := slice l 0 n

/-- The word of `w` bits that little-endian bytes hold. -/
def ofBytes (w : Nat) (l : List Byte) : BitVec w := BitVec.ofNat w (leNat l)

/-- ASCII bytes of a string. -/
def ascii (s : String) : List Byte := s.toList.map fun c => BitVec.ofNat 8 c.toNat

/-- `⌈a / b⌉`. -/
def ceilDiv (a b : Nat) : Nat := if b = 0 then 0 else (a + b - 1) / b

/-- Serial comparison of R4: `a` is newer than `b` among numbers of `n` bits. -/
def newer (n a b : Nat) : Bool :=
  let d := (a + 2 ^ n - b % 2 ^ n) % 2 ^ n
  decide (1 ≤ d) && decide (d < 2 ^ (n - 1))

/-! ## Tables keyed by numbers -/

variable {α : Type}

/-- The value that a table holds at a key. -/
def aget : List (Nat × α) → Nat → Option α
  | [], _ => none
  | (k, v) :: r, n => if k = n then some v else aget r n

/-- The table with a value placed at a key, in ascending order of keys. -/
def aput : List (Nat × α) → Nat → α → List (Nat × α)
  | [], n, v => [(n, v)]
  | (k, w) :: r, n, v =>
    if n < k then (n, v) :: (k, w) :: r
    else if n = k then (n, v) :: r
    else (k, w) :: aput r n v

/-- The table without a key. -/
def adel (l : List (Nat × α)) (n : Nat) : List (Nat × α) := l.filter fun p => p.1 ≠ n

/-- The keys of a table. -/
def akeys (l : List (Nat × α)) : List Nat := l.map Prod.fst

/-- The number a table holds at a key, 0 where it holds none. -/
def anat (l : List (Nat × Nat)) (n : Nat) : Nat := (aget l n).getD 0

/-- The number at a key raised by `d`. -/
def abump (l : List (Nat × Nat)) (n d : Nat) : List (Nat × Nat) := aput l n (anat l n + d)

/-- The value at a key changed, where the table holds one. -/
def amod (l : List (Nat × α)) (n : Nat) (f : α → α) : List (Nat × α) :=
  match aget l n with
  | some v => aput l n (f v)
  | none => l

/-- The smallest of `0, 1, …, fuel - 1` plus `from` that a list of numbers does not hold. -/
def leastFree (used : List Nat) (start : Nat) : Nat → Nat
  | 0 => start
  | fuel + 1 => if used.contains start then leastFree used (start + 1) fuel else start

/-! ## Sparse memory -/

/-- The byte at an address; an unlisted byte reads zero (log 7). -/
def Memory.read (m : List Host.Cell) (a : Nat) : Byte := (aget m a).getD 0

/-- The memory after a byte is written: writing what an unlisted byte reads removes the entry. -/
def Memory.write (m : List Host.Cell) (a : Nat) (b : Byte) : List Host.Cell :=
  if b = 0 then adel m a else aput m a b

/-- `n` bytes from an address. -/
def Memory.readBytes (m : List Host.Cell) (a : Nat) : Nat → List Byte
  | 0 => []
  | n + 1 => Memory.read m a :: Memory.readBytes m (a + 1) n

/-- The memory after bytes are written from an address. -/
def Memory.writeBytes (m : List Host.Cell) (a : Nat) : List Byte → List Host.Cell
  | [] => m
  | b :: r => Memory.writeBytes (Memory.write m a b) (a + 1) r

/-- The memory with the bytes at `a` to `a + n - 1` zero. -/
def Memory.clear (m : List Host.Cell) (a n : Nat) : List Host.Cell :=
  m.filter fun c => ¬ (a ≤ c.1 ∧ c.1 < a + n)

/-- Canonical form: addresses strictly rising, no entry zero. -/
def Memory.wf (m : List Host.Cell) : Bool :=
  decide (m.Pairwise fun a b => a.1 < b.1) && m.all fun c => c.2 ≠ 0

/-! ## CRC-32C -/

/-- One bit of the reflected Castagnoli CRC (R33). -/
def crcBit (c : BitVec 32) : BitVec 32 :=
  if c.getLsbD 0 then (c >>> 1) ^^^ 0x82F63B78#32 else c >>> 1

/-- One byte of the CRC. -/
def crcByte (c : BitVec 32) (b : Byte) : BitVec 32 :=
  let c0 := c ^^^ b.setWidth 32
  crcBit (crcBit (crcBit (crcBit (crcBit (crcBit (crcBit (crcBit c0)))))))

/-- CRC-32C of a byte string: initial value and final XOR all ones; the CRC of nothing is 0 (R33). -/
def crc32c (l : List Byte) : BitVec 32 := (l.foldl crcByte 0xFFFFFFFF#32) ^^^ 0xFFFFFFFF#32

end Sys2Proof.Machine
end

