-- ==== Sys2Proof/Machine/Crypto.lean ====
section
/-! DEFINITION. The ciphers and digests the manual names: SHA-256, HMAC and HKDF, AES-256 with XTS and GCM (R220, R246,
R374, R376). They follow FIPS 180-4, FIPS 197, IEEE 1619, SP 800-38D and RFC 5869. -/

namespace Sys2Proof.Machine

/-! ## SHA-256 -/

/-- The largest number of `b` bits whose `k`-th power does not pass `n`, found bit by bit above `acc`. -/
def rootBits (k n : Nat) : Nat → Nat → Nat
  | 0, acc => acc
  | b + 1, acc => rootBits k n b (if (acc + 2 ^ b) ^ k ≤ n then acc + 2 ^ b else acc)

/-- The first 32 bits after the point of the `k`-th root of `p` (FIPS 180-4, where the constants come from). -/
def rootWord (k p : Nat) : BitVec 32 := BitVec.ofNat 32 (rootBits k (p * 2 ^ (32 * k)) 40 0)

/-- The first 64 primes. -/
def primes64 : List Nat :=
  (List.range 312).filter fun p => decide (2 ≤ p) && (List.range 18).all fun d => decide (d < 2) || decide (p ≤ d) || decide (p % d ≠ 0)

/-- Round constants: cube roots of the primes. -/
def shaRoundWords : List (BitVec 32) := primes64.map (rootWord 3)

/-- Initial hash value: square roots of the first eight primes. -/
def shaStart : List (BitVec 32) := (primes64.take 8).map (rootWord 2)

/-- Exclusive or of three rotations of a word. -/
def rot3 (w : BitVec 32) (i j k : Nat) : BitVec 32 := w.rotateRight i ^^^ w.rotateRight j ^^^ w.rotateRight k

/-- Exclusive or of two rotations and one shift of a word. -/
def rot2 (w : BitVec 32) (i j k : Nat) : BitVec 32 := w.rotateRight i ^^^ w.rotateRight j ^^^ (w >>> k)

/-- The rounds, one for each remaining constant. `win` holds the next 16 schedule words, oldest first; `p` and `q` hold
the last four values of the two working sequences (a to d, e to h), newest first. -/
def shaRounds : List (BitVec 32) → List (BitVec 32) → List (BitVec 32) → List (BitVec 32) → List (BitVec 32)
  | [], _, p, q => p ++ q
  | k :: ks, win, p, q =>
    let nth := fun (l : List (BitVec 32)) (n : Nat) => l.getD n 0
    let pick := (nth q 0 &&& nth q 1) ||| (~~~(nth q 0) &&& nth q 2)
    let most := (nth p 0 &&& (nth p 1 ||| nth p 2)) ||| (nth p 1 &&& nth p 2)
    let t := k + nth win 0 + nth q 3 + pick + rot3 (nth q 0) 6 11 25
    let next := rot2 (nth win 14) 17 19 10 + nth win 9 + rot2 (nth win 1) 7 18 3 + nth win 0
    shaRounds ks (win.drop 1 ++ [next]) ((t + most + rot3 (nth p 0) 2 13 22) :: p.take 3) ((nth p 3 + t) :: q.take 3)

/-- The chaining value after `n` more 64-byte blocks. -/
def shaBlocks : Nat → List Byte → List (BitVec 32) → List (BitVec 32)
  | 0, _, h => h
  | n + 1, l, h =>
    let win := (List.range 16).map fun i => BitVec.ofNat 32 (beNat (slice l (4 * i) 4))
    shaBlocks n (l.drop 64) (List.zipWith (· + ·) h (shaRounds shaRoundWords win (h.take 4) (h.drop 4)))

/-- SHA-256 of a byte string, 32 bytes in output order. -/
def sha256 (l : List Byte) : List Byte :=
  let blocks := l.length / 64 + (if l.length % 64 < 56 then 1 else 2)
  let h := shaBlocks blocks (padTo (64 * blocks - 8) (l ++ [0x80#8]) ++ beBytes 8 (8 * l.length)) shaStart
  (List.range 8).flatMap fun i => beBytes 4 (h.getD i 0).toNat

/-- HMAC-SHA-256. -/
def hmac (key msg : List Byte) : List Byte :=
  let k := padTo 64 (if 64 < key.length then sha256 key else key)
  sha256 ((k.map fun b => b ^^^ 0x5c#8) ++ sha256 ((k.map fun b => b ^^^ 0x36#8) ++ msg))

/-- Blocks of HKDF-Expand. -/
def hkdfBlocks (prk info : List Byte) : Nat → Nat → List Byte → List Byte
  | 0, _, _ => []
  | f + 1, i, prev =>
    let t := hmac prk (prev ++ info ++ [BitVec.ofNat 8 i])
    t ++ hkdfBlocks prk info f (i + 1) t

/-- HKDF-SHA-256 with salt, input key, info and output length. -/
def hkdf (salt ikm info : List Byte) (n : Nat) : List Byte :=
  (hkdfBlocks (hmac salt ikm) info (ceilDiv n 32) 1 []).take n

/-! ## AES-256 -/

/-- Doubling in the field of AES. -/
def xtime (b : Byte) : Byte := (b <<< 1) ^^^ (if b.getLsbD 7 then 0x1b#8 else 0#8)

/-- Product in the field of AES, over the low `n` bits of `b`. -/
def aesMul (a b : Byte) : Nat → Byte
  | 0 => 0
  | n + 1 => xtime (aesMul a (b >>> 1) n) ^^^ (if b.getLsbD 0 then a else 0#8)

/-- The S-box at one byte: the inverse in the field (the power 254), then the affine map of FIPS 197. -/
def aesBoxAt (b : Byte) : Byte :=
  let inv := (List.range 8).foldl (fun (acc : Byte) i => if i = 7 then aesMul acc acc 8 else aesMul (aesMul acc acc 8) b 8) 1#8
  (inv ^^^ inv.rotateLeft 1 ^^^ inv.rotateLeft 2 ^^^ inv.rotateLeft 3 ^^^ inv.rotateLeft 4) ^^^ 0x63#8

/-- The S-box of AES. -/
def aesBox : List Byte := (List.range 256).map fun i => aesBoxAt (BitVec.ofNat 8 i)

/-- S-box lookup. -/
def subByte (b : Byte) : Byte := aesBox.getD b.toNat 0

/-- Inverse S-box lookup. -/
def invSubByte (b : Byte) : Byte := BitVec.ofNat 8 (aesBox.idxOf b)

/-- XOR of byte lists. -/
def xorBytes (a b : List Byte) : List Byte := List.zipWith (· ^^^ ·) a b

/-- Key schedule, newest word first, extended by `n` words from word number `i`. -/
def aesExpand : Nat → Nat → Byte → List (List Byte) → List (List Byte)
  | 0, _, _, w => w
  | n + 1, i, rc, w =>
    let t := w.getD 0 []
    let t1 :=
      if i % 8 = 0 then
        match (t.drop 1 ++ t.take 1).map subByte with
        | x :: r => (x ^^^ rc) :: r
        | [] => []
      else if i % 8 = 4 then t.map subByte else t
    aesExpand n (i + 1) (if i % 8 = 0 then xtime rc else rc) (xorBytes (w.getD 7 []) t1 :: w)

/-- The 15 round keys of AES-256. -/
def aesKeys (key : List Byte) : List (List Byte) :=
  let w0 := (List.range 8).map fun i => slice key (4 * i) 4
  let w := (aesExpand 52 8 1 w0.reverse).reverse
  (List.range 15).map fun r => ((w.drop (4 * r)).take 4).flatten

/-- Rows shifted left; the state is kept by columns. -/
def shiftRows (l : List Byte) : List Byte := (List.range 16).map fun i => l.getD ((i + 4 * (i % 4)) % 16) 0

/-- Rows shifted right. -/
def invShiftRows (l : List Byte) : List Byte := (List.range 16).map fun i => l.getD ((i + 12 * (i % 4)) % 16) 0

/-- Columns mixed. -/
def mixColumns : List Byte → List Byte
  | a :: b :: c :: d :: r =>
    let t := a ^^^ b ^^^ c ^^^ d
    (a ^^^ t ^^^ xtime (a ^^^ b)) :: (b ^^^ t ^^^ xtime (b ^^^ c)) :: (c ^^^ t ^^^ xtime (c ^^^ d))
      :: (d ^^^ t ^^^ xtime (d ^^^ a)) :: mixColumns r
  | _ => []

/-- Columns unmixed: mixing three times more. -/
def invMixColumns (l : List Byte) : List Byte := mixColumns (mixColumns (mixColumns l))

/-- AES-256 encryption of a 16-byte block under its round keys. -/
def aesEnc (ks : List (List Byte)) (b : List Byte) : List Byte :=
  let s0 := xorBytes b (ks.getD 0 [])
  let s := (List.range 13).foldl (fun s r => xorBytes (mixColumns (shiftRows (s.map subByte))) (ks.getD (r + 1) [])) s0
  xorBytes (shiftRows (s.map subByte)) (ks.getD 14 [])

/-- AES-256 decryption of a 16-byte block under its round keys. -/
def aesDec (ks : List (List Byte)) (b : List Byte) : List Byte :=
  let s0 := (invShiftRows (xorBytes b (ks.getD 14 []))).map invSubByte
  let s := (List.range 13).foldl
    (fun s r => (invShiftRows (invMixColumns (xorBytes s (ks.getD (13 - r) [])))).map invSubByte) s0
  xorBytes s (ks.getD 0 [])

/-! ## XTS -/

/-- The next tweak of XTS. -/
def xtsNext (t : BitVec 128) : BitVec 128 := (t <<< 1) ^^^ (if t.getLsbD 127 then 0x87#128 else 0#128)

/-- XTS over `n` whole blocks with the cipher `f`. -/
def xtsBlocks (f : List Byte → List Byte) : Nat → BitVec 128 → List Byte → List Byte
  | 0, _, _ => []
  | n + 1, t, l =>
    let tb := leBytes 16 t.toNat
    xorBytes (f (xorBytes (l.take 16) tb)) tb ++ xtsBlocks f n (xtsNext t) (l.drop 16)

/-- XTS of a unit of whole blocks: the 64-byte key's halves, the data unit number as 16 bytes. -/
def xts (dec : Bool) (key iv l : List Byte) : List Byte :=
  let k1 := aesKeys (key.take 32)
  let k2 := aesKeys (key.drop 32)
  xtsBlocks (if dec then aesDec k1 else aesEnc k1) (l.length / 16) (ofBytes 128 (aesEnc k2 iv)) l

/-! ## GCM -/

/-- Product in the field of GHASH; bit 127 is the first bit. -/
def ghashMul (x y : BitVec 128) : BitVec 128 :=
  ((List.range 128).foldl (fun (zv : BitVec 128 × BitVec 128) i =>
    let z := if x.getLsbD (127 - i) then zv.1 ^^^ zv.2 else zv.1
    (z, (zv.2 >>> 1) ^^^ (if zv.2.getLsbD 0 then 0xE1000000000000000000000000000000#128 else 0#128))) (0, y)).1

/-- GHASH over `n` blocks. -/
def ghash (h : BitVec 128) : Nat → List Byte → BitVec 128 → BitVec 128
  | 0, _, y => y
  | n + 1, l, y => ghash h n (l.drop 16) (ghashMul (y ^^^ BitVec.ofNat 128 (beNat (padTo 16 (l.take 16)))) h)

/-- Counter-mode stream over `n` blocks from a 32-bit counter. -/
def gctr (ks : List (List Byte)) (iv : List Byte) : Nat → Nat → List Byte → List Byte
  | 0, _, _ => []
  | n + 1, c, l => xorBytes (l.take 16) (aesEnc ks (iv ++ beBytes 4 c)) ++ gctr ks iv n (c + 1) (l.drop 16)

/-- Bytes padded with zeros to whole blocks. -/
def padBlock (l : List Byte) : List Byte := padTo (16 * ceilDiv l.length 16) l

/-- The GCM tag of associated data and ciphertext under a 12-byte IV. -/
def gcmTag (ks : List (List Byte)) (iv aad ct : List Byte) : List Byte :=
  let h := BitVec.ofNat 128 (beNat (aesEnc ks (List.replicate 16 0)))
  let m := padBlock aad ++ padBlock ct ++ beBytes 8 (8 * aad.length) ++ beBytes 8 (8 * ct.length)
  xorBytes (beBytes 16 (ghash h (m.length / 16) m 0).toNat) (aesEnc ks (iv ++ beBytes 4 1))

/-- AES-256-GCM encryption: ciphertext and tag. -/
def gcmSeal (key iv aad pt : List Byte) : List Byte × List Byte :=
  let ks := aesKeys key
  let ct := gctr ks iv (ceilDiv pt.length 16) 2 pt
  (ct, gcmTag ks iv aad ct)

/-- AES-256-GCM decryption; `none` when the tag is wrong. -/
def gcmOpen (key iv aad ct tag : List Byte) : Option (List Byte) :=
  let ks := aesKeys key
  if gcmTag ks iv aad ct = tag then some (gctr ks iv (ceilDiv ct.length 16) 2 ct) else none

end Sys2Proof.Machine
end

