-- ==== Sys2Proof/Machine/Fp.lean ====
section
/-! DEFINITION. Arithmetic of attention: dyadic numbers, binary32 with subnormals flushed (R112), the quarter-wave table
(R73), the exp2 reference (R124), and rounding shifts (R69). -/

namespace Sys2Proof.Machine

/-- A dyadic number `m × 2^e`. -/
structure Dy where
  m : Int
  e : Int
deriving DecidableEq, Repr, Inhabited

/-- Bits of a natural number. -/
def bitLen (n : Nat) : Nat := if n = 0 then 0 else n.log2 + 1

/-- `rshift_rne` of R69: right shift by `s` with rounding to nearest, ties to even; 0 beyond 40. -/
def rshiftRne (v : Int) (s : Nat) : Int :=
  if s = 0 then v
  else if 40 < s then 0
  else
    let w := v >>> s
    let r := v - w * (2 ^ s : Nat)
    let h : Int := (2 ^ (s - 1) : Nat)
    if h < r ∨ (r = h ∧ w % 2 = 1) then w + 1 else w

/-- `rne(n / 2^s)` of a natural number, without the limit of 40. -/
def rneShift (n s : Nat) : Nat :=
  if s = 0 then n
  else
    let w := n / 2 ^ s
    let r := n % 2 ^ s
    let h := 2 ^ (s - 1)
    if h < r ∨ (r = h ∧ w % 2 = 1) then w + 1 else w

/-- `rne(x × 2^k)` of a dyadic number (R67). -/
def Dy.rne (x : Dy) (k : Int) : Int :=
  let t := x.e + k
  if 0 ≤ t then x.m * (2 ^ t.toNat : Nat)
  else
    let a := rneShift x.m.natAbs (-t).toNat
    if x.m < 0 then -(a : Int) else a

/-- `floor_log2` of the magnitude of a dyadic number that is not zero (R67). -/
def Dy.log2 (x : Dy) : Int := (bitLen x.m.natAbs : Int) - 1 + x.e

/-- Clamp of an integer. -/
def clampI (v lo hi : Int) : Int := if v < lo then lo else if hi < v then hi else v

/-- `|x| < |y|` of dyadic numbers. -/
def Dy.absLt (x y : Dy) : Bool :=
  if x.e ≤ y.e then decide (x.m.natAbs < y.m.natAbs * 2 ^ (y.e - x.e).toNat)
  else decide (x.m.natAbs * 2 ^ (x.e - y.e).toNat < y.m.natAbs)

/-! ## Formats of single elements -/

/-- A finite binary float of `eb` exponent bits and `mb` mantissa bits with the given bias. -/
def floatVal (eb mb bias : Nat) (c : Nat) : Dy :=
  let man := c % 2 ^ mb
  let ex := c / 2 ^ mb % 2 ^ eb
  let neg := c / 2 ^ (mb + eb) % 2 = 1
  let m : Int := if ex = 0 then man else (man + 2 ^ mb : Nat)
  let e : Int := (if ex = 0 then 1 else (ex : Int)) - bias - mb
  ⟨if neg then -m else m, e⟩

/-- A BF16 element; `none` for an infinity or a NaN (R5). -/
def bf16 (c : Nat) : Option Dy := if c / 128 % 256 = 255 then none else some (floatVal 8 7 127 c)

/-- An FP16 element; `none` for an infinity or a NaN (R5). -/
def fp16 (c : Nat) : Option Dy := if c / 1024 % 32 = 31 then none else some (floatVal 5 10 15 c)

/-- An OCP E4M3 element; `none` for a NaN (R5). -/
def e4m3 (c : Nat) : Option Dy := if c % 128 = 127 then none else some (floatVal 4 3 7 c)

/-- An OCP E5M2 element; `none` for an infinity or a NaN (R5). -/
def e5m2 (c : Nat) : Option Dy := if c / 4 % 32 = 31 then none else some (floatVal 5 2 15 c)

/-- An FP4 E2M1 element (R66). -/
def e2m1 (c : Nat) : Dy := floatVal 2 1 1 c

/-- Nearest element of a small float with `mb` mantissa bits, smallest exponent `emin` and largest code `top`, with
whether it saturates (R67). -/
def quantFloat (mb : Nat) (emin : Int) (top signBit : Nat) (x : Dy) : Nat × Bool :=
  if x.m = 0 then (0, false)
  else
    let el := x.log2
    let q := (if el < emin then emin else el) - mb
    let n := rneShift x.m.natAbs (q - x.e).toNat * 2 ^ (x.e - q).toNat
    let code := n + ((q + mb - emin) * (2 ^ mb : Nat)).toNat
    let sat := decide (top < code)
    let mag := if sat then top else code
    (if mag = 0 then 0 else if x.m < 0 then mag + signBit else mag, sat)

/-- `quant` to E4M3: largest finite magnitude 448. -/
def quantE4m3 (x : Dy) : Nat × Bool := quantFloat 3 (-6) 0x7E 0x80 x

/-- `quant` to E5M2: largest finite magnitude 57,344. -/
def quantE5m2 (x : Dy) : Nat × Bool := quantFloat 2 (-14) 0x7B 0x80 x

/-- `quant` to FP4 E2M1: largest magnitude 6. -/
def quantE2m1 (x : Dy) : Nat × Bool := quantFloat 1 0 7 8 x

/-! ## Binary32 with subnormals flushed -/

/-- A binary32 value by its bits. -/
abbrev F32 := BitVec 32

/-- Exponent field. -/
def F32.ex (a : F32) : Nat := fld a 23 8

/-- Fraction field. -/
def F32.fr (a : F32) : Nat := fld a 0 23

/-- Sign bit. -/
def F32.neg (a : F32) : Bool := a.getLsbD 31

/-- NaN. -/
def F32.isNan (a : F32) : Bool := F32.ex a == 255 && F32.fr a != 0

/-- Infinity. -/
def F32.isInf (a : F32) : Bool := F32.ex a == 255 && F32.fr a == 0

/-- Value of a finite operand; a subnormal reads as zero (R112). -/
def F32.val (a : F32) : Dy :=
  if F32.ex a = 0 then ⟨0, 0⟩
  else
    let m : Int := (F32.fr a + 2 ^ 23 : Nat)
    ⟨if F32.neg a then -m else m, (F32.ex a : Int) - 150⟩

/-- A zero of a sign. -/
def F32.zero (neg : Bool) : F32 := if neg then 0x80000000#32 else 0#32

/-- An infinity of a sign. -/
def F32.inf (neg : Bool) : F32 := if neg then 0xFF800000#32 else 0x7F800000#32

/-- A quiet NaN whose sign and payload are free (log 21). -/
def F32.nan (a b c : F32) : F32 := 0x7FC00000#32 ||| Config.nanBits a b c

/-- Rounding to 24 significant bits, ties to even, tininess judged after rounding; a zero takes the sign `zneg`
(R112). -/
def F32.round (zneg : Bool) (x : Dy) : F32 :=
  if x.m = 0 then F32.zero zneg
  else
    let neg := decide (x.m < 0)
    let a := x.m.natAbs
    let l := bitLen a
    let s := l - 24
    let a0 := rneShift a s * 2 ^ (24 - l)
    let up := decide (a0 = 2 ^ 24)
    let a1 := if up then 2 ^ 23 else a0
    let e : Int := x.e + (l : Int) - 24 + (if up then 1 else 0)
    let be := e + 23 + 127
    if be < 1 then F32.zero neg
    else if 254 < be then F32.inf neg
    else BitVec.ofNat 32 ((if neg then 2 ^ 31 else 0) + be.toNat * 2 ^ 23 + (a1 - 2 ^ 23))

/-- Sum of dyadic numbers. -/
def Dy.add (x y : Dy) : Dy :=
  if x.e ≤ y.e then ⟨x.m + y.m * (2 ^ (y.e - x.e).toNat : Nat), x.e⟩
  else ⟨x.m * (2 ^ (x.e - y.e).toNat : Nat) + y.m, y.e⟩

/-- Product of dyadic numbers. -/
def Dy.mul (x y : Dy) : Dy := ⟨x.m * y.m, x.e + y.e⟩

/-- `fma(a, b, c)` with one rounding (R112). -/
def F32.fma (a b c : F32) : F32 :=
  let pneg := F32.neg a != F32.neg b
  if F32.isNan a || F32.isNan b || F32.isNan c then F32.nan a b c
  else if F32.isInf a || F32.isInf b then
    if (F32.val a).m = 0 && !F32.isInf a || (F32.val b).m = 0 && !F32.isInf b then F32.nan a b c
    else if F32.isInf c && F32.neg c != pneg then F32.nan a b c
    else F32.inf pneg
  else if F32.isInf c then c
  else
    let p := (F32.val a).mul (F32.val b)
    let cv := F32.val c
    let zneg := if p.m = 0 && cv.m = 0 then pneg && F32.neg c else false
    F32.round zneg (p.add cv)

/-- Sum (R112). -/
def F32.add (a b : F32) : F32 :=
  if F32.isNan a || F32.isNan b then F32.nan a b 0
  else if F32.isInf a then (if F32.isInf b && F32.neg a != F32.neg b then F32.nan a b 0 else a)
  else if F32.isInf b then b
  else
    let x := F32.val a
    let y := F32.val b
    F32.round (if x.m = 0 && y.m = 0 then F32.neg a && F32.neg b else false) (x.add y)

/-- Sign inverted. -/
def F32.negate (a : F32) : F32 := a ^^^ 0x80000000#32

/-- Difference (R112). -/
def F32.sub (a b : F32) : F32 := F32.add a (F32.negate b)

/-- Product (R112). -/
def F32.mul (a b : F32) : F32 :=
  let neg := F32.neg a != F32.neg b
  if F32.isNan a || F32.isNan b then F32.nan a b 0
  else if F32.isInf a || F32.isInf b then
    if (F32.val a).m = 0 && !F32.isInf a || (F32.val b).m = 0 && !F32.isInf b then F32.nan a b 0 else F32.inf neg
  else F32.round neg ((F32.val a).mul (F32.val b))

/-- A number that orders values as reals do; zeros and subnormals are equal. -/
def F32.key (a : F32) : Int :=
  let m : Int := if F32.ex a = 0 then 0 else (fld a 0 31 : Nat)
  if F32.neg a then -m else m

/-- `a ≥ b`, false when either is a NaN. -/
def F32.ge (a b : F32) : Bool := !F32.isNan a && !F32.isNan b && decide (F32.key b ≤ F32.key a)

/-- An operand as arithmetic reads it: a subnormal is zero of its sign (R112). -/
def F32.flush (a : F32) : F32 := if F32.ex a = 0 then a &&& 0x80000000#32 else a

/-- `max(a, b)` of R112. -/
def F32.max (a b : F32) : F32 := if F32.ge a b then F32.flush a else F32.flush b

/-- `min(a, b)`, the mirror of `max` (log 22). -/
def F32.min (a b : F32) : F32 := if F32.ge b a then F32.flush a else F32.flush b

/-- Magnitude. -/
def F32.abs (a : F32) : F32 := a &&& 0x7FFFFFFF#32

/-! ## Fixed tables -/

/-- Fraction bits of the fixed-point series that give the table entries. -/
def fixBits : Nat := 96

/-- `ln 2 × 2^96`, truncated. -/
def fixLn2 : Nat := 54916777467707473351141471128

/-- `π × 2^96`, truncated. -/
def fixPi : Nat := 248902613312231085230521944622

/-- Terms `t × x^k × …` of an alternating series whose factor denominators are `d, d + step, …`. -/
def fixSeries (x2 step : Nat) : Nat → Nat → Int → Int → Int
  | 0, _, _, acc => acc
  | f + 1, d, t, acc =>
    let den : Int := if step = 1 then (d : Nat) else (d * (d + 1) : Nat)
    let t1 : Int := -(Int.shiftRight (t * (x2 : Int)) fixBits) / den
    fixSeries x2 step f (d + step) t1 (acc + t1)

/-- `rne(2^24 × 2^(-k / d))`: entries of T1 with `d = 1,024` and of T2 with `d = 2^20` (R124). The series is exact to
far less than the distance of any entry from a tie. -/
def expTable (k d : Nat) : Nat :=
  if k = 0 then 2 ^ 24
  else
    let one : Int := (2 ^ fixBits : Nat)
    let v : Int := fixSeries (fixLn2 * k / d) 1 28 1 one one
    (rneShift v.toNat (fixBits - 24))

/-- The quarter-wave entry `S[j] = rne(16,384 × sin(π × j / 32,768))` (R73). -/
def quarterWave (j : Nat) : Int :=
  let x : Nat := fixPi * j / 32768
  let x2 : Nat := (x * x) >>> fixBits
  let v : Int := fixSeries x2 2 16 2 (x : Int) (x : Int)
  (rneShift v.toNat (fixBits - 14) : Nat)

/-- Sine and cosine of a phase index (R73). -/
def sinCos (n : Nat) : Int × Int :=
  let j := n % 16384
  let a := quarterWave j
  let b := quarterWave (16384 - j)
  match n / 16384 with
  | 0 => (a, b)
  | 1 => (b, -a)
  | 2 => (-a, -b)
  | _ => (-b, a)

/-- `exp2ref` of R124; outside its domain a free value (log 21). -/
def exp2ref (x : F32) : F32 :=
  if F32.isNan x || (decide (0 < F32.key x)) then Config.exp2Open x
  else if F32.isInf x then 0#32
  else if decide (F32.key x < -((fld 0xC2FC0000#32 0 31 : Nat) : Int)) then 0#32
  else
    let a := ((F32.val x).rne 20).natAbs
    let i : Nat := a / 2 ^ 20
    let f : Nat := a % 2 ^ 20
    let p := expTable (f / 1024) 1024 * expTable (f % 1024) (2 ^ 20)
    let b := bitLen p
    let m0 := rneShift p (b - 24)
    let up := decide (m0 = 2 ^ 24)
    let m := if up then 2 ^ 23 else m0
    let e : Int := (if up then (b : Int) + 1 else b) - 72 - i
    F32.round false ⟨m, e⟩

end Sys2Proof.Machine
end

