-- ==== Sys2Proof/Machine/State.lean ====
section
/-! DEFINITION. The state of the node: plain data that holds every piece of state the manual names, and the state right
after a cold reset. -/

namespace Sys2Proof.Machine

/-- No command of the node stops its machine: a failure of the hardware is state (R321), a failed command a status
(R177). Nothing raises this constructor; it is safe. -/
inductive Fault where
  | never
deriving DecidableEq, Repr

/-- Why a command has no meaning. `notModelled` is raised by the arm of a command whose meaning is not written; it is
safe: nothing can be proved of such a command. -/
inductive Refusal where
  | notModelled (mnemonic : String)
deriving DecidableEq, Repr

/-- State of a Page Map entry (R42, R43). -/
inductive PageSt where
  | device | hostView | swapped | remote
deriving DecidableEq, Repr

/-- A Page Map entry that is not FREE (R42). `busy` holds the move command that holds the page; `unitHeld` is its
LOCATION. -/
structure PageEntry where
  st : PageSt := .device
  busy : Option Nat := none
  dom : Nat := 0
  group : Nat := 0
  refs : Nat := 0
  loc : Nat := 0
  writer : Nat := 0
  writerGen : Nat := 0
  layer : Nat := 0
  head : Nat := 0
  ordinal : Nat := 0
  kind : Nat := 0
  frame : Nat := 0
deriving DecidableEq, Repr, Inhabited

/-- The contents of a page slot: the side-record fields that are not computed from others (R32), the glumes (R31) and the
payload bytes of the valid tokens (R30). ABFT sums, sift summaries and CRCs are computed views. -/
structure PageData where
  kind : Nat := 0
  format : Nat := 0
  log2T : Nat := 0
  dom : Nat := 0
  group : Nat := 0
  layer : Nat := 0
  head : Nat := 0
  tokens : Nat := 0
  ordinal : Nat := 0
  posBase : Nat := 0
  writer : BitVec 64 := 0
  tier : Nat := 0
  dirty : Bool := false
  comp : Nat := 0
  tableId : Nat := 0
  tableGen : Nat := 0
  cold : Nat := 0
  glumes : List Byte := []
  payload : List Byte := []
deriving DecidableEq, Repr, Inhabited

/-- What a slot that is not scrubbed FREE is used for: a page, a reservation of a command or of a landing region, a place
in the scrub queue with the commands whose readers must finish first (R45, R54), or withdrawn. -/
inductive SlotUse where
  | page (p : Nat)
  | reserved (cmd : Nat)
  | landing (key : Nat)
  | scrub (readers : List Nat)
  | withdrawn
deriving DecidableEq, Repr

/-- State of a Sequence Table entry (R40). -/
inductive SeqSt where
  | free | open_ | stalled | moving | closing | shadowed | incoming | retired
deriving DecidableEq, Repr

/-- A Sequence Table entry with its page lists (R40, R41) and its precleaning bits (R229). `handles` is keyed by plane and
ordinal; `rows` gives the first granule of each held row record; `released` is the number of released rows. -/
structure SeqEntry where
  gen : Nat := 0
  dom : Nat := 0
  st : SeqSt := .free
  reclaimable : Bool := false
  prio : Nat := 0
  group : Nat := 0
  slice : Nat := 0
  posBase : Nat := 0
  lens : List Nat := []
  handles : List (Nat × Nat) := []
  rows : List (Nat × Nat) := []
  released : Nat := 0
  lenPtr : Nat := 0
  indexPtrs : List Nat := []
  parent : Nat := 0
  forked : Bool := false
  preclean : Bool := false
  precleanCoded : Bool := false
deriving DecidableEq, Repr, Inhabited

/-- A redirect record (R18, R21). -/
structure Redirect where
  seq : BitVec 64
  node : Nat
  epoch : Nat
deriving DecidableEq, Repr

/-- State of a submission queue that exists (R197). -/
inductive SqSt where
  | active | error | deleting
deriving DecidableEq, Repr

/-- A submission queue (R162, R197) with its fetched descriptors (each with the SQ head after its fetch), the key and the
place of its node-side region (R165) and its samples (R319). -/
structure Sq where
  cfg : BitVec 256 := 0
  st : SqSt := .active
  head : Nat := 0
  tail : Nat := 0
  fetched : List (Desc × Nat) := []
  rkey : Nat := 0
  region : Nat := 0
  depthNow : Nat := 0
  depthMax : Nat := 0
  delayNow : Nat := 0
  delayMax : Nat := 0
  delayAvg : Nat := 0
  alarmed : Bool := false
deriving DecidableEq, Repr, Inhabited

/-- A completion queue (R163, R175, R176, R197): `reserved` slots belong to admitted commands; `msi` is the armed
interrupt; `held` completions wait for DMA. -/
structure Cq where
  cfg : BitVec 256 := 0
  head : Nat := 0
  tail : Nat := 0
  phase : Bool := true
  reserved : Nat := 0
  msi : Bool := true
  held : List (BitVec 256) := []
deriving DecidableEq, Repr, Inhabited

/-- Work of a command on one page (R221, R222, R224): its Page Map index, the slot and the run of host-tier units it
reserved, the table generation it codes with, the page read or to be written, whether its transfer holds one of the tier
engine's page buffers (R227), and whether it has ended. -/
structure PageJob where
  page : Nat := 0
  slot : Option Nat := none
  unitAt : Nat := 0
  units : Nat := 0
  used : Nat := 0
  table : Option (Nat × Nat) := none
  data : Option PageData := none
  clean : Bool := false
  landing : Nat := 0
  buf : Bool := false
  left : Option Nat := none
  done : Bool := false
deriving DecidableEq, Repr, Inhabited

/-- A page of one plane that an append will write: the reserved Page Map index and slot of a fresh page or of a copy, and the
page copied (R48, R50). -/
structure PageWrite where
  plane : Nat := 0
  ordinal : Nat := 0
  page : Nat := 0
  slot : Nat := 0
  copied : Option Nat := none
deriving DecidableEq, Repr, Inhabited

/-- How far an admitted command has come: waiting for its PEER input; waiting for the earlier
appends of its queue (R10, R47); its work planned; a FAILED outcome it will complete with at its commit. -/
inductive Stage where
  | input
  | waiting
  | planned
  | failed (status cause r0 r1 : Nat)
deriving DecidableEq, Repr

/-- A Prefix Index entry that is not a hole (R199): state 1 LIVE, 2 PENDING, 3 QUARANTINED; the command that holds a
PENDING entry; for an entry that a commit has removed, the earlier FINDs that may still read it (R211). -/
structure IdxEntry where
  key : BitVec 128 := 0
  scopeId : Nat := 0
  scopeKind : Nat := 0
  prio : Nat := 0
  st : Nat := 1
  src : BitVec 64 := 0
  block : Nat := 0
  anchor : Nat := 0
  hits : Nat := 0
  adder : Nat := 0
  digest : List Byte := []
  cmd : Nat := 0
  gone : Option (List Nat) := none
deriving DecidableEq, Repr, Inhabited

/-- An admitted command in the command table (R172): its descriptor, what admission fixed (R395, R45), its reservations
and its result under way. -/
structure Cmd where
  /-- number given at admission -/
  id : Nat := 0
  sq : Nat := 0
  cq : Nat := 0
  dom : Nat := 0
  /-- class of the queue: 0 DOMAIN, 1 HOST_ADMIN, 2 FABRIC_MGR -/
  cls : Nat := 0
  prio : Nat := 0
  desc : Desc := 0
  /-- SQ head after the fetch -/
  sqHead : Nat := 0
  stage : Stage := .planned
  /-- bytes of BUF_IN -/
  input : List Byte := []
  /-- the sequence index the command names or will issue -/
  seq : Option Nat := none
  jobs : List PageJob := []
  writes : List PageWrite := []
  /-- granule runs reserved for row records and plane-length blocks: row (or none) and first granule -/
  grains : List (Option Nat × Nat) := []
  /-- Prefix Index slots held PENDING -/
  slots : List Nat := []
  /-- Page Map indices the command reads -/
  reads : List Nat := []
  /-- mask handles the command names -/
  masks : List Nat := []
  /-- the sequence and the pages read as of the read point, kept until the input has arrived (R45) -/
  snap : Option SeqEntry := none
  snapPages : List (Nat × PageData) := []
  /-- the slots of the pages read in HBM -/
  readSlots : List (Nat × Nat) := []
  /-- bytes to place in BUF_OUT -/
  output : List Byte := []
  /-- rows whose partials are placed already, as their row sets completed (R149) -/
  placed : List Nat := []
  count : Nat := 0
  r0 : Nat := 0
  r1 : Nat := 0
  /-- slots that the command reclaimed (R52) -/
  reclaimed : List Nat := []
  /-- what a PREFIX_FIND sees: slot, entry and validity as of its admission (R207, R211) -/
  index : List (Nat × IdxEntry × Bool) := []
  /-- the slots, as of its admission, of the entries whose HITS a PREFIX_FIND raises at its commit (R209) -/
  hits : List Nat := []
  /-- window reads of the frame that came before a PAGE_UNVIEW's admission and have not returned (R103) -/
  early : Nat := 0
  /-- the item with the command's SUMMARY, GROW and SEAL, or NARROW stripes has been issued (R79) -/
  issued : Bool := false
  /-- the flushing read of a swap-out has returned (R221) -/
  flushed : Bool := false
  /-- service tag of the exchange the command waits for -/
  tag : Nat := 0
  /-- COMMAND_WAIT_LIMIT in force at admission -/
  waitLimit : Nat := 0
  /-- TILE_SCORE_ROWS, ITEM_LEAVES_MAX and FANOUT_GRANULES in force at admission -/
  scoreRows : Nat := 64
  leavesMax : Nat := 4
  fanout : Nat := 4
  /-- the Sequence ID or mask handle a shadow adopts -/
  adopted : Option (BitVec 64) := none
deriving DecidableEq, Repr, Inhabited

/-- State of a work item (R146, R148): `ended` while other items of its row set have not ended (R149); `writing` where its
stripes run and it holds no tile. -/
inductive ItemSt where
  | waiting | placed | running | ended | writing
deriving DecidableEq, Repr

/-- Awn operations (R79). -/
inductive AwnOp where
  | score | summary | scrub | narrow | grow | seal | sweep
deriving DecidableEq, Repr

/-- The inputs of a stripe (R79, R81, R90): its operation, the conversation page index of its leaf, the page's slot, the block
index, the valid tokens (blocks of a SUMMARY), the first row and the number of rows within the item's row set, and the position
of the block's first token. -/
structure StripeIn where
  op : AwnOp := .score
  leaf : Nat := 0
  slot : Nat := 0
  block : Nat := 0
  tokens : Nat := 0
  row0 : Nat := 0
  rows : Nat := 0
  pos : Nat := 0
deriving DecidableEq, Repr, Inhabited

/-- A work item of the scoreboard (R143 to R152, R188): its row set (`set0`, `setRows`), its rows and aligned leaf run, its
path, lane sets, granules, the stripes it needs on the awns, the stripe numbers not ended, the trailers accepted, its kills, the
tile it holds, the units that it failed on, the pages it reads (R156) and the time it started (R190). `org` is one more than the ring position whose span a
ring ATTEND's item covers, 0 for any other item (R287). An item whose `op` is not SCORE holds no tile: it
carries the SUMMARY stripes of a SIFTED request or the GROW and SEAL stripes of an append. -/
structure Item where
  op : AwnOp := .score
  tag : Nat := 0
  cmd : Nat := 0
  dom : Nat := 0
  slice : Nat := 0
  prio : Nat := 0
  head : Nat := 0
  set0 : Nat := 0
  setRows : Nat := 0
  row0 : Nat := 0
  rows : Nat := 0
  org : Nat := 0
  leaf0 : Nat := 0
  leaves : Nat := 0
  tilePath : Bool := false
  chained : Bool := false
  sets : Nat := 0
  granules : Nat := 0
  positions : Nat := 0
  slots : List StripeIn := []
  stripes : List Nat := []
  trailers : List (BitVec 128) := []
  pages : List Nat := []
  st : ItemSt := .waiting
  tile : Nat := 0
  kills : Nat := 0
  failures : Nat := 0
  failed : List Nat := []
  front : Bool := false
  startedAt : Nat := 0
  backfill : Bool := false
deriving DecidableEq, Repr, Inhabited

/-- The collection of a FANNED row set on its home tile, with its granules (R149, R150). -/
structure Collect where
  cmd : Nat := 0
  head : Nat := 0
  org : Nat := 0
  row0 : Nat := 0
  rows : Nat := 0
  tile : Nat := 0
  granules : Nat := 0
deriving DecidableEq, Repr, Inhabited

/-- The turn of a logical tile (R190, R191): its holder, the time at which it ends in strict partition mode (R309), and the charges
carried to each domain's next turn, in ns. -/
structure Turn where
  holder : Option Nat := none
  till : Nat := 0
  charges : List (Nat × Nat) := []
deriving DecidableEq, Repr, Inhabited

/-- Status of an awn (R109): state 0 ACTIVE, 1 SPARE_IDLE, 2 RETIRED, 3 IN_CHANNEL_SPARE. -/
structure AwnInfo where
  st : Nat := 0
  borrowed : Bool := false
  servesA : Nat := 0
  servesB : Nat := 63
  detections : Nat := 0
deriving DecidableEq, Repr, Inhabited

/-- A running stripe (R79, R81, R83): its tag and inputs, the bank pair it runs on, the awn that runs it, its domain and
whether it is a re-run (R86). -/
structure Stripe where
  tag : Nat := 0
  inp : StripeIn := {}
  stack : Nat := 0
  ch : Nat := 0
  bp : Nat := 0
  awn : Nat := 0
  dom : Nat := 0
  rerun : Bool := false
deriving DecidableEq, Repr, Inhabited

/-- An undo area in use (R90): its stack, the append, the slot of the key page it writes in place, and the contents the page
had, block and side record, from which a kill restores it. -/
structure Undo where
  stack : Nat := 0
  cmd : Nat := 0
  slot : Nat := 0
  data : PageData := {}
deriving DecidableEq, Repr, Inhabited

/-- Refresh of a bank pair (R93): due and waiting, running, refresh-management command waiting. -/
structure BpRefresh where
  due : Bool := false
  running : Bool := false
  management : Bool := false
  postponed : Nat := 0
deriving DecidableEq, Repr, Inhabited

/-- A physical tile (R160, R423): state 0 ACTIVE, 1 SPARE_IDLE, 2 RETIRED; clean free granules and granules being
zero-filled; lane sets free; detections; frequency and the lower frequency it waits to take, in MHz. -/
structure TileInfo where
  st : Nat := 0
  logical : Option Nat := none
  free : Nat := 64
  zeroing : Nat := 0
  sets : Nat := 4
  detections : Nat := 0
  mhz : Nat := 2000
  want : Option Nat := none
  testing : Bool := false
deriving DecidableEq, Repr, Inhabited

/-- A run of host-tier units held or reserved (R218). -/
structure UnitRun where
  first : Nat
  count : Nat
deriving DecidableEq, Repr

/-- A remote hold kept for another node (R224). -/
structure Hold where
  origin : Nat
  dom : Nat
  page : Nat
deriving DecidableEq, Repr

/-- A hold release sent and not acknowledged (R225). -/
structure Release where
  node : Nat
  page : Nat
  tag : Nat
deriving DecidableEq, Repr

/-- A code-table record (R233): state 1 CURRENT, 2 RETAINED. -/
structure CodeTable where
  id : Nat := 0
  gen : Nat := 0
  bits : Nat := 4
  st : Nat := 1
  seq : BitVec 64 := 0
  plane : Nat := 0
  counted : Nat := 0
  lengths : List Nat := []
deriving DecidableEq, Repr, Inhabited

/-- A live mask object (R121): header and body bytes, owning domain and generation. -/
structure MaskObj where
  dom : Nat := 0
  gen : Nat := 1
  hdr : BitVec 512 := 0
  body : List Byte := []
deriving DecidableEq, Repr, Inhabited

/-- A domain that is not ABSENT (R298): tearing down or active, its keys (empty: not loaded, R303) and the buckets of its
two shapers in 1/65,536 byte (R315). -/
structure Domain where
  tearing : Bool := false
  xtsKey : List Byte := []
  fabricKey : List Byte := []
  fabC : Nat := 0
  fabP : Nat := 0
  tierC : Nat := 0
  tierP : Nat := 0
deriving DecidableEq, Repr, Inhabited

/-- A sub-port's link and counters (R275). -/
structure Subport where
  up : Bool := false
  fecCorrected : Nat := 0
  fecUncorrected : Nat := 0
  rx : Nat := 0
  tx : Nat := 0
deriving DecidableEq, Repr, Inhabited

/-- State of a QP (R249). -/
inductive QpSt where
  | reset | listen | connecting | rts | draining | error
deriving DecidableEq, Repr

/-- A sequenced packet that a QP has queued or sent and that is not yet done (R252, R254): its opcode and flags, extension
headers and plaintext, whether it left, when and on which path, its retransmissions but those after an RNR (R255), whether an
RNR came for it and whether it waits for RETRY_AFTER (R269), one more than the number of the command it serves (R261), and one more
than the key of the region whose READ_REQ it answers (R266). -/
structure TxPkt where
  psn : Nat := 0
  msn : Nat := 0
  op : Nat := 0
  first : Bool := false
  last : Bool := false
  ext : List Byte := []
  payload : List Byte := []
  sent : Bool := false
  path : Nat := 0
  retries : Nat := 0
  resent : Bool := false
  rnr : Bool := false
  held : Bool := false
  done : Bool := false
  sentAt : Nat := 0
  own : Nat := 0
  src : Nat := 0
deriving DecidableEq, Repr, Inhabited

/-- What the receiver does when CPSN passes a message's last packet (R260): nothing more, a doorbell to an SQ, a read, or a
message for its engine. -/
inductive RxAct where
  | plain
  | imm (sq : Nat) (v : BitVec 32)
  | read (key off len : Nat)
  | resp
  | service (hdr : BitVec 256)
  | mgmt
deriving DecidableEq, Repr

/-- A refusal record (R245). -/
structure Refused where
  msn : Nat
  code : Nat
  no : Nat
deriving DecidableEq, Repr

/-- A read this node has sent (R263): its MSN, the command it serves, the page job or buffer it fills and the bytes
received. -/
structure ReadOut where
  msn : Nat := 0
  cmd : Nat := 0
  job : Option Nat := none
  len : Nat := 0
  data : List Host.Cell := []
  lastPsn : Option Nat := none
deriving DecidableEq, Repr, Inhabited

/-- QP_CONFIG of a QP that nothing has configured: PMTU 2, VER_MIN 1 and VER_MAX 1, all else 0 (R248). DESIGN CHOICE: R275 gives the
entry the default Zeros, R248 its fields these values; the fields' own column is taken (log 132). -/
def qpCfgReset : BitVec 512 := BitVec.ofNat 512 (2 * 2 ^ 48 + 2 ^ 80 + 2 ^ 88)

/-- A queue pair (R248 to R264, R277). `acts` holds, for each last packet received, its PSN, MSN and action; `parts` the PSN,
MSN and payload of messages under way; `bad` the refused messages whose last packet CPSN has not passed. `credit` is what the
rate has granted and packets have not used; `issued` counts new PSNs by the time they left (R253), `rxMsn` is the MSN after the last
message begun (R249), `ceEcho` the time of the last ACK that echoed a CE mark (R262). -/
structure Qp where
  cfg : BitVec 512 := qpCfgReset
  st : QpSt := .reset
  version : Nat := 0
  connId : Nat := 0
  peerBoot : BitVec 64 := 0
  attempts : Nat := 0
  guarded : Bool := false
  txPsn : Nat := 0
  txMsn : Nat := 0
  tx : List TxPkt := []
  cpsn : Nat := 0
  done : List Nat := []
  acts : List (Nat × Nat × RxAct) := []
  parts : List (Nat × Nat × List Byte) := []
  bad : List Nat := []
  refused : List Refused := []
  refuseSeq : Nat := 0
  unacked : Nat := 0
  ce : Nat := 0
  reads : List ReadOut := []
  pathNext : Nat := 0
  suspended : List Nat := []
  pathTimeouts : List (Nat × Nat) := []
  pmtu : Nat := 2
  rate : Rat := 0
  alpha : Rat := 0
  credit : Rat := 0
  issued : List (Nat × Nat) := []
  rxMsn : Nat := 0
  ceEcho : Option Nat := none
  steps : Nat := 0
  marked : Nat := 0
  acked : Nat := 0
  srtt : Nat := 0
  rttvar : Nat := 0
  sent : Bool := false
  discSent : Bool := false
  discRecv : Bool := false
  cause : Nat := 0
deriving DecidableEq, Repr, Inhabited

/-- Kinds of registered region (R265). -/
inductive RkeyKind where
  | queue | landing | holds
deriving DecidableEq, Repr

/-- A registration key that is not FREE or whose generation has moved (R265, R275): state 0 FREE, 1 LIVE, 2 REVOKING,
3 QUIET; its domain, length, packets in flight, and what it names: an SQ, a landing region or an origin node. -/
structure Rkey where
  st : Nat := 1
  kind : RkeyKind := .queue
  gen : Nat := 0
  dom : Nat := 0
  inflight : Nat := 0
  len : Nat := 0
  place : Nat := 0
  readable : Bool := false
  writable : Bool := true
deriving DecidableEq, Repr, Inhabited

/-- A packet held in the fault buffer (R268). -/
structure Stalled where
  qp : Nat
  psn : Nat
  dom : Nat
  key : Nat
  off : Nat
  payload : List Byte
deriving DecidableEq, Repr

/-- A LANDING region (R268): its key, domain and units, the sequence it is for (a move or a shadow copy) or none, the
service tag and QP of its exchange, the bytes received and the units bound to a Page Map index and slot. -/
structure Landing where
  key : Nat := 0
  dom : Nat := 0
  origin : Nat := 0
  qp : Nat := 0
  tag : Nat := 0
  units : Nat := 0
  seq : Option (BitVec 64) := none
  shadow : Bool := false
  bytes : List Host.Cell := []
  binds : List (Nat × Nat × Nat) := []
deriving DecidableEq, Repr, Inhabited

/-- A sequence move out of the node (R272): the sequence index, its command while that lasts, target and QP, the key of
the target's region and its units, whether MOVE_READY came, the bulk copy (handle key, unit and the page as it was sent), whether
MOVE_FINAL was sent, whether it is unresolved, and whether it is a copy for a shadow. -/
structure MoveSt where
  seq : Nat := 0
  cmd : Option Nat := none
  node : Nat := 0
  qp : Nat := 0
  key : Nat := 0
  gen : Nat := 0
  units : Nat := 0
  ready : Bool := false
  sent : List (Nat × Nat × PageData) := []
  final : Bool := false
  unresolved : Bool := false
  shadow : Bool := false
deriving DecidableEq, Repr, Inhabited

/-- Owner of a move's messages: one more than its command's number (R261). -/
def MoveSt.own (m : MoveSt) : Nat := match m.cmd with | some id => id + 1 | none => 0

/-- A stook held in a buffer (R284, R286). -/
structure StookBuf where
  bytes : List Byte := []
  origin : Nat := 0
  lap : Nat := 0
  forwarded : Bool := false
  used : Bool := false
deriving DecidableEq, Repr, Inhabited

/-- An event record (R339) without its PHASE and CRC, which are formed where it is written. -/
structure EventRec where
  seq : Nat := 0
  code : Nat := 0
  cls : Nat := 0
  dom : Option Nat := none
  injected : Bool := false
  island : Nat := 0
  ticks : BitVec 64 := 0
  temp : Int := 0
  load : BitVec 32 := 0
  unit : Nat := 0
  detail : List Byte := []
deriving DecidableEq, Repr, Inhabited

/-- A detection counted against a unit (R338): the source, the unit, the time in collector ticks of 100 microseconds. -/
structure Detect where
  source : Nat
  island : Nat
  unit : Nat
  time : Nat
deriving DecidableEq, Repr

/-- An armed fault injection (R345) with the operations left. -/
structure Inject where
  value : BitVec 128
  left : Nat
deriving DecidableEq, Repr

/-- Awn-stack BIST of one stack (R428): state 0 IN_SERVICE, 1 PREPARED, 2 RUNNING, 3 DONE. -/
structure AsbInfo where
  st : Nat := 0
  awns : Nat := 0
  channels : Nat := 0
  withdrawn : Nat := 0
  restored : Nat := 0
deriving DecidableEq, Repr, Inhabited

/-- A model profile (R60). -/
structure Prof where
  id : Nat := 0
  name : List Byte := []
  layers : Nat := 0
  queryHeads : Nat := 0
  kvHeads : Nat := 0
  keyDim : Nat := 0
  valueDim : Nat := 0
  keyFormat : Nat := 0
  valueFormat : Nat := 0
  sourceFormat : Nat := 0
  keyPosition : Nat := 0
  ropeFirst : Nat := 0
  ropeDims : Nat := 0
  ropePairing : Nat := 0
  ropeFreq : List Byte := []
  valueFromKey : Nat := 0
deriving DecidableEq, Repr, Inhabited

/-- One operation of a dictionary request (R398): 1 READ, 2 WRITE, 3 READ_SHADOW, 4 DESCRIBE; the LENGTH of a read, the value
of a write. -/
structure PdOp where
  op : Nat := 1
  idx : Nat := 0
  sub : Nat := 0
  len : Nat := 0
  value : List Byte := []
deriving DecidableEq, Repr, Inhabited

/-- A dictionary request as a channel carries it (R398, R402): the channel, its service tag, REQ_TAG, LAYOUT, DOMAIN and
operations; or the status and cause with which it fails as a whole (R400). -/
structure PdReq where
  ch : Chan
  svcTag : Nat := 0
  tag : Nat := 0
  layout : Nat := 1
  dom : Nat := 0
  ops : List PdOp := []
  bad : Option (Nat × Nat) := none
deriving DecidableEq, Repr

/-- A DRAIN write that waits (R396): its request, the entry, the value and the results of the operations before it. -/
structure DrainWrite where
  req : PdReq
  key : PdKey
  value : List Byte
  results : List (List Byte) := []
deriving DecidableEq, Repr

/-- A select entry of one channel instance (R393). -/
structure SelKey where
  ch : Chan
  key : PdKey
deriving DecidableEq, Repr

/-- Supply states of the module (R413, R415). -/
inductive Supply where
  | off | charging | good
deriving DecidableEq, Repr

/-- States of BOOT_STATUS (R371). -/
inductive BootSt where
  | awaitImage | loading | verifying | starting | running | halted
deriving DecidableEq, Repr

/-- What an SPDM response carries (R378, R379). -/
inductive SpdmRsp where
  | error (code : Nat)
  | version (vs : List Nat)
  | capabilities
  | algorithms
  | digests (d : List (List Byte))
  | certificate (b : List Byte)
  | challengeAuth (sig : List Byte)
  | keyExchange (session : Nat)
  | finish
  | heartbeat
  | keyUpdate
  | ended
  | measurements (blocks : List (Nat × Nat × List Byte)) (sig : Option (List Byte))
  | ideKm (ok : Bool)
deriving DecidableEq, Repr

/-- The Ethernet, IP and UDP fields of a frame that carries an XNT packet (R239, R240): MAC addresses, VLAN tag (PCP and
VLAN_ID), IP addresses, DSCP, ECN, TTL or hop limit, DF, flow label, UDP ports, and whether the UDP checksum is computed. -/
structure FrameHdr where
  srcMac : Nat := 0
  dstMac : Nat := 0
  vlan : Option (Nat × Nat) := none
  v6 : Bool := false
  src : Nat := 0
  dst : Nat := 0
  dscp : Nat := 0
  ecn : Nat := 0
  ttl : Nat := 64
  df : Bool := false
  flow : Nat := 0
  sport : Nat := 0
  dport : Nat := 0
  checksum : Bool := false
deriving DecidableEq, Repr

/-- Addresses of an answer to a neighbour (R239). -/
structure LinkHdr where
  srcMac : Nat := 0
  dstMac : Nat := 0
  vlan : Option (Nat × Nat) := none
  v6 : Bool := false
  src : Nat := 0
  dst : Nat := 0
deriving DecidableEq, Repr

/-- Everything the node sends out, in order: dictionary responses, mailbox results, interrupts, packets, reads and so on.
This list is the model's own record. -/
inductive Output where
  | pdResponse (ch : Chan) (svcTag : Nat) (body : List Byte)
  | mailbox (code : Nat) (payload : List Byte)
  | msix (vector : Nat)
  | packet (subport : Nat) (frame : FrameHdr) (base : BitVec 256) (ext payload tag : List Byte)
  | cxlData (line : List Byte)
  | cxlPoison
  | cxlWriteDone
  | snoopMiss
  | decoderError
  | spdm (t : SpdmTransport) (r : SpdmRsp)
  | doe (index vendor protocol next : Nat)
  | cdat (entry : List Byte)
  | mctp (eid : Nat) (code : Nat) (body : List Byte)
  | i3cInterrupt (mdb : Nat)
  | arp (subport : Nat) (link : LinkHdr) (target : BitVec 128) (mac : Nat)
  | echo (subport : Nat) (link : LinkHdr) (data : List Byte)
  | flushRead (addr : Nat)
  | recoded (dom : Nat) (seq : BitVec 64) (plane ordinal st cause : Nat)
  | bootStatus (i3c : Bool) (v : BitVec 64)
deriving DecidableEq, Repr

/-- The physical tile of each logical tile after a cold reset (R139). -/
def defaultGroupMap : List Nat := (List.range 72).filter fun t => ¬ [21, 22, 23, 46, 47, 69, 70, 71].contains t

/-- The 72 tiles after a cold reset (R139, R160). -/
def defaultTiles : List TileInfo :=
  (List.range 72).map fun t =>
    if defaultGroupMap.contains t then { logical := some (defaultGroupMap.idxOf t) }
    else { st := 1 }

/-- Supply, pins and the hot-swap controller (16_module_electrical.md). -/
structure Power where
  /-- rails off, charging, up, or turned off (R413) -/
  supply : Supply := .good
  /-- PWR_EN pin (R413) -/
  pwrEn : Bool := true
  /-- RST_N pin (true = released) (R417) -/
  rstN : Bool := true
  /-- PERST_N pin (true = released) (R417) -/
  perstN : Bool := true
  /-- last VIN seen at the connector (R411, R424) -/
  vinMv : Nat := 50000
  /-- over-current latch of the hot-swap controller (R415) -/
  latchedOff : Bool := false
  /-- input-low floor of the throttling step (R415) -/
  inputLow : Bool := false
  /-- readings in a row, 100 microseconds apart, with VIN at 40.5 V or more (R415) -/
  vinOk : Nat := 0
  /-- a brown-out is in progress: no token granted, no item started (R414) -/
  brownOut : Bool := false
  /-- warm reset entry done and the ROM waits for RST_N (R417, R383) -/
  resetEntry : Bool := false
  /-- THERM_N pin asserted (R423) -/
  thermN : Bool := false
deriving DecidableEq, Repr, Inhabited

/-- Boot ROM, image, identity (14_cxl_boot_attestation.md). -/
structure Boot where
  /-- BOOT_STATUS STATE (R371) -/
  st : BootSt := .awaitImage
  /-- LAST_ERROR (R371) -/
  lastError : Nat := 0
  /-- ATTEMPTS (R371) -/
  attempts : Nat := 0
  /-- image SRAM, canonical list of bytes; an unlisted byte reads 0 (R373) -/
  image : List Host.Cell := []
  /-- byte ranges written since the last reset or FW_ABORT: start and end, apart and rising (R371, R374) -/
  loaded : List (Nat × Nat) := []
  /-- certificate bundle supplied (R377) -/
  certs : List Byte := []
  /-- CERT_STATE (R371) -/
  certState : Nat := 0
  /-- IMAGE_LENGTH of the FW_START being verified (R373) -/
  startLen : Nat := 0
  /-- image measurement of the started firmware (R372) -/
  fwMeas : List Byte := []
  /-- FW_VERSION of the started image (R372) -/
  fwVersion : Nat := 0
  /-- SVN of the started image (R372) -/
  fwSvn : Nat := 0
  /-- FW_ABI of the started image (R408) -/
  fwAbi : Nat := 0
  /-- BIST signature table of the started image (R425) -/
  bistTable : List Byte := []
  /-- fused minimum SVN (R375) -/
  minSvn : Nat := Config.fusedMinSvn
  /-- RESET_CAUSE CAUSE (R386) -/
  resetCause : Nat := 0
  /-- RESET_CAUSE SOURCE (R386) -/
  resetSource : Nat := 0
  /-- RESET_CAUSE HBM_KEPT (R386) -/
  hbmKept : Bool := false
  /-- the next firmware start clears the tables (TABLE_UE) (R328) -/
  clearTables : Bool := false
  /-- a chip reset was started and is pending (R327) -/
  chipReset : Bool := false
  /-- the source whose event started it (R386) -/
  chipSource : Nat := 0
  /-- the ROM was restarted by a warm reset: the next firmware start is a warm one (R383) -/
  warm : Bool := false
  /-- BOOT_ID of the running firmware (R246) -/
  bootId : BitVec 64 := 0
  /-- PRIOR_BOOT_ID (R384) -/
  priorBootId : BitVec 64 := 0
  /-- compound device identifier derived by the ROM (R376) -/
  cdi : List Byte := []
  /-- UDS and DeviceID key locked (R376) -/
  udsLocked : Bool := false
  /-- a management firmware restart is running (R349) -/
  mgmtRestarting : Bool := false
  /-- MGMT_CORES_WORKING (R356) -/
  coresWorking : Nat := 4
  /-- spare management cores not yet mapped (R348) -/
  coreSpares : Nat := 1
  /-- collector times of the restarts within the last 60 s (R350) -/
  restartTimes : List Nat := []
  /-- SPDM sessions over DOE (R378) -/
  sessionsDoe : List Nat := []
  /-- SPDM sessions over MCTP (R378) -/
  sessionsMctp : List Nat := []
  /-- MCTP endpoint identifier assigned by the bus owner (R369) -/
  mctpEid : Nat := 0
  /-- STARTUP_BIST failure map, island positions (R430) -/
  startupFail : List Nat := []
  /-- STARTUP_BIST rows repaired (R430) -/
  startupRows : Nat := 0
deriving DecidableEq, Repr, Inhabited

/-- The CXL link (14_cxl_boot_attestation.md). -/
structure Link where
  /-- LINK_STATUS WIDTH (R387) -/
  width : Nat := 0
  /-- LINK_STATUS SPEED (R387) -/
  speed : Nat := 0
  /-- LINK_STATUS IDE_IO (R387) -/
  ideIo : Nat := 0
  /-- LINK_STATUS IDE_CM (R387) -/
  ideCm : Nat := 0
  /-- the CXL.io stream must be keyed again: 1 since an integrity failure, 2 a key was programmed since (R365) -/
  rekeyIo : Nat := 0
  /-- the same of the CXL.cachemem stream (R365) -/
  rekeyCm : Nat := 0
  /-- LINK_STATUS VIRAL (R387) -/
  viral : Bool := false
  /-- committed HDM decoder base; none = uncommitted (R362) -/
  decoder : Option Nat := none
  /-- error status of the last decoder commit (R362) -/
  decoderErr : Bool := false
deriving DecidableEq, Repr, Inhabited

/-- The Parameter Dictionary's stored values (15_parameter_dictionary.md and every chapter's entry table). -/
structure Dict where
  /-- active copies that differ from the default of the entry's row (R394) -/
  active : List (PdKey × List Byte) := []
  /-- shadow copies of CMD and BOOT entries not yet active (R394) -/
  shadow : List (PdKey × List Byte) := []
  /-- values of the select entries (R393) -/
  selects : List (SelKey × Nat) := []
  /-- every counter entry of the dictionary by index and subindex (R435) -/
  counters : List (PdKey × Nat) := []
  /-- DRAIN writes waiting, oldest first (R396) -/
  drains : List DrainWrite := []
  /-- requests beyond their channel's in-flight limit, oldest first (R402) -/
  waiting : List PdReq := []
deriving DecidableEq, Repr, Inhabited

/-- Model profile (03_kv_encoding.md) as validated values. -/
structure Profile where
  /-- PROFILE_STATE 0 EMPTY, 1 ACTIVE, 2 RETAINED (R60) -/
  state : Nat := 0
  /-- PROFILE_ERROR (R60) -/
  error : Nat := 0
  /-- active profile (R60) -/
  act : Prof := {}
  /-- staged profile (R60) -/
  staged : Prof := {}
  /-- PROFILE_DIGEST (R64) -/
  digest : List Byte := List.replicate 32 0
deriving DecidableEq, Repr, Inhabited

/-- Page Map and slots (02_pages_and_sequences.md). -/
structure Pages where
  /-- Page Map entries that are not FREE, by index (R42) -/
  map : List (Nat × PageEntry) := []
  /-- contents of the slots that are not all zero, by slot number (R26, R32) -/
  slots : List (Nat × PageData) := []
  /-- what each slot that is not scrubbed FREE is doing (R51, R54) -/
  use : List (Nat × SlotUse) := []
  /-- Page Map indices reserved by commands and landing regions (R42, R50) -/
  reservedIdx : List Nat := []
  /-- lost-slot log (R97) -/
  lost : List Nat := []
  /-- slots queued for CRC verification, with the unit detected against (R337) -/
  suspects : List (Nat × Nat) := []
  /-- PAGE_LOW event armed (R58) -/
  lowArmed : Bool := true
  /-- count of free choices among free indices and granules (R42, R41) -/
  picks : Nat := 0
deriving DecidableEq, Repr, Inhabited

/-- Sequence Table and sequence pool (02_pages_and_sequences.md). -/
structure Seqs where
  /-- Sequence Table entries that differ from a FREE entry of generation 0 (R40) -/
  table : List (Nat × SeqEntry) := []
  /-- indices that became FREE again, longest free first (R38) -/
  freed : List Nat := []
  /-- index reserved by a command of a domain (index, command, domain) (R38) -/
  reserved : List (Nat × Nat × Nat) := []
  /-- allocated granule runs (first granule, count, domain charged); granule 0 never (R28, R41) -/
  pool : List (Nat × Nat × Nat) := []
  /-- redirect records (R21) -/
  redirects : List Redirect := []
  /-- commands holding a reserved redirect record (R21) -/
  moveReserved : List Nat := []
  /-- pages in colder tiers of a sequence that moved out, each with the ATTENDs that still read it: their references are dropped
  when those have ended (R22) -/
  lingering : List (Nat × List Nat) := []
  /-- MAP_EPOCH_CURRENT (R25) -/
  epochC : BitVec 32 := 0
  /-- MAP_EPOCH_OLDEST_LIVE (R25) -/
  epochO : BitVec 32 := 0
deriving DecidableEq, Repr, Inhabited

/-- Submission and completion queues (07_commands_and_scheduling.md). -/
structure Queues where
  /-- SQs that exist (R161) -/
  sqs : List (Nat × Sq) := []
  /-- CQs that exist (R161) -/
  cqs : List (Nat × Cq) := []
  /-- SQ_CONFIG staged while the queue did not exist (R164) -/
  stagedSq : List (Nat × BitVec 256) := []
  /-- CQ_CONFIG staged while the queue did not exist (R164) -/
  stagedCq : List (Nat × BitVec 256) := []
deriving DecidableEq, Repr, Inhabited

/-- Command table and scoreboard (07_commands_and_scheduling.md). -/
structure Sched where
  /-- admitted commands, in admission order (R172) -/
  cmds : List Cmd := []
  /-- number given to the next admitted command (R172) -/
  nextId : Nat := 0
  /-- scoreboard (R188) -/
  items : List Item := []
  /-- collections of FANNED row sets (R149) -/
  collects : List Collect := []
  /-- tags of killed items whose stripes have not all ended (R147) -/
  deadTags : List Nat := []
  /-- turn holder and charges of each logical tile (R190) -/
  turns : List (Nat × Turn) := []
  /-- items that wait under R193: the item's tag and command, the tile chosen and the item's priority -/
  barred : List (Nat × Nat × Nat × Nat) := []
deriving DecidableEq, Repr, Inhabited

/-- Awn stacks (04_awn_units.md). -/
structure Awns where
  /-- channel map entries (stack, logical, physical) that differ from identity (R108) -/
  chanMap : List (Nat × Nat × Nat) := []
  /-- channel copies in progress (stack, logical, spare) (R106) -/
  chanCopies : List (Nat × Nat × Nat) := []
  /-- physical channels retired (R106) -/
  chanDead : List (Nat × Nat) := []
  /-- awns whose status differs from its reset, by AWN_SELECT (R109) -/
  awns : List (Nat × AwnInfo) := []
  /-- stripes running (R79) -/
  stripes : List Stripe := []
  /-- bank pairs with a refresh due, waiting or running (R93) -/
  refresh : List (Nat × BpRefresh) := []
  /-- trailers of the score streams that a base die holds, by stack (R311) -/
  held : List (Nat × BitVec 128) := []
  /-- stripes that failed once and are to run again: tag and the awn that failed (R86) -/
  reruns : List (Nat × Nat) := []
  /-- undo areas in use (R90) -/
  undo : List Undo := []
deriving DecidableEq, Repr, Inhabited

/-- Thresher tiles (06_threshers.md). -/
structure Tiles where
  /-- physical tile of each logical tile, 255 none (R159) -/
  groupMap : List Nat := defaultGroupMap
  /-- per physical tile: state, free granules, detections, frequency (R160) -/
  status : List TileInfo := defaultTiles
deriving DecidableEq, Repr, Inhabited

/-- The Prefix Index (08_prefix_index.md). -/
structure Index where
  /-- slots that are not holes (R199) -/
  entries : List (Nat × IdxEntry) := []
  /-- member bitmap of each sharing group (R203) -/
  groups : List (Nat × List Byte) := []
  /-- INDEX_LOW event armed (R213) -/
  lowArmed : Bool := true
deriving DecidableEq, Repr, Inhabited

/-- Host tier, remote tier, code tables (09_tiers_and_compression.md). -/
structure Tier where
  /-- per domain: held and reserved unit runs (R218) -/
  units : List (Nat × List UnitRun) := []
  /-- per domain: first-fit cursor (R218) -/
  cursor : List (Nat × Nat) := []
  /-- remote holds kept for other nodes (R224) -/
  holds : List Hold := []
  /-- hold releases sent and not acknowledged (R225) -/
  releases : List Release := []
  /-- code-table records that are not FREE (R233) -/
  tables : List CodeTable := []
  /-- last generation issued of each TABLE_ID (R234) -/
  tableGens : List (Nat × Nat) := []
  /-- HOLDS key of each holder node and domain (node × 4096 + domain): index, generation × 65536 (R271) -/
  remoteKeys : List (Nat × Nat) := []
  /-- unit runs of killed commands whose flushing read has not returned: command, domain, first unit (R218) -/
  limbo : List (Nat × Nat × Nat) := []
  /-- stored coded images: domain, first unit, TABLE_ID and generation; REFS counts them (R233, R234) -/
  coded : List (Nat × Nat × Nat × Nat) := []
deriving DecidableEq, Repr, Inhabited

/-- Mask objects (05_attention_results.md). -/
structure Masks where
  /-- live mask objects by index (R121) -/
  objs : List (Nat × MaskObj) := []
  /-- generation next issued of each index, when not 1 (R121) -/
  gens : List (Nat × Nat) := []
deriving DecidableEq, Repr, Inhabited

/-- Inspection window (04_awn_units.md). -/
structure Window where
  /-- frame to Page Map index (R98, R99) -/
  frames : List (Nat × Nat) := []
  /-- window reads that wait for a bank pair: window offset, and whether the array read meets an uncorrected error (R94, R103) -/
  reads : List (Nat × Bool) := []
deriving DecidableEq, Repr, Inhabited

/-- Isolation domains (12_isolation_and_shaping.md); their dictionary entries lie in Dict. -/
structure Domains where
  /-- domains that are not ABSENT (R298) -/
  doms : List (Nat × Domain) := []
  /-- fabric management key, empty = not loaded (R303) -/
  mgmtKey : List Byte := []
  /-- PARTITION_ERROR (R305) -/
  partError : Nat := 0
deriving DecidableEq, Repr, Inhabited

/-- Ethernet ports and Xanil Transport (10_fabric_transport.md). -/
structure Xnt where
  /-- link state and counters of each sub-port (R237, R275) -/
  subports : List (Nat × Subport) := []
  /-- QPs that differ from an unconfigured QP in RESET (R248, R277) -/
  qps : List (Nat × Qp) := []
  /-- registration keys that are not FREE (R265) -/
  rkeys : List (Nat × Rkey) := []
  /-- generation of each index, when not 0 (R265) -/
  rkeyGens : List (Nat × Nat) := []
  /-- packets held in the fault buffer (R268) -/
  fault : List Stalled := []
  /-- LANDING regions open (R268) -/
  landings : List Landing := []
  /-- NONCE_CTR per domain subkey (4096 = management) (R246) -/
  nonces : List (Nat × Nat) := []
  /-- moves in or out of the node, unresolved or in progress (R272) -/
  moves : List MoveSt := []
  /-- time of the edge island in ns (R254, R274) -/
  clock : Nat := 0
  /-- echo requests answered in the current second per sub-port (R239) -/
  echoes : List (Nat × Nat) := []
deriving DecidableEq, Repr, Inhabited

/-- The rachis ring (11_rachis_ring.md). -/
structure Ring where
  /-- RING_STATUS STATE (R295) -/
  st : Nat := 0
  /-- POSITION (R295) -/
  position : Nat := 0
  /-- MEMBERS (R295) -/
  members : Nat := 0
  /-- RING_ID (R295) -/
  ringId : Nat := 0
  /-- LAP, highest lap sealed (R295) -/
  lap : Nat := 0
  /-- last lap committed or aborted at this member (R291) -/
  doneLap : Nat := 0
  /-- LAST_ABORT_CAUSE (R295) -/
  abortCause : Nat := 0
  /-- LAST_ABORT_POSITION (R295) -/
  abortPos : Nat := 0
  /-- RING_SEQ_ID (R295) -/
  seqId : BitVec 64 := 0
  /-- LAYER of the open lap (R295) -/
  layer : Nat := 0
  /-- ring SQ (R278) -/
  sq : Nat := 0
  /-- domain of the ring (R279) -/
  domain : Nat := 0
  /-- PREV_QP (R186) -/
  prevQp : Nat := 0
  /-- NEXT_QP (R186) -/
  nextQp : Nat := 0
  /-- credits held from the next member (R286) -/
  credits : Nat := 0
  /-- stook buffers in use, in order of arrival (R279, R286) -/
  buffers : List StookBuf := []
  /-- own stook of the sealed lap sent (R286) -/
  ownSent : Bool := false
  /-- own stook of the sealed lap as of the seal (R283) -/
  own : List Byte := []
  /-- ring ATTENDs of the unsealed or sealed lap (R281) -/
  lapCmds : List Nat := []
  /-- a lap is sealed and not yet committed or aborted (R281) -/
  sealed : Bool := false
  /-- the sealing FENCE (R281) -/
  fence : Option Nat := none
  /-- LAP_MARK received and not yet forwarded (R289) -/
  markHeld : Option Nat := none
  /-- RING_HELLOs held, by QP (R279) -/
  hellos : List (Nat × List Byte) := []
  /-- RING_STOP in progress (R292) -/
  stopping : Option (Nat × Bool) := none
  /-- STOOK_BUFFERS of the joined ring (R294) -/
  bufCount : Nat := 0
  /-- STOOK_BUFFER_BYTES of the joined ring (R294) -/
  bufBytes : Nat := 0
  /-- laps and detecting positions of the LAP_ABORTs forwarded (R290) -/
  abortSeen : List (Nat × Nat) := []
  /-- origins whose items of the sealed lap have been formed (R286, R287) -/
  formed : List Nat := []
  /-- ring ATTENDs that a stop left unsealed (R292) -/
  unsealed : List Nat := []
deriving DecidableEq, Repr, Inhabited

/-- Shadow join (13_integrity_and_faults.md). -/
structure Shadow where
  /-- SHADOW_STATUS STATE (R357) -/
  st : Nat := 0
  /-- ROLE (R357) -/
  isShadow : Bool := false
  /-- START_CHECK (R357) -/
  startCheck : Nat := 0
  /-- FAIL_CAUSE (R357) -/
  failCause : Nat := 0
  /-- SHADOW_MATCHED (R357) -/
  matched : Nat := 0
  /-- SHADOW_DROPPED (R357) -/
  dropped : Nat := 0
  /-- shadowed sequences (R352) -/
  seqs : List (BitVec 64) := []
  /-- FAIL_SEQ (R357) -/
  failSeq : Nat := 0
  /-- mirrored commands not yet executed (R354) -/
  lag : Nat := 0
  /-- digests the primary sent, by the command of the shadow that must match them (R354) -/
  sentDigests : List (Nat × List Byte) := []
  /-- sequence indices the primary has still to copy (R352) -/
  copying : List Nat := []
  /-- the peer's SHADOW_HELLO, empty where none has come (R351) -/
  hello : List Byte := []
  /-- this node was started first: it will be the shadow (R351) -/
  started : Bool := false
deriving DecidableEq, Repr, Inhabited

/-- Fault collector, events, log (13_integrity_and_faults.md). -/
structure Faults where
  /-- last SEQ given (R339) -/
  seq : Nat := 0
  /-- node log, oldest first (R346) -/
  log : List EventRec := []
  /-- log of the previous boot (R384) -/
  priorLog : List EventRec := []
  /-- records written to the host event ring, index of the next (R347) -/
  ringTail : Nat := 0
  /-- PHASE of the next record (R347) -/
  ringPhase : Bool := true
  /-- EVENT_RING_HEAD (R347) -/
  ringHead : Nat := 0
  /-- records written and not consumed (R347) -/
  ringCount : Nat := 0
  /-- MSI-X armed (R347) -/
  ringMsi : Bool := true
  /-- first and last SEQ missed on a full ring (R347) -/
  missed : Option (Nat × Nat) := none
  /-- records gathered for the next event frame (R403) -/
  gather : List EventRec := []
  /-- (source, unit) that already logged a first event (R324) -/
  ceUnits : List (Nat × Nat) := []
  /-- records logged in the current second per corrected source (R324) -/
  ceLogged : List (Nat × Nat) := []
  /-- detections counted against units with their collector time (R338) -/
  detects : List Detect := []
  /-- detection histograms by HIST_SELECT value (R344) -/
  hist : List (Nat × List Nat) := []
  /-- ERRN_STATE 0 released, 1 pulse, 2 latched (R356) -/
  errn : Nat := 0
  /-- armed fault injections (R345) -/
  inject : List Inject := []
  /-- shared checkers that are late (R334) -/
  late : List Nat := []
  /-- islands whose clock failed (R420) -/
  deadIslands : List Nat := []
  /-- collector time, advanced by CLOCK_CHECK (R338, R342) -/
  time : Nat := 0
  /-- count of free values drawn (ticks, load, BOOT_ID) (R339) -/
  freshCtr : Nat := 0
deriving DecidableEq, Repr, Inhabited

/-- Sensors and throttling (16_module_electrical.md). -/
structure Therm where
  /-- last reading of each island or sensor (R421) -/
  readings : List (Nat × Int) := []
  /-- maximum since the firmware started (R430) -/
  maxima : List (Nat × Int) := []
  /-- consecutive critical readings (R421) -/
  critCount : List (Nat × Nat) := []
  /-- THERMAL_CRIT pending (R423) -/
  crit : Bool := false
  /-- THROTTLE_STEP (R422) -/
  step : Nat := 0
  /-- THROTTLE_CAUSE (R430) -/
  cause : Nat := 0
  /-- power target (R422) -/
  powerTarget : Nat := 0
  /-- readings through which the wanted step stayed below the step (R422) -/
  below : Nat := 0
  /-- input power readings of the current 1 ms (R422) -/
  acc1 : List Nat := []
  /-- input power readings of the current 10 ms (R422) -/
  acc10 : List Nat := []
  /-- last 1 ms average (R430) -/
  powerAvg : Nat := 0
  /-- peak since the firmware started (R430) -/
  powerPeak : Nat := 0
  /-- last input current (R430) -/
  iinMa : Nat := 0
  /-- RAIL_n as last polled (R430) -/
  rails : List (Nat × BitVec 128) := []
deriving DecidableEq, Repr, Inhabited

/-- Built-in self-test (16_module_electrical.md). -/
structure Test where
  /-- LBIST_RESULT STATE (R427) -/
  lbState : Nat := 0
  /-- LBIST_RESULT TILE (R427) -/
  lbTile : Nat := 0
  /-- tests asked for: bit 0 logic, bit 1 memory (R427) -/
  lbModes : Nat := 0
  /-- LOGIC_FAIL, MEMORY_FAIL (R427) -/
  lbFails : Nat := 0
  /-- SIGNATURE (R427) -/
  lbSig : Nat := 0
  /-- EXPECTED (R427) -/
  lbExp : Nat := 0
  /-- ROWS_REPAIRED (R427) -/
  lbRows : Nat := 0
  /-- ASB_STATUS_n that differ from zeros (R428) -/
  asb : List (Nat × AsbInfo) := []
  /-- SRAM_ROWS_REPAIRED (R430) -/
  rowsRepaired : Nat := 0
  /-- SRAM_SPARE_ROWS_FREE (R430) -/
  sparesFree : Nat := Config.sramSpareRows
deriving DecidableEq, Repr, Inhabited

/-- The whole node: plain data. -/
structure State where
  /-- commands waiting, first in first out -/
  pending : List Instr := []
  /-- supply and pins | (R413) -/
  power : Power := {}
  /-- boot and identity | (R370) -/
  boot : Boot := {}
  /-- CXL link | (R358) -/
  link : Link := {}
  /-- dictionary values | (R388) -/
  dict : Dict := {}
  /-- model profile | (R60) -/
  prof : Profile := {}
  /-- Page Map and slots | (R42) -/
  pages : Pages := {}
  /-- sequences | (R40) -/
  seqs : Seqs := {}
  /-- queues | (R161) -/
  queues : Queues := {}
  /-- command table and scoreboard | (R188) -/
  sched : Sched := {}
  /-- awn stacks | (R78) -/
  awns : Awns := {}
  /-- threshers and slices | (R139) -/
  tiles : Tiles := {}
  /-- Prefix Index and sharing groups | (R199) -/
  index : Index := {}
  /-- tiers | (R216) -/
  tier : Tier := {}
  /-- mask objects | (R121) -/
  masks : Masks := {}
  /-- inspection window | (R98) -/
  win : Window := {}
  /-- domains | (R298) -/
  dom : Domains := {}
  /-- transport | (R237) -/
  xnt : Xnt := {}
  /-- rachis ring | (R278) -/
  ring : Ring := {}
  /-- shadow join | (R351) -/
  shadow : Shadow := {}
  /-- faults and events | (R321) -/
  faults : Faults := {}
  /-- thermal | (R421) -/
  therm : Therm := {}
  /-- self-test | (R425) -/
  test : Test := {}
  /-- host memory that the node reads and writes by DMA, canonical; an unlisted byte reads 0 (R165) -/
  hostMem : List Host.Cell := []
  /-- firmware working memory: FABRIC SQ rings and staging areas, canonical; an unlisted byte reads 0 (R28, R165) -/
  nodeMem : List Host.Cell := []
  /-- everything the node has sent, oldest first: responses, interrupts, frames, poison (R176, R243) -/
  out : List Output := []
deriving DecidableEq, Repr, Inhabited

/-- The node right after a cold reset: power is good, the ROM waits for an image (R370, R371), every table is empty and every
dictionary entry at its default (R382). -/
def State.reset : State := {}

end Sys2Proof.Machine
end

