-- ==== Sys2Proof/Machine/Kv.lean ====
section
/-! DEFINITION. Plane geometry, encoding of keys and values, side records, scores and sift summaries
(03_kv_encoding.md, R29 to R32, R133, R134). -/

namespace Sys2Proof.Machine

/-! ## Formats and planes -/

/-- Element width of a plane format in bits; 0 for a code that the format table lacks (R66). -/
def fmtBits (f : Nat) : Nat :=
  if f = 0x02 ∨ f = 0x12 ∨ f = 0x15 then 4
  else if f = 0x01 ∨ f = 0x11 ∨ f = 0x13 ∨ f = 0x14 ∨ f = 0x16 ∨ f = 0x17 then 8
  else 0

/-- The code stands in the format table (R66). -/
def fmtKnown (f : Nat) : Bool := decide (0 < fmtBits f)

/-- The code is a key format (R66). -/
def fmtKey (f : Nat) : Bool := f == 0x01 || f == 0x02

/-- The code is a value format (R66). -/
def fmtValue (f : Nat) : Bool := fmtKnown f && !fmtKey f

/-- `f[fmt]` of R68: fraction bits of an integer element. -/
def fmtF (f : Nat) : Int := if fmtBits f = 4 then 2 else 6

/-- `m[fmt]` of R68: largest magnitude of an integer element. -/
def fmtM (f : Nat) : Int := if fmtBits f = 4 then 7 else 127

/-- `emax` of R66. -/
def fmtEmax (f : Nat) : Int := if f = 0x13 then 8 else if f = 0x14 then 15 else if f = 0x15 then 2 else 0

/-- The format carries glumes (R66). -/
def fmtGlumed (f : Nat) : Bool := f != 0x16 && f != 0x17

/-- Payload bytes of one token (R29). -/
def tokenBytes (dim fmt : Nat) : Nat := dim * fmtBits fmt / 8

/-- `LOG2_T`: T is the largest power of two with `T × B ≤ 32,768` (R29). -/
def log2T (dim fmt : Nat) : Nat := Nat.log2 (32768 / tokenBytes dim fmt)

/-- Dimension of a plane by kind. -/
def Prof.dim (p : Prof) (kind : Nat) : Nat := if kind = 0 then p.keyDim else p.valueDim

/-- Format of a plane by kind. -/
def Prof.fmt (p : Prof) (kind : Nat) : Nat := if kind = 0 then p.keyFormat else p.valueFormat

/-- Tokens per page of the planes of a kind (R29). -/
def Prof.tokens (p : Prof) (kind : Nat) : Nat := 2 ^ log2T (p.dim kind) (p.fmt kind)

/-- Planes are stored for the kind: value planes are not under VALUE_FROM_KEY (R75). -/
def Prof.stored (p : Prof) (kind : Nat) : Bool := kind == 0 || p.valueFromKey == 0

/-- Span alignment: the largest T of the stored planes (R7, R62). -/
def Prof.align (p : Prof) : Nat :=
  if p.stored 1 then Nat.max (p.tokens 0) (p.tokens 1) else p.tokens 0

/-- Number of planes (R35). -/
def Prof.planes (p : Prof) : Nat := 2 * p.layers * p.kvHeads

/-- Plane number (R35). -/
def Prof.plane (p : Prof) (layer head kind : Nat) : Nat := 2 * (layer * p.kvHeads + head) + kind

/-- Layer of a plane (R35). -/
def Prof.planeLayer (p : Prof) (pl : Nat) : Nat := pl / 2 / p.kvHeads

/-- KV head of a plane (R35). -/
def Prof.planeHead (p : Prof) (pl : Nat) : Nat := pl / 2 % p.kvHeads

/-- Handles per row record (R41, R61). -/
def Prof.rowHandles (p : Prof) : Nat :=
  p.layers * p.kvHeads * (p.align / p.tokens 0 + if p.stored 1 then p.align / p.tokens 1 else 0)

/-- GROUP_SIZE (R60). -/
def Prof.group (p : Prof) : Nat := p.queryHeads / p.kvHeads

/-- Block size of a plane with T tokens per page (R29). -/
def blockOf (t : Nat) : Nat := Nat.min 64 t

/-! ## Elements -/

/-- Two's complement of `n` bits. -/
def signExt (n v : Nat) : Int := if v < 2 ^ (n - 1) then (v : Int) else (v : Int) - (2 ^ n : Nat)

/-- Two's complement code of `n` bits. -/
def toCode (n : Nat) (v : Int) : Nat := (v % (2 ^ n : Nat)).toNat

/-- Element codes of bytes, low nibble first for 4-bit elements (R30). -/
def unpack (bits : Nat) (l : List Byte) : List Nat :=
  if bits = 4 then l.flatMap fun b => [b.toNat % 16, b.toNat / 16] else l.map BitVec.toNat

/-- Bytes of element codes (R30). -/
def packNibbles : List Nat → List Byte
  | a :: b :: r => BitVec.ofNat 8 (a + 16 * b) :: packNibbles r
  | [a] => [BitVec.ofNat 8 a]
  | [] => []

/-- Bytes of element codes (R30). -/
def pack (bits : Nat) (l : List Nat) : List Byte := if bits = 4 then packNibbles l else l.map (BitVec.ofNat 8)

/-- A list cut into pieces of `n`, at most `fuel` of them. -/
def chunks {α : Type} (n : Nat) : Nat → List α → List (List α)
  | 0, _ => []
  | f + 1, l => if l.isEmpty then [] else l.take n :: chunks n f (l.drop n)

/-- Dimension of the plane of a page. -/
def PageData.dim (pr : Prof) (d : PageData) : Nat := pr.dim d.kind

/-- Payload bytes of one token of a page, by the page's own FORMAT (R29, R30). -/
def PageData.tb (pr : Prof) (d : PageData) : Nat := tokenBytes (d.dim pr) d.format

/-- Tokens per page of a page. -/
def PageData.cap (d : PageData) : Nat := 2 ^ d.log2T

/-- Block size of a page. -/
def PageData.block (d : PageData) : Nat := blockOf d.cap

/-- Integer elements of the tokens of a page (R30). -/
def PageData.ints (pr : Prof) (d : PageData) : List (List Int) :=
  (chunks (d.tb pr) d.tokens d.payload).map fun t => (unpack (fmtBits d.format) t).map (signExt (fmtBits d.format))

/-- Payload bytes of integer tokens. -/
def packInts (fmt : Nat) (toks : List (List Int)) : List Byte :=
  toks.flatMap fun t => pack (fmtBits fmt) (t.map (toCode (fmtBits fmt)))

/-! ## Appending keys (R69) -/

/-- A key block: glume codes by channel and the integer tokens held, oldest first. -/
structure KeyBlock where
  gl : List Nat
  toks : List (List Int)
deriving DecidableEq, Repr

/-- Counts that encoding adds to: ENCODE_CLAMPS and GLUME_GROWTHS. -/
structure EncCount where
  clamps : Nat := 0
  growths : Nat := 0
deriving DecidableEq, Repr

/-- Sum of counts. -/
def EncCount.add (a b : EncCount) : EncCount := ⟨a.clamps + b.clamps, a.growths + b.growths⟩

/-- The glume code a channel has after a token (R69). -/
def growGlume (g : Nat) (x : Dy) : Nat :=
  if x.m = 0 then g
  else
    let need := (clampI x.log2 (-127) 127 + 127).toNat
    if g < need then need else g

/-- The integer of an element and whether it meets its clamp (R67). -/
def clampElem (m v : Int) : Int × Nat := (clampI v (-m) m, if m < v ∨ v < -m then 1 else 0)

/-- One key token encoded into a block (R69). -/
def KeyBlock.append (fmt : Nat) (b : KeyBlock) (x : List Dy) : KeyBlock × EncCount :=
  let gl := List.zipWith growGlume b.gl x
  let shifts := List.zipWith (fun g1 g0 => g1 - g0) gl b.gl
  let grown := if b.toks.isEmpty then 0 else (shifts.filter fun s => s ≠ 0).length
  let old := if grown = 0 then b.toks else b.toks.map fun t => List.zipWith rshiftRne t shifts
  let qs := List.zipWith (fun (g : Nat) (e : Dy) => clampElem (fmtM fmt) (e.rne (fmtF fmt - ((g : Int) - 127)))) gl x
  (⟨gl, old ++ [qs.map Prod.fst]⟩, ⟨(qs.map Prod.snd).sum, grown⟩)

/-- Key tokens encoded in position order into blocks of `b` tokens; finished blocks are gathered (R69). -/
def keyAppend (fmt b dim : Nat) : List (List Dy) → KeyBlock → List KeyBlock → EncCount → List KeyBlock × EncCount
  | [], cur, acc, n => (acc ++ [cur], n)
  | x :: r, cur, acc, n =>
    let full := cur.toks.length == b
    let acc1 := if full then acc ++ [cur] else acc
    let cur1 := if full then ⟨List.replicate dim 0, []⟩ else cur
    let (c2, k) := cur1.append fmt x
    keyAppend fmt b dim r c2 acc1 (n.add k)

/-- A key page with tokens appended (R69). -/
def PageData.appendKeys (pr : Prof) (d : PageData) (xs : List (List Dy)) : PageData × EncCount :=
  if xs.isEmpty then (d, {})
  else
    let dim := d.dim pr
    let b := d.block
    let nf := d.tokens / b
    let pfx := nf * b * d.tb pr
    let tail : List (List Int) := (d.ints pr).drop (nf * b)
    let gl0 := (slice (d.glumes.drop (nf * dim)) 0 dim).map BitVec.toNat
    let (blks, n) := keyAppend d.format b dim xs ⟨gl0, tail⟩ [] {}
    ({ d with
        tokens := d.tokens + xs.length
        payload := d.payload.take pfx ++ blks.flatMap fun k => packInts d.format k.toks
        glumes := d.glumes.take (nf * dim) ++ blks.flatMap fun k => k.gl.map (BitVec.ofNat 8) }, n)

/-! ## Appending values (R68) -/

/-- An element code of a value format and whether it meets its clamp or saturates (R67). -/
def quantElem (fmt : Nat) (y : Dy) : Nat × Nat :=
  if fmt = 0x13 ∨ fmt = 0x16 then let (c, s) := quantE4m3 y; (c, if s then 1 else 0)
  else if fmt = 0x14 ∨ fmt = 0x17 then let (c, s) := quantE5m2 y; (c, if s then 1 else 0)
  else if fmt = 0x15 then let (c, s) := quantE2m1 y; (c, if s then 1 else 0)
  else
    let (v, n) := clampElem (fmtM fmt) (y.rne (fmtF fmt))
    (toCode (fmtBits fmt) v, n)

/-- The element of greatest magnitude. -/
def maxAbs (l : List Dy) : Dy := l.foldl (fun a x => if a.absLt x then x else a) ⟨0, 0⟩

/-- Glume code and element codes of one group of 32 elements, with the clamps met (R68). -/
def encodeGroup (fmt : Nat) (x : List Dy) : Nat × List Nat × Nat :=
  if fmtGlumed fmt then
    let a := maxAbs x
    let xe : Int := if a.m = 0 then -127 else clampI (a.log2 - fmtEmax fmt) (-127) 127
    let qs := x.map fun e => quantElem fmt ⟨e.m, e.e - xe⟩
    ((xe + 127).toNat, qs.map Prod.fst, (qs.map Prod.snd).sum)
  else
    let qs := x.map (quantElem fmt)
    (0, qs.map Prod.fst, (qs.map Prod.snd).sum)

/-- A value page with tokens appended (R68). -/
def PageData.appendValues (d : PageData) (xs : List (List Dy)) : PageData × EncCount :=
  let enc := xs.map fun x => (chunks 32 x.length x).map (encodeGroup d.format)
  let gl := if fmtGlumed d.format then enc.flatMap fun t => t.map fun g => BitVec.ofNat 8 g.1 else []
  ({ d with
      tokens := d.tokens + xs.length
      payload := d.payload ++ enc.flatMap fun t => pack (fmtBits d.format) (t.flatMap fun g => g.2.1)
      glumes := d.glumes ++ gl },
   ⟨(enc.map fun t => (t.map fun g => g.2.2).sum).sum, 0⟩)

/-- A page with tokens appended (R67). -/
def PageData.append (pr : Prof) (d : PageData) (xs : List (List Dy)) : PageData × EncCount :=
  if d.kind = 0 then d.appendKeys pr xs else d.appendValues xs

/-- A page cut to its first `n` tokens: blocks that keep a token keep their glumes; the rest is zero (R55, R70). -/
def PageData.cut (pr : Prof) (d : PageData) (n : Nat) : PageData :=
  if d.tokens ≤ n then d
  else
    let g := if d.kind = 0 then ceilDiv n d.block * d.dim pr else if fmtGlumed d.format then n * (d.dim pr / 32) else 0
    { d with tokens := n, payload := d.payload.take (n * d.tb pr), glumes := d.glumes.take g }

/-- The narrower format of a format, where a re-encoding exists (R76). -/
def narrowTo (f : Nat) : Option Nat := if f = 0x01 then some 0x02 else if f = 0x11 then some 0x12 else none

/-- A page re-encoded to a narrower format: glumes unchanged (R76). -/
def PageData.narrow (pr : Prof) (d : PageData) (nf : Nat) : PageData :=
  { d with
      format := nf
      payload := packInts nf ((d.ints pr).map fun t => t.map fun q => clampI (rshiftRne q 4) (-7) 7) }

/-! ## Block views -/

/-- Glume codes of block `j` of a key page. -/
def PageData.blockGlumes (pr : Prof) (d : PageData) (j : Nat) : List Nat :=
  (slice (d.glumes.drop (j * d.dim pr)) 0 (d.dim pr)).map BitVec.toNat

/-- Integer tokens of block `j` of a key page. -/
def PageData.blockInts (pr : Prof) (d : PageData) (j : Nat) : List (List Int) :=
  ((d.ints pr).drop (j * d.block)).take d.block

/-- ABFT key sums of a block: the channel sums of the stored integers (R31). -/
def keySums (dim : Nat) (toks : List (List Int)) : List Int :=
  toks.foldl (fun a t => List.zipWith (· + ·) a t) (List.replicate dim 0)

/-- `e_blk`: the largest glume exponent of a block (R74). -/
def eBlk (gl : List Nat) : Int := ((gl.foldl Nat.max 0 : Nat) : Int) - 127

/-- Sift summary of a block (R133). -/
def sigma (fmt : Nat) (gl : List Nat) (sums : List Int) : List Int :=
  List.zipWith (fun (g : Nat) k => clampI (rshiftRne k ((eBlk gl - ((g : Int) - 127) + fmtF fmt + 4).toNat)) (-7) 7) gl sums

/-! ## Side records (R31, R32) -/

/-- The header as a number (R32). -/
def PageData.header (d : PageData) (payloadCrc : Nat) : Nat :=
  1 + d.kind * 2 ^ 8 + d.format * 2 ^ 16 + d.log2T * 2 ^ 24 + d.dom * 2 ^ 32 + d.group * 2 ^ 48 + d.layer * 2 ^ 64
    + d.head * 2 ^ 80 + d.tokens * 2 ^ 96 + d.ordinal * 2 ^ 128 + d.posBase * 2 ^ 160 + d.writer.toNat * 2 ^ 192
    + d.tier * 2 ^ 256 + (b2n d.dirty) * 2 ^ 259 + d.comp * 2 ^ 260 + d.tableId * 2 ^ 272 + d.tableGen * 2 ^ 288
    + payloadCrc * 2 ^ 320 + d.cold * 2 ^ 352

/-- The blocks of a key page that hold a token. -/
def PageData.blocks (d : PageData) : Nat := ceilDiv d.tokens d.block

/-- The 4,096 bytes of a side record, SR_CRC last (R31, R33). -/
def PageData.sideRecord (pr : Prof) (d : PageData) : List Byte :=
  let dim := d.dim pr
  let hdr := leBytes 256 (d.header (crc32c d.payload).toNat)
  let js := List.range d.blocks
  let area :=
    if d.kind = 0 then
      let sums := js.map fun j => keySums dim (d.blockInts pr j)
      padTo 1024 d.glumes
        ++ padTo 2048 (sums.flatMap fun l => l.flatMap fun k => leBytes 2 (toCode 16 k))
        ++ padTo 512 (pack 4 ((js.zip sums).flatMap fun p => (sigma d.format (d.blockGlumes pr p.1) p.2).map (toCode 4)))
    else padTo 2048 d.glumes
  let body := padTo 0xFFC (hdr ++ area)
  body ++ leBytes 4 (crc32c body).toNat

/-- The 32,768 payload bytes of a page (R30). -/
def PageData.full (d : PageData) : List Byte := padTo 32768 d.payload

/-- A side record whose CRC and version are right (R32, R33). -/
def sideOk (sr : List Byte) : Bool :=
  (crc32c (sr.take 0xFFC)).toNat == leNat (slice sr 0xFFC 4) && leNat (sr.take 1) == 1

/-- R65: FORMAT and LOG2_T of a side record fit the active profile. -/
def sideFits (pr : Prof) (sr : List Byte) : Bool :=
  let h : BitVec 2048 := ofBytes 2048 (sr.take 256)
  let f := pr.fmt (fld h 8 1)
  (fld h 16 8 == f || narrowTo f == some (fld h 16 8)) && fld h 24 4 == log2T (pr.dim (fld h 8 1)) f

/-- A page from the bytes of its side record and payload, `none` when a CRC or the layout is wrong (R32, R33). -/
def PageData.parse (pr : Prof) (sr payload : List Byte) : Option PageData :=
  let h : BitVec 2048 := ofBytes 2048 (sr.take 256)
  let kind := fld h 8 1
  let fmt := fld h 16 8
  let tokens := fld h 96 16
  let dim := pr.dim kind
  let t := 2 ^ fld h 24 4
  let pl := payload.take (tokens * tokenBytes dim fmt)
  let g := if kind = 0 then ceilDiv tokens (blockOf t) * dim else if fmtGlumed fmt then tokens * (dim / 32) else 0
  if !sideOk sr ∨ (crc32c pl).toNat ≠ fld h 320 32 then none
  else some
    { kind := kind, format := fmt, log2T := fld h 24 4, dom := fld h 32 12, group := fld h 48 12, layer := fld h 64 16,
      head := fld h 80 8, tokens := tokens, ordinal := fld h 128 32, posBase := fld h 160 32,
      writer := h.extractLsb' 192 64, tier := fld h 256 3, dirty := bit h 259, comp := fld h 260 2,
      tableId := fld h 272 16, tableGen := fld h 288 16, cold := fld h 352 64,
      glumes := slice (sr.drop 0x100) 0 g, payload := slice pl 0 (tokens * tokenBytes dim fmt) }

/-! ## Queries and scores -/

/-- A query row as converted to int8 (R71). -/
structure QRow where
  q : List Int
  qexp : Int
deriving DecidableEq, Repr

/-- Conversion of a query row (R71). -/
def convertQuery (x : List Dy) : QRow :=
  let a := maxAbs x
  let e : Int := if a.m = 0 then -127 else clampI a.log2 (-127) 127
  ⟨x.map fun v => clampI (v.rne (6 - e)) (-127) 127, e⟩

/-- The elements at even places of a list. -/
def evens {α : Type} : List α → List α
  | a :: _ :: r => a :: evens r
  | [a] => [a]
  | [] => []

/-- The elements at odd places of a list. -/
def odds {α : Type} : List α → List α
  | _ :: b :: r => b :: odds r
  | _ => []

/-- Channels outside any rotated pair, first channels of the pairs and second channels of the pairs (R72). -/
def splitRot {α : Type} (p : Prof) (l : List α) : List α × List α × List α :=
  let r := (l.drop p.ropeFirst).take p.ropeDims
  let plain := l.take p.ropeFirst ++ l.drop (p.ropeFirst + p.ropeDims)
  if p.ropePairing = 0 then (plain, r.take (p.ropeDims / 2), r.drop (p.ropeDims / 2)) else (plain, evens r, odds r)

/-- Sines and cosines of every pair at a position (R72, R73). -/
def rotation (p : Prof) (pos : Nat) : List (Int × Int) :=
  (chunks 8 (p.ropeDims / 2) p.ropeFreq).map fun f =>
    sinCos (((pos * leNat f) % 2 ^ 64 + 2 ^ 47) % 2 ^ 64 / 2 ^ 48)

/-- Dot product. -/
def dot (a b : List Int) : Int := (List.zipWith (· * ·) a b).sum

/-- A query row split for a block: plain folded elements and the folds of each pair. -/
structure Folded where
  plain : List Int
  aa : List Int
  bb : List Int
  ab : List Int
  ba : List Int
deriving DecidableEq, Repr

/-- `fold` of a row over a block whose channel `c` shifts by `sh[c]` (R74). -/
def foldQuery (p : Prof) (q : List Int) (sh : List Nat) : Folded :=
  let (qp, qa, qb) := splitRot p q
  let (sp, sa, sb) := splitRot p sh
  ⟨List.zipWith rshiftRne qp sp, List.zipWith rshiftRne qa sa, List.zipWith rshiftRne qb sb,
   List.zipWith rshiftRne qb sa, List.zipWith rshiftRne qa sb⟩

/-- Sum over the pairs of `cos × u + sin × v`. -/
def rotSum : List (Int × Int) → List Int → List Int → List Int → List Int → List Int → List Int → Int
  | (sn, cs) :: r, aa :: l1, bb :: l2, ab :: l3, ba :: l4, ka :: l5, kb :: l6 =>
    cs * (aa * ka + bb * kb) + sn * (ab * ka - ba * kb) + rotSum r l1 l2 l3 l4 l5 l6
  | _, _, _, _, _, _, _ => 0

/-- The integer score of a folded row against one key token (R74). -/
def scoreInt (p : Prof) (f : Folded) (rot : List (Int × Int)) (k : List Int) : Int :=
  let (kp, ka, kb) := splitRot p k
  dot f.plain kp + rshiftRne (rotSum rot f.aa f.bb f.ab f.ba ka kb) 14

/-- Shifts of the channels of a block (R74). -/
def blockShifts (gl : List Nat) : List Nat := let m := gl.foldl Nat.max 0; gl.map fun g => m - g

/-- The summary score of a row against the summary of a block (R134). -/
def summaryScore (p : Prof) (gl : List Nat) (q : List Int) (rot : List (Int × Int)) (sg : List Int) : Int :=
  let f := foldQuery p q (gl.map fun _ => 0)
  let raw := scoreInt p f rot sg
  let k := eBlk gl + 6
  let v := if 0 ≤ k then raw * (2 ^ k.toNat : Nat) else rshiftRne raw (-k).toNat
  clampI v (-2147483647) 2147483647

/-! ## Value elements -/

/-- Exact value of an element code of a format, without its glume; `none` for an infinity or a NaN (R5, R66). -/
def elemVal (fmt c : Nat) : Option Dy :=
  if fmt = 0x13 ∨ fmt = 0x16 then e4m3 c
  else if fmt = 0x14 ∨ fmt = 0x17 then e5m2 c
  else if fmt = 0x15 then some (e2m1 c)
  else some ⟨signExt (fmtBits fmt) c, -(fmtF fmt)⟩

/-- An element as binary32 under a glume exponent: an infinity stays one, and a NaN is a NaN whose bits the manual leaves
open (R5, log 21). The node never writes either (R67); a page that another node wrote can hold them. -/
def elemF32 (fmt : Nat) (x : Int) (c : Nat) : F32 :=
  match elemVal fmt c with
  | some e => F32.round false ⟨e.m, e.e + x⟩
  | none =>
    if (fmt = 0x14 ∨ fmt = 0x17) ∧ c % 4 = 0 then (if c / 128 % 2 = 1 then 0xFF800000#32 else 0x7F800000#32)
    else F32.nan (BitVec.ofNat 32 c) 0 0

/-- Elements of token `t` of a value page as binary32 (R66, R125); zero beyond TOKENS_VALID (R30). -/
def PageData.valueToken (pr : Prof) (d : PageData) (t : Nat) : List F32 :=
  let dim := d.dim pr
  let codes := unpack (fmtBits d.format) (slice (d.payload.drop (t * d.tb pr)) 0 (d.tb pr))
  let gs := if fmtGlumed d.format then (slice (d.glumes.drop (t * (dim / 32))) 0 (dim / 32)).map BitVec.toNat else []
  codes.mapIdx fun c v =>
    let x : Int := if fmtGlumed d.format then ((gs.getD (c / 32) 0 : Nat) : Int) - 127 else 0
    elemF32 d.format x v

/-- Value elements read from a key token under VALUE_FROM_KEY (R75). -/
def keyAsValue (pr : Prof) (fmt : Nat) (gl : List Nat) (k : List Int) : List F32 :=
  (List.zipWith (fun (g : Nat) e => F32.round false ⟨e, (g : Int) - 127 - fmtF fmt⟩) gl k).take pr.valueDim

end Sys2Proof.Machine
end

