-- ==== Sys2Proof/Machine/PdTable.lean ====
section
/-! DEFINITION. The Parameter Dictionary's entries: address, type, length, effect point, rights, default and range of each
row of the manual's entry tables (R388 to R394; R25, R59, R60, R108, R138, R159, R196, R215, R236, R275, R294, R306, R320,
R356, R385, R408, R430). -/

namespace Sys2Proof.Machine

/-- One row of an entry table: index, subindexes, type code (R389), longest value, whether the length is fixed, effect
(0 IMM, 1 CMD, 2 DRAIN, 3 BOOT), rights of HOST_ADMIN, FABRIC_MGR, SIDEBAND and DOMAIN (bit 0 read, bit 1 write), default
of a scalar, and the range of a scalar. -/
structure PdRow where
  idx : Nat
  lo : Nat
  hi : Nat
  ty : Nat
  len : Nat
  fixed : Bool
  eff : Nat
  ha : Nat
  fm : Nat
  sb : Nat
  dm : Nat
  dflt : Nat
  mn : Nat
  mx : Nat
deriving DecidableEq, Repr

/-- Rows of the entry tables, part 1. -/
def pdRows1 : List PdRow := [
  ⟨0x4300, 1, 1, 3, 4, true, 0, 3, 3, 1, 0, 0, 0, 4294967295⟩,
  ⟨0x4300, 2, 2, 3, 4, true, 0, 3, 3, 1, 0, 0, 0, 4294967295⟩,
  ⟨0x4300, 3, 3, 3, 4, true, 0, 1, 1, 1, 0, 0, 0, 4294967295⟩,
  ⟨0x4300, 4, 4, 4, 8, true, 0, 1, 1, 1, 0, 0, 0, 18446744073709551615⟩,
  ⟨0x4300, 5, 5, 3, 4, true, 0, 1, 1, 1, 1, 0, 0, 4294967295⟩,
  ⟨0x4310, 0, 15, 9, 8, true, 2, 3, 3, 1, 0, 0, 0, 0⟩,
  ⟨0x3000, 1, 1, 3, 4, true, 0, 1, 1, 1, 1, 22020096, 0, 4294967295⟩,
  ⟨0x3000, 2, 2, 3, 4, true, 0, 1, 1, 1, 0, 22020096, 0, 4294967295⟩,
  ⟨0x3000, 3, 3, 3, 4, true, 0, 1, 1, 1, 0, 0, 0, 4294967295⟩,
  ⟨0x3000, 4, 4, 3, 4, true, 0, 1, 1, 1, 0, 33554432, 0, 4294967295⟩,
  ⟨0x3000, 5, 5, 3, 4, true, 0, 1, 1, 1, 0, 16777215, 0, 4294967295⟩,
  ⟨0x3000, 6, 6, 3, 4, true, 0, 1, 1, 1, 0, 16777216, 0, 4294967295⟩,
  ⟨0x3000, 7, 7, 3, 4, true, 0, 1, 1, 1, 0, 0, 0, 4294967295⟩,
  ⟨0x3000, 8, 8, 3, 4, true, 1, 3, 3, 1, 0, 262144, 0, 4294967295⟩,
  ⟨0x3000, 9, 9, 3, 4, true, 1, 3, 3, 1, 0, 65536, 0, 4294967295⟩,
  ⟨0x3001, 0, 11, 3, 4, true, 0, 1, 1, 1, 0, 1835008, 0, 4294967295⟩,
  ⟨0x3100, 1, 1, 3, 4, true, 0, 3, 0, 0, 0, 0, 0, 33554431⟩,
  ⟨0x3100, 2, 2, 9, 32, true, 0, 1, 0, 0, 0, 0, 0, 0⟩,
  ⟨0x3110, 1, 1, 3, 4, true, 0, 3, 0, 0, 3, 0, 0, 16777215⟩,
  ⟨0x3110, 2, 2, 9, 64, true, 0, 1, 0, 0, 1, 0, 0, 0⟩,
  ⟨0x3200, 1, 1, 3, 4, true, 1, 3, 3, 0, 1, 22020096, 0, 4294967295⟩,
  ⟨0x3200, 2, 2, 3, 4, true, 1, 3, 3, 0, 1, 0, 0, 4294967295⟩,
  ⟨0x3200, 3, 3, 3, 4, true, 0, 1, 1, 0, 1, 0, 0, 4294967295⟩,
  ⟨0x3200, 4, 4, 3, 4, true, 0, 1, 1, 0, 1, 0, 0, 4294967295⟩,
  ⟨0x2000, 1, 1, 3, 4, true, 0, 3, 1, 1, 1, 0, 0, 4294967295⟩,
  ⟨0x2001, 1, 1, 3, 4, true, 0, 3, 0, 0, 0, 0, 0, 4294967295⟩,
  ⟨0x2000, 2, 2, 8, 32, false, 0, 3, 1, 1, 1, 0, 0, 0⟩,
  ⟨0x2001, 2, 2, 8, 32, false, 0, 3, 0, 0, 0, 0, 0, 0⟩,
  ⟨0x2000, 3, 3, 2, 2, true, 0, 3, 1, 1, 1, 0, 1, 256⟩,
  ⟨0x2001, 3, 3, 2, 2, true, 0, 3, 0, 0, 0, 0, 1, 256⟩,
  ⟨0x2000, 4, 4, 2, 2, true, 0, 3, 1, 1, 1, 0, 1, 256⟩,
  ⟨0x2001, 4, 4, 2, 2, true, 0, 3, 0, 0, 0, 0, 1, 256⟩,
  ⟨0x2000, 5, 5, 2, 2, true, 0, 3, 1, 1, 1, 0, 1, 64⟩,
  ⟨0x2001, 5, 5, 2, 2, true, 0, 3, 0, 0, 0, 0, 1, 64⟩,
  ⟨0x2000, 6, 6, 2, 2, true, 0, 3, 1, 1, 1, 0, 32, 576⟩,
  ⟨0x2001, 6, 6, 2, 2, true, 0, 3, 0, 0, 0, 0, 32, 576⟩,
  ⟨0x2000, 7, 7, 2, 2, true, 0, 3, 1, 1, 1, 0, 32, 576⟩,
  ⟨0x2001, 7, 7, 2, 2, true, 0, 3, 0, 0, 0, 0, 32, 576⟩,
  ⟨0x2000, 8, 8, 7, 1, true, 0, 3, 1, 1, 1, 0, 0, 23⟩,
  ⟨0x2001, 8, 8, 7, 1, true, 0, 3, 0, 0, 0, 0, 0, 23⟩,
  ⟨0x2000, 9, 9, 7, 1, true, 0, 3, 1, 1, 1, 0, 0, 23⟩,
  ⟨0x2001, 9, 9, 7, 1, true, 0, 3, 0, 0, 0, 0, 0, 23⟩,
  ⟨0x2000, 10, 10, 7, 1, true, 0, 3, 1, 1, 1, 0, 0, 1⟩,
  ⟨0x2001, 10, 10, 7, 1, true, 0, 3, 0, 0, 0, 0, 0, 1⟩,
  ⟨0x2000, 11, 11, 7, 1, true, 0, 3, 1, 1, 1, 0, 0, 1⟩,
  ⟨0x2001, 11, 11, 7, 1, true, 0, 3, 0, 0, 0, 0, 0, 1⟩,
  ⟨0x2000, 12, 12, 2, 2, true, 0, 3, 1, 1, 1, 0, 0, 65535⟩,
  ⟨0x2001, 12, 12, 2, 2, true, 0, 3, 0, 0, 0, 0, 0, 65535⟩,
  ⟨0x2000, 13, 13, 2, 2, true, 0, 3, 1, 1, 1, 0, 0, 65535⟩,
  ⟨0x2001, 13, 13, 2, 2, true, 0, 3, 0, 0, 0, 0, 0, 65535⟩]

/-- Rows of the entry tables, part 2. -/
def pdRows2 : List PdRow := [
  ⟨0x2000, 14, 14, 7, 1, true, 0, 3, 1, 1, 1, 0, 0, 1⟩,
  ⟨0x2001, 14, 14, 7, 1, true, 0, 3, 0, 0, 0, 0, 0, 1⟩,
  ⟨0x2000, 15, 15, 9, 2304, false, 0, 3, 1, 1, 1, 0, 0, 0⟩,
  ⟨0x2001, 15, 15, 9, 2304, false, 0, 3, 0, 0, 0, 0, 0, 0⟩,
  ⟨0x2000, 16, 16, 1, 1, true, 0, 3, 1, 1, 1, 0, 0, 1⟩,
  ⟨0x2001, 16, 16, 1, 1, true, 0, 3, 0, 0, 0, 0, 0, 1⟩,
  ⟨0x2000, 17, 17, 2, 2, true, 0, 1, 1, 1, 1, 0, 0, 65535⟩,
  ⟨0x2000, 18, 18, 7, 1, true, 0, 1, 1, 1, 1, 0, 0, 255⟩,
  ⟨0x2000, 19, 19, 9, 32, true, 0, 1, 1, 1, 1, 0, 0, 0⟩,
  ⟨0x2000, 20, 20, 2, 2, true, 0, 1, 0, 0, 0, 0, 0, 65535⟩,
  ⟨0x2000, 21, 21, 1, 1, true, 2, 2, 0, 0, 0, 0, 1, 1⟩,
  ⟨0x2000, 32, 32, 4, 8, true, 0, 1, 1, 1, 0, 0, 0, 18446744073709551615⟩,
  ⟨0x2000, 33, 33, 4, 8, true, 0, 1, 1, 1, 0, 0, 0, 18446744073709551615⟩,
  ⟨0xB000, 1, 1, 1, 1, true, 0, 1, 1, 1, 1, 12, 0, 255⟩,
  ⟨0xB000, 2, 2, 2, 2, true, 1, 3, 3, 1, 0, 256, 1, 256⟩,
  ⟨0xB000, 3, 3, 9, 24, true, 0, 1, 1, 1, 0, 0, 0, 0⟩,
  ⟨0xB000, 4, 4, 2, 2, true, 1, 3, 3, 1, 0, 16, 0, 64⟩,
  ⟨0xB000, 5, 5, 3, 4, true, 1, 3, 0, 1, 0, 1000, 200, 1800⟩,
  ⟨0xB000, 6, 6, 4, 8, true, 0, 1, 1, 1, 0, 0, 0, 18446744073709551615⟩,
  ⟨0xB000, 7, 7, 4, 8, true, 0, 1, 1, 1, 0, 0, 0, 18446744073709551615⟩,
  ⟨0xB000, 8, 8, 4, 8, true, 0, 1, 1, 1, 0, 0, 0, 18446744073709551615⟩,
  ⟨0xB000, 9, 9, 4, 8, true, 0, 1, 1, 1, 0, 0, 0, 18446744073709551615⟩,
  ⟨0xB000, 10, 10, 3, 4, true, 0, 1, 1, 1, 0, 0, 0, 4294967295⟩,
  ⟨0xB000, 11, 11, 1, 1, true, 0, 1, 0, 1, 0, 0, 0, 255⟩,
  ⟨0xB010, 0, 11, 9, 32, true, 0, 1, 1, 1, 0, 0, 0, 0⟩,
  ⟨0xB020, 1, 1, 3, 4, true, 0, 3, 0, 0, 0, 0, 0, 4294967295⟩,
  ⟨0xB020, 2, 2, 3, 4, true, 0, 1, 0, 0, 0, 0, 0, 4294967295⟩,
  ⟨0x3300, 1, 1, 3, 4, true, 0, 1, 1, 1, 1, 1835008, 0, 4294967295⟩,
  ⟨0x3300, 2, 2, 3, 4, true, 0, 1, 1, 1, 0, 0, 0, 4294967295⟩,
  ⟨0x3300, 3, 3, 4, 8, true, 0, 1, 0, 1, 0, 0, 0, 18446744073709551615⟩,
  ⟨0x3300, 4, 4, 4, 8, true, 0, 1, 0, 1, 0, 0, 0, 18446744073709551615⟩,
  ⟨0x2100, 0, 7, 9, 128, false, 2, 3, 1, 1, 1, 0, 0, 0⟩,
  ⟨0x2101, 1, 1, 9, 256, true, 2, 3, 1, 1, 1, 0, 0, 0⟩,
  ⟨0x2102, 1, 1, 9, 64, true, 2, 3, 1, 1, 1, 0, 0, 0⟩,
  ⟨0x2103, 0, 3, 9, 1024, true, 2, 3, 1, 1, 1, 0, 0, 0⟩,
  ⟨0x2104, 0, 7, 9, 4100, true, 2, 3, 1, 1, 1, 0, 0, 0⟩,
  ⟨0x2105, 0, 3, 9, 4100, true, 2, 3, 1, 1, 1, 0, 0, 0⟩,
  ⟨0x2106, 1, 1, 9, 32, true, 0, 1, 1, 1, 1, 0, 0, 0⟩,
  ⟨0x2106, 2, 2, 4, 8, true, 0, 1, 1, 1, 0, 0, 0, 18446744073709551615⟩,
  ⟨0x3400, 1, 1, 3, 4, true, 0, 1, 1, 1, 0, 0, 0, 4294967295⟩,
  ⟨0x3400, 2, 2, 4, 8, true, 0, 1, 1, 1, 0, 0, 0, 18446744073709551615⟩,
  ⟨0x3400, 3, 3, 4, 8, true, 0, 1, 1, 1, 1, 536870912, 0, 18446744073709551615⟩,
  ⟨0x3410, 1, 1, 3, 4, true, 0, 1, 1, 0, 1, 0, 0, 4294967295⟩,
  ⟨0xB030, 1, 1, 4, 8, true, 0, 1, 1, 1, 0, 0, 0, 18446744073709551615⟩,
  ⟨0xB030, 2, 2, 4, 8, true, 0, 1, 1, 1, 0, 0, 0, 18446744073709551615⟩,
  ⟨0xB030, 3, 3, 4, 8, true, 0, 1, 1, 1, 0, 0, 0, 18446744073709551615⟩,
  ⟨0xB100, 1, 1, 1, 1, true, 0, 1, 1, 1, 1, 72, 0, 255⟩,
  ⟨0xB100, 2, 2, 1, 1, true, 0, 1, 1, 1, 1, 64, 0, 255⟩,
  ⟨0xB100, 3, 3, 1, 1, true, 0, 1, 1, 1, 0, 8, 0, 255⟩,
  ⟨0xB100, 4, 4, 2, 2, true, 1, 3, 3, 1, 0, 64, 16, 4096⟩]

/-- Rows of the entry tables, part 3. -/
def pdRows3 : List PdRow := [
  ⟨0xB100, 5, 5, 1, 1, true, 1, 3, 3, 1, 0, 4, 1, 16⟩,
  ⟨0xB100, 6, 6, 1, 1, true, 1, 3, 3, 1, 0, 4, 1, 16⟩,
  ⟨0xB100, 7, 7, 3, 4, true, 1, 3, 0, 1, 0, 1000, 200, 1800⟩,
  ⟨0xB100, 8, 8, 4, 8, true, 0, 1, 1, 1, 0, 0, 0, 18446744073709551615⟩,
  ⟨0xB100, 9, 9, 4, 8, true, 0, 1, 1, 1, 0, 0, 0, 18446744073709551615⟩,
  ⟨0xB100, 10, 10, 4, 8, true, 0, 1, 1, 1, 0, 0, 0, 18446744073709551615⟩,
  ⟨0xB100, 11, 11, 4, 8, true, 0, 1, 1, 1, 0, 0, 0, 18446744073709551615⟩,
  ⟨0xB100, 12, 12, 4, 8, true, 0, 1, 1, 1, 0, 0, 0, 18446744073709551615⟩,
  ⟨0xB110, 0, 15, 9, 4, true, 0, 1, 1, 1, 0, 0, 0, 0⟩,
  ⟨0xB120, 1, 1, 3, 4, true, 0, 3, 0, 0, 0, 0, 0, 71⟩,
  ⟨0xB120, 2, 2, 3, 4, true, 0, 1, 0, 0, 0, 0, 0, 4294967295⟩,
  ⟨0x4000, 1, 1, 3, 4, true, 0, 1, 1, 1, 1, 32768, 0, 4294967295⟩,
  ⟨0x4000, 2, 2, 3, 4, true, 0, 1, 1, 1, 0, 0, 0, 4294967295⟩,
  ⟨0x4000, 3, 3, 3, 4, true, 0, 1, 1, 1, 1, 16384, 0, 4294967295⟩,
  ⟨0x4000, 4, 4, 3, 4, true, 0, 1, 1, 1, 0, 0, 0, 4294967295⟩,
  ⟨0x4000, 5, 5, 4, 8, true, 0, 1, 1, 1, 1, 1073741824, 0, 18446744073709551615⟩,
  ⟨0x4000, 6, 6, 4, 8, true, 0, 1, 1, 1, 0, 0, 0, 18446744073709551615⟩,
  ⟨0x4000, 7, 7, 3, 4, true, 1, 3, 3, 1, 0, 2000, 100, 100000⟩,
  ⟨0x4000, 8, 8, 4, 8, true, 0, 1, 1, 1, 0, 0, 0, 18446744073709551615⟩,
  ⟨0x4000, 9, 9, 4, 8, true, 0, 1, 1, 1, 0, 0, 0, 18446744073709551615⟩,
  ⟨0x4000, 10, 10, 4, 8, true, 0, 1, 1, 1, 0, 0, 0, 18446744073709551615⟩,
  ⟨0x4100, 1, 1, 3, 4, true, 0, 3, 3, 0, 0, 0, 0, 65535⟩,
  ⟨0x4100, 2, 2, 9, 32, true, 0, 3, 3, 0, 0, 0, 0, 0⟩,
  ⟨0x4100, 3, 3, 9, 32, true, 0, 3, 3, 0, 0, 0, 0, 0⟩,
  ⟨0x4100, 4, 4, 1, 1, true, 0, 2, 2, 0, 0, 0, 1, 4⟩,
  ⟨0x4100, 5, 5, 9, 16, true, 0, 1, 1, 0, 0, 0, 0, 0⟩,
  ⟨0x4200, 1, 1, 3, 4, true, 1, 3, 3, 1, 0, 4000, 1000, 8000⟩,
  ⟨0x4200, 2, 2, 2, 2, true, 1, 3, 3, 1, 0, 512, 64, 2048⟩,
  ⟨0x4200, 3, 3, 3, 4, true, 1, 3, 3, 1, 0, 50, 10, 10000⟩,
  ⟨0x4200, 4, 4, 1, 1, true, 1, 3, 3, 1, 0, 12, 1, 16⟩,
  ⟨0x4200, 5, 5, 3, 4, true, 1, 3, 3, 1, 0, 2000, 0, 100000⟩,
  ⟨0x4200, 6, 6, 1, 1, true, 1, 3, 3, 1, 0, 3, 1, 255⟩,
  ⟨0x4210, 1, 1, 1, 1, true, 1, 3, 3, 0, 1, 1, 1, 64⟩,
  ⟨0x4210, 2, 2, 3, 4, true, 0, 1, 1, 0, 1, 0, 0, 4294967295⟩,
  ⟨0xA000, 1, 1, 3, 4, true, 0, 1, 1, 1, 1, 8388608, 0, 4294967295⟩,
  ⟨0xA000, 2, 2, 3, 4, true, 0, 1, 1, 1, 0, 0, 0, 4294967295⟩,
  ⟨0xA000, 3, 3, 3, 4, true, 0, 1, 1, 1, 0, 131072, 0, 4294967295⟩,
  ⟨0xA000, 4, 4, 3, 4, true, 1, 3, 3, 1, 0, 4096, 0, 4294967295⟩,
  ⟨0xA000, 5, 5, 3, 4, true, 1, 3, 0, 1, 0, 10000, 1000, 600000⟩,
  ⟨0xA000, 6, 6, 4, 8, true, 0, 1, 1, 1, 0, 0, 0, 18446744073709551615⟩,
  ⟨0xA000, 7, 7, 4, 8, true, 0, 1, 1, 1, 0, 0, 0, 18446744073709551615⟩,
  ⟨0xA000, 8, 8, 4, 8, true, 0, 1, 1, 1, 0, 0, 0, 18446744073709551615⟩,
  ⟨0xA000, 9, 9, 4, 8, true, 0, 1, 1, 1, 0, 0, 0, 18446744073709551615⟩,
  ⟨0xA010, 1, 1, 3, 4, true, 0, 3, 3, 0, 0, 0, 0, 8388607⟩,
  ⟨0xA010, 2, 2, 9, 128, true, 0, 1, 1, 0, 0, 0, 0, 0⟩,
  ⟨0xA020, 1, 1, 3, 4, true, 1, 3, 3, 0, 1, 8388608, 0, 4294967295⟩,
  ⟨0xA020, 2, 2, 3, 4, true, 0, 1, 1, 0, 1, 0, 0, 4294967295⟩,
  ⟨0xA030, 1, 1, 2, 2, true, 0, 3, 3, 0, 0, 1, 1, 4095⟩,
  ⟨0xA030, 2, 2, 9, 512, true, 0, 3, 3, 1, 0, 0, 0, 0⟩,
  ⟨0x3500, 1, 1, 3, 4, true, 0, 1, 1, 1, 1, 2147483648, 0, 4294967295⟩]

/-- Rows of the entry tables, part 4. -/
def pdRows4 : List PdRow := [
  ⟨0x3500, 2, 2, 3, 4, true, 0, 1, 1, 1, 0, 0, 0, 4294967295⟩,
  ⟨0x3500, 3, 3, 3, 4, true, 0, 1, 1, 1, 0, 0, 0, 4294967295⟩,
  ⟨0x3500, 4, 4, 3, 4, true, 1, 3, 3, 1, 0, 200, 20, 10000⟩,
  ⟨0x3500, 5, 5, 3, 4, true, 1, 3, 3, 1, 0, 1000, 50, 50000⟩,
  ⟨0x3500, 6, 6, 3, 4, true, 1, 3, 3, 1, 0, 10000, 100, 1000000⟩,
  ⟨0x3500, 7, 7, 4, 8, true, 0, 1, 1, 1, 0, 0, 0, 18446744073709551615⟩,
  ⟨0x3500, 8, 8, 4, 8, true, 0, 1, 1, 1, 0, 0, 0, 18446744073709551615⟩,
  ⟨0x3500, 9, 9, 4, 8, true, 0, 1, 1, 1, 0, 0, 0, 18446744073709551615⟩,
  ⟨0x3500, 10, 10, 4, 8, true, 0, 1, 1, 1, 0, 0, 0, 18446744073709551615⟩,
  ⟨0x3500, 11, 11, 3, 4, true, 0, 1, 1, 1, 0, 0, 0, 4294967295⟩,
  ⟨0x3500, 12, 12, 4, 8, true, 0, 1, 1, 1, 0, 0, 0, 18446744073709551615⟩,
  ⟨0x3500, 13, 13, 2, 2, true, 0, 2, 2, 0, 0, 0, 0, 4095⟩,
  ⟨0x3510, 1, 1, 4, 8, true, 1, 3, 0, 0, 1, 0, 0, 18446744073709551615⟩,
  ⟨0x3510, 2, 2, 3, 4, true, 1, 3, 0, 0, 1, 0, 0, 4294967295⟩,
  ⟨0x3510, 3, 3, 3, 4, true, 0, 1, 1, 0, 1, 0, 0, 4294967295⟩,
  ⟨0x3520, 1, 1, 4, 8, true, 0, 3, 3, 0, 0, 0, 0, 18446744073709551615⟩,
  ⟨0x3520, 2, 2, 3, 4, true, 0, 3, 3, 0, 0, 0, 0, 127⟩,
  ⟨0xA100, 1, 1, 3, 4, true, 0, 1, 1, 1, 0, 0, 0, 4294967295⟩,
  ⟨0xA100, 2, 2, 3, 4, true, 0, 3, 0, 0, 0, 0, 0, 4294967295⟩,
  ⟨0xA100, 3, 3, 9, 256, true, 0, 1, 0, 0, 0, 0, 0, 0⟩,
  ⟨0xA100, 4, 4, 4, 8, true, 0, 1, 1, 1, 0, 0, 0, 18446744073709551615⟩,
  ⟨0x6000, 1, 1, 2, 2, true, 2, 3, 1, 1, 0, 0, 0, 4095⟩,
  ⟨0x6000, 2, 2, 2, 2, true, 0, 1, 1, 1, 1, 257, 0, 65535⟩,
  ⟨0x6000, 3, 3, 2, 2, true, 2, 3, 3, 0, 0, 47330, 0, 65535⟩,
  ⟨0x6000, 4, 4, 2, 2, true, 2, 3, 3, 0, 0, 49152, 0, 65535⟩,
  ⟨0x6000, 5, 5, 4, 8, true, 0, 1, 1, 0, 0, 0, 0, 18446744073709551615⟩,
  ⟨0x6000, 6, 6, 3, 4, true, 0, 1, 1, 1, 1, 1000, 0, 4294967295⟩,
  ⟨0x6010, 0, 31, 9, 64, true, 2, 3, 3, 1, 0, 0, 0, 0⟩,
  ⟨0x6020, 0, 31, 9, 33, true, 0, 1, 1, 1, 0, 0, 0, 0⟩,
  ⟨0x6100, 1, 1, 2, 2, true, 0, 3, 3, 0, 0, 0, 0, 65535⟩,
  ⟨0x6100, 2, 2, 9, 64, true, 0, 3, 3, 0, 0, 0, 0, 0⟩,
  ⟨0x6100, 3, 3, 1, 1, true, 0, 2, 2, 0, 0, 0, 1, 4⟩,
  ⟨0x6100, 4, 4, 9, 32, true, 0, 1, 1, 0, 0, 0, 0, 0⟩,
  ⟨0x6200, 1, 1, 2, 2, true, 0, 3, 3, 0, 0, 0, 0, 65535⟩,
  ⟨0x6200, 2, 2, 9, 16, true, 0, 1, 1, 0, 0, 0, 0, 0⟩,
  ⟨0x6200, 3, 3, 3, 4, true, 0, 1, 1, 1, 0, 0, 0, 4294967295⟩,
  ⟨0x6300, 1, 1, 3, 4, true, 1, 3, 3, 0, 0, 2, 1, 64⟩,
  ⟨0x6300, 2, 2, 2, 2, true, 1, 3, 3, 0, 0, 16, 1, 256⟩,
  ⟨0x6300, 3, 3, 3, 4, true, 1, 3, 3, 0, 0, 4, 1, 100⟩,
  ⟨0x6300, 4, 4, 3, 4, true, 1, 3, 3, 0, 0, 20, 5, 1000⟩,
  ⟨0x6300, 5, 5, 3, 4, true, 1, 3, 3, 0, 0, 2000, 5, 100000⟩,
  ⟨0x6300, 6, 6, 1, 1, true, 1, 3, 3, 0, 0, 7, 1, 15⟩,
  ⟨0x6300, 7, 7, 2, 2, true, 1, 3, 3, 0, 0, 20, 1, 65535⟩,
  ⟨0x6300, 8, 8, 3, 4, true, 1, 3, 3, 0, 0, 1000, 100, 100000⟩,
  ⟨0x6300, 9, 9, 1, 1, true, 1, 3, 3, 0, 0, 64, 0, 64⟩,
  ⟨0x6300, 10, 10, 3, 4, true, 1, 3, 3, 0, 0, 10000, 0, 4294967295⟩,
  ⟨0x6300, 11, 11, 3, 4, true, 1, 3, 3, 0, 0, 1000, 0, 4294967295⟩,
  ⟨0x6300, 12, 12, 3, 4, true, 1, 3, 3, 0, 0, 10000, 0, 4294967295⟩,
  ⟨0x6300, 16, 16, 3, 4, true, 1, 3, 3, 0, 0, 16, 4, 1000⟩,
  ⟨0x6300, 17, 17, 3, 4, true, 1, 3, 3, 0, 0, 200000, 1000, 12800000⟩]

/-- Rows of the entry tables, part 5. -/
def pdRows5 : List PdRow := [
  ⟨0x6300, 18, 18, 3, 4, true, 1, 3, 3, 0, 0, 1000, 100, 100000⟩,
  ⟨0x6300, 19, 19, 3, 4, true, 1, 3, 3, 0, 0, 5000, 100, 100000⟩,
  ⟨0x6300, 20, 20, 3, 4, true, 1, 3, 3, 0, 0, 50000, 1000, 800000⟩,
  ⟨0x6400, 1, 8, 4, 8, true, 0, 1, 1, 1, 0, 0, 0, 18446744073709551615⟩,
  ⟨0x6400, 9, 9, 3, 4, true, 0, 1, 1, 1, 0, 0, 0, 4294967295⟩,
  ⟨0x6500, 1, 1, 3, 4, true, 0, 2, 2, 0, 0, 0, 0, 4294967295⟩,
  ⟨0x6600, 1, 1, 4, 8, true, 0, 1, 1, 1, 1, 536870912, 0, 18446744073709551615⟩,
  ⟨0x6600, 2, 2, 4, 8, true, 1, 3, 3, 1, 0, 134217728, 16777216, 268435456⟩,
  ⟨0x6600, 3, 3, 1, 1, true, 1, 3, 3, 1, 0, 2, 2, 4⟩,
  ⟨0x6600, 4, 4, 3, 4, true, 1, 3, 3, 1, 0, 100000, 1000, 10000000⟩,
  ⟨0x6600, 5, 5, 3, 4, true, 1, 3, 3, 1, 0, 1000, 100, 100000⟩,
  ⟨0x6600, 6, 6, 3, 4, true, 1, 3, 3, 1, 0, 10000, 0, 4294967295⟩,
  ⟨0x6600, 7, 7, 9, 32, true, 0, 1, 1, 1, 0, 0, 0, 0⟩,
  ⟨0x6600, 8, 8, 4, 8, true, 0, 1, 1, 1, 0, 0, 0, 18446744073709551615⟩,
  ⟨0x6600, 9, 9, 4, 8, true, 0, 1, 1, 1, 0, 0, 0, 18446744073709551615⟩,
  ⟨0x6600, 10, 10, 4, 8, true, 0, 1, 1, 1, 0, 0, 0, 18446744073709551615⟩,
  ⟨0x7120, 1, 1, 2, 2, true, 1, 3, 3, 0, 1, 65535, 0, 65535⟩,
  ⟨0x7120, 2, 2, 4, 8, true, 1, 3, 3, 0, 1, 18446744073709551615, 0, 18446744073709551615⟩,
  ⟨0x7120, 3, 3, 1, 1, true, 1, 3, 3, 0, 1, 0, 0, 64⟩,
  ⟨0x7120, 4, 4, 1, 1, true, 1, 3, 3, 0, 1, 0, 0, 62⟩,
  ⟨0x7120, 5, 5, 4, 8, true, 1, 3, 3, 0, 1, 0, 0, 18446744073709551615⟩,
  ⟨0x7120, 6, 6, 2, 2, true, 1, 3, 3, 0, 1, 0, 0, 256⟩,
  ⟨0x7120, 7, 7, 4, 8, true, 1, 3, 3, 0, 1, 0, 0, 18446744073709551615⟩,
  ⟨0x7120, 8, 8, 3, 4, true, 1, 3, 3, 0, 1, 33554432, 0, 4294967295⟩,
  ⟨0x7120, 9, 9, 3, 4, true, 1, 3, 3, 0, 1, 16777216, 0, 4294967295⟩,
  ⟨0x7120, 10, 10, 3, 4, true, 1, 3, 3, 0, 1, 16777215, 0, 4294967295⟩,
  ⟨0x7120, 11, 11, 2, 2, true, 1, 3, 3, 0, 1, 32768, 0, 65535⟩,
  ⟨0x7120, 12, 12, 2, 2, true, 1, 3, 3, 0, 1, 16384, 0, 65535⟩,
  ⟨0x7120, 13, 13, 1, 1, true, 1, 3, 3, 0, 1, 64, 0, 255⟩,
  ⟨0x7120, 14, 14, 2, 2, true, 1, 3, 3, 0, 1, 512, 0, 65535⟩,
  ⟨0x7120, 15, 15, 3, 4, true, 1, 3, 3, 0, 1, 67108864, 0, 4294967295⟩,
  ⟨0x7120, 16, 16, 3, 4, true, 1, 3, 3, 0, 1, 65536, 0, 4294967295⟩,
  ⟨0x7120, 17, 17, 4, 8, true, 1, 3, 3, 0, 1, 536870912, 0, 18446744073709551615⟩,
  ⟨0x7120, 18, 18, 3, 4, true, 1, 3, 3, 0, 1, 65536, 0, 4294967295⟩,
  ⟨0x7120, 19, 19, 3, 4, true, 1, 3, 3, 0, 1, 65536, 0, 4294967295⟩,
  ⟨0x7000, 1, 1, 2, 2, true, 0, 1, 1, 1, 1, 4096, 0, 65535⟩,
  ⟨0x7000, 2, 2, 2, 2, true, 0, 1, 1, 1, 0, 0, 0, 65535⟩,
  ⟨0x7000, 3, 3, 7, 1, true, 2, 3, 1, 1, 0, 0, 0, 1⟩,
  ⟨0x7000, 4, 4, 2, 2, true, 0, 1, 0, 0, 0, 0, 0, 65535⟩,
  ⟨0x7000, 5, 5, 4, 8, true, 0, 1, 1, 1, 0, 0, 0, 18446744073709551615⟩,
  ⟨0x7010, 1, 1, 9, 32, true, 0, 2, 0, 0, 0, 0, 0, 0⟩,
  ⟨0x7010, 2, 2, 3, 4, true, 0, 1, 1, 0, 0, 0, 0, 4294967295⟩,
  ⟨0x7100, 1, 1, 7, 1, true, 0, 1, 1, 0, 1, 0, 0, 255⟩,
  ⟨0x7100, 2, 2, 1, 1, true, 0, 2, 2, 0, 0, 0, 1, 3⟩,
  ⟨0x7110, 1, 1, 9, 64, true, 0, 2, 0, 0, 0, 0, 0, 0⟩,
  ⟨0x7110, 2, 2, 9, 32, true, 0, 2, 0, 0, 0, 0, 0, 0⟩,
  ⟨0x7110, 3, 3, 3, 4, true, 0, 1, 0, 0, 1, 0, 0, 4294967295⟩,
  ⟨0x7110, 4, 4, 3, 4, true, 0, 1, 1, 0, 1, 0, 0, 4294967295⟩,
  ⟨0x7130, 0, 0, 9, 32, true, 1, 3, 3, 0, 1, 0, 0, 0⟩,
  ⟨0x7130, 1, 1, 9, 32, true, 1, 3, 3, 0, 1, 0, 0, 0⟩]

/-- Rows of the entry tables, part 6. -/
def pdRows6 : List PdRow := [
  ⟨0x7130, 2, 2, 4, 8, true, 0, 1, 1, 0, 0, 0, 0, 18446744073709551615⟩,
  ⟨0x7130, 3, 3, 4, 8, true, 0, 1, 1, 0, 0, 0, 0, 18446744073709551615⟩,
  ⟨0x7140, 1, 1, 3, 4, true, 1, 3, 3, 0, 1, 0, 0, 4294967295⟩,
  ⟨0x7300, 1, 1, 3, 4, true, 1, 3, 3, 1, 0, 100, 10, 100000⟩,
  ⟨0x7300, 2, 2, 2, 2, true, 0, 3, 3, 0, 3, 0, 0, 65535⟩,
  ⟨0x7300, 3, 3, 9, 32, true, 0, 1, 1, 0, 1, 0, 0, 0⟩,
  ⟨0x7300, 4, 4, 1, 1, true, 0, 2, 2, 0, 2, 0, 1, 1⟩,
  ⟨0x8000, 1, 1, 3, 4, true, 0, 1, 1, 1, 1, 2000, 0, 4294967295⟩,
  ⟨0x8000, 2, 2, 2, 2, true, 0, 1, 1, 1, 1, 28, 0, 65535⟩,
  ⟨0x8000, 3, 3, 1, 1, true, 0, 3, 0, 3, 0, 1, 0, 1⟩,
  ⟨0x8000, 4, 4, 1, 1, true, 0, 2, 0, 2, 0, 0, 1, 1⟩,
  ⟨0x8000, 5, 5, 1, 1, true, 0, 1, 1, 1, 0, 0, 0, 255⟩,
  ⟨0x8000, 6, 6, 4, 8, true, 0, 1, 1, 1, 0, 0, 0, 18446744073709551615⟩,
  ⟨0x8000, 7, 7, 3, 4, true, 1, 3, 0, 1, 0, 1000, 200, 1800⟩,
  ⟨0x8000, 8, 8, 3, 4, true, 1, 3, 0, 1, 0, 3600, 600, 86400⟩,
  ⟨0x8000, 9, 9, 4, 8, true, 0, 1, 1, 1, 0, 0, 0, 18446744073709551615⟩,
  ⟨0x8000, 10, 10, 1, 1, true, 1, 3, 0, 1, 0, 3, 1, 255⟩,
  ⟨0x8000, 11, 11, 1, 1, true, 1, 3, 0, 1, 0, 3, 1, 255⟩,
  ⟨0x8000, 12, 12, 3, 4, true, 1, 3, 0, 1, 0, 60000, 1000, 86400000⟩,
  ⟨0x8000, 13, 13, 3, 4, true, 1, 3, 0, 1, 0, 1024, 16, 1048576⟩,
  ⟨0x8000, 14, 14, 3, 4, true, 1, 3, 0, 1, 0, 3600, 60, 604800⟩,
  ⟨0x8000, 15, 15, 2, 2, true, 1, 3, 0, 1, 0, 1000, 0, 65535⟩,
  ⟨0x8000, 16, 16, 4, 8, true, 0, 1, 1, 1, 0, 0, 0, 18446744073709551615⟩,
  ⟨0x8100, 0, 27, 3, 4, true, 0, 3, 1, 1, 0, 0, 0, 4294967295⟩,
  ⟨0x8110, 0, 27, 4, 8, true, 0, 1, 1, 1, 0, 0, 0, 18446744073709551615⟩,
  ⟨0x8120, 1, 1, 4, 8, true, 0, 3, 0, 3, 0, 0, 0, 18446744073709551615⟩,
  ⟨0x8120, 2, 2, 9, 64, true, 0, 1, 0, 1, 0, 0, 0, 0⟩,
  ⟨0x8130, 1, 1, 9, 16, true, 0, 2, 0, 0, 0, 0, 0, 0⟩,
  ⟨0x8130, 2, 2, 4, 8, true, 0, 1, 0, 1, 0, 0, 0, 18446744073709551615⟩,
  ⟨0x8200, 1, 1, 4, 8, true, 1, 3, 0, 0, 0, 0, 0, 18446744073709551615⟩,
  ⟨0x8200, 2, 2, 1, 1, true, 1, 3, 0, 0, 0, 10, 6, 16⟩,
  ⟨0x8200, 3, 3, 2, 2, true, 1, 3, 0, 0, 0, 0, 0, 2047⟩,
  ⟨0x8200, 4, 4, 3, 4, true, 0, 3, 0, 0, 0, 0, 0, 4294967295⟩,
  ⟨0x8200, 5, 5, 2, 2, true, 1, 3, 3, 0, 0, 65535, 0, 65535⟩,
  ⟨0x8200, 6, 6, 1, 1, true, 1, 3, 3, 0, 0, 14, 0, 15⟩,
  ⟨0x8200, 7, 7, 4, 8, true, 0, 1, 1, 1, 0, 0, 0, 18446744073709551615⟩,
  ⟨0x8200, 8, 8, 4, 8, true, 0, 3, 3, 3, 0, 0, 0, 18446744073709551615⟩,
  ⟨0x8200, 9, 9, 9, 64, true, 0, 1, 1, 1, 0, 0, 0, 0⟩,
  ⟨0x8200, 10, 10, 4, 8, true, 0, 1, 1, 1, 0, 0, 0, 18446744073709551615⟩,
  ⟨0x8300, 1, 1, 3, 4, true, 3, 3, 0, 1, 0, 10, 2, 100⟩,
  ⟨0x8300, 2, 2, 1, 1, true, 0, 0, 0, 0, 0, 0, 0, 255⟩,
  ⟨0x8300, 3, 3, 4, 8, true, 0, 1, 1, 1, 0, 0, 0, 18446744073709551615⟩,
  ⟨0x8300, 4, 4, 1, 1, true, 1, 3, 0, 1, 0, 8, 1, 64⟩,
  ⟨0x8300, 5, 5, 1, 1, true, 0, 1, 1, 1, 0, 4, 0, 255⟩,
  ⟨0x8400, 1, 1, 1, 1, true, 0, 2, 2, 0, 0, 0, 1, 4⟩,
  ⟨0x8400, 2, 2, 2, 2, true, 0, 3, 3, 0, 0, 0, 0, 4095⟩,
  ⟨0x8400, 3, 3, 3, 4, true, 0, 3, 3, 0, 0, 1000000, 1, 4294967295⟩,
  ⟨0x8400, 4, 4, 3, 4, true, 0, 3, 3, 0, 0, 65536, 0, 4294967295⟩,
  ⟨0x8400, 5, 5, 9, 32, true, 0, 1, 1, 1, 0, 0, 0, 0⟩,
  ⟨0x8410, 1, 1, 2, 2, true, 0, 3, 3, 0, 0, 65535, 0, 65535⟩]

/-- Rows of the entry tables, part 7. -/
def pdRows7 : List PdRow := [
  ⟨0x1000, 1, 1, 8, 10, false, 0, 1, 1, 1, 1, 0, 0, 0⟩,
  ⟨0x1000, 2, 2, 1, 1, true, 0, 1, 1, 1, 1, 177, 0, 255⟩,
  ⟨0x1000, 3, 3, 8, 16, false, 0, 1, 1, 1, 0, 0, 0, 0⟩,
  ⟨0x1000, 4, 4, 3, 4, true, 0, 1, 1, 1, 1, 0, 0, 4294967295⟩,
  ⟨0x1000, 5, 5, 2, 2, true, 0, 1, 1, 1, 1, 0, 0, 65535⟩,
  ⟨0x1000, 6, 6, 2, 2, true, 0, 1, 1, 1, 1, 0, 0, 65535⟩,
  ⟨0x1000, 7, 7, 2, 2, true, 0, 2, 0, 0, 0, 0, 0, 65535⟩,
  ⟨0x1000, 8, 8, 9, 32, true, 0, 1, 1, 1, 1, 0, 0, 0⟩,
  ⟨0x1000, 9, 9, 9, 32, true, 0, 1, 1, 1, 0, 0, 0, 0⟩,
  ⟨0x1000, 10, 10, 3, 4, true, 0, 1, 1, 1, 0, 0, 0, 4294967295⟩,
  ⟨0x1000, 11, 11, 9, 64, true, 0, 1, 1, 1, 1, 0, 0, 0⟩,
  ⟨0x1000, 12, 12, 9, 64, true, 0, 1, 1, 1, 1, 0, 0, 0⟩,
  ⟨0x1000, 13, 13, 4, 8, true, 0, 1, 0, 1, 0, 0, 0, 18446744073709551615⟩,
  ⟨0x1000, 14, 14, 4, 8, true, 0, 3, 0, 3, 0, 0, 0, 18446744073709551615⟩,
  ⟨0x1000, 15, 15, 9, 64, true, 0, 1, 0, 1, 0, 0, 0, 0⟩,
  ⟨0x3700, 1, 1, 3, 4, true, 0, 1, 1, 1, 0, 0, 0, 4294967295⟩,
  ⟨0x3700, 2, 2, 1, 1, true, 0, 3, 0, 1, 0, 0, 0, 1⟩,
  ⟨0x3700, 3, 3, 4, 8, true, 0, 1, 0, 1, 0, 0, 0, 18446744073709551615⟩,
  ⟨0x3710, 0, 15, 9, 16, true, 2, 3, 0, 0, 1, 0, 0, 0⟩,
  ⟨0x1000, 16, 16, 1, 1, true, 0, 1, 1, 1, 1, 1, 0, 255⟩,
  ⟨0x1000, 17, 17, 1, 1, true, 0, 1, 1, 1, 1, 1, 0, 255⟩,
  ⟨0x1000, 18, 18, 1, 1, true, 0, 1, 1, 1, 1, 0, 0, 255⟩,
  ⟨0x1000, 19, 19, 2, 2, true, 0, 1, 1, 1, 1, 257, 0, 65535⟩,
  ⟨0x1000, 20, 20, 4, 8, true, 0, 1, 1, 1, 0, 0, 0, 18446744073709551615⟩,
  ⟨0x1000, 21, 21, 4, 8, true, 0, 1, 1, 1, 0, 0, 0, 18446744073709551615⟩,
  ⟨0x1000, 22, 22, 2, 2, true, 0, 1, 1, 1, 0, 0, 0, 65535⟩,
  ⟨0x4000, 11, 11, 3, 4, true, 1, 3, 3, 1, 0, 100, 1, 10000⟩,
  ⟨0x8300, 6, 6, 1, 1, true, 0, 2, 0, 0, 0, 0, 1, 1⟩,
  ⟨0x5000, 1, 1, 9, 8, true, 0, 2, 0, 0, 0, 0, 0, 0⟩,
  ⟨0x5000, 2, 2, 9, 16, true, 0, 1, 0, 1, 0, 0, 0, 0⟩,
  ⟨0x5000, 3, 3, 9, 32, true, 0, 1, 1, 1, 0, 0, 0, 0⟩,
  ⟨0x5000, 4, 4, 3, 4, true, 1, 3, 0, 0, 0, 65536, 0, 4294967295⟩,
  ⟨0x5100, 1, 1, 3, 4, true, 0, 1, 0, 1, 0, 0, 0, 4294967295⟩,
  ⟨0x5100, 2, 2, 3, 4, true, 0, 1, 0, 1, 0, 0, 0, 4294967295⟩,
  ⟨0x5200, 1, 1, 1, 1, true, 0, 2, 2, 0, 0, 0, 0, 255⟩,
  ⟨0x5210, 0, 11, 9, 32, true, 0, 1, 1, 1, 0, 0, 0, 0⟩,
  ⟨0x9000, 0, 29, 9, 16, true, 0, 1, 1, 1, 0, 0, 0, 0⟩,
  ⟨0x9000, 32, 32, 9, 16, true, 0, 1, 1, 1, 0, 0, 0, 0⟩,
  ⟨0x9000, 33, 33, 9, 8, true, 0, 1, 1, 1, 0, 0, 0, 0⟩,
  ⟨0x9100, 1, 1, 2, 2, true, 0, 3, 3, 3, 0, 0, 0, 65535⟩,
  ⟨0x9100, 2, 2, 9, 16, true, 0, 1, 1, 1, 0, 0, 0, 0⟩,
  ⟨0x9200, 1, 1, 1, 1, true, 0, 1, 1, 1, 0, 0, 0, 255⟩,
  ⟨0x9200, 2, 2, 1, 1, true, 0, 1, 1, 1, 0, 0, 0, 255⟩,
  ⟨0x9200, 3, 3, 3, 4, true, 1, 3, 3, 3, 0, 1500, 600, 1500⟩,
  ⟨0x9200, 4, 4, 1, 1, true, 0, 3, 0, 3, 0, 0, 0, 7⟩,
  ⟨0x9200, 5, 5, 1, 1, true, 0, 3, 0, 3, 0, 4, 1, 7⟩,
  ⟨0x9200, 6, 6, 4, 8, true, 0, 1, 1, 1, 0, 0, 0, 18446744073709551615⟩,
  ⟨0x9200, 7, 7, 2, 2, true, 0, 1, 1, 1, 0, 256, 0, 65535⟩]

/-- Every row of the entry tables. -/
def pdTable : List PdRow :=
  pdRows1 ++ pdRows2 ++ pdRows3 ++ pdRows4 ++ pdRows5 ++ pdRows6 ++ pdRows7

/-- The row that defines an entry (R388). -/
def pdRow (idx sub : Nat) : Option PdRow := pdTable.find? fun r => r.idx == idx && r.lo ≤ sub && sub ≤ r.hi

/-- The domain-scoped indexes (R392). -/
def pdScoped (idx : Nat) : Bool :=
  [0x3200, 0x3410, 0x3510, 0x3520, 0x3710, 0x4210, 0x7100, 0x7110, 0x7120, 0x7130, 0x7140, 0x8410, 0xA020].contains idx

/-- The select entries: those named *_SELECT, and HINT_SEQ (R393). -/
def pdSelect (idx sub : Nat) : Bool :=
  [(0x3100, 1), (0x3110, 1), (0xB020, 1), (0xB120, 1), (0x4100, 1), (0xA010, 1), (0xA030, 1), (0x3520, 1), (0xA100, 2),
   (0x6100, 1), (0x6200, 1), (0x7300, 2), (0x8120, 1), (0x8200, 8), (0x1000, 14), (0x9100, 1)].contains (idx, sub)

/-- Little-endian bytes of 32-bit words. -/
def wordsLe (l : List Nat) : List Byte := l.flatMap (leBytes 4)

/-- Default of SOURCE_REACTION_n: reaction bits, forced bits and class of R322 as R325 places them. -/
def sourceDefault (n : Nat) : Nat :=
  let f : Nat → Nat → Nat → Nat := fun d fo c => d + fo * 256 + c * 65536
  ([f 0 0 0, f 1 0 1, f 1 0 0, f 1 0 1, f 0 0 1, f 1 0 1, f 0 0 1, f 1 0 1, f 0 0 0, f 0 0 1, f 1 0 1, f 1 0 1, f 1 0 1,
    f 1 0 1, f 0 0 0, f 1 0 1, f 1 0 1, f 1 0 1, f 26 24 2, f 1 0 1, f 17 0 1, f 1 0 1, f 1 0 1, f 17 0 1, f 24 24 2,
    f 26 24 2, f 26 24 2, f 24 24 2].getD n 0)

/-- Default value of an entry, as bytes. SLICE_0 is one cache-service slice that holds every unit (R25) in the layout of
log 20. -/
def pdDefault (r : PdRow) (sub : Nat) : List Byte :=
  if r.idx = 0x2100 ∧ sub = 0 then padTo 128 (wordsLe [1])
  else if r.idx = 0x2102 then padTo 64 (wordsLe [0x3F800000])
  else if r.idx = 0x4310 ∧ sub = 0 then leBytes 8 0xFFFFFFFF0FFFFF00
  else if r.idx = 0x8100 then leBytes 4 (sourceDefault sub)
  else if r.ty < 8 then leBytes r.len r.dflt
  else if r.ty = 9 ∧ r.idx ≠ 0x2000 ∧ r.idx ≠ 0x2001 then List.replicate r.len 0
  else []

/-- The value in force of a stored entry: its active copy, or its default (R394). -/
def State.active (s : State) (idx sub dom : Nat) : List Byte :=
  match s.dict.active.find? fun p => p.1 == ⟨idx, sub, dom⟩ with
  | some p => p.2
  | none =>
    match pdRow idx sub with
    | some r => pdDefault r sub
    | none => []

/-- The value in force of a stored scalar entry. -/
def State.num (s : State) (idx sub : Nat) (dom : Nat := 0) : Nat := leNat (s.active idx sub dom)

/-- The value that an entry will have once its shadow copy applies. -/
def State.soon (s : State) (idx sub d : Nat) : Nat :=
  match s.dict.shadow.find? fun p => p.1 == ⟨idx, sub, d⟩ with
  | some p => leNat p.2
  | none => s.num idx sub d

/-- The entries with one key's value replaced. -/
def pdPut (l : List (PdKey × List Byte)) (k : PdKey) (v : List Byte) : List (PdKey × List Byte) :=
  (l.filter fun p => p.1 ≠ k) ++ [(k, v)]

/-- The dictionary with an active copy replaced. -/
def State.setActive (s : State) (k : PdKey) (v : List Byte) : State :=
  { s with dict := { s.dict with active := pdPut s.dict.active k v } }

/-- The CMD entries that govern the commands of a domain (R395): the wait limit, the cut into items, the tiers' limits, every reserve
and quota of slots, and the domain's own quotas, shares and host tier. -/
def governs (dom : Nat) (k : PdKey) : Bool :=
  (k.idx == 0x4000 && k.sub == 7) || (k.idx == 0xB100 && decide (4 ≤ k.sub) && decide (k.sub ≤ 6))
    || (k.idx == 0x3500 && decide (4 ≤ k.sub) && decide (k.sub ≤ 6))
    || k.idx == 0x3200 || (k.dom == dom && (k.idx == 0xA020 || k.idx == 0x3510 || k.idx == 0x7120))

/-- The CMD entries that govern a RING_JOIN besides: the stook buffers and RING_JOIN_LIMIT (R279, R294). -/
def governsRing (k : PdKey) : Bool := k.idx == 0x6600 && decide (2 ≤ k.sub) && decide (k.sub ≤ 4)

/-- The shadow copies that wait for some entries become their active copies (R394, R395). -/
def State.takeShadow (s : State) (f : PdKey → Bool) : State :=
  let s1 := (s.dict.shadow.filter fun p => f p.1).foldl (fun t p => t.setActive p.1 p.2) s
  { s1 with dict := { s1.dict with shadow := s.dict.shadow.filter fun p => !f p.1 } }

/-- An admission reads each CMD entry that governs the command (R395). -/
def State.takeEntries (s : State) (dom : Nat) : State := s.takeShadow (governs dom)

/-- The dictionary with a scalar entry's active copy replaced. -/
def State.setNum (s : State) (idx sub len v : Nat) : State := s.setActive ⟨idx, sub, 0⟩ (leBytes len v)

/-- The value of a counter entry (R435). -/
def State.counter (s : State) (idx sub : Nat) (dom : Nat := 0) : Nat :=
  match s.dict.counters.find? fun p => p.1 == ⟨idx, sub, dom⟩ with
  | some p => p.2
  | none => 0

/-- A counter entry raised by `n`, modulo 2^64 (R435). -/
def State.bump (s : State) (idx sub : Nat) (n : Nat := 1) (dom : Nat := 0) : State :=
  { s with dict := { s.dict with counters :=
      (s.dict.counters.filter fun p => p.1 ≠ ⟨idx, sub, dom⟩) ++
        [(⟨idx, sub, dom⟩, (s.counter idx sub dom + n) % 2 ^ 64)] } }

end Sys2Proof.Machine
end

