-- ==== Sys2Proof/Machine/Update.lean ====
section
/-! DEFINITION. Updates of one part of the state, and the one way in which a command's effect becomes an outcome: the
queue stays and the memories keep their canonical form. -/

namespace Sys2Proof.Machine

/-- The part `power` changed. -/
def State.modPower (s : State) (f : Power → Power) : State := { s with power := f s.power }

/-- The part `boot` changed. -/
def State.modBoot (s : State) (f : Boot → Boot) : State := { s with boot := f s.boot }

/-- The part `link` changed. -/
def State.modLink (s : State) (f : Link → Link) : State := { s with link := f s.link }

/-- The part `dict` changed. -/
def State.modDict (s : State) (f : Dict → Dict) : State := { s with dict := f s.dict }

/-- The part `prof` changed. -/
def State.modProf (s : State) (f : Profile → Profile) : State := { s with prof := f s.prof }

/-- The part `pages` changed. -/
def State.modPages (s : State) (f : Pages → Pages) : State := { s with pages := f s.pages }

/-- The part `seqs` changed. -/
def State.modSeqs (s : State) (f : Seqs → Seqs) : State := { s with seqs := f s.seqs }

/-- The part `queues` changed. -/
def State.modQueues (s : State) (f : Queues → Queues) : State := { s with queues := f s.queues }

/-- The part `sched` changed. -/
def State.modSched (s : State) (f : Sched → Sched) : State := { s with sched := f s.sched }

/-- The part `awns` changed. -/
def State.modAwns (s : State) (f : Awns → Awns) : State := { s with awns := f s.awns }

/-- The part `tiles` changed. -/
def State.modTiles (s : State) (f : Tiles → Tiles) : State := { s with tiles := f s.tiles }

/-- The part `index` changed. -/
def State.modIndex (s : State) (f : Index → Index) : State := { s with index := f s.index }

/-- The part `tier` changed. -/
def State.modTier (s : State) (f : Tier → Tier) : State := { s with tier := f s.tier }

/-- The part `masks` changed. -/
def State.modMasks (s : State) (f : Masks → Masks) : State := { s with masks := f s.masks }

/-- The part `win` changed. -/
def State.modWin (s : State) (f : Window → Window) : State := { s with win := f s.win }

/-- The part `dom` changed. -/
def State.modDom (s : State) (f : Domains → Domains) : State := { s with dom := f s.dom }

/-- The part `xnt` changed. -/
def State.modXnt (s : State) (f : Xnt → Xnt) : State := { s with xnt := f s.xnt }

/-- The part `ring` changed. -/
def State.modRing (s : State) (f : Ring → Ring) : State := { s with ring := f s.ring }

/-- The part `shadow` changed. -/
def State.modShadow (s : State) (f : Shadow → Shadow) : State := { s with shadow := f s.shadow }

/-- The part `faults` changed. -/
def State.modFaults (s : State) (f : Faults → Faults) : State := { s with faults := f s.faults }

/-- The part `therm` changed. -/
def State.modTherm (s : State) (f : Therm → Therm) : State := { s with therm := f s.therm }

/-- The part `test` changed. -/
def State.modTest (s : State) (f : Test → Test) : State := { s with test := f s.test }

/-- The node sends something. -/
def State.emit (s : State) (o : Output) : State := { s with out := s.out ++ [o] }

/-- Bytes written to host memory. -/
def State.hostWrite (s : State) (a : Nat) (l : List Byte) : State := { s with hostMem := Memory.writeBytes s.hostMem a l }

/-- Bytes written to the firmware working memory. -/
def State.nodeWrite (s : State) (a : Nat) (l : List Byte) : State := { s with nodeMem := Memory.writeBytes s.nodeMem a l }

/-- Bytes of the firmware working memory zeroed (R302). -/
def State.nodeClear (s : State) (a n : Nat) : State := { s with nodeMem := Memory.clear s.nodeMem a n }

/-- A memory in canonical form: every cell written in turn. -/
def Memory.canon (m : List Host.Cell) : List Host.Cell := m.foldr (fun c acc => Memory.write acc c.1 c.2) []

/-- The state after a command whose effect turns `s` into `t`: the queue untouched, the memories canonical. -/
def State.sealed (s t : State) : State :=
  { t with
      pending := s.pending, hostMem := Memory.canon t.hostMem, nodeMem := Memory.canon t.nodeMem
      boot := { t.boot with image := Memory.canon t.boot.image } }

/-- The outcome of a command whose effect turns `s` into `t`: always a next state. -/
def State.seal (s t : State) : Host.Outcome State Fault Refusal := .next (s.sealed t)

end Sys2Proof.Machine
end

