-- ==== Sys2Proof/Machine/Ops.lean ====
section
/-! DEFINITION. The named operations over the node's tables and memories: link and domain conditions, Page Map, slots,
sequence pool, references, host-tier units, queue pairs. -/

namespace Sys2Proof.Machine

/-! ## Conditions -/

/-- The firmware has started: the data path runs, also under a firmware held halted (R350). -/
def State.alive (s : State) : Bool := s.boot.st == .running || s.boot.st == .halted

/-- The ROM or the firmware runs: supply good, no warm reset entry under way, RST_N released (R413, R417). -/
def State.romUp (s : State) : Bool := s.power.supply == .good && !s.power.resetEntry && s.power.rstN

/-- The CXL link is up, and the mailbox, the DOE instance and configuration answer (R360, R367). -/
def State.linkUp (s : State) : Bool := s.romUp && s.link.width != 0

/-- The firmware serves the dictionary (R349, R350). -/
def State.mgmtUp (s : State) : Bool := s.boot.st == .running && !s.boot.mgmtRestarting

/-- 64 GT/s at x16 or x8 (R360). -/
def State.linkFull (s : State) : Bool := s.link.speed == 2 && (s.link.width == 16 || s.link.width == 8)

/-- CXL IDE active: both streams Secure (R365). -/
def State.ideActive (s : State) : Bool := s.link.ideIo == 2 && s.link.ideCm == 2

/-- An integrity failure has not yet been followed by new keys for both streams (R365). -/
def State.rekeying (s : State) : Bool := s.link.rekeyIo != 0 || s.link.rekeyCm != 0

/-- IDE_REQUIRED, where set, is met (R365). -/
def State.ideMet (s : State) : Bool := s.num 0x3700 2 == 0 || s.ideActive

/-- The node may issue DMA (R360, R364, R365). -/
def State.dmaOk (s : State) : Bool := s.linkFull && !s.link.viral && s.ideMet && s.power.perstN

/-- STRICT partition mode (R305). -/
def State.strict (s : State) : Bool := s.num 0x7000 3 == 1

/-- A domain in ACTIVE (R298). -/
def State.domActive (s : State) (d : Nat) : Bool :=
  match aget s.dom.doms d with
  | some x => !x.tearing
  | none => false

/-- A domain is a member of a sharing group (R203). -/
def State.inGroup (s : State) (g d : Nat) : Bool :=
  g != 0 && (((aget s.index.groups g).getD []).getD (d / 8) 0).getLsbD (d % 8)

/-- NODE_ID (R275). -/
def State.nodeId (s : State) : Nat := s.num 0x6000 1

/-- The active profile. -/
def State.pr (s : State) : Prof := s.prof.act

/-- A free choice among the numbers that satisfy `ok`: the candidate of the configuration where it does, else `dflt`
(log 5). -/
def State.choose (s : State) (bound : Nat) (ok : Nat → Bool) (dflt : Nat) : Nat :=
  let c := Config.pick s.pages.picks % bound
  if ok c then c else dflt

/-- One more free choice made. -/
def State.picked (s : State) : State := s.modPages fun p => { p with picks := p.picks + 1 }

/-! ## Sequences -/

/-- The Sequence Table entry at an index (R40). -/
def State.seq (s : State) (i : Nat) : SeqEntry := (aget s.seqs.table i).getD {}

/-- The table with an entry replaced. -/
def State.setSeq (s : State) (i : Nat) (e : SeqEntry) : State :=
  s.modSeqs fun q => { q with table := aput q.table i e }

/-- The Sequence ID of an index (R36). -/
def seqIdOf (i : Nat) (e : SeqEntry) : BitVec 64 := BitVec.ofNat 64 (e.gen + i * 2 ^ 16 + e.dom * 2 ^ 48)

/-- INDEX of a Sequence ID (R36). -/
def sidIndex (id : BitVec 64) : Nat := fld id 16 24

/-- GENERATION of a Sequence ID (R36). -/
def sidGen (id : BitVec 64) : Nat := fld id 0 16

/-- DOMAIN of a Sequence ID (R36). -/
def sidDom (id : BitVec 64) : Nat := fld id 48 12

/-- Committed length of a plane (R41). -/
def SeqEntry.len (e : SeqEntry) (p : Nat) : Nat := e.lens.getD p 0

/-- Lengths of the stored planes: every plane, or the key planes under VALUE_FROM_KEY (R40, R75). -/
def SeqEntry.storedLens (e : SeqEntry) (pr : Prof) : List Nat := if pr.stored 1 then e.lens else evens e.lens

/-- MIN_LENGTH (R40). -/
def SeqEntry.minLen (e : SeqEntry) (pr : Prof) : Nat :=
  match e.storedLens pr with
  | [] => 0
  | a :: r => r.foldl Nat.min a

/-- MAX_LENGTH (R40). -/
def SeqEntry.maxLen (e : SeqEntry) (pr : Prof) : Nat := (e.storedLens pr).foldl Nat.max 0

/-- Key of a handle: plane and ordinal. -/
def hkey (plane ord : Nat) : Nat := plane * 2 ^ 32 + ord

/-- Page Map index that a sequence's handle word holds. -/
def SeqEntry.handle (e : SeqEntry) (plane ord : Nat) : Option Nat := aget e.handles (hkey plane ord)

/-- Plane of a handle key. -/
def hplane (k : Nat) : Nat := k / 2 ^ 32

/-- Ordinal of a handle key. -/
def hord (k : Nat) : Nat := k % 2 ^ 32

/-- Row that a page of a plane lies in (R41). -/
def rowOf (pr : Prof) (plane ord : Nat) : Nat := ord * pr.tokens (plane % 2) / pr.align

/-- What a Sequence ID names for a domain (R37). -/
inductive SeqRef where
  | ok (i : Nat)
  | bad
  | ahead
deriving DecidableEq, Repr

/-- R37: the cases in which a Sequence ID is refused, and INCOMING. `anyDom` lets a fork pass the domain check. -/
def State.seqRef (s : State) (id : BitVec 64) (dom : Nat) (anyDom : Bool := false) : SeqRef :=
  let i := sidIndex id
  let e := s.seq i
  if fld id 40 8 ≠ 0 ∨ fld id 60 4 ≠ 0 then .bad
  else if e.gen ≠ sidGen id ∨ e.dom ≠ sidDom id then .bad
  else if !(anyDom || e.dom == dom) then .bad
  else
    match e.st with
    | .free => .bad
    | .retired => .bad
    | .shadowed => .bad
    | .closing => .bad
    | .incoming => .ahead
    | .open_ => .ok i
    | .stalled => .ok i
    | .moving => .ok i

/-- An index may be issued: FREE and unreserved (R38). -/
def State.seqFree (s : State) (i : Nat) : Bool :=
  (s.seq i).st == .free && !(s.seqs.reserved.any fun r => r.1 == i)

/-- The index that SEQ_OPEN takes: one FREE since the cold reset where there is one (a free choice among them, log 5), else
the longest FREE (R38). -/
def State.nextSeqIndex (s : State) : Option Nat :=
  let used := akeys s.seqs.table ++ s.seqs.reserved.map fun r => r.1
  let least := leastFree used 0 (used.length + 1)
  let c := s.choose 16777216 (fun i => !used.contains i) least
  if c < 16777216 ∧ !used.contains c then some c else s.seqs.freed.find? s.seqFree

/-- Indices of a domain that are neither FREE nor RETIRED, reserved ones included (R38). -/
def State.seqsHeld (s : State) (d : Nat) : Nat :=
  (s.seqs.table.filter fun p => p.2.dom == d && p.2.st != .free && p.2.st != .retired).length
    + (s.seqs.reserved.filter fun r => r.2.2 == d).length

/-- The generation of an index advances: it becomes FREE, or RETIRED after 65,535 (R38). -/
def State.retireSeq (s : State) (i : Nat) : State :=
  let e := s.seq i
  if e.gen = 65535 then s.setSeq i { gen := 65535, st := .retired }
  else
    (s.setSeq i { gen := e.gen + 1 }).modSeqs fun q => { q with freed := q.freed.filter (· ≠ i) ++ [i] }

/-! ## Sequence pool -/

/-- Granules of a row record (R41). -/
def Prof.rowGrains (pr : Prof) : Nat := ceilDiv (32 + 4 * pr.rowHandles) 256

/-- Granules of a plane-length block (R41). -/
def Prof.lenGrains (pr : Prof) : Nat := ceilDiv (4 * pr.planes) 256

/-- The first free run of `n` granules at or after `at_` in a list of allocated runs sorted by place. -/
def poolFit (n : Nat) : Nat → List (Nat × Nat × Nat) → Nat
  | at_, [] => at_
  | at_, (f, c, _) :: r => if at_ + n ≤ f then at_ else poolFit n (Nat.max at_ (f + c)) r

/-- A run fits at a place. -/
def poolFree (l : List (Nat × Nat × Nat)) (n a : Nat) : Bool :=
  decide (1 ≤ a) && decide (a + n ≤ 16777216) && l.all fun p => decide (a + n ≤ p.1) || decide (p.1 + p.2.1 ≤ a)

/-- The pool with a run placed in order. -/
def poolAdd (x : Nat × Nat × Nat) : List (Nat × Nat × Nat) → List (Nat × Nat × Nat)
  | [] => [x]
  | y :: r => if x.1 < y.1 then x :: y :: r else y :: poolAdd x r

/-- `n` granules allocated for a domain, at a free choice of places (R41, log 5); `none` when the pool cannot supply them or
the domain's quota is reached (R53, R306). -/
def State.allocGrains (s : State) (n d : Nat) : Option (State × Nat) :=
  let l := s.seqs.pool
  let ff := poolFit n 1 l
  let a := s.choose 16777216 (poolFree l n) ff
  let held := ((l.filter fun p => p.2.2 == d).map fun p => p.2.1).sum
  if poolFree l n a ∧ held + n ≤ s.num 0x7120 0xA d then
    some (s.picked.modSeqs fun q => { q with pool := poolAdd (a, n, d) q.pool }, a)
  else none

/-- The run that starts at a granule freed (zeroed, R302). -/
def State.freeGrains (s : State) (a : Nat) : State :=
  s.modSeqs fun q => { q with pool := q.pool.filter fun p => p.1 ≠ a }

/-! ## Slots -/

/-- Number of page slots (R27). -/
def slotCount : Nat := 22020096

/-- Stack of a slot (R27). -/
def slotStack (n : Nat) : Nat := n / 1835008

/-- Channel of a slot (R27). -/
def slotChan (n : Nat) : Nat := n % 1835008 / 57344

/-- Bank pair of a slot within its channel (R27). -/
def slotBp (n : Nat) : Nat := n % 57344 / 1792

/-- First slot of a bank pair. -/
def bpBase (st ch bp : Nat) : Nat := st * 1835008 + ch * 57344 + bp * 1792

/-- SLICE_n in force (R25, log 20). -/
def State.sliceReg (s : State) (n : Nat) : BitVec 64 := ofBytes 64 (s.active 0x4310 n 0)

/-- Role of a slice: 0 cache service, 1 ring member, 2 prefill assist (log 20). -/
def sliceRole (v : BitVec 64) : Nat := fld v 0 2

/-- Thresher groups of a slice (log 20). -/
def sliceGroups (v : BitVec 64) : Nat := fld v 8 16

/-- Channel groups of a slice (log 20). -/
def sliceChans (v : BitVec 64) : Nat := fld v 24 4

/-- Sub-ports of a slice (log 20). -/
def slicePorts (v : BitVec 64) : Nat := fld v 32 32

/-- A slice holds some unit. -/
def sliceUsed (v : BitVec 64) : Bool := fld v 8 56 != 0

/-- A bank pair may hold pages of a slice and, in strict mode, of a domain (R50, R310). -/
def State.bpAllowed (s : State) (slice d ch bp : Nat) : Bool :=
  (sliceChans (s.sliceReg slice)).testBit (ch / 8)
    && (!s.strict || (s.num 0x7120 5 d).testBit (2 * ch + bp / 16))

/-- A stack is out of service for an awn-stack BIST: its free slots are withdrawn from allocation (R428). -/
def State.stackOut (s : State) (st : Nat) : Bool :=
  match aget s.test.asb st with
  | some a => a.st == 1 || a.st == 2
  | none => false

/-- Slots of a stack with a use. -/
def State.stackUsed (s : State) (st : Nat) : Nat := (s.pages.use.filter fun p => slotStack p.1 == st).length

/-- F: the scrubbed FREE slots (R51). -/
def State.freeSlots (s : State) : Nat :=
  slotCount - s.pages.use.length - (((akeys s.test.asb).filter s.stackOut).map fun st => 1835008 - s.stackUsed st).sum

/-- The domain that holds a slot. -/
def State.slotDomain (s : State) : SlotUse → Option Nat
  | .page p => (aget s.pages.map p).map PageEntry.dom
  | .reserved c => (s.sched.cmds.find? fun x => x.id == c).map Cmd.dom
  | .landing k => (s.xnt.landings.find? fun l => l.key == k).map Landing.dom
  | .scrub _ => none
  | .withdrawn => none

/-- H(d): slots held in DEVICE or HOST_VIEW state, reservations included (R51). -/
def State.slotsHeld (s : State) (d : Nat) : Nat := (s.pages.use.filter fun p => s.slotDomain p.2 == some d).length

/-- `Σ max(0, V(e) − H(e))` over all domains (R51). -/
def State.reserveGap (s : State) : Nat :=
  ((s.dict.active.filter fun p => p.1.idx == 0x3200 && p.1.sub == 2).map fun p =>
    leNat p.2 - s.slotsHeld p.1.dom).sum

/-- R51: a slot may be granted to a domain. In strict mode its own awn groups alone limit it (R310). -/
def State.grantOk (s : State) (d : Nat) : Bool :=
  let h := s.slotsHeld d
  decide (h < s.num 0x3200 1 d)
    && (s.strict || decide (h < s.num 0x3200 2 d) || decide (s.reserveGap + 1 ≤ s.freeSlots))

/-- Free slots of a bank pair. -/
def bpFree (used : List Nat) (st ch bp : Nat) : Nat :=
  1792 - (used.filter fun n => decide (bpBase st ch bp ≤ n) && decide (n < bpBase st ch bp + 1792)).length

/-- The pair of greatest count, ties to the first. -/
def bestOf (l : List (Nat × Nat)) : Option (Nat × Nat) :=
  l.foldl (fun a x => match a with | some b => if b.2 < x.2 then some x else some b | none => some x) none

/-- The slot that R50 takes in a stack, of those a slice and domain may use. -/
def State.slotInStack (s : State) (slice d st : Nat) : Option Nat :=
  if s.stackOut st then none else
  let used := (akeys s.pages.use).filter fun n => slotStack n == st
  let chans := (List.range 32).map fun ch =>
    let uc := used.filter fun n => slotChan n == ch
    (ch, (((List.range 32).filter (s.bpAllowed slice d ch)).map fun bp => bpFree uc st ch bp).sum)
  match bestOf chans with
  | some (ch, n) =>
    if n = 0 then none
    else
      match bestOf (((List.range 32).filter (s.bpAllowed slice d ch)).map fun bp => (bp, bpFree used st ch bp)) with
      | some (bp, _) => some (leastFree used (bpBase st ch bp) 1792)
      | none => none
  | none => none

/-- The slot of R50 for ordinal `j` of plane `p`. -/
def State.findSlot (s : State) (slice d j p : Nat) : Option Nat :=
  (List.range 12).findSome? fun k => s.slotInStack slice d ((j + p + k) % 12)

/-- What a slot is doing set. -/
def State.setUse (s : State) (n : Nat) (u : SlotUse) : State := s.modPages fun p => { p with use := aput p.use n u }

/-- A slot waits in the scrub queue, scrubbed only after the named commands have ended (R45, R54). -/
def State.queueScrub (s : State) (n : Nat) (readers : List Nat) : State := s.setUse n (.scrub readers)

/-- Admitted commands that read a page (R45). -/
def State.readersOf (s : State) (p : Nat) : List Nat := (s.sched.cmds.filter fun c => c.reads.contains p).map Cmd.id

/-! ## Page Map -/

/-- A Page Map entry that is not FREE (R42). -/
def State.page (s : State) (p : Nat) : Option PageEntry := aget s.pages.map p

/-- A Page Map entry replaced. -/
def State.setPage (s : State) (p : Nat) (e : PageEntry) : State := s.modPages fun q => { q with map := aput q.map p e }

/-- A Page Map entry cleared to FREE. -/
def State.delPage (s : State) (p : Nat) : State := s.modPages fun q => { q with map := adel q.map p }

/-- Contents of a slot. -/
def State.slotData (s : State) (n : Nat) : PageData := (aget s.pages.slots n).getD {}

/-- A side record carries its Page Map entry's DOMAIN and SHARE_GROUP (R300). -/
def PageData.tagOk (d : PageData) (e : PageEntry) : Bool := d.dom == e.dom && d.group == e.group

/-- A side record names the page that its Page Map entry does: its tag, LAYER, KV_HEAD, KIND, PAGE_ORDINAL, and the index and
generation of WRITER_SEQ_ID (R300, R331). -/
def PageData.sameAs (d : PageData) (e : PageEntry) : Bool :=
  d.tagOk e && d.layer == e.layer && d.head == e.head && d.kind == e.kind && d.ordinal == e.ordinal
    && sidIndex d.writer == e.writer && sidGen d.writer == e.writerGen

/-- A page after a write: DIRTY where it has a cold copy (R216). -/
def PageData.touch (d : PageData) : PageData := { d with dirty := d.tier != 0 }

/-- Contents of a slot replaced. -/
def State.setSlot (s : State) (n : Nat) (d : PageData) : State := s.modPages fun q => { q with slots := aput q.slots n d }

/-- Contents of a slot zeroed. -/
def State.zeroSlot (s : State) (n : Nat) : State := s.modPages fun q => { q with slots := adel q.slots n }

/-- R44: a domain may access a page. -/
def State.pageAccess (s : State) (d : Nat) (e : PageEntry) : Bool := e.dom == d || s.inGroup e.group d

/-- The page lies in an HBM slot (R43). -/
def PageEntry.inHbm (e : PageEntry) : Bool := e.st == .device || e.st == .hostView

/-- The free Page Map index that an allocation takes (R42; a free choice, log 5). -/
def State.nextPage (s : State) : Option Nat :=
  let used := akeys s.pages.map ++ s.pages.reservedIdx
  let c := s.choose 33554432 (fun i => !used.contains i) (leastFree used 0 (used.length + 1))
  if c < 33554432 then some c else none

/-! ## Cold copies -/

/-- Unit index of a host-tier LOCATION (R42). -/
def locUnit (l : Nat) : Nat := l % 2 ^ 40

/-- Unit count of a host-tier LOCATION (R42). -/
def locCount (l : Nat) : Nat := l / 2 ^ 40 % 16

/-- Node of a remote LOCATION (R42). -/
def locNode (l : Nat) : Nat := l % 4096

/-- Page Map index of a remote LOCATION (R42). -/
def locPage (l : Nat) : Nat := l / 4096 % 2 ^ 25

/-- LOCATION of a run of host-tier units (R42). -/
def hostLoc (first count : Nat) : Nat := first + count * 2 ^ 40

/-- LOCATION of a remote hold (R42). -/
def remoteLoc (node page : Nat) : Nat := node + page * 4096

/-- Runs of units that a domain holds or has reserved (R218). -/
def State.unitRuns (s : State) (d : Nat) : List UnitRun := (aget s.tier.units d).getD []

/-- HOST_TIER_HELD (R236). -/
def State.unitsHeld (s : State) (d : Nat) : Nat := ((s.unitRuns d).map UnitRun.count).sum

/-- The runs of a domain replaced. -/
def State.setUnits (s : State) (d : Nat) (l : List UnitRun) : State :=
  s.modTier fun t => { t with units := if l.isEmpty then adel t.units d else aput t.units d l }

/-- REFS of a table generation: stored coded images and queued coded transfers that name it (R233). -/
def State.tableRefs (s : State) (id gen : Nat) : Nat :=
  (s.tier.coded.filter fun c => c.2.2.1 == id && c.2.2.2 == gen).length
    + (s.sched.cmds.map fun c => (c.jobs.filter fun j => j.table == some (id, gen)).length).sum

/-- A table record stays: it has references, or it is CURRENT and its sequence lives (R234). -/
def State.tableLives (s : State) (r : CodeTable) : Bool :=
  let e := s.seq (sidIndex r.seq)
  decide (0 < s.tableRefs r.id r.gen)
    || (r.st == 1 && e.gen == sidGen r.seq && e.st != .free && e.st != .retired)

/-- R234: RETAINED generations without references and CURRENT ones whose sequence is gone become FREE. -/
def State.sweepTables (s : State) : State :=
  s.modTier fun t => { t with tables := t.tables.filter s.tableLives }

/-- A run of units of a domain's region freed, its coded image forgotten (R218, R234). -/
def State.freeUnits (s : State) (d first : Nat) : State :=
  ((s.setUnits d ((s.unitRuns d).filter fun r => r.first ≠ first)).modTier fun t =>
    { t with coded := t.coded.filter fun c => ¬ (c.1 = d ∧ c.2.1 = first) }).sweepTables

/-- The first free run of `n` units in `[lo, hi)`; runs are sorted by place (R218). -/
def unitFit (n hi : Nat) : Nat → List UnitRun → Option Nat
  | lo, [] => if lo + n ≤ hi then some lo else none
  | lo, r :: l =>
    if lo + n ≤ hi ∧ lo + n ≤ r.first then some lo
    else unitFit n hi (Nat.max lo (r.first + r.count)) l

/-- Runs sorted by place. -/
def unitAdd (x : UnitRun) : List UnitRun → List UnitRun
  | [] => [x]
  | y :: r => if x.first < y.first then x :: y :: r else y :: unitAdd x r

/-- A run of `n` units reserved for a domain: first-fit from its cursor, then from unit 0 up to it (R218). -/
def State.reserveUnits (s : State) (d n : Nat) : Option (State × Nat) :=
  let total := s.num 0x3510 2 d
  let cur := anat s.tier.cursor d
  let runs := s.unitRuns d
  match (unitFit n total cur runs).or (unitFit n total 0 runs) with
  | some a =>
    some ((s.setUnits d (unitAdd ⟨a, n⟩ runs)).modTier fun t => { t with cursor := aput t.cursor d (a + n) }, a)
  | none => none

/-- A reserved run shortened to the units its image uses (R218). -/
def State.trimUnits (s : State) (d first n : Nat) : State :=
  s.setUnits d ((s.unitRuns d).map fun r => if r.first = first then ⟨first, n⟩ else r)

/-- DMA_REGION_n in force (R366). -/
def State.dmaRegion (s : State) (d n : Nat) : BitVec 128 := ofBytes 128 (s.active 0x3710 n d)

/-- A region covers a range with the rights asked for (R366). -/
def regionCovers (r : BitVec 128) (addr len : Nat) (rd wr : Bool) : Bool :=
  let b := fld r 0 64
  let n := 4096 * fld r 64 40
  n != 0 && decide (b ≤ addr) && decide (addr + len ≤ b + n) && (!rd || bit r 104) && (!wr || bit r 105)

/-- A range lies wholly inside one region of a domain with the rights (R366). -/
def State.dmaCovers (s : State) (d addr len : Nat) (rd wr : Bool) : Bool :=
  (List.range 16).any fun n => regionCovers (s.dmaRegion d n) addr len rd wr

/-- The domain has a key pair and a host-tier region inside one of its DMA regions with both rights (R219). -/
def State.tierReady (s : State) (d : Nat) : Bool :=
  (match aget s.dom.doms d with | some x => !x.xtsKey.isEmpty | none => false)
    && s.num 0x3510 2 d != 0
    && s.dmaCovers d (s.num 0x3510 1 d) (4096 * s.num 0x3510 2 d) true true

/-! ## Queue pairs -/

/-- A queue pair (R248). -/
def State.qp (s : State) (n : Nat) : Qp := (aget s.xnt.qps n).getD {}

/-- A queue pair replaced. -/
def State.setQp (s : State) (n : Nat) (q : Qp) : State := s.modXnt fun x => { x with qps := aput x.qps n q }

/-- A queue pair changed. -/
def State.modQp (s : State) (n : Nat) (f : Qp → Qp) : State := s.setQp n (f (s.qp n))

/-- ROLE is MGMT (R248). -/
def Qp.isMgmt (q : Qp) : Bool := fld q.cfg 0 2 == 1

/-- DOMAIN of a QP (R248). -/
def Qp.dom (q : Qp) : Nat := fld q.cfg 4 12

/-- PEER_NODE (R248). -/
def Qp.peerNode (q : Qp) : Nat := fld q.cfg 16 12

/-- PEER_QP (R248). -/
def Qp.peerQp (q : Qp) : Nat := fld q.cfg 32 16

/-- Payload bytes per packet (R240). -/
def Qp.mtu (q : Qp) : Nat := 1024 * 2 ^ q.pmtu

/-- ADDR extension header (R244). -/
def addrExt (idx gen off len : Nat) : List Byte := leBytes 2 idx ++ leBytes 1 gen ++ [0] ++ leBytes 8 off ++ leBytes 4 len

/-- IMM extension header (R244). -/
def immExt (v : Nat) : List Byte := leBytes 4 v ++ leBytes 4 0

/-- RESP extension header (R244). -/
def respExt (msn off len : Nat) : List Byte := leBytes 3 msn ++ [0] ++ leBytes 4 off ++ leBytes 4 len ++ leBytes 4 0

/-- SVC header (R270). -/
def svcHdr (svc reason tag count : Nat) (seq : BitVec 64) (key gen : Nat) : List Byte :=
  leBytes 1 svc ++ leBytes 1 reason ++ leBytes 2 tag ++ leBytes 4 count ++ leBytes 8 seq.toNat ++ leBytes 2 key
    ++ leBytes 1 gen ++ leBytes 13 0

/-- The pieces of a payload: at least one (R243). -/
def pieces (mtu : Nat) (payload : List Byte) : List (List Byte) :=
  if payload.isEmpty then [[]] else chunks mtu payload.length payload

/-- The packets of one message, in order (R242 to R244). `ext` gives the extension headers of the packet at an offset,
`true` for the last. -/
def msgPackets (q : Qp) (op : Nat) (ext : Nat → Bool → List Byte) (payload : List Byte) : List TxPkt :=
  let ps := pieces q.mtu payload
  ps.mapIdx fun i p =>
    let last := i + 1 == ps.length
    { psn := (q.txPsn + i) % 2 ^ 24, msn := q.txMsn, op := op, first := i == 0, last := last,
      ext := ext (i * q.mtu) last, payload := p }

/-- A message queued on a QP in RTS; nothing on a QP in another state (R243, R249). `own` is one more than the number of the
command that it serves, `src` one more than the key of the region it answers from, 0 for none (R261, R266). -/
def State.send (s : State) (qp op : Nat) (ext : Nat → Bool → List Byte) (payload : List Byte) (own src : Nat := 0) : State :=
  let q := s.qp qp
  if q.st = .rts then
    let ps := (msgPackets q op ext payload).map fun p => { p with own := own, src := src }
    s.setQp qp { q with tx := q.tx ++ ps, txPsn := (q.txPsn + ps.length) % 2 ^ 24, txMsn := (q.txMsn + 1) % 2 ^ 24 }
  else s

/-- A WRITE to a peer region (R243). -/
def State.sendWrite (s : State) (qp key gen off : Nat) (payload : List Byte) (own : Nat := 0) : State :=
  s.send qp 1 (fun o _ => addrExt key gen (off + o) payload.length) payload own

/-- A WRITE_IMM to a peer region (R243). -/
def State.sendImm (s : State) (qp key gen off imm : Nat) (payload : List Byte) : State :=
  s.send qp 2 (fun o last => addrExt key gen (off + o) payload.length ++ if last then immExt imm else []) payload

/-- A READ_REQ (R243, R263). -/
def State.sendRead (s : State) (qp key gen off len : Nat) : State :=
  s.send qp 3 (fun _ _ => addrExt key gen off len) []

/-- A SERVICE message (R270). -/
def State.sendSvc (s : State) (qp : Nat) (hdr payload : List Byte) (own : Nat := 0) : State :=
  s.send qp 5 (fun _ _ => hdr) payload own

/-- A MGMT message (R273). -/
def State.sendMgmt (s : State) (qp : Nat) (payload : List Byte) : State := s.send qp 6 (fun _ _ => []) payload

/-- The DATA QP of a domain in RTS to a node: the lowest-numbered (log 24). -/
def State.qpTo (s : State) (d node : Nat) : Option Nat :=
  (s.xnt.qps.find? fun p => p.2.st == .rts && !p.2.isMgmt && p.2.dom == d && p.2.peerNode == node).map Prod.fst

/-- A hold on another node released: the message goes out, and the release stays open until it is acknowledged or lost
(R225). -/
def State.releaseHold (s : State) (d node page : Nat) : State :=
  let tag := s.pages.picks % 65536
  let s1 := s.picked.modTier fun t => { t with releases := t.releases ++ [⟨node, page, tag⟩] }
  match s.qpTo d node with
  | some q => s1.sendSvc q (svcHdr 5 0 tag 1 0 0 0) (leBytes 4 page)
  | none => s1

/-- The cold copy of a page in HBM released (R216, R225). -/
def State.dropCold (s : State) (owner : Nat) (d : PageData) : State :=
  if d.tier = 1 then s.freeUnits owner (locUnit d.cold)
  else if d.tier = 2 then s.releaseHold owner (locNode d.cold) (locPage d.cold)
  else s

/-! ## References -/

/-- A page whose REFCOUNT reached 0 (R54): its entry is cleared, its slot waits for the scrub, its cold copy is released. A
HOST_VIEW page stays until PAGE_UNVIEW (R46). -/
def State.freePage (s : State) (p : Nat) (e : PageEntry) : State :=
  match e.st with
  | .hostView => s.setPage p { e with refs := 0 }
  | .device =>
    let s1 := s.dropCold e.dom (s.slotData e.loc)
    (s1.delPage p).queueScrub e.loc (s.readersOf p)
  | .swapped => (s.delPage p).freeUnits e.dom (locUnit e.loc)
  | .remote => (s.delPage p).releaseHold e.dom (locNode e.loc) (locPage e.loc)

/-- One reference to a page dropped (R54). -/
def State.dropRef (s : State) (p : Nat) : State :=
  match s.page p with
  | some e => if e.refs ≤ 1 then s.freePage p e else s.setPage p { e with refs := e.refs - 1 }
  | none => s

/-- One reference to a page added (R47). -/
def State.addRef (s : State) (p : Nat) : State :=
  match s.page p with
  | some e => s.setPage p { e with refs := e.refs + 1 }
  | none => s

/-- References to several pages dropped. -/
def State.dropRefs (s : State) (l : List Nat) : State := l.foldl State.dropRef s

/-- The granules of the rows and of the plane-length block of a sequence freed (R56). -/
def State.freeSeqGrains (s : State) (e : SeqEntry) : State :=
  let s1 := (e.rows.map Prod.snd ++ e.indexPtrs).foldl State.freeGrains s
  if e.lenPtr = 0 then s1 else s1.freeGrains e.lenPtr

/-- A sequence closed: references dropped, granules freed, generation advanced, its tables swept (R56, R234). -/
def State.closeSeq (s : State) (i : Nat) : State :=
  let e := s.seq i
  (((s.dropRefs (e.handles.map Prod.snd)).freeSeqGrains e).retireSeq i).sweepTables

/-! ## Commands in the table -/

/-- An admitted command by its number. -/
def State.cmd (s : State) (id : Nat) : Option Cmd := s.sched.cmds.find? fun c => c.id == id

/-- An admitted command replaced. -/
def State.setCmd (s : State) (c : Cmd) : State :=
  s.modSched fun q => { q with cmds := q.cmds.map fun x => if x.id = c.id then c else x }

/-- A submission queue changed. -/
def State.modSq (s : State) (n : Nat) (f : Sq → Sq) : State :=
  s.modQueues fun q => { q with sqs := amod q.sqs n f }

/-- A completion queue changed. -/
def State.modCq (s : State) (n : Nat) (f : Cq → Cq) : State :=
  s.modQueues fun q => { q with cqs := amod q.cqs n f }

/-- Depth of a queue. -/
def sqDepth (cfg : BitVec 256) : Nat := 2 ^ fld cfg 32 5

/-- Depth of a completion queue. -/
def cqDepth (cfg : BitVec 256) : Nat := 2 ^ fld cfg 16 5

end Sys2Proof.Machine
end

