-- ==== Sys2Proof/Machine/Flags.lean ====
section
/-! DEFINITION. What the node reports: status codes and completions (R175 to R177), event records, the node log and the
host event ring (R339 to R347), fault sources and their reactions (R322 to R329), and the release of what a command
holds. -/

namespace Sys2Proof.Machine

/-! ## Status codes (R177) -/

/-- ST_OK. -/
abbrev stOk : Nat := 0x00
/-- ST_MALFORMED. -/
abbrev stMalformed : Nat := 0x01
/-- ST_BAD_PARAM. -/
abbrev stBadParam : Nat := 0x02
/-- ST_DENIED. -/
abbrev stDenied : Nat := 0x03
/-- ST_BAD_SEQ. -/
abbrev stBadSeq : Nat := 0x04
/-- ST_BAD_POSITION. -/
abbrev stBadPosition : Nat := 0x05
/-- ST_SEQ_FULL. -/
abbrev stSeqFull : Nat := 0x06
/-- ST_NO_PAGE. -/
abbrev stNoPage : Nat := 0x07
/-- ST_BUSY. -/
abbrev stBusy : Nat := 0x08
/-- ST_PROFILE. -/
abbrev stProfile : Nat := 0x09
/-- ST_PRECISION. -/
abbrev stPrecision : Nat := 0x0A
/-- ST_WINDOW_FULL. -/
abbrev stWindowFull : Nat := 0x0B
/-- ST_MASK_FULL. -/
abbrev stMaskFull : Nat := 0x0C
/-- ST_INDEX_FULL. -/
abbrev stIndexFull : Nat := 0x0D
/-- ST_EPOCH_STALE. -/
abbrev stEpochStale : Nat := 0x0E
/-- ST_EPOCH_AHEAD. -/
abbrev stEpochAhead : Nat := 0x0F
/-- ST_REDIRECT. -/
abbrev stRedirect : Nat := 0x10
/-- ST_PART_FAIL. -/
abbrev stPartFail : Nat := 0x11
/-- ST_TIER_FAIL. -/
abbrev stTierFail : Nat := 0x12
/-- ST_TIER_LATE. -/
abbrev stTierLate : Nat := 0x13
/-- ST_BUF_ACCESS. -/
abbrev stBufAccess : Nat := 0x14
/-- ST_ABORTED. -/
abbrev stAborted : Nat := 0x15
/-- ST_LAP_ABORT. -/
abbrev stLapAbort : Nat := 0x16

/-- What a check answers: a status with its cause and results (R177). -/
structure Fail where
  st : Nat
  cause : Nat := 0
  r0 : Nat := 0
  r1 : Nat := 0
deriving DecidableEq, Repr, Inhabited

/-! ## Island numbers (R340) -/

/-- Scheduler. -/
abbrev islSched : Nat := 0x200
/-- Prefix Index engine. -/
abbrev islIndex : Nat := 0x201
/-- Tier engine. -/
abbrev islTier : Nat := 0x202
/-- Edge. -/
abbrev islEdge : Nat := 0x203
/-- Host link. -/
abbrev islHost : Nat := 0x204
/-- Management. -/
abbrev islMgmt : Nat := 0x205
/-- Fault collector. -/
abbrev islCollector : Nat := 0x206
/-- Regulator monitor. -/
abbrev islReg : Nat := 0x207

/-! ## Event records -/

/-- Bytes 0 to 59 of a record with a phase (R339). -/
def EventRec.body (e : EventRec) (phase : Bool) : List Byte :=
  leBytes 8 e.seq
    ++ leBytes 4 (e.code + e.cls * 2 ^ 16 + b2n e.dom.isSome * 2 ^ 18 + b2n e.injected * 2 ^ 19 + b2n phase * 2 ^ 20)
    ++ leBytes 4 (e.island + e.dom.getD 0 * 2 ^ 16)
    ++ leBytes 8 e.ticks.toNat ++ leBytes 4 (toCode 16 e.temp) ++ leBytes 4 e.load.toNat ++ leBytes 4 e.unit
    ++ padTo 24 e.detail

/-- The 64 bytes of a record (R339): its CRC takes PHASE as 0. -/
def EventRec.bytes (e : EventRec) (phase : Bool) : List Byte :=
  e.body phase ++ leBytes 4 (crc32c (e.body false)).toNat

/-- The last temperature of an island, 0 before its first reading (R339, log 17). -/
def State.islandTemp (s : State) (island : Nat) : Int := (aget s.therm.readings island).getD 0

/-- A physical tile. -/
def State.tile (s : State) (t : Nat) : TileInfo := s.tiles.status.getD t {}

/-- CLOCK_STEP of an island: the throttling step of a tile whose frequency lies below 2.0 GHz (R341, R422). -/
def State.clockStep (s : State) (island : Nat) : Nat := if island < 72 ∧ (s.tile island).mhz < 2000 then s.therm.step else 0

/-- A LOAD_SIG: CLOCK_STEP is the island's; UTIL, STEP and OP are free (R341, log 5). -/
def State.loadSig (s : State) (island n : Nat) : BitVec 32 :=
  ((Config.fresh n).setWidth 32 &&& 0x00F0FFFF#32) ||| BitVec.ofNat 32 (s.clockStep island * 2 ^ 16)

/-- A record formed and placed in the node log, which keeps the newest 65,536 (R339, R346). TICKS are free (log 5). -/
def State.logEvent (s : State) (code cls : Nat) (dom : Option Nat) (island unit : Nat) (detail : List Byte)
    (injected : Bool) : State × EventRec :=
  let f := s.faults
  let e : EventRec :=
    { seq := f.seq + 1, code := code, cls := cls, dom := dom, injected := injected, island := island,
      ticks := Config.fresh f.freshCtr, temp := s.islandTemp island,
      load := s.loadSig island (f.freshCtr + 1), unit := unit, detail := detail }
  let l := f.log ++ [e]
  (s.modFaults fun q =>
    { q with seq := q.seq + 1, freshCtr := q.freshCtr + 2, log := l.drop (l.length - 65536) }, e)

/-- Records that the host event ring holds (R347). -/
def State.ringDepth (s : State) : Nat := 2 ^ s.num 0x8200 2

/-- The ring can take a record now. -/
def State.ringRoom (s : State) : Bool := s.dmaOk && decide (s.faults.ringCount < s.ringDepth)

/-- A record written to the host event ring, with its interrupt (R347). -/
def State.ringWrite (s : State) (e : EventRec) : State :=
  let f := s.faults
  let s1 := s.hostWrite (s.num 0x8200 1 + 64 * f.ringTail) (e.bytes f.ringPhase)
  let last := f.ringTail + 1 == s.ringDepth
  let s2 := s1.modFaults fun q =>
    { q with
        ringTail := if last then 0 else q.ringTail + 1
        ringPhase := if last then !q.ringPhase else q.ringPhase
        ringCount := q.ringCount + 1, ringMsi := false }
  if f.ringMsi then s2.emit (.msix (s.num 0x8200 3)) else s2

/-- A record missed by the ring is counted and its SEQ remembered (R347). -/
def State.ringMiss (s : State) (e : EventRec) : State :=
  (s.bump 0x8200 7).modFaults fun q => { q with missed := some ((q.missed.map Prod.fst).getD e.seq, e.seq) }

/-- Two numbers as two words of eight bytes, the form of every DETAIL (R343). -/
def words8 (l : List Nat) : List Byte := l.flatMap (leBytes 8)

/-- A record gathered for the next event frame, when the manager asked for its class (R347, R403). -/
def State.gatherEvent (s : State) (e : EventRec) : State :=
  if s.num 0x8200 5 ≠ 0xFFFF ∧ (s.num 0x8200 6).testBit e.cls then
    s.modFaults fun q => { q with gather := q.gather ++ [e] }
  else s

/-- When space has returned after missed records, one EVENTS_OVERFLOW record is written (R347). -/
def State.ringResume (s : State) : State :=
  match s.faults.missed with
  | some (a, b) =>
    if s.ringRoom then
      let (s1, e) := s.logEvent 0x0112 0 none islCollector 0 (words8 [a, b]) false
      ((s1.modFaults fun q => { q with missed := none }).ringWrite e).gatherEvent e
    else s
  | none => s

/-- A record delivered to the host event ring and to the fabric manager (R347). Address 0 disables the ring. -/
def State.deliver (s : State) (e : EventRec) : State :=
  let s1 :=
    if s.num 0x8200 1 = 0 then s
    else
      let r := s.ringResume
      if r.faults.missed.isNone && r.ringRoom then r.ringWrite e else r.ringMiss e
  s1.gatherEvent e

/-- An operational event: logged, and delivered whatever its class (R343). Its CLASS is 0 (log 25). -/
def State.note (s : State) (code : Nat) (dom : Option Nat) (island unit : Nat) (detail : List Nat) : State :=
  let s0 := if s.num 0x8200 1 = 0 then s else s.ringResume
  let (s1, e) := s0.logEvent code 0 dom island unit (words8 detail) false
  s1.deliver e

/-! ## Items and tiles -/

/-- A physical tile changed. -/
def State.modTile (s : State) (t : Nat) (f : TileInfo → TileInfo) : State :=
  s.modTiles fun q => { q with status := q.status.modify t f }

/-- The physical tile of a logical tile (R159); 256 + p stands for the spare tile p that re-runs an item (R156). -/
def State.physTile (s : State) (l : Nat) : Nat := if 256 ≤ l then l - 256 else s.tiles.groupMap.getD l 255

/-- An item holds a tile. -/
def Item.onTile (it : Item) : Bool := it.st == .placed || it.st == .running

/-- The stripes of an item can run: it holds a tile, or its stripes need none. -/
def Item.issues (it : Item) : Bool := it.onTile || it.st == .writing

/-- Two items belong to one row set of a request's head (R143), over one origin on the ring (R287), also where R146 halved one. -/
def Item.meets (a b : Item) : Bool := a.cmd == b.cmd && a.op == b.op && a.org == b.org && a.head == b.head && a.set0 == b.set0

/-- The items of an item's row set (R143, R149). -/
def State.rowSet (s : State) (it : Item) : List Item := s.sched.items.filter it.meets

/-- A collection is that of an item's row set. -/
def Collect.holds (c : Collect) (it : Item) : Bool :=
  c.cmd == it.cmd && it.op == .score && c.org == it.org && c.head == it.head && c.row0 == it.set0

/-- Granules released on a physical tile wait for the zero-fill; lane sets are free at once (R152). -/
def State.freeTile (s : State) (phys granules sets : Nat) : State :=
  s.modTile phys fun t => { t with zeroing := t.zeroing + granules, sets := Nat.min 4 (t.sets + sets) }

/-- The resources of an item given back (R152). -/
def State.freeItem (s : State) (it : Item) : State :=
  if it.onTile then s.freeTile (s.physTile it.tile) it.granules it.sets else s

/-- The tag that a stripe tag carries (R83, R147). -/
def stripeItem (tag : Nat) : Nat := tag % 16384

/-- An item's tag stays dead while its stripes run; scores that a base die holds for it are discarded, and its re-runs go (R147). -/
def State.deadTag (s : State) (it : Item) : State :=
  let s1 := s.modAwns fun a =>
    { a with held := a.held.filter fun h => fld h.2 32 14 ≠ it.tag, reruns := a.reruns.filter fun r => stripeItem r.1 ≠ it.tag }
  if s1.awns.stripes.any fun x => stripeItem x.tag == it.tag then
    s1.modSched fun q => { q with deadTags := q.deadTags.filter (· ≠ it.tag) ++ [it.tag] }
  else s1

/-- An item of the scoreboard changed. -/
def State.modItem (s : State) (tag : Nat) (f : Item → Item) : State :=
  s.modSched fun q => { q with items := q.items.map fun x => if x.tag = tag then f x else x }

/-- One item back to waiting; while stripes issued under its tag run, it takes another tag (R147, R192). Stripes that need no tile
wait on their stacks again. -/
def State.requeueOne (s : State) (it : Item) : State :=
  let s1 := (s.freeItem it).deadTag it
  let tags := s1.sched.items.map Item.tag ++ s1.sched.deadTags
  let tag := if s1.sched.deadTags.contains it.tag then leastFree tags (if it.tag < 16384 then 0 else 16384) (tags.length + 1)
    else it.tag
  s1.modItem it.tag fun x =>
    if x.op ≠ .score ∧ tag < 16384 then
      { x with tag := tag, st := .writing, stripes := List.range x.slots.length, trailers := [] }
    else { x with tag := tag, st := .waiting, stripes := [], trailers := [] }

/-- An item killed and returned to the scoreboard with its command; of a CHAINED row set, every item (R149, R192). -/
def State.requeue (s : State) (it : Item) : State :=
  if it.chained then
    (s.rowSet it).foldl State.requeueOne s
  else s.requeueOne it

/-- Items killed and returned to the scoreboard. -/
def State.requeueAll (s : State) (l : List Item) : State :=
  l.foldl (fun t it => match t.sched.items.find? fun x => x.tag == it.tag && x.cmd == it.cmd && x.issues with
    | some x => t.requeue x
    | none => t) s

/-- Collections given up with their granules. -/
def State.dropCollects (s : State) (f : Collect → Bool) : State :=
  ((s.sched.collects.filter f).foldl (fun t c => t.freeTile (t.physTile c.tile) c.granules 0) s).modSched fun q =>
    { q with collects := q.collects.filter fun c => !f c }

/-- Items removed with their command. -/
def State.dropItems (s : State) (id : Nat) : State :=
  let l := s.sched.items.filter fun it => it.cmd == id
  ((l.foldl (fun t it => (t.freeItem it).deadTag it) s).modSched fun q =>
    { q with items := q.items.filter fun it => it.cmd ≠ id }).dropCollects fun c => c.cmd == id

/-! ## Fault sources -/

/-- ID of a source (R322). -/
def srcId : FaultSource → Nat
  | .arrayCe => 0x00 | .arrayUe => 0x01 | .channelPredict => 0x02 | .channelLoss => 0x03 | .awnCheck => 0x04
  | .awnSweep => 0x05 | .tileCheck => 0x06 | .tileSweep => 0x07 | .sramCe => 0x08 | .sramUe => 0x09 | .pageCrc => 0x0A
  | .identity => 0x0B | .coverage => 0x0C | .outputCrc => 0x0D | .linkCe => 0x0E | .linkUe => 0x0F
  | .indexDigest => 0x10 | .domainStateUe => 0x11 | .tableUe => 0x12 | .checkerLate => 0x13 | .clockIsland => 0x14
  | .hostLink => 0x15 | .mgmtHang => 0x16 | .mgmtStorm => 0x17 | .mgmtImage => 0x18 | .thermalCrit => 0x19
  | .powerFault => 0x1A | .collector => 0x1B

/-- Class of a source: 0 corrected, 1 contained, 2 fatal (R322). -/
def srcClass (n : Nat) : Nat := sourceDefault n / 65536

/-- FORCED bits of a source (R322). -/
def srcForced (n : Nat) : Nat := sourceDefault n / 256 % 256

/-- The source has a block island (R322). -/
def srcBlock (n : Nat) : Bool := [0x04, 0x05, 0x06, 0x07, 0x09, 0x0C, 0x0D, 0x15, 0x16].contains n

/-- Items with a stripe that runs on a stack. -/
def State.itemsOnStack (s : State) (stack : Nat) : List Item :=
  let tags := (s.awns.stripes.filter fun x => x.stack == stack).map fun x => stripeItem x.tag
  s.sched.items.filter fun it => it.issues && tags.contains it.tag

/-- BLOCK_RESET of a source's island: its items are killed and requeued (R327). Of the host link the tier transfers have
failed by the containment already; the management cores are restarted by it. -/
def State.blockReset (s : State) (src island : Nat) : State :=
  if [0x06, 0x07, 0x09, 0x0D].contains src then
    s.requeueAll (s.sched.items.filter fun it => it.onTile && s.physTile it.tile == island)
  else if src = 0x0C then s.requeueAll (s.sched.items.filter Item.onTile)
  else if (src = 0x04 ∨ src = 0x05) ∧ 0x100 ≤ island then
    let tags := (s.awns.stripes.filter fun x => x.stack + 0x100 == island).map fun x => stripeItem x.tag
    let s1 := s.requeueAll (s.itemsOnStack (island - 0x100))
    let s2 := s1.modAwns fun a => { a with stripes := a.stripes.filter fun x => x.stack + 0x100 ≠ island }
    let live : Nat → Bool := fun t => !tags.contains t || s2.awns.stripes.any fun x => stripeItem x.tag == t
    s2.modSched fun q => { q with deadTags := q.deadTags.filter live }
  else s

/-- ERR_N asserted: a pulse begins, or the assertion is counted (R329, log 111). -/
def State.assertErrn (s : State) : State :=
  if s.faults.errn = 0 then s.modFaults fun q => { q with errn := 1 } else s.bump 0x8000 6

/-- A unit of a corrected source: its island and its number there (R324). -/
def ceUnit (island unit : Nat) : Nat := island + unit * 2 ^ 16

/-- The record of a source's event is logged: always for a contained or fatal one; for a corrected one the first of the
unit, then CE_LOG_LIMIT a second (R324). -/
def State.logsEvent (s : State) (src unit : Nat) : Bool :=
  srcClass src != 0 || !(s.faults.ceUnits.contains (src, unit))
    || decide (anat s.faults.ceLogged src < s.num 0x8000 0xF)

/-- An event counted and, where R324 asks for it, its logging remembered. -/
def State.countSource (s : State) (src unit : Nat) : State :=
  let s1 := s.bump 0x8110 src
  if srcClass src = 0 then
    if s.faults.ceUnits.contains (src, unit) then
      if anat s.faults.ceLogged src < s.num 0x8000 0xF then
        s1.modFaults fun q => { q with ceLogged := abump q.ceLogged src 1 }
      else s1
    else s1.modFaults fun q => { q with ceUnits := q.ceUnits ++ [(src, unit)] }
  else s1

/-- The sequence that wrote a page, as DETAIL names it; 0 where it is not known (R343). -/
def State.pageSeq (s : State) (p : Nat) : Nat :=
  match s.page p with
  | some e => e.writerGen + e.writer * 2 ^ 16 + e.dom * 2 ^ 48
  | none => 0

/-- The sequence of an item's command, as DETAIL names it; 0 where it is not known (R343). -/
def State.itemSeq (s : State) (it : Item) : Nat :=
  match s.cmd it.cmd with
  | some c => fld c.desc 64 64
  | none => 0

/-- DETAIL of a fault at a page, if one is known: its Page Map index and its sequence (R343). -/
def State.pageDetail (s : State) (page : Option Nat) : List Nat :=
  match page with
  | some p => [p, s.pageSeq p]
  | none => [0, 0]

/-- Class field of a source's record: 1 corrected, 2 contained, 3 fatal (R339). -/
def recClass (src : Nat) : Nat := srcClass src + 1

/-- A source's event at the collector, in the order of R327: count and log, containment, block reset, interrupt, ERR_N,
chip reset pending. NMI traps the management cores, whose firmware is not modelled. The containment sees the event's LOAD_SIG,
a free value where no record is logged (log 5). A node without power, or held in reset, takes no event. -/
def State.raise (s : State) (src island unit : Nat) (dom : Option Nat) (detail : List Nat) (injected : Bool)
    (contain : BitVec 32 → State → State) : State :=
  if !s.romUp then s else
  let s0 := s.ringResume
  let r := s.num 0x8100 src
  let logged := s0.logsEvent src (ceUnit island unit)
  let s1 := s0.countSource src (ceUnit island unit)
  let p := if logged then s1.logEvent src (recClass src) dom island unit (words8 detail) injected else (s1, {})
  let s2 := if injected then p.1.bump 0x8130 2 else p.1
  let s3 := contain (if logged then p.2.load else s2.loadSig island s2.faults.freshCtr) s2
  let s4 := if r.testBit 2 then s3.blockReset src island else s3
  let s5 := if logged && r.testBit 0 then s4.deliver p.2 else s4
  let s6 := if r.testBit 4 then s5.assertErrn else s5
  if r.testBit 3 then
    s6.modBoot fun b =>
      { b with chipReset := true, chipSource := if b.chipReset then b.chipSource else src,
               clearTables := b.clearTables || src == 0x12 }
  else s6

/-- An injection names a unit and a path (R345). -/
def Inject.names (i : Inject) (island unit path : Nat) : Bool :=
  fld i.value 0 12 == island && fld i.value 16 32 == unit && fld i.value 48 4 == path

/-- The first injection of a list that meets a condition, used for one operation; `keep` says which used ones stay. -/
def useInject (hit keep : Inject → Bool) : List Inject → List Inject
  | [] => []
  | i :: r =>
    if hit i then
      let j := { i with left := i.left - 1 }
      if keep j then j :: r else r
    else i :: useInject hit keep r

/-- The operation of a unit meets an injection armed for one of its paths: whether it does, and the state with one operation of it
used (R345). -/
def State.takeInject (s : State) (island unit path : Nat) : Bool × State :=
  let hit : Inject → Bool := fun i => i.names island unit path && decide (0 < i.left)
  if s.faults.inject.any hit then
    (true, s.modFaults fun q => { q with inject := useInject hit (fun i => decide (0 < i.left)) q.inject })
  else (false, s)

/-- A unit's checker is disabled for this operation (R345): PATH 1. The record of the injection stays for the checker's sweep. -/
def State.checkOff (s : State) (island unit : Nat) : Bool × State :=
  let hit : Inject → Bool := fun i => i.names island unit 1 && decide (0 < i.left)
  if s.faults.inject.any hit then (true, s.modFaults fun q => { q with inject := useInject hit (fun _ => true) q.inject })
  else (false, s)

/-- The sweep of a checker that an injection has disabled since its last one fails (R87, R333, R345). -/
def State.sweepOff (s : State) (island unit : Nat) : Bool × State :=
  let hit : Inject → Bool := fun i => i.names island unit 1
  if s.faults.inject.any hit then
    (true, s.modFaults fun q => { q with inject := useInject hit (fun i => decide (0 < i.left)) q.inject })
  else (false, s)

/-- A flit of a unit with an injection armed on its link is damaged, and its retry passes (R330, R345): PATH 3. -/
def State.linkOff (s : State) (island unit : Nat) : State :=
  let (inj, t) := s.takeInject island unit 3
  if inj then t.raise 0x0E island unit none [] true fun _ x => x else t

/-! ## Low-water events -/

/-- PAGE_LOW posted when F falls below the low-water mark, and armed again above the hysteresis (R58). -/
def State.lowCheck (s : State) : State :=
  let f := s.freeSlots
  if s.pages.lowArmed && decide (f < s.num 0x3000 8) then
    (s.modPages fun p => { p with lowArmed := false }).note 0x0102 none islSched 0 [f]
  else if !s.pages.lowArmed && decide (s.num 0x3000 8 + s.num 0x3000 9 < f) then
    s.modPages fun p => { p with lowArmed := true }
  else s

/-! ## The Prefix Index's slots (R199 to R201, R211, R213) -/

/-- Slots and entries of a bank, in slot order. -/
def State.bank (s : State) (b : Nat) : List (Nat × IdxEntry) := s.index.entries.filter fun p => p.1 / 131072 == b

/-- INDEX_BANK_HOLES_MIN (R215). -/
def State.holesMin (s : State) : Nat :=
  (List.range 64).foldl (fun a b => Nat.min a (131072 - (s.bank b).length)) 131072

/-- INDEX_LOW posted and armed again (R213). -/
def State.indexCheck (s : State) : State :=
  let h := s.holesMin
  if s.index.lowArmed && decide (h < s.num 0xA000 4) then
    (s.modIndex fun x => { x with lowArmed := false }).note 0x0108 none islIndex 0 [h]
  else if !s.index.lowArmed && decide (2 * s.num 0xA000 4 < h) then s.modIndex fun x => { x with lowArmed := true }
  else s

/-- The entries replaced. -/
def State.setIndex (s : State) (l : List (Nat × IdxEntry)) : State := s.modIndex fun x => { x with entries := l }

/-- A run's entries at its start and its holes at its end (R200); `g` and `k` are the run and the place of the entry before. -/
def packRuns : Nat → Nat → List (Nat × IdxEntry) → List (Nat × IdxEntry)
  | _, _, [] => []
  | g, k, p :: r =>
    let n := if p.1 / 64 = g then k else 0
    (p.1 / 64 * 64 + n, p.2) :: packRuns (p.1 / 64) (n + 1) r

/-- Entries of given slots become holes (R200, R213). -/
def State.makeHoles (s : State) (f : IdxEntry → Bool) : State :=
  if s.index.entries.any fun p => f p.2 then
    (s.setIndex (packRuns 0 0 (s.index.entries.filter fun p => !f p.2))).indexCheck
  else s

/-- Removed entries that no earlier FIND reads any more become holes (R211). -/
def State.dropHoles (s : State) : State :=
  s.makeHoles fun x => match x.gone with | some l => !(l.any fun id => s.sched.cmds.any fun c => c.id == id) | none => false

/-! ## Completions -/

/-- A completion without its PHASE (R175). -/
def completion (tag sq head st cause count r0 r1 : Nat) : BitVec 256 :=
  BitVec.ofNat 256 (tag + sq * 2 ^ 16 + head * 2 ^ 32 + st * 2 ^ 48 + cause % 256 * 2 ^ 56 + count % 2 ^ 32 * 2 ^ 96
    + r0 % 2 ^ 64 * 2 ^ 128 + r1 % 2 ^ 64 * 2 ^ 192)

/-- An entry with the queue's phase. -/
def withPhase (e : BitVec 256) (p : Bool) : List Byte := leBytes 32 (e.toNat + b2n p * 2 ^ 64)

/-- The CQ after an entry was written: tail and phase advance, and a reserved slot is used (R175, R176). -/
def Cq.advance (q : Cq) : Cq :=
  let last := q.tail + 1 == cqDepth q.cfg
  { q with tail := if last then 0 else q.tail + 1, phase := if last then !q.phase else q.phase,
           reserved := q.reserved - 1 }

/-- An entry written into a HOST ring, with its interrupt (R176). -/
def State.postHost (s : State) (cq : Nat) (q : Cq) (e : BitVec 256) : State :=
  let int := bit q.cfg 22 && q.msi
  let s1 := (s.hostWrite (fld q.cfg 64 64 + 32 * q.tail) (withPhase e q.phase)).modCq cq fun x =>
    { x.advance with msi := x.msi && !int }
  if int then s1.emit (.msix (fld q.cfg 48 11)) else s1

/-- An entry sent to a FABRIC ring by a write-with-immediate (R176). -/
def State.postFabric (s : State) (cq : Nat) (q : Cq) (e : BitVec 256) : State :=
  (s.sendImm (fld q.cfg 32 16) (fld q.cfg 128 16) (fld q.cfg 144 8) (fld q.cfg 64 64 + 32 * q.tail)
    (q.tail + fld e 48 8 * 2 ^ 16) (withPhase e q.phase)).modCq cq Cq.advance

/-- A CQ may take an entry now: its ring, which holds depth − 1 entries (R168), has room, and a HOST ring's link allows DMA. -/
def State.cqTakes (s : State) (q : Cq) : Bool :=
  decide ((q.tail + cqDepth q.cfg - q.head) % cqDepth q.cfg < cqDepth q.cfg - 1) && (bit q.cfg 21 || s.dmaOk)

/-- A completion posted to a CQ. While its ring is full or the host link allows no DMA it waits (R172, R360, log 26). -/
def State.post (s : State) (cq : Nat) (e : BitVec 256) : State :=
  match aget s.queues.cqs cq with
  | none => s
  | some q =>
    if s.cqTakes q && q.held.isEmpty then (if bit q.cfg 21 then s.postFabric cq q e else s.postHost cq q e)
    else s.modCq cq fun x => { x with held := x.held ++ [e] }

/-- A CQ's held completions written in order, as far as it takes them. -/
def State.flushHeld (s : State) (cq : Nat) : List (BitVec 256) → State
  | [] => s
  | e :: r =>
    match aget s.queues.cqs cq with
    | none => s
    | some q =>
      if s.cqTakes q then
        let t := s.modCq cq fun x => { x with held := r }
        State.flushHeld (if bit q.cfg 21 then t.postFabric cq { q with held := r } e else t.postHost cq { q with held := r } e) cq r
      else s

/-- Held completions of one CQ written in order. -/
def State.flushCq (s : State) (cq : Nat) : State := s.flushHeld cq (((aget s.queues.cqs cq).map Cq.held).getD [])

/-- DMA is possible again: held completions are written, and the event ring resumes (R347, R360). -/
def State.dmaBack (s : State) : State :=
  if s.dmaOk then ((akeys s.queues.cqs).foldl State.flushCq s).ringResume else s

/-- A completion counted: every one, ST_TIER_FAIL and ST_TIER_LATE also in their own counters (R196, R236). -/
def State.countDone (s : State) (st : Nat) : State :=
  let s1 := s.bump 0x4000 0xA
  if st = stTierFail then s1.bump 0x3500 7 else if st = stTierLate then s1.bump 0x3500 8 else s1

/-- A PREFIX_FIND that completes is counted, whatever its status (R215). -/
def State.countFind (s : State) (d : Desc) : State := if fld d 0 8 = 0x30 then s.bump 0xA000 9 else s

/-- A descriptor that was not admitted completes with a status (R164, R173, R195). -/
def State.completeDesc (s : State) (sq cq head : Nat) (d : Desc) (f : Fail) : State :=
  ((s.modCq cq fun q => { q with reserved := q.reserved + 1 }).post cq
    (completion (fld d 16 16) sq head f.st f.cause 0 f.r0 f.r1)).countDone f.st |>.countFind d

/-! ## Channels and awns (R104, R108, R109) -/

/-- Physical channel that serves a logical one (R108). -/
def State.physChan (s : State) (stack l : Nat) : Nat :=
  match s.awns.chanMap.find? fun m => m.1 == stack && m.2.1 == l with
  | some m => m.2.2
  | none => l

/-- Logical channel that a physical one serves. -/
def State.logChan (s : State) (stack p : Nat) : Option Nat := (List.range 32).find? fun l => s.physChan stack l == p

/-- Where the collector keeps a unit: HIST_SELECT's island and unit (R344, R356). -/
def unitKey (island unit : Nat) : Nat := island + unit * 2 ^ 16

/-- Stands for no unit in the patrol's queue: a page that failed an input check was detected against none (R148). -/
def noUnit : Nat := unitKey 0xFFF 0

/-- UNIT of a channel: AWN_SELECT with no awn named (R108, R109). -/
def chanUnit (stack p : Nat) : Nat := stack + p * 2 ^ 8 + 63 * 2 ^ 16

/-- UNIT of an awn: its AWN_SELECT value (R108). -/
def awnUnit (stack p a : Nat) : Nat := stack + p * 2 ^ 8 + a * 2 ^ 16
/-- Stack of an AWN_SELECT value. -/
def uStack (u : Nat) : Nat := u % 16
/-- Physical channel of an AWN_SELECT value. -/
def uChan (u : Nat) : Nat := u / 2 ^ 8 % 64
/-- Awn of an AWN_SELECT value. -/
def uAwn (u : Nat) : Nat := u / 2 ^ 16 % 64

/-- Status of an awn at its reset: an active position serves its own bank pair, a spare none (R104, R109). -/
def awnReset (u : Nat) : AwnInfo := if uAwn u < 32 then { servesA := uAwn u } else { st := 1, servesA := 63 }

/-- Status of an awn (R109). -/
def State.awn (s : State) (u : Nat) : AwnInfo := (aget s.awns.awns u).getD (awnReset u)

/-- An awn's status changed. -/
def State.modAwn (s : State) (u : Nat) (f : AwnInfo → AwnInfo) : State :=
  s.modAwns fun a => { a with awns := aput a.awns u (f (s.awn u)) }

/-- Awn group of an awn within its channel (R104). -/
def awnGroup (a : Nat) : Nat := if a < 32 then a / 16 else a - 32

/-- The 17 awns of a group, working positions first. -/
def groupAwns (g : Nat) : List Nat := (List.range 16).map (16 * g + ·) ++ [32 + g]

/-- The awns of a group that are not retired. -/
def State.groupWorking (s : State) (stack p g : Nat) : List Nat :=
  (groupAwns g).filter fun a => (s.awn (awnUnit stack p a)).st != 2

/-- A bank pair can be scored and scrubbed: some awn of its group works (R104, R105). -/
def State.bpWorks (s : State) (stack l bp : Nat) : Bool := !(s.groupWorking stack (s.physChan stack l) (bp / 16)).isEmpty

/-- The awn that serves a bank pair: one that names it, else the lowest working awn of the group, else its own (R104). -/
def State.awnOf (s : State) (stack l bp : Nat) : Nat :=
  let p := s.physChan stack l
  let w := s.groupWorking stack p (bp / 16)
  let serves : Nat → Bool := fun a =>
    let x := s.awn (awnUnit stack p a)
    x.st == 0 && (x.servesA == bp || x.servesB == bp)
  awnUnit stack p (((w.find? serves).or w.head?).getD bp)

/-- A physical channel has left service. -/
def State.chanGone (s : State) (stack p : Nat) : Bool := s.awns.chanDead.contains (stack, p)

/-- A slot's channel and awn group work: it can be scored, written and scrubbed (R105, R106). -/
def State.slotWorks (s : State) (n : Nat) : Bool :=
  !s.chanGone (slotStack n) (s.physChan (slotStack n) (slotChan n)) && s.bpWorks (slotStack n) (slotChan n) (slotBp n)

/-! ## What a command holds -/

/-- A slot that a command had reserved becomes free; one whose channel or awn group has gone meanwhile is withdrawn (R105, R106). -/
def State.freeReserved (s : State) (n : Nat) : State :=
  s.modPages fun p =>
    { p with use := if s.slotWorks n then adel p.use n else aput p.use n .withdrawn, slots := adel p.slots n }

/-- A reserved slot that its command does not commit passes through the scrub queue: one that it reclaimed (R52), the target of a
NARROW (R89), one that an append's stripes write, and one into which a page was landed (R54, R222). -/
def Cmd.scrubs (c : Cmd) (n : Nat) : Bool :=
  c.reclaimed.contains n || c.cls == 4 || c.issued || c.jobs.any fun j => j.slot == some n && j.data.isSome

/-- The unit runs of a swap-out that ends without its commit: those whose writes may be under way stay held, and a flushing
read goes out behind them; the others are free (R218). -/
def State.limboUnits (s0 : State) (c : Cmd) : State :=
  let s := (c.jobs.filter fun j => j.units != 0 && !(j.buf || j.done)).foldl (fun t j => t.freeUnits c.dom j.unitAt) s0
  let l := c.jobs.filter fun j => j.units != 0 && (j.buf || j.done)
  match l.getLast? with
  | none => s
  | some j =>
    (s.modTier fun t => { t with limbo := t.limbo ++ l.map fun x => (c.id, c.dom, x.unitAt) }).emit
      (.flushRead (s.num 0x3510 1 c.dom + 4096 * (j.unitAt + Nat.max 1 j.used - 1)))

/-- The flushing read behind a killed command has returned, or the link was reset: its runs are free (R218). -/
def State.endLimbo (s : State) (f : Nat → Bool) : State :=
  let l := s.tier.limbo.filter fun x => f x.1
  l.foldl (fun t x => t.freeUnits x.2.1 x.2.2) (s.modTier fun t => { t with limbo := t.limbo.filter fun x => !f x.1 })

/-- What a PAGE_MIGRATE leaves when it ends without its commit: the holds of its finished exchanges are released (R271); its
move ends, and the sequence is OPEN (R272). -/
def State.dropMigrate (s : State) (c : Cmd) : State :=
  if fld c.desc 0 8 ≠ 0x42 then s
  else if bit c.desc 477 then
    let mine := s.xnt.moves.filter fun m => m.cmd == some c.id
    let s1 := s.modXnt fun x => { x with moves := x.moves.filter fun m => m.cmd != some c.id }
    mine.foldl (fun t m => if (t.seq m.seq).st = .moving then t.setSeq m.seq { t.seq m.seq with st := .open_ } else t) s1
  else if bit c.desc 478 then s
  else (c.jobs.filter PageJob.done).foldl (fun t j => t.releaseHold c.dom (fld c.desc 480 12) j.landing) s

/-- The reservations of a command released (R178): slots, Page Map indices, granules, sequence index, redirect record,
host-tier units, PENDING index entries and BUSY pages; a close that did not commit leaves its sequence open. -/
def State.releaseCmd (s : State) (c : Cmd) : State :=
  let slots := (s.pages.use.filter fun p => p.2 == .reserved c.id).map Prod.fst
  let s1 := slots.foldl (fun t n => if c.scrubs n then (t.zeroSlot n).queueScrub n [] else t.freeReserved n) s
  let idxs := c.writes.map PageWrite.page
  let s2 := s1.modPages fun p =>
    { p with
        reservedIdx := p.reservedIdx.filter fun i => !idxs.contains i
        map := p.map.map fun e => if e.2.busy = some c.id then (e.1, { e.2 with busy := none }) else e }
  let s3 := (c.grains.map Prod.snd).foldl State.freeGrains s2
  let s4 := s3.modSeqs fun q =>
    { q with reserved := q.reserved.filter fun r => r.2.1 ≠ c.id, moveReserved := q.moveReserved.filter (· ≠ c.id) }
  let sc := match c.seq with
    | some i => if fld c.desc 0 8 = 4 ∧ (s4.seq i).st = SeqSt.closing then
        s4.setSeq i { s4.seq i with st := if c.r0 = 2 then SeqSt.stalled else SeqSt.open_ } else s4
    | none => s4
  let sa := sc.modAwns fun a => { a with undo := a.undo.filter fun u => u.cmd ≠ c.id }
  let s5 := (sa.limboUnits c).dropMigrate c
  let pend := s5.index.entries.filter fun e => e.2.st == 2 && e.2.cmd == c.id
  (s5.makeHoles fun e => e.st == 2 && e.cmd == c.id).dropRefs (pend.map fun e => e.2.anchor)

/-- The command leaves the command table. -/
def State.removeCmd (s : State) (id : Nat) : State :=
  s.modSched fun q => { q with cmds := q.cmds.filter fun c => c.id ≠ id }

/-! ## Shadow session (R352 to R354) -/

/-- SHADOW_QP of a domain, where it is mirrored (R351). -/
def State.mirrorQp (s : State) (d : Nat) : Option Nat :=
  if s.num 0x8410 1 d = 0xFFFF then none else some (s.num 0x8410 1 d)

/-- SHADOW_STATE posted (R354). -/
def State.shadowNote (s : State) : State := s.note 0x0113 none islMgmt 0 [s.shadow.st, s.shadow.matched]

/-- Shadowed sequences and mirrored mask objects of a shadow closed and scrubbed (R352). -/
def State.shadowScrub (s : State) : State :=
  let idx := (s.shadow.seqs.map sidIndex).filter fun i => (s.seq i).st == .shadowed
  (idx.foldl State.closeSeq s).modMasks fun m =>
    { m with objs := m.objs.filter fun o => (s.mirrorQp o.2.dom).isNone }

/-- The session is active (R352). -/
def State.shadowOn (s : State) : Bool := decide (1 ≤ s.shadow.st) && decide (s.shadow.st ≤ 4)

/-- The mirrored domains, lowest first (R351). -/
def State.mirroredDoms (s : State) : List Nat := (akeys s.dom.doms).filter fun d => (s.mirrorQp d).isSome

/-- The QP of the lowest mirrored domain (R351). -/
def State.shadowQp (s : State) : Option Nat := s.mirroredDoms.head?.bind s.mirrorQp

/-- The session FAILED with a cause: SHADOW_END goes to the peer with the cause in REASON (log 28), a shadow scrubs, and
SHADOW_STATE is posted (R352, R354). FAIL_SEQ is the SEQ of that record. -/
def State.shadowFail (s : State) (cause : Nat) : State :=
  if !s.shadowOn then s
  else
    let s1 := (s.modShadow fun x => { x with st := 6, failCause := cause, sentDigests := [], copying := [] }).modXnt fun x =>
      { x with moves := x.moves.filter fun m => !m.shadow }
    let s2 := s1.shadowNote
    let s3 := s2.modShadow fun x => { x with failSeq := s2.faults.seq }
    let s4 := match s3.shadowQp with
      | some q => s3.sendSvc q (svcHdr 0x33 cause 0 0 0 0 0) []
      | none => s3
    if s.shadow.isShadow then s4.shadowScrub else s4

/-- The commands that are mirrored and compared (R353). -/
def mirrored (op : Nat) : Bool := [0x01, 0x02, 0x03, 0x04, 0x10, 0x11, 0x20, 0x21, 0x50].contains op

/-- The digest of a command (R354). -/
def cmdDigest (c : Cmd) (e : BitVec 256) : List Byte :=
  let op := fld c.desc 0 8
  let r0 := if op = 1 ∨ op = 2 ∨ (op = 0x50 ∧ fld c.desc 384 8 = 0) then leBytes 8 0 else slice (leBytes 32 e.toNat) 16 8
  (sha256 (leBytes 6 0 ++ slice (leBytes 32 e.toNat) 6 2 ++ leBytes 4 0 ++ slice (leBytes 32 e.toNat) 12 4 ++ r0
    ++ slice (leBytes 32 e.toNat) 24 8 ++ c.output)).take 16

/-- A shadowed sequence leaves the session: SHADOW_DROPPED counts it, and a SHADOW_END that names it tells the shadow (R353). -/
def State.shadowDrop (s : State) (d : Nat) (id : BitVec 64) : State :=
  let s1 := s.modShadow fun x => { x with seqs := x.seqs.filter (· ≠ id), dropped := x.dropped + 1 }
  match s1.mirrorQp d with
  | some q => s1.sendSvc q (svcHdr 0x33 0 0 1 id 0 0) []
  | none => s1

/-- SHADOW_CMD sent: descriptor, completion, digest and input (R353); more commands under way than SHADOW_LAG_LIMIT fail the
session (R354). -/
def State.sendMirror (s : State) (q : Nat) (c : Cmd) (e : BitVec 256) : State :=
  let s1 := (s.sendSvc q (svcHdr 0x31 0 (c.id % 65536) 0 (c.desc.extractLsb' 64 64) 0 0)
    (leBytes 128 c.desc.toNat ++ leBytes 32 e.toNat ++ cmdDigest c e ++ c.input)).modShadow fun x => { x with lag := x.lag + 1 }
  if s1.num 0x8400 4 < s1.shadow.lag then s1.shadowFail 4 else s1

/-- The primary mirrors a command that commits with ST_OK (R352, R353). -/
def State.mirrorPrimary (s : State) (c : Cmd) (e : BitVec 256) : State :=
  let op := fld c.desc 0 8
  let id : BitVec 64 := c.desc.extractLsb' 64 64
  match s.mirrorQp c.dom with
  | none => s
  | some q =>
    if [0x40, 0x41, 0x42, 0x51].contains op || (op == 0x20 && s.ring.sq == c.sq && decide (2 ≤ s.ring.st)) then if s.shadow.seqs.contains id then s.shadowDrop c.dom id else s
    else if !mirrored op then s
    else if (op = 2 ∨ (id ≠ 0 ∧ op ≠ 1)) ∧ ¬ s.shadow.seqs.contains id then
      if op = 2 ∧ s.shadow.st = 1 then s.modShadow fun x => { x with copying := x.copying ++ [fld e 144 24] } else s
    else
      let new : BitVec 64 := e.extractLsb' 128 64
      let s1 := s.modShadow fun x =>
        { x with seqs := if op = 1 ∨ op = 2 then x.seqs ++ [new] else if op = 4 then x.seqs.filter (· ≠ id) else x.seqs }
      s1.sendMirror q c e

/-- The shadow compares the digest of a command it has run, and answers SHADOW_CMD with COUNT 1 where they match (R354,
log 28). -/
def State.mirrorShadow (s : State) (c : Cmd) (e : BitVec 256) : State :=
  let want := (aget s.shadow.sentDigests c.id).getD []
  let got := cmdDigest c e
  let s1 := s.modShadow fun x => { x with sentDigests := adel x.sentDigests c.id }
  if fld e 48 8 ≠ stOk then s1.shadowFail 3
  else if got = want then
    let s2 := s1.modShadow fun x => { x with matched := x.matched + 1 }
    match s2.mirrorQp c.dom with
    | some q => s2.sendSvc q (svcHdr 0x31 0 c.tag 1 0 0 0) got
    | none => s2
  else
    (s1.note 0x0114 (some c.dom) islMgmt 0
      [fld c.desc 64 64 + fld c.desc 0 8 * 2 ^ 40, leNat (want.take 8), leNat (got.take 8)]).shadowFail 1

/-- The part of a shadow session in the end of a command: `cls` 3 marks a command that a shadow runs for its primary. -/
def State.mirror (s : State) (c : Cmd) (e : BitVec 256) : State :=
  if c.cls = 3 then s.mirrorShadow c e
  else if s.shadowOn && !s.shadow.isShadow && fld e 48 8 == stOk then s.mirrorPrimary c e
  else s

/-- The answer to a RECODE_NARROW (R89): its domain, sequence, plane and ordinal with the status and cause. The manual names no
channel for it (log 107). -/
def State.recodeDone (s : State) (c : Cmd) (f : Fail) : State :=
  s.emit (.recoded c.dom (c.desc.extractLsb' 64 64) (fld c.desc 384 13) (fld c.desc 416 32) f.st f.cause)

/-- The references that the readers of a moved sequence's cold pages held, dropped once those have ended (R22). -/
def State.sweepLingering (s : State) : State :=
  let gone : Nat × List Nat → Bool := fun x => !(x.2.any fun id => (s.cmd id).isSome)
  (s.modSeqs fun q => { q with lingering := q.lingering.filter fun x => !gone x }).dropRefs
    ((s.seqs.lingering.filter gone).map Prod.fst)

/-- An admitted command ends: its items and reservations go and its completion is posted (R175, R178). `cls` 3 is a command that
a shadow runs, 4 a RECODE_NARROW, 5 a seal that a stopping ring makes (R292): none has a completion queue. -/
def State.endCmd (s : State) (c : Cmd) (f : Fail) (count : Nat := 0) : State :=
  let s1 := ((((s.dropItems c.id).releaseCmd c).removeCmd c.id).sweepLingering.sweepTables.dropHoles).countFind c.desc
  let e := completion (fld c.desc 16 16) c.sq c.sqHead f.st f.cause count f.r0 f.r1
  if c.cls = 3 then s1.mirror c e
  else if c.cls = 4 then s1.recodeDone c f
  else if c.cls = 5 then s1
  else ((s1.post c.cq e).countDone f.st).mirror c e

/-- An admitted command ends with ST_OK. -/
def State.endOk (s : State) (c : Cmd) (count r0 r1 : Nat) : State := s.endCmd c ⟨stOk, 0, r0, r1⟩ count

end Sys2Proof.Machine
end

