-- ==== Sys2Proof/Machine/Stripe.lean ====
section
/-! DEFINITION. Stripes on the awns: channels and awns that serve a bank pair (R104, R108, R109), tokens (R95, R96, R312), and the
start of waiting stripes (R79, R86, R94, R96). -/

namespace Sys2Proof.Machine

/-! ## Order -/

/-- An element placed in ascending order of its key, after equals. -/
def insertBy {α : Type} (key : α → Nat) (x : α) : List α → List α
  | [] => [x]
  | y :: r => if key x < key y then x :: y :: r else y :: insertBy key x r

/-- A list in ascending order of a key. -/
def sortBy {α : Type} (key : α → Nat) (l : List α) : List α := l.foldl (fun a x => insertBy key x a) []

/-- Queue priority from high to low, then admission order. -/
def prioKey (it : Item) : Nat := (15 - it.prio) * 2 ^ 48 + it.cmd

/-! ## Bank pairs (R93, R94) -/

/-- A stripe runs on a bank pair. -/
def State.bpBusy (s : State) (stack l bp : Nat) : Bool :=
  s.awns.stripes.any fun x => x.stack == stack && x.ch == l && x.bp == bp

/-- A stripe runs on a logical channel. -/
def State.chanBusy (s : State) (stack l : Nat) : Bool := s.awns.stripes.any fun x => x.stack == stack && x.ch == l

/-- Where a bank pair's refresh is kept. -/
def bpKey (stack ch bp : Nat) : Nat := stack * 1024 + ch * 32 + bp

/-- Refresh of a bank pair. -/
def State.refreshOf (s : State) (stack ch bp : Nat) : BpRefresh := (aget s.awns.refresh (bpKey stack ch bp)).getD {}

/-- Refresh of a bank pair replaced. -/
def State.setRefresh (s : State) (stack ch bp : Nat) (r : BpRefresh) : State :=
  s.modAwns fun a => { a with refresh := aput a.refresh (bpKey stack ch bp) r }

/-- A bank pair takes an access: no stripe and no refresh runs on it (R93, R94). -/
def State.bpIdle (s : State) (stack ch bp : Nat) : Bool := !s.bpBusy stack ch bp && !(s.refreshOf stack ch bp).running

/-! ## Tokens (R95, R96, R312) -/

/-- Thermal token limit of a throttling step (R422). -/
def thermTokens (step : Nat) : Nat := [256, 224, 192, 160, 128, 96, 64, 32].getD step 32

/-- Effective token count of every stack (R95). -/
def State.tokens (s : State) : Nat := Nat.min (s.num 0xB000 2) (thermTokens s.therm.step)

/-- Tokens of a stack in use: one for each running stripe. -/
def State.tokensHeld (s : State) (stack : Nat) : Nat := (s.awns.stripes.filter fun x => x.stack == stack).length

/-- AWN_TOKEN_SHARE of a domain in force (R312). -/
def State.tokenShare (s : State) (d : Nat) : Nat :=
  let share := s.num 0x7120 6 d
  let sum := ((akeys s.dom.doms).map fun x => s.num 0x7120 6 x).sum
  let bg := s.num 0xB000 4
  if s.tokens < sum + bg then Nat.max 1 (share * (s.tokens - bg) / sum) else share

/-- Tokens that a domain's stripes hold on a stack. -/
def State.tokensOf (s : State) (stack d : Nat) : Nat :=
  (s.awns.stripes.filter fun x => x.stack == stack && x.dom == d).length

/-- Tokens that background stripes hold on a stack (R96). -/
def State.tokensBack (s : State) (stack : Nat) : Nat :=
  (s.awns.stripes.filter fun x => x.stack == stack && x.inp.op == .narrow).length

/-- The most tokens of a stack that a domain's foreground stripes may hold (R95, R96, R312). -/
def State.tokenCap (s : State) (d : Nat) : Nat := if s.strict then Nat.min s.tokens (s.tokenShare d) else s.tokens

/-- Tokens of a stack that foreground stripes of a domain can take now; none in a brown-out (R95, R96, R414). -/
def State.tokensLeft (s : State) (stack d : Nat) : Nat :=
  if s.power.brownOut then 0
  else
    let free := s.tokens - s.tokensHeld stack
    if s.strict then Nat.min free (s.tokenShare d - s.tokensOf stack d) else free

/-- A background stripe of a kind may take a token of a stack now: in strict partition mode one on a domain's slots takes it from
the domain's share, else background work holds fewer than AWN_BG_TOKENS (R96, R312). -/
def State.tokenBack (s : State) (stack d : Nat) : Bool :=
  decide (0 < s.tokensLeft stack d) && (s.strict || decide (s.tokensBack stack < s.num 0xB000 4))

/-- A SWEEP stripe may take a token of a stack now (R95, R96, R414). -/
def State.tokenSweep (s : State) (stack : Nat) : Bool := !s.power.brownOut && decide (s.tokensHeld stack < s.tokens)

/-- A stripe of an item may take a token of a stack now. -/
def State.tokenFor (s : State) (stack : Nat) (it : Item) : Bool :=
  if it.op == .narrow then s.tokenBack stack it.dom else decide (0 < s.tokensLeft stack it.dom)

/-! ## Stripes (R79 to R86) -/

/-- STRIPE_TAG of a stripe of an item (R83). -/
def stripeTag (it : Item) (n : Nat) : Nat := it.tag + n * 2 ^ 14

/-- An awn runs a stripe (R79, R104). -/
def State.awnBusy (s : State) (u : Nat) : Bool := s.awns.stripes.any fun x => x.awn == u

/-- A retired awn of a bank pair's group still serves it: the pair waits for SPARE_MAP (R104). -/
def State.mapWaits (s : State) (stack p bp : Nat) : Bool :=
  (groupAwns (bp / 16)).any fun a =>
    let x := s.awn (awnUnit stack p a)
    x.st == 2 && (x.servesA == bp || x.servesB == bp)

/-- The awn that a stripe of a bank pair runs on: the one that serves the pair, and none while the pair waits for SPARE_MAP
(R104). A re-run goes to another awn of the group: its spare if that is idle, else the working awn with the lowest number (R86);
where no other awn works, to the awn that failed (log 108). -/
def State.stripeAwn (s : State) (stack l bp : Nat) (failed : Option Nat) : Option Nat :=
  let p := s.physChan stack l
  let unit := awnUnit stack p
  let w := s.groupWorking stack p (bp / 16)
  match failed with
  | none => if s.mapWaits stack p bp || w.isEmpty then none else some (s.awnOf stack l bp)
  | some u =>
    let spare := unit (32 + bp / 16)
    if (s.awn spare).st = 1 ∧ spare ≠ u ∧ !s.awnBusy spare then some spare
    else
      ((w.find? fun a => (s.awn (unit a)).st == 0 && unit a != u).or (w.find? fun a => unit a == u)).map unit

/-- A stripe of a tag has been issued and not accepted: it runs, or a base die holds its scores (R311). -/
def State.stripeIssued (s : State) (stack tag : Nat) : Bool :=
  s.awns.stripes.any (fun x => x.tag == tag) || s.awns.held.any fun h => h.1 == stack && fld h.2 32 32 == tag

/-- A stripe of an item starts on a stack, if it waits there and its bank pair, its awn and a token are free (R79, R96). -/
def State.tryStripe (s : State) (stack : Nat) (it : Item) (n : Nat) : State :=
  match it.slots[n]? with
  | none => s
  | some x =>
    let tag := stripeTag it n
    let ch := slotChan x.slot
    let bp := slotBp x.slot
    let failed := (s.awns.reruns.find? fun r => r.1 == tag).map Prod.snd
    if slotStack x.slot ≠ stack ∨ s.stripeIssued stack tag then s
    else
      match s.stripeAwn stack ch bp failed with
      | none => s
      | some u =>
        if s.bpIdle stack ch bp && !s.awnBusy u && s.tokenFor stack it && !s.faults.deadIslands.contains (0x100 + stack) then
          s.modAwns fun a =>
            { a with stripes := a.stripes ++ [⟨tag, x, stack, ch, bp, u, it.dom, failed.isSome⟩] }
        else s

/-- No awn serves the bank pair of some stripe: the page it reads or writes is lost to it (R105). -/
def State.stripesDead (s : State) (l : List StripeIn) : Bool :=
  l.any fun x => !s.bpWorks (slotStack x.slot) (slotChan x.slot) (slotBp x.slot)

/-- The waiting stripes of a stack start: re-runs first, then background stripes in shared mode, then by item priority and
admission order, and in strict partition mode the background stripes last (R96, R312). -/
def State.pump (s : State) (stack : Nat) : State :=
  let on := sortBy prioKey (s.sched.items.filter Item.issues)
  let (back, fore) := on.partition fun it => it.op == .narrow
  let todo := (if s.strict then fore ++ back else back ++ fore).flatMap fun it => it.stripes.map fun n => (it, n)
  let re := todo.filter fun x => s.awns.reruns.any fun r => r.1 == stripeTag x.1 x.2
  (re ++ todo).foldl (fun t x => t.tryStripe stack x.1 x.2) s

/-- The stacks of an item's stripes. -/
def itemStacks (it : Item) : List Nat := (it.slots.map fun x => slotStack x.slot).eraseDups

/-- Every stack that an item's stripes run on starts what it can. -/
def State.pumpItem (s : State) (it : Item) : State := (itemStacks it).foldl State.pump s

/-! ## The scoreboard (R147, R188) -/

/-- An item given a scoreboard entry: a free 14-bit tag (R147, R188), or a number beyond them while none is free or the
domain's ITEM_SHARE is used (R306). An item that needs no tile issues its stripes. -/
def State.addItem (s : State) (it : Item) : State :=
  let tags := s.sched.items.map Item.tag ++ s.sched.deadTags
  let held := (s.sched.items.filter fun x => x.dom == it.dom && decide (x.tag < 16384)).length
  let t := leastFree tags 0 16384
  let on := decide (t < 16384) && decide (held < s.num 0x7120 0xC it.dom)
  let tag := if on then t else leastFree tags 16384 (tags.length + 1)
  let new : Item :=
    if on ∧ it.op ≠ .score ∧ it.st = .waiting then { it with tag := tag, st := .writing, stripes := List.range it.slots.length }
    else { it with tag := tag }
  let s1 := s.modSched fun q => { q with items := q.items ++ [new] }
  if new.st = .writing then s1.pumpItem new else s1

/-- An item waits for a scoreboard entry (R188). -/
def Item.offBoard (it : Item) : Bool := decide (16384 ≤ it.tag) && it.st != .ended

/-- The first item of a domain that waits for a scoreboard entry takes a tag that became free (R188, R306). -/
def State.promoteDom (s : State) (d : Nat) : State :=
  match s.sched.items.find? fun x => x.offBoard && x.dom == d with
  | none => s
  | some it =>
    let s1 := (s.modSched fun q => { q with items := q.items.filter fun x => x.tag ≠ it.tag }).addItem it
    if (s1.sched.items.any fun x => x.tag == it.tag) then s else s1

/-- Each domain's waiting items take the tags that became free: none waits behind another domain's (R188, R296). -/
def State.promoteItems (s : State) : State :=
  ((s.sched.items.filter Item.offBoard).map Item.dom).foldl State.promoteDom s

end Sys2Proof.Machine
end

