-- ==== Sys2Proof/Machine/Attn.lean ====
section
/-! DEFINITION. Attention: score programs, masks, sifting, leaf partials, winnow and the merge tree
(05_attention_results.md). -/

namespace Sys2Proof.Machine

/-! ## The score program (R113 to R118) -/

/-- The program state as a run reads it (R117). -/
structure ProgEnv where
  words : List (BitVec 32) := []
  c : List F32 := []
  ht : List (List F32) := []
  bt : List (List F32) := []
  ct : List (List F32) := []
deriving DecidableEq, Repr

/-- The 32-bit words of bytes. -/
def words32 (l : List Byte) : List (BitVec 32) := (chunks 4 (l.length / 4) l).map (ofBytes 32)

/-- The micro-ops that run: those before the first END (R114). -/
def progOps (l : List Byte) : List (BitVec 32) := ((words32 l).take 32).takeWhile fun w => fld w 0 5 ≠ 0

/-- The program state for a layer (R117). -/
def State.progEnv (s : State) (layer : Nat) : ProgEnv :=
  let n := ((s.active 0x2101 1 0).getD layer 0).toNat
  { words := progOps (s.active 0x2100 n 0)
    c := words32 (s.active 0x2102 1 0)
    ht := (List.range 4).map fun i => words32 (s.active 0x2103 i 0)
    bt := (List.range 8).map fun i => words32 (s.active 0x2104 i 0)
    ct := (List.range 4).map fun i => words32 (s.active 0x2105 i 0) }

/-- An integer as binary32, rounded once (R116). -/
def F32.ofInt (v : Int) : F32 := F32.round false ⟨v, 0⟩

/-- `cap` of R116. -/
def capOp (e : ProgEnv) (z : F32) (a k : Nat) : F32 :=
  let u := F32.mul z (e.c.getD k 0)
  let x := F32.min (F32.abs u) 0x44800000#32
  let v := F32.val x
  let fl := v.m.toNat * 2 ^ v.e.toNat / 2 ^ (-v.e).toNat
  let i := Nat.min fl 1023
  let f := F32.sub x (F32.ofInt i)
  let t := e.ct.getD a []
  let d := F32.sub (t.getD (i + 1) 0) (t.getD i 0)
  let r := F32.fma f d (t.getD i 0)
  (r &&& 0x7FFFFFFF#32) ||| (u &&& 0x80000000#32)

/-- One micro-op on the registers Z and T (R116). -/
def microOp (e : ProgEnv) (dist : Int) (h : Nat) (w : BitVec 32) (zt : F32 × F32) : F32 × F32 :=
  let (z, t) := zt
  let a := fld w 8 4
  let imm := signExt 16 (fld w 16 16)
  match fld w 0 5 with
  | 1 => (F32.mul z (e.c.getD a 0), t)
  | 2 => (F32.add z (e.c.getD a 0), t)
  | 3 => (F32.min z (e.c.getD a 0), t)
  | 4 => (F32.max z (e.c.getD a 0), t)
  | 5 => (z, F32.ofInt (dist + imm))
  | 6 => (z, F32.abs t)
  | 7 => (F32.fma t ((e.ht.getD a []).getD h 0) z, t)
  | 8 => (F32.add z ((e.bt.getD a []).getD (clampI (dist + imm) 0 1024).toNat 0), t)
  | 9 => (capOp e z a (fld w 12 4), t)
  | _ => (z, t)

/-- `z0` and whether it was clamped (R113). -/
def z0Of (sc sexp : Int) : F32 × Bool :=
  let x : Dy := ⟨sc, sexp⟩
  if sc = 0 ∨ x.log2 < -126 then (0, false)
  else if 128 ≤ x.log2 then (if sc < 0 then 0xFF7FFFFF#32 else 0x7F7FFFFF#32, true)
  else (F32.round false x, false)

/-- `2^100` as binary32. -/
def two100 : F32 := 0x71800000#32

/-- The logit of a score, and the number of replacements (R113, R118). -/
def logit (e : ProgEnv) (dist : Int) (h : Nat) (sc sexp : Int) : F32 × Nat :=
  let (z0, c0) := z0Of sc sexp
  let z := (e.words.foldl (fun zt w => microOp e dist h w zt) (z0, 0)).1
  let n0 := if c0 then 1 else 0
  if F32.isNan z then (F32.negate two100, n0 + 1)
  else if decide (F32.key two100 < F32.key (F32.abs z)) then
    (if F32.neg z then F32.negate two100 else two100, n0 + 1)
  else (z, n0)

/-! ## Masks (R119 to R122) -/

/-- Words of a row of bits. -/
def wordsOf (n : Nat) : Nat := ceilDiv n 64

/-- Bit `i` of a body. -/
def bodyBit (body : List Byte) (i : Nat) : Bool := (body.getD (i / 8) 0).getLsbD (i % 8)

/-- TYPE of a mask object (R121). -/
def MaskObj.type (o : MaskObj) : Nat := fld o.hdr 0 8

/-- `seg(p)` of a segment object (R122): the segment of the last run that starts at or below `p`. -/
def segOf (o : MaskObj) (p : Nat) : Nat :=
  (chunks 8 (fld o.hdr 64 32) (o.body.drop 512)).foldl
    (fun a r => if leNat (r.take 4) ≤ p then (r.getD 4 0).toNat % 64 else a) 0

/-- The bit a segment object gives a pair of positions (R120). -/
def segVisible (o : MaskObj) (qp kp : Nat) : Bool := bodyBit o.body (64 * segOf o qp + segOf o kp)

/-- The bit a bitmap object gives a row and a pair of positions (R120, R122). -/
def bitmapVisible (o : MaskObj) (row qp kp : Nat) : Bool :=
  let ks := fld o.hdr 32 32
  let kl := fld o.hdr 64 32
  let qs := fld o.hdr 96 32
  let qb := fld o.hdr 128 32
  let outside := bit o.hdr 8
  if o.type = 1 then
    if ks ≤ kp ∧ kp < ks + kl ∧ row < fld o.hdr 16 8 then bodyBit o.body (64 * (row * wordsOf kl) + (kp - ks)) else outside
  else
    if ks ≤ kp ∧ kp < ks + 64 * kl ∧ qs ≤ qp ∧ qp < qs + 64 * qb then
      bodyBit o.body (64 * ((qp - qs) / 64 * wordsOf kl) + (kp - ks) / 64)
    else outside

/-- The generators a request chose (R110, R120). -/
structure Gens where
  causal : Bool := false
  window : Nat := 0
  sinks : Nat := 0
  seg : Option MaskObj := none
  bmp : Option MaskObj := none
deriving DecidableEq, Repr

/-- A key token is visible to a row when every active generator passes it (R120). -/
def Gens.visible (g : Gens) (row qp kp : Nat) : Bool :=
  (!g.causal || decide (kp ≤ qp))
    && (g.window == 0 || decide ((qp : Int) - kp < g.window) || decide (kp < g.sinks))
    && (match g.seg with | some o => segVisible o qp kp | none => true)
    && (match g.bmp with | some o => bitmapVisible o row qp kp | none => true)

/-! ## Partials (R126 to R129) -/

/-- A partial result. -/
structure Partial where
  m : F32 := 0xFF800000#32
  l : F32 := 0
  o : List F32 := []
  first : Nat := 0
  last : Nat := 0
  parts : Nat := 0
  row : Nat := 0
  qhead : Nat := 0
  demoted : Bool := false
  sifted : Bool := false
  masked : Bool := true
  clamped : Bool := false
deriving DecidableEq, Repr, Inhabited

/-- The bytes of a partial (R126). -/
def Partial.bytes (p : Partial) : List Byte :=
  let w0 := p.m.toNat + p.l.toNat * 2 ^ 32 + p.first * 2 ^ 64 + p.last * 2 ^ 96 + p.parts * 2 ^ 128 + p.row * 2 ^ 160
    + p.qhead * 2 ^ 176 + b2n p.demoted * 2 ^ 184 + b2n p.sifted * 2 ^ 185 + b2n p.masked * 2 ^ 186
    + b2n p.clamped * 2 ^ 187 + p.o.length * 2 ^ 192 + 2 ^ 208
  let h := leBytes 28 w0
  let e := p.o.flatMap fun v => leBytes 4 v.toNat
  h ++ leBytes 4 (crc32c (h ++ e)).toNat ++ e

/-- The partial that bytes hold, whatever its CRC (R126). -/
def Partial.ofList (l : List Byte) : Partial :=
  let h : BitVec 256 := ofBytes 256 (l.take 32)
  { m := h.extractLsb' 0 32, l := h.extractLsb' 32 32, first := fld h 64 32, last := fld h 96 32, parts := fld h 128 32,
    row := fld h 160 16, qhead := fld h 176 8, demoted := bit h 184, sifted := bit h 185, masked := bit h 186,
    clamped := bit h 187, o := words32 ((l.drop 32).take (4 * fld h 192 16)) }

/-- `winnow(a, b)` (R128). -/
def winnow (a b : Partial) : Partial :=
  let base : Partial :=
    { a with
        first := a.first, last := b.last, parts := (a.parts + b.parts) % 2 ^ 32, demoted := a.demoted || b.demoted
        sifted := a.sifted || b.sifted, clamped := a.clamped || b.clamped }
  if a.masked && b.masked then
    { base with m := 0xFF800000#32, l := 0, o := a.o.map fun _ => 0, masked := true }
  else
    let m := F32.max a.m b.m
    let wa := exp2ref (F32.sub a.m m)
    let wb := exp2ref (F32.sub b.m m)
    { base with
        m := m, l := F32.fma b.l wb (F32.mul a.l wa), masked := false
        o := List.zipWith (fun x y => F32.fma y wb (F32.mul x wa)) a.o b.o }

/-- A partial placed in order of FIRST_PAGE. -/
def insertPartial (x : Nat × Partial) : List (Nat × Partial) → List (Nat × Partial)
  | [] => [x]
  | y :: r => if x.1 < y.1 then x :: y :: r else y :: insertPartial x r

/-- One level of the merge tree (R129). -/
def mergeLevel (h : Nat) : List (Nat × Partial) → List (Nat × Partial)
  | a :: b :: r =>
    if a.1 / 2 ^ (h + 1) = b.1 / 2 ^ (h + 1) then
      (a.1 / 2 ^ (h + 1) * 2 ^ (h + 1), winnow a.2 b.2) :: mergeLevel h r
    else (a.1 / 2 ^ (h + 1) * 2 ^ (h + 1), a.2) :: mergeLevel h (b :: r)
  | [a] => [(a.1 / 2 ^ (h + 1) * 2 ^ (h + 1), a.2)]
  | [] => []
termination_by structural l => l

/-- `tree_merge` of partials of one row with disjoint ranges (R129); `none` for no partial. -/
def treeMerge (l : List Partial) : Option Partial :=
  let s := l.foldl (fun acc p => insertPartial (p.first, p) acc) []
  ((List.range 27).foldl (fun acc h => mergeLevel h acc) s).head?.map Prod.snd

/-! ## Requests -/

/-- One query row of a request: query head, position and converted query (R110, R71). -/
structure Row where
  head : Nat := 0
  qp : Nat := 0
  q : QRow := ⟨[], 0⟩
deriving DecidableEq, Repr

/-- A leaf: its conversation page index, the position and sequence offset of its first token, the key page, the value
pages that hold its tokens by ordinal, and the tokens below the committed key length (R111, R119). -/
structure Leaf where
  page : Nat := 0
  pos : Nat := 0
  off : Nat := 0
  key : PageData := {}
  vals : List (Nat × PageData) := []
  seen : Nat := 0
deriving DecidableEq, Repr

/-- Scores of a converted row against the tokens of one block (R74). -/
def blockScores (pr : Prof) (fmt : Nat) (gl : List Nat) (toks : List (List Int)) (rots : List (List (Int × Int)))
    (q : QRow) : List (Int × Int) :=
  let f := foldQuery pr q.q (blockShifts gl)
  let e := q.qexp - 6 + eBlk gl - fmtF fmt
  List.zipWith (fun k r => (scoreInt pr f r k, e)) toks rots

/-- A key block with the rotations of its tokens' positions, ready to score. -/
structure Ready where
  idx : Nat := 0
  pos : Nat := 0
  gl : List Nat := []
  toks : List (List Int) := []
  rots : List (List (Int × Int)) := []
deriving DecidableEq, Repr

/-- The blocks of a leaf. -/
def leafBlocks (pr : Prof) (lf : Leaf) : List Ready :=
  let b := lf.key.block
  let ints := lf.key.ints pr
  (List.range (ceilDiv (Nat.min lf.seen lf.key.tokens) b)).map fun j =>
    let toks := (ints.drop (j * b)).take b
    { idx := (lf.pos + j * b) / b, pos := lf.pos + j * b, gl := lf.key.blockGlumes pr j, toks := toks,
      rots := (List.range toks.length).map fun t => if pr.ropeDims = 0 then [] else rotation pr (lf.pos + j * b + t) }

/-- Value elements of token `t` of a leaf (R111, R125). A token of a value page that the sequence does not hold has no
value the manual states: free (log 23). -/
def leafValue (pr : Prof) (lf : Leaf) (t : Nat) (gl : List Nat) (k : List Int) : List F32 :=
  if pr.stored 1 then
    let o := lf.off + t
    match aget lf.vals (o / pr.tokens 1) with
    | some d => d.valueToken pr (o % pr.tokens 1)
    | none => List.replicate pr.valueDim Config.absentValue
  else keyAsValue pr lf.key.format gl k

/-- Accumulators of the value products: the sum of weights and the weighted values (R125). -/
def accumulate (m : F32) (a : F32 × List F32) (zv : F32 × List F32) : F32 × List F32 :=
  let w := exp2ref (F32.sub zv.1 m)
  (F32.add a.1 w, List.zipWith (fun o v => F32.fma w v o) a.2 zv.2)

/-- Tokens of a block that a row sees, with their logits and values, and the clamps met. `keep` limits a sifted request
to the blocks it selected (R125, R135). DESIGN CHOICE: R114 runs the program for each row and token pair, and R118 does not say whether a
replacement at a token hidden from the row counts; here visible, selected tokens alone run it and count (log 130). -/
def blockRow (pr : Prof) (e : ProgEnv) (g : Gens) (lf : Leaf) (values : List (List (List F32))) (keep : Option (List Nat))
    (rowNo : Nat) (r : Row) (jb : Nat × Ready) : List (F32 × List F32) × Nat :=
  let bk := jb.2
  let sel := match keep with | some ks => ks.contains bk.idx | none => true
  if !sel then ([], 0)
  else
    let vis := (List.range bk.toks.length).map fun t =>
      decide (bk.pos + t < lf.pos + lf.seen) && g.visible rowNo r.qp (bk.pos + t)
    if vis.any id then
      let sc := blockScores pr lf.key.format bk.gl bk.toks bk.rots r.q
      let vs := values.getD jb.1 []
      (List.range bk.toks.length).foldl (fun acc t =>
        if vis.getD t false then
          let s := sc.getD t (0, 0)
          let (z, n) := logit e ((r.qp : Int) - (bk.pos + t : Nat)) r.head s.1 s.2
          (acc.1 ++ [(z, vs.getD t [])], acc.2 + n)
        else acc) ([], 0)
    else ([], 0)

/-- The leaf partial of a row (R125), and the clamps it met (R118). -/
def leafPartial (pr : Prof) (e : ProgEnv) (g : Gens) (lf : Leaf) (blks : List Ready) (values : List (List (List F32)))
    (keep : Option (List Nat)) (narrow : Bool) (rowNo : Nat) (r : Row) : Partial × Nat :=
  let parts := (blks.mapIdx fun j b => (j, b)).map (blockRow pr e g lf values keep rowNo r)
  let vis := parts.flatMap Prod.fst
  let clamps := (parts.map Prod.snd).sum
  let base : Partial :=
    { first := lf.page, last := lf.page, parts := 1, row := rowNo, qhead := r.head, demoted := narrow,
      sifted := keep.isSome, clamped := decide (0 < clamps), o := List.replicate pr.valueDim 0 }
  match vis with
  | [] => (base, 0)
  | z :: zs =>
    let m := zs.foldl (fun a x => F32.max a x.1) z.1
    let (l, o) := vis.foldl (accumulate m) (0, base.o)
    ({ base with m := m, l := l, o := o, masked := false }, clamps)

/-! ## Sifting (R133 to R136) -/

/-- Block indices of the leaves that hold a token visible to some row of the head (R135 step 1). -/
def eligible (g : Gens) (lf : Leaf) (rows : List (Nat × Row)) (b : Ready) : Bool :=
  (List.range b.toks.length).any fun t =>
    decide (b.pos + t < lf.pos + lf.seen) && rows.any fun r => g.visible r.1 r.2.qp (b.pos + t)

/-- Largest summary score of a block over the rows of the head (R135 step 3). -/
def blockG (pr : Prof) (lf : Leaf) (rows : List (Nat × Row)) (b : Ready) : Int :=
  let sg := sigma lf.key.format b.gl (keySums pr.keyDim b.toks)
  let rot := if pr.ropeDims = 0 then [] else rotation pr (b.pos + lf.key.block / 2)
  (rows.map fun r => summaryScore pr b.gl r.2.q.q rot sg).foldl (fun a x => if a < x then x else a) (-2147483648)

/-- A ranked block placed: higher G first, then lower index (R135 step 3). -/
def insertRank (x : Int × Nat) : List (Int × Nat) → List (Int × Nat)
  | [] => [x]
  | y :: r => if y.1 < x.1 ∨ (x.1 = y.1 ∧ x.2 < y.2) then x :: y :: r else y :: insertRank x r

/-- The blocks of one head that a sifted request attends to (R135). -/
def selectBlocks (pr : Prof) (g : Gens) (sinks siftK recent : Nat) (leaves : List (Leaf × List Ready))
    (rows : List (Nat × Row)) : List Nat :=
  let el := leaves.flatMap fun p => (p.2.filter (eligible g p.1 rows)).map fun b => (p.1, b)
  let idxs := el.map fun p => p.2.idx
  let recentSet := idxs.drop (idxs.length - recent)
  let kept := (el.filter fun p => decide (p.2.pos < sinks) || recentSet.contains p.2.idx).map fun p => p.2.idx
  let ranked := (el.filter fun p => !kept.contains p.2.idx).foldl
    (fun acc p => insertRank (blockG pr p.1 rows p.2, p.2.idx) acc) []
  kept ++ (ranked.take siftK).map Prod.snd

/-! ## Return modes (R130) -/

/-- The largest `k` up to `fuel` for which the aligned block of `2^k` pages at `a` lies inside `[lo, hi]`. -/
def canonLevel (lo hi a : Nat) : Nat → Nat
  | 0 => 0
  | f + 1 =>
    let k := canonLevel lo hi a f
    if k = f ∧ lo ≤ a / 2 ^ (f + 1) * 2 ^ (f + 1) ∧ a / 2 ^ (f + 1) * 2 ^ (f + 1) + 2 ^ (f + 1) ≤ hi + 1 then f + 1 else k

/-- First page and size of the canonical block of the range `[lo, hi]` that holds page `a`. -/
def canonBlock (lo hi a : Nat) : Nat × Nat :=
  let k := canonLevel lo hi a 27
  (a / 2 ^ k * 2 ^ k, 2 ^ k)

/-- Partials of one row grouped by canonical block, in ascending order. -/
def canonGroups (lo hi : Nat) (l : List Partial) : List (Nat × List Partial) :=
  l.foldl (fun acc p =>
    let c := (canonBlock lo hi p.first).1
    aput acc c ((aget acc c).getD [] ++ [p])) []

/-- What a row returns (R130): `ret` 0 PAGE, 1 CANONICAL, 2 SPAN. -/
def rowReturn (ret lo hi : Nat) (l : List Partial) : List Partial :=
  if ret = 0 then l
  else if ret = 1 then (canonGroups lo hi l).filterMap fun g => treeMerge g.2
  else (treeMerge l).toList

/-- A MASKED partial with PARTS 0 (R130). -/
def emptyPartial (vdim page rowNo head : Nat) (sifted : Bool) : Partial :=
  { first := page, last := page, row := rowNo, qhead := head, o := List.replicate vdim 0, sifted := sifted }

end Sys2Proof.Machine
end

