-- ==== Sys2Proof/Machine/Operands.lean ====
section
/-! DEFINITION. The fields of a descriptor, the check of its form, and its buffers (R162, R163, R169 to R171, R179 to R187). -/

namespace Sys2Proof.Machine

/-! ## Fields -/

/-- OPCODE (R169). -/
def dOp (d : Desc) : Nat := fld d 0 8
/-- CMD_TAG (R169). -/
def dTag (d : Desc) : Nat := fld d 16 16
/-- EPOCH (R169). -/
def dEpoch (d : Desc) : BitVec 32 := d.extractLsb' 32 32
/-- SEQ_ID (R169). -/
def dSeq (d : Desc) : BitVec 64 := d.extractLsb' 64 64

/-- A buffer reference (R170). -/
structure Buf where
  addr : Nat
  len : Nat
  kind : Nat
  rkey : Nat
  rgen : Nat
deriving DecidableEq, Repr

/-- The buffer reference at a bit of the descriptor (R170). -/
def dBuf (d : Desc) (at_ : Nat) : Buf :=
  ⟨fld d at_ 64, fld d (at_ + 64) 32, fld d (at_ + 96) 4, fld d (at_ + 104) 16, fld d (at_ + 120) 8⟩

/-- BUF_IN (R169). -/
def dIn (d : Desc) : Buf := dBuf d 128
/-- BUF_OUT (R169). -/
def dOut (d : Desc) : Buf := dBuf d 256

/-- BY_FRAME (R184). -/
def dByFrame (d : Desc) : Bool := bit d 557

/-- The opcodes of command-set version 1 (R178). -/
def opKnown (op : Nat) : Bool :=
  [0x00, 0x01, 0x02, 0x03, 0x04, 0x10, 0x11, 0x20, 0x21, 0x30, 0x31, 0x32, 0x40, 0x41, 0x42, 0x43, 0x44, 0x50, 0x51,
   0x60, 0x61, 0x70].contains op

/-- The command names a sequence (R179 to R187). -/
def opNamesSeq (d : Desc) : Bool :=
  [0x02, 0x03, 0x04, 0x10, 0x11, 0x20, 0x31, 0x40, 0x41, 0x42, 0x43, 0x51].contains (dOp d)
    || (dOp d == 0x44 && !dByFrame d)

/-- The fields of PARAMS that a command may set: first bit and width (R179 to R187). -/
def opFields (d : Desc) : List (Nat × Nat) :=
  match dOp d with
  | 0x01 => [(384, 113), (500, 4)]
  | 0x02 => [(384, 113), (500, 4)]
  | 0x03 => [(384, 113), (500, 4)]
  | 0x04 => [(384, 113), (500, 4)]
  | 0x10 => [(384, 44), (432, 13), (448, 8)]
  | 0x11 => [(384, 44), (432, 13), (448, 8)]
  | 0x20 => [(384, 25), (416, 47), (464, 7), (480, 72), (576, 64)]
  | 0x21 => [(384, 32)]
  | 0x30 => [(384, 81), (512, 128)]
  | 0x31 => [(384, 81), (512, 128)]
  | 0x32 => [(384, 81), (512, 128)]
  | 0x40 => [(384, 77), (462, 17), (480, 12), (496, 61)]
  | 0x41 => [(384, 77), (462, 17), (480, 12), (496, 61)]
  | 0x42 => [(384, 77), (462, 17), (480, 12), (496, 61)]
  | 0x43 => [(384, 77), (462, 17), (480, 12), (496, 61)]
  | 0x44 =>
    if dByFrame d then [(384, 77), (462, 17), (480, 12), (496, 16), (557, 1), (560, 21)]
    else [(384, 77), (462, 17), (480, 12), (496, 61)]
  | 0x50 => [(384, 8), (416, 45), (464, 16)]
  | 0x51 => [(384, 8), (416, 45), (464, 16)]
  | 0x60 => [(384, 38), (424, 7), (432, 32)]
  | 0x61 => [(384, 38), (424, 7), (432, 32)]
  | 0x70 => [(384, 1)]
  | _ => []

/-- A mask of `n` ones from bit `lo`. -/
def onesAt (lo n : Nat) : BitVec 1024 := BitVec.ofNat 1024 ((2 ^ n - 1) * 2 ^ lo)

/-- The bits of a descriptor that may be set, kinds and opcode apart (R169, R170). -/
def opMask (d : Desc) : BitVec 1024 :=
  let p := (opFields d).foldl (fun m f => m ||| onesAt f.1 f.2) 0
  let seq := if opNamesSeq d then onesAt 64 64 else 0
  p ||| seq ||| onesAt 0 8 ||| onesAt 16 48 ||| onesAt 128 100 ||| onesAt 232 24 ||| onesAt 256 100 ||| onesAt 360 24

/-- Kinds that a queue's home allows for input (R171). -/
def inKinds (fabric : Bool) : List Nat := if fabric then [2, 3] else [1]

/-- Kinds that a queue's home allows for output (R171). -/
def outKinds (fabric : Bool) : List Nat := if fabric then [3] else [1]

/-- BUF_IN's kind is allowed for the command (R171). A reserved OP of MASK_PUT has no row: any kind of the home, or none. -/
def inKindOk (d : Desc) (fabric : Bool) : Bool :=
  let k := (dIn d).kind
  let op := dOp d
  if [0x10, 0x11, 0x20, 0x21, 0x30, 0x31, 0x32].contains op then (inKinds fabric).contains k
  else if op = 0x50 then
    if fld d 384 8 = 0 then (inKinds fabric).contains k
    else if fld d 384 8 = 1 then k == 0 else k == 0 || (inKinds fabric).contains k
  else k == 0

/-- BUF_OUT's kind is allowed for the command (R171). -/
def outKindOk (d : Desc) (fabric : Bool) : Bool :=
  let k := (dOut d).kind
  let op := dOp d
  if op = 0x20 ∨ op = 0x21 ∨ (op = 0x30 ∧ bit d 464) then (outKinds fabric).contains k else k == 0

/-- The lowest set bit of a word's bytes, as a byte number, among the first `n` bytes. -/
def firstByte (m : BitVec 1024) : Option Nat := (List.range 128).find? fun i => fld m (8 * i) 8 ≠ 0

/-- Step 1 of R173: the smallest byte at fault, if any. -/
def malformedAt (d : Desc) (fabric : Bool) : Option Nat :=
  if !opKnown (dOp d) then some 0
  else
    let bits := d &&& ~~~(opMask d)
    let kin := if inKindOk d fabric then 0 else onesAt 224 4
    let kout := if outKindOk d fabric then 0 else onesAt 352 4
    let frame := if dOp d == 0x44 && dByFrame d then d &&& (onesAt 512 32 ||| onesAt 544 13) else 0
    firstByte (bits ||| kin ||| kout ||| frame)

/-! ## What a command needs of the node -/

/-- Shared checkers that cover a command, in the order of the sweeps (R330, R333). -/
def coveredBy (d : Desc) : List Nat :=
  let op := dOp d
  (if op = 0x10 ∨ op = 0x11 then [0] else []) ++ (if op = 0x20 then [1, 3] else [])
    ++ (if [0x20, 0x40, 0x41, 0x42].contains op then [2] else []) ++ [4, 5]
    ++ (if [0x30, 0x31, 0x32].contains op then [6] else [])
    ++ (if [0x40, 0x41, 0x42].contains op ∨ (dIn d).kind = 2 ∨ (dIn d).kind = 3 ∨ (dOut d).kind = 3 then [7] else [])

/-- Islands beside tiles and stacks that a command needs (R340, R420). -/
def islandsOf (d : Desc) : List Nat :=
  let op := dOp d
  [islSched] ++ (if [0x30, 0x31, 0x32].contains op then [islIndex] else [])
    ++ (if [0x40, 0x41, 0x42].contains op then [islTier] else [])
    ++ (if op = 0x42 ∨ op = 0x60 ∨ op = 0x61 ∨ (dIn d).kind = 2 ∨ (dIn d).kind = 3 ∨ (dOut d).kind = 3 then [islEdge] else [])
    ++ (if op = 0x40 ∨ op = 0x41 ∨ (dIn d).kind = 1 ∨ (dOut d).kind = 1 then [islHost] else [])

/-- A command that a late checker covers, or that needs an island whose clock failed, fails with ST_PART_FAIL (R334, R420). -/
def State.unitFails (s : State) (c : Cmd) : Bool :=
  (coveredBy c.desc).any (fun k => s.faults.late.contains k) || (islandsOf c.desc).any fun i => s.faults.deadIslands.contains i

/-! ## Queue configurations (R162, R163) -/

/-- DOMAIN of an SQ. -/
def sqDom (c : BitVec 256) : Nat := fld c 16 12
/-- PRIORITY of an SQ. -/
def sqPrio (c : BitVec 256) : Nat := fld c 28 4
/-- The SQ's home is FABRIC. -/
def sqFabric (c : BitVec 256) : Bool := bit c 37
/-- CLASS of an SQ. -/
def sqClass (c : BitVec 256) : Nat := fld c 38 2
/-- QP of an SQ. -/
def sqQp (c : BitVec 256) : Nat := fld c 48 16
/-- STAGING of an SQ, in bytes. -/
def sqStaging (c : BitVec 256) : Nat := 65536 * fld c 128 9
/-- Ring bytes of an SQ, rounded up to 64 KiB (R165). -/
def sqRing (c : BitVec 256) : Nat := 65536 * ceilDiv (128 * sqDepth c) 65536
/-- Bytes of a FABRIC SQ's node-side region (R165). -/
def sqRegion (c : BitVec 256) : Nat := sqRing c + sqStaging c

/-- A submission queue of a command. -/
def State.sqOf (s : State) (n : Nat) : Sq := (aget s.queues.sqs n).getD {}

/-! ## Buffers (R170, R171) -/

/-- A HOST buffer may be used: DMA is allowed and one region of the domain holds it (R171, R366). -/
def State.hostBufOk (s : State) (d : Nat) (b : Buf) (wr : Bool) : Bool := s.dmaOk && s.dmaCovers d b.addr b.len (!wr) wr

/-- The bytes of an input buffer that the node can read at once; `none` when the access fails (R171). -/
def State.readBuf (s : State) (sq : Nat) (b : Buf) : Option (List Byte) :=
  let q := s.sqOf sq
  if b.kind = 1 then
    if s.hostBufOk (sqDom q.cfg) b false then some (Memory.readBytes s.hostMem b.addr b.len) else none
  else if b.kind = 2 then
    if b.addr + b.len ≤ sqStaging q.cfg then
      some (Memory.readBytes s.nodeMem (q.region + sqRing q.cfg + b.addr) b.len)
    else none
  else none

/-- The output buffer can be written: a HOST region of the domain, or a QP in RTS to the region's owner (R171). -/
def State.outOk (s : State) (sq : Nat) (b : Buf) : Bool :=
  let q := s.sqOf sq
  if b.kind = 1 then s.hostBufOk (sqDom q.cfg) b true
  else if b.kind = 3 then (s.qp (sqQp q.cfg)).st == .rts
  else true

/-- Bytes placed in an output buffer (R171). -/
def State.writeBuf (s : State) (sq : Nat) (b : Buf) (l : List Byte) : State :=
  if l.isEmpty then s
  else if b.kind = 1 then s.hostWrite b.addr l
  else if b.kind = 3 then s.sendWrite (sqQp (s.sqOf sq).cfg) b.rkey b.rgen b.addr l
  else s

/-- Step 6 on a buffer that a command uses: its address is a multiple of 32 and its length is as the command needs
(R170, R171). `at_` is the buffer's first byte in the descriptor. -/
def bufParam (b : Buf) (at_ len : Nat) : Option Fail :=
  if b.len ≠ len then some ⟨stBadParam, at_ + 8, 0, 0⟩
  else if b.addr % 32 ≠ 0 then some ⟨stBadParam, at_, 0, 0⟩
  else none

/-- The alignment of an output buffer that may be longer than its result. -/
def outParam (b : Buf) (need : Nat) : Option Fail :=
  if b.len < need then some ⟨stBadParam, 40, 0, 0⟩
  else if b.addr % 32 ≠ 0 then some ⟨stBadParam, 32, 0, 0⟩
  else none

end Sys2Proof.Machine
end

