-- ==== Sys2Proof/Machine/Seq.lean ====
section
/-! DEFINITION. Sequences: what SEQ_OPEN, SEQ_FORK, SEQ_TRIM and SEQ_CLOSE check, reserve and commit (R7, R37, R38, R47,
R55, R56, R179), and the lengths that pending appends lead to (R10, R12). -/

namespace Sys2Proof.Machine

/-- A check of several conditions: the first that fails. -/
def firstFail : List (Bool × Fail) → Option Fail
  | [] => none
  | (ok, f) :: r => if ok then firstFail r else some f

/-- A failure with ST_BAD_PARAM at a byte of the descriptor (R177). -/
def badParam (at_ : Nat) : Fail := ⟨stBadParam, at_, 0, 0⟩

/-! ## Pending appends -/

/-- TOKEN_OFFSET (R180). -/
def dOffset (d : Desc) : Nat := fld d 384 32
/-- TOKENS (R180). -/
def dTokens (d : Desc) : Nat := fld d 416 12

/-- The command is an append. -/
def isAppend (d : Desc) : Bool := dOp d == 0x10 || dOp d == 0x11

/-- The planes of an append, key before value, head by head (R180). -/
def appendPlanes (pr : Prof) (d : Desc) : List Nat :=
  if dOp d = 0x10 then [fld d 432 13]
  else (List.range pr.kvHeads).flatMap fun h =>
    pr.plane (fld d 448 8) h 0 :: (if pr.stored 1 then [pr.plane (fld d 448 8) h 1] else [])

/-- Lengths after an append, where its position is a committed one or the end (R11, R12). -/
def appendLens (pr : Prof) (d : Desc) (l : List Nat) : List Nat :=
  (appendPlanes pr d).foldl (fun a p =>
    if dOffset d ≤ a.getD p 0 then a.set p (Nat.max (a.getD p 0) (dOffset d + dTokens d)) else a) l

/-- Pending appends of a sequence, those of one queue or of all. -/
def State.pendingAppends (s : State) (i : Nat) (sq : Option Nat) : List Cmd :=
  s.sched.cmds.filter fun c => isAppend c.desc && c.seq == some i && (match sq with | some q => c.sq == q | none => true)

/-- A sequence's entry with the lengths its pending appends lead to (R12, R47, R181). -/
def State.projected (s : State) (i : Nat) (sq : Option Nat) : SeqEntry :=
  let e := s.seq i
  { e with lens := (s.pendingAppends i sq).foldl (fun l c => appendLens s.pr c.desc l) e.lens }

/-- Every page that a sequence holds may be accessed by its domain (R44, R203). -/
def State.pagesOk (s : State) (d : Nat) (l : List Nat) : Bool :=
  l.all fun p => match s.page p with | some e => s.pageAccess d e | none => true

/-- A sequence is MOVING and its PAGE_MIGRATE has ended (R272). -/
def State.moveEnded (s : State) (i : Nat) : Bool :=
  (s.seq i).st == .moving && !(s.xnt.moves.any fun m => m.seq == i && m.cmd.isSome)

/-! ## SEQ_OPEN -/

/-- SLICE is a cache-service or prefill-assist slice with units, among the domain's (R179). -/
def State.sliceOk (s : State) (dom n : Nat) : Bool :=
  let v := s.sliceReg n
  sliceUsed v && (sliceRole v == 0 || sliceRole v == 2) && (s.num 0x7120 1 dom).testBit n

/-- Step 6 of SEQ_OPEN and of a fork's child: the fields of R179 in order. -/
def State.newSeqParam (s : State) (c : Cmd) : List (Bool × Fail) :=
  let d := c.desc
  [(fld d 384 32 % s.pr.align == 0, badParam 48),
   (fld d 480 12 == 0 || s.inGroup (fld d 480 12) c.dom, badParam 60),
   (s.sliceOk c.dom (fld d 500 4), badParam 62)]

/-- The profile is ACTIVE (R62). -/
def State.profOk (s : State) : Bool := s.prof.state == 1

/-- Steps 4 to 6 of SEQ_OPEN. -/
def State.checkOpen (s : State) (c : Cmd) : Option Fail :=
  firstFail ((s.profOk, ⟨stProfile, 0, 0, 0⟩) :: s.newSeqParam c)

/-- The index of a Sequence ID adopted by a shadow: FREE, with a generation not newer than the ID's (R353, R354). -/
def State.adoptSeq (s : State) (c : Cmd) (id : BitVec 64) : Except Fail (State × Cmd) :=
  let i := sidIndex id
  if s.seqFree i && decide ((s.seq i).gen ≤ sidGen id) then
    .ok ((s.setSeq i { gen := sidGen id }).modSeqs fun q => { q with reserved := q.reserved ++ [(i, c.id, c.dom)] },
      { c with seq := some i })
  else .error ⟨stSeqFull, 1, 0, 0⟩

/-- Step 7 of a command that issues an index: the index is reserved (R38). -/
def State.reserveSeq (s : State) (c : Cmd) : Except Fail (State × Cmd) :=
  if s.num 0x7120 9 c.dom ≤ s.seqsHeld c.dom then .error ⟨stSeqFull, 2, 0, 0⟩
  else if let some id := c.adopted then s.adoptSeq c id
  else
    match s.nextSeqIndex with
    | none => .error ⟨stSeqFull, 1, 0, 0⟩
    | some i =>
      .ok (s.picked.modSeqs fun q => { q with reserved := q.reserved ++ [(i, c.id, c.dom)] }, { c with seq := some i })

/-- The entry of a new sequence, with the fields of R179. -/
def newEntry (pr : Prof) (c : Cmd) (gen : Nat) : SeqEntry :=
  let d := c.desc
  { gen := gen, dom := c.dom, st := .open_, reclaimable := bit d 496, prio := fld d 492 4, group := fld d 480 12,
    slice := fld d 500 4, posBase := fld d 384 32, lens := List.replicate pr.planes 0 }

/-- An issued index leaves the order of freed ones. -/
def State.issueSeq (s : State) (i : Nat) (e : SeqEntry) : State :=
  (s.setSeq i e).modSeqs fun q => { q with freed := q.freed.filter (· ≠ i) }

/-- Commit of SEQ_OPEN (R178). -/
def State.commitOpen (s : State) (c : Cmd) : State :=
  let i := c.seq.getD 0
  let e := newEntry s.pr c (s.seq i).gen
  (s.issueSeq i e).endOk c 0 (seqIdOf i e).toNat 0

/-! ## Row records -/

/-- Key of a granule run of a command: a row record by its row, a row index block from 2^32 on. -/
def indexKey (k : Nat) : Option Nat := some (2 ^ 32 + k)

/-- One run allocated for a command: the state and the command with it, or ST_NO_PAGE with its cause (R53, R307). -/
def State.takeGrains (s : State) (c : Cmd) (key : Option Nat) (n : Nat) : Except Fail (State × Cmd) :=
  match s.allocGrains n c.dom with
  | some (t, a) => .ok (t, { c with grains := c.grains ++ [(key, a)] })
  | none =>
    let held := ((s.seqs.pool.filter fun p => p.2.2 == c.dom).map fun p => p.2.1).sum
    .error ⟨stNoPage, if s.num 0x7120 0xA c.dom < held + n then 2 else 4, 0, 0⟩

/-- Several runs allocated in order. -/
def State.takeRuns (s : State) (c : Cmd) : List (Option Nat × Nat) → Except Fail (State × Cmd)
  | [] => .ok (s, c)
  | (k, n) :: r =>
    match s.takeGrains c k n with
    | .ok (t, c2) => State.takeRuns t c2 r
    | .error f => .error f

/-- The runs a sequence needs before rows `rows` can be added to it: the plane-length block, row records and row index
blocks that neither it nor an earlier command holds (R41). -/
def State.runsFor (s : State) (i : Nat) (e : SeqEntry) (rows : List Nat) : List (Option Nat × Nat) :=
  let pend := (s.sched.cmds.filter fun c => c.seq == some i).flatMap fun c => c.grains.map Prod.fst
  let new := rows.filter fun r => (aget e.rows r).isNone && !pend.contains (some r)
  let pendRows := (pend.filter fun k => match k with | some r => decide (r < 2 ^ 32) | none => false).length
  let pendIdx := (pend.filter fun k => match k with | some r => decide (2 ^ 32 ≤ r) | none => false).length
  let have_ := e.indexPtrs.length + pendIdx
  let want := ceilDiv (e.rows.length + pendRows + new.length) 1023
  (if e.lenPtr = 0 ∧ ¬ pend.contains none then [(none, s.pr.lenGrains)] else [])
    ++ new.map (fun r => (some r, s.pr.rowGrains))
    ++ (List.range (want - have_)).map fun k => (indexKey (have_ + k), 16)

/-- A sequence entry with a command's granule runs joined to it (R41). -/
def SeqEntry.withGrains (e : SeqEntry) (g : List (Option Nat × Nat)) : SeqEntry :=
  g.foldl (fun a k =>
    match k.1 with
    | none => { a with lenPtr := k.2 }
    | some r =>
      if 2 ^ 32 ≤ r then { a with indexPtrs := a.indexPtrs ++ [k.2] } else { a with rows := aput a.rows r k.2 }) e

/-! ## SEQ_FORK -/

/-- Fork length F (R179). -/
def forkLen (d : Desc) : Nat := fld d 416 32

/-- The handles that a fork of length `f` shares (R47). -/
def forkHandles (pr : Prof) (e : SeqEntry) (f : Nat) : List (Nat × Nat) :=
  e.handles.filter fun h => decide (hord h.1 * pr.tokens (hplane h.1 % 2) < f)

/-- Steps 4 to 6 of SEQ_FORK (R47): the parent, the profile and the parameters. -/
def State.checkFork (s : State) (c : Cmd) : Option Fail :=
  match s.seqRef (dSeq c.desc) c.dom true with
  | .bad => some ⟨stBadSeq, 0, 0, 0⟩
  | .ahead =>
    if (s.seq (sidIndex (dSeq c.desc))).dom = c.dom then some ⟨stEpochAhead, 0, s.seqs.epochC.toNat, 0⟩
    else some ⟨stBadSeq, 0, 0, 0⟩
  | .ok i =>
    let e := s.seq i
    let f := forkLen c.desc
    let base := fld c.desc 384 32
    if ¬ (e.dom = c.dom ∨ s.inGroup e.group c.dom) then some ⟨stBadSeq, 0, 0, 0⟩
    else if !s.pagesOk c.dom ((forkHandles s.pr e f).map Prod.snd) then some ⟨stBadSeq, 0, 0, 0⟩
    else firstFail
      ([(s.profOk, ⟨stProfile, 0, 0, 0⟩),
        (base == e.posBase || s.pr.keyPosition == 1, badParam 48),
        (decide (base + f ≤ 2 ^ 32), badParam 48),
        (decide (f ≤ (s.projected i (some c.sq)).minLen s.pr), badParam 52)] ++ s.newSeqParam c)

/-- Rows of a child: the parent's held rows below the fork length (R41, R47). -/
def forkRows (pr : Prof) (e : SeqEntry) (f : Nat) : List Nat :=
  (akeys e.rows).filter fun r => decide (r * pr.align < f)

/-- Step 7 of SEQ_FORK: an index and the child's granules. DESIGN CHOICE: R41 speaks of the records of the first append alone; a child
with tokens takes its plane lengths and rows here, at the fork (log 128). -/
def State.reserveFork (s : State) (c : Cmd) : Except Fail (State × Cmd) :=
  let p := sidIndex (dSeq c.desc)
  let f := forkLen c.desc
  match s.reserveSeq c with
  | .error e => .error e
  | .ok (t, c2) =>
    if f = 0 then .ok (t, c2)
    else
      let par := s.projected p (some c.sq)
      let rows := (List.range (ceilDiv f s.pr.align)).filter fun r =>
        (aget par.rows r).isSome || decide (par.released ≤ r)
      t.takeRuns c2 (t.runsFor (c2.seq.getD 0) {} rows)

/-- Commit of SEQ_FORK (R47): references added, lengths set to F in the stored planes. -/
def State.commitFork (s : State) (c : Cmd) : State :=
  let p := sidIndex (dSeq c.desc)
  let par := s.seq p
  let f := forkLen c.desc
  let i := c.seq.getD 0
  if par.minLen s.pr < f then s.endCmd c (badParam 52)
  else
    let hs := forkHandles s.pr par f
    let rows := forkRows s.pr par f
    let used := c.grains.filter fun g => match g.1 with | some r => decide (2 ^ 32 ≤ r) || rows.contains r | none => true
    let e0 := newEntry s.pr c (s.seq i).gen
    let e1 : SeqEntry :=
      { e0 with
          lens := e0.lens.mapIdx fun k _ => if s.pr.stored (k % 2) then f else 0
          handles := hs, released := par.released, parent := p, forked := true }
    let e := e1.withGrains used
    let s1 := (hs.map Prod.snd).foldl State.addRef s
    (s1.issueSeq i e).endOk { c with grains := c.grains.filter fun g => !used.contains g } 0 (seqIdOf i e).toNat 0

/-! ## SEQ_TRIM -/

/-- New length L′ (R179). -/
def trimLen (d : Desc) : Nat := fld d 416 32
/-- Head release E (R179). -/
def trimHead (d : Desc) : Nat := fld d 448 32

/-- Steps 4 to 6 that a command on an own sequence shares: its Sequence ID and its pages (R37, R44, R203). -/
def State.checkSeq (s : State) (c : Cmd) : Option Fail :=
  match s.seqRef (dSeq c.desc) c.dom with
  | .bad => some ⟨stBadSeq, 0, 0, 0⟩
  | .ahead => some ⟨stEpochAhead, 0, s.seqs.epochC.toNat, 0⟩
  | .ok i => if s.pagesOk c.dom ((s.seq i).handles.map Prod.snd) then none else some ⟨stBadSeq, 0, 0, 0⟩

/-- Steps 4 to 6 of SEQ_TRIM (R55). -/
def State.checkTrim (s : State) (c : Cmd) : Option Fail :=
  match s.checkSeq c with
  | some f => some f
  | none => firstFail [(trimHead c.desc % s.pr.align == 0, badParam 56)]

/-- A plane cut to a length: the references of pages wholly beyond it are dropped (R55). -/
def cutHandles (pr : Prof) (e : SeqEntry) (n : Nat) : List (Nat × Nat) :=
  e.handles.filter fun h => decide (n ≤ hord h.1 * pr.tokens (hplane h.1 % 2)) && decide (n < e.len (hplane h.1))

/-- Handles of the rows that a head release frees (R55). -/
def headHandles (pr : Prof) (e : SeqEntry) (n : Nat) : List (Nat × Nat) :=
  e.handles.filter fun h => decide ((rowOf pr (hplane h.1) (hord h.1) + 1) * pr.align ≤ n)

/-- The tail pages of the planes that a trim cuts: the page that holds offset L′ − 1 (R55). -/
def tailPages (pr : Prof) (e : SeqEntry) (n : Nat) : List (Nat × Nat) :=
  if n = 0 then []
  else e.handles.filter fun h =>
    hord h.1 == (n - 1) / pr.tokens (hplane h.1 % 2) && decide (n < e.len (hplane h.1))

/-- A tail page cut in place when it is in DEVICE state with one reference (R55). -/
def State.cutTail (s : State) (n : Nat) (h : Nat × Nat) : State :=
  match s.page h.2 with
  | some e =>
    if e.st = .device ∧ e.refs ≤ 1 then
      s.setSlot e.loc ((s.slotData e.loc).cut s.pr (n - hord h.1 * s.pr.tokens (hplane h.1 % 2))).touch
    else s
  | none => s

/-- A page whose side record does not name it: reported, of a page in HBM against its stack with its slot queued for the patrol, else
against the tier engine. It is a fault of the page (R148, R156, R300, R331). -/
def State.reportIdentity (s : State) (p : Nat) : State :=
  match s.page p with
  | none => s
  | some e =>
    if e.inHbm then
      let st := slotStack e.loc
      s.raise 0x0B (0x100 + st) (chanUnit st (s.physChan st (slotChan e.loc))) (some e.dom) (s.pageDetail (some p)) false fun _ t =>
        t.modPages fun q => { q with suspects := q.suspects ++ [(e.loc, noUnit)] }
    else s.raise 0x0B islTier 0 (some e.dom) (s.pageDetail (some p)) false fun _ t => t

/-- An image carries the tag of the Page Map entry that it restores (R300). -/
def State.imageTagOk (s : State) (p : Nat) (d : PageData) : Bool :=
  match s.page p with | some e => d.tagOk e | none => true

/-- A command that would read or write a lost slot fails (R97). -/
def State.isLost (s : State) (p : Nat) : Bool :=
  match s.page p with
  | some e => e.inHbm && s.pages.lost.contains e.loc
  | none => false

/-- The length that a trim cuts to: L′, or beyond every plane where L′ is all ones (R179). -/
def trimTo (pr : Prof) (e : SeqEntry) (d : Desc) : Nat := if trimLen d = 0xFFFFFFFF then e.maxLen pr + 1 else trimLen d

/-- The handles that a trim drops: of pages beyond the new length, and of released rows (R55). -/
def trimGone (pr : Prof) (e : SeqEntry) (d : Desc) : List (Nat × Nat) :=
  let cut := cutHandles pr e (trimTo pr e d)
  cut ++ (headHandles pr e (trimHead d)).filter fun h => !cut.contains h

/-- Commit of SEQ_TRIM (R55). -/
def State.commitTrim (s : State) (c : Cmd) : State :=
  let i := sidIndex (dSeq c.desc)
  let e := s.seq i
  let pr := s.pr
  let n := trimTo pr e c.desc
  let tails := tailPages pr e n
  let gone := trimGone pr e c.desc
  if (tails.filter fun h => !gone.contains h).any fun h =>
      s.isLost h.2 && ((s.page h.2).map PageEntry.refs).getD 0 == 1 then
    s.endCmd c ⟨stPartFail, 0, 0, 0⟩
  else
    let handles := e.handles.filter fun h => !gone.contains h
    let lens := e.lens.map fun x => Nat.min x n
    let top := lens.foldl Nat.max 0
    let dead := e.rows.filter fun r => decide ((r.1 + 1) * pr.align ≤ trimHead c.desc) || decide (top ≤ r.1 * pr.align)
    let rows := e.rows.filter fun r => !dead.contains r
    let keepIdx := ceilDiv rows.length 1023
    let e2 : SeqEntry :=
      { e with
          lens := lens, handles := handles, rows := rows
          released := Nat.max e.released (Nat.min (trimHead c.desc / pr.align) (ceilDiv top pr.align))
          indexPtrs := e.indexPtrs.take keepIdx
          st := if e.st = .stalled then .open_ else e.st }
    let s1 := (tails.filter fun h => !gone.contains h).foldl (fun t h => t.cutTail n h) s
    let s2 := (s1.setSeq i e2).dropRefs (gone.map Prod.snd)
    let s3 := (dead.map Prod.snd ++ e.indexPtrs.drop keepIdx).foldl State.freeGrains s2
    s3.endOk c 0 (e2.maxLen pr) 0

/-! ## SEQ_CLOSE -/

/-- Steps 4 to 6 of SEQ_CLOSE: a MOVING sequence is busy (R56). -/
def State.checkClose (s : State) (c : Cmd) : Option Fail :=
  match s.checkSeq c with
  | some f => some f
  | none =>
    if (s.seq (sidIndex (dSeq c.desc))).st = .moving then some ⟨stBusy, 0, 0, 0⟩ else none

/-- Admission of SEQ_CLOSE: the sequence is CLOSING (R56). -/
def State.reserveClose (s : State) (c : Cmd) : Except Fail (State × Cmd) :=
  let i := sidIndex (dSeq c.desc)
  let e := s.seq i
  .ok (s.setSeq i { e with st := .closing }, { c with r0 := if e.st = .stalled then 2 else 1 })

/-- Commit of SEQ_CLOSE (R56). -/
def State.commitClose (s : State) (c : Cmd) : State :=
  (s.closeSeq (sidIndex (dSeq c.desc))).endOk c 0 0 0

end Sys2Proof.Machine
end

