-- ==== Sys2Proof/Machine/Append.lean ====
section
/-! DEFINITION. Appends: what KV_APPEND and KV_APPEND_LAYER check, reserve and commit (R10 to R12, R34, R46, R48, R50 to
R53, R55, R67, R180), with reclaim, and their GROW and SEAL stripes (R79, R90). -/

namespace Sys2Proof.Machine

/-! ## One page granted -/

/-- Page Map entries that a domain holds, reservations of commands and landing regions included (R306). -/
def State.mapHeld (s : State) (d : Nat) : Nat :=
  (s.pages.map.filter fun p => p.2.dom == d).length + ((s.xnt.landings.filter fun l => l.dom == d).map fun l => l.binds.length).sum
    + ((s.sched.cmds.filter fun c => c.dom == d).map fun c => c.writes.length).sum

/-- A PAGE_VIEW of the page is admitted and not committed (R46, R99). -/
def State.viewPending (s : State) (p : Nat) : Bool :=
  s.sched.cmds.any fun c => dOp c.desc == 0x43 && c.jobs.any fun j => j.page == p

/-- Candidates of a reclaim, in the order of R52: priority, sequence index, plane, ordinal. A page that an admitted PAGE_VIEW
names, or that an append is writing in place, stays (R90, R99). -/
def State.reclaimList (s : State) (slice d prio : Nat) : List (Nat × PageEntry) :=
  let seqs := s.seqs.table.filter fun p =>
    p.2.dom == d && p.2.reclaimable && decide (p.2.prio < prio) && (p.2.st == .open_ || p.2.st == .stalled)
  ((List.range prio).flatMap fun k => (seqs.filter fun p => p.2.prio == k).flatMap fun q =>
    q.2.handles.map Prod.snd).filterMap fun p =>
      match s.page p with
      | some e =>
        let sd := s.slotData e.loc
        if e.st = .device ∧ e.refs = 1 ∧ e.dom = d ∧ e.busy = none ∧ sd.tier = 1 ∧ sd.dirty = false
            ∧ s.bpAllowed slice d (slotChan e.loc) (slotBp e.loc) ∧ s.readersOf p = []
            ∧ !s.viewPending p ∧ !(s.awns.undo.any fun u => u.slot == e.loc) then some (p, e)
        else none
      | none => none

/-- A page reclaimed: SWAPPED at its cold copy, its slot zero and held by the command (R52). -/
def State.reclaim (s : State) (p : Nat) (e : PageEntry) (cmd : Nat) : State :=
  ((s.setPage p { e with st := .swapped, loc := (s.slotData e.loc).cold }).zeroSlot e.loc).setUse e.loc (.reserved cmd)

/-- A slot granted for ordinal `j` of plane `p` of a sequence: R50 and R51, then reclaim, else the cause of R53. The flag says
whether it was reclaimed. -/
def State.takeSlot (s : State) (d slice prio j p cmd : Nat) : Except Fail (State × Nat × Bool) :=
  let quota := decide (s.slotsHeld d < s.num 0x3200 1 d)
  match (if s.grantOk d then s.findSlot slice d j p else none) with
  | some n => .ok (s.setUse n (.reserved cmd), n, false)
  | none =>
    if !quota then .error ⟨stNoPage, 2, 0, 0⟩
    else
      match s.reclaimList slice d prio with
      | (q, e) :: _ => .ok (s.reclaim q e cmd, e.loc, true)
      | [] => .error ⟨stNoPage, if s.grantOk d then 5 else 1, 0, 0⟩

/-- A slot and a Page Map index reserved for a page that a command will write (R50). -/
def State.takePage (s : State) (c : Cmd) (e : SeqEntry) (plane ord : Nat) (copied : Option Nat) :
    Except Fail (State × Cmd) :=
  if s.num 0x7120 8 c.dom ≤ s.mapHeld c.dom + c.writes.length then .error ⟨stNoPage, 2, 0, 0⟩
  else
    match s.nextPage with
    | none => .error ⟨stNoPage, 3, 0, 0⟩
    | some i =>
      match s.takeSlot c.dom e.slice e.prio ord plane c.id with
      | .error f => .error f
      | .ok (t, n, re) =>
        .ok (t.picked.modPages fun q => { q with reservedIdx := q.reservedIdx ++ [i] },
          { c with writes := c.writes ++ [⟨plane, ord, i, n, copied⟩]
                   reclaimed := if re then c.reclaimed ++ [n] else c.reclaimed })

/-! ## Checks -/

/-- A sequence's entry once a pending append or trim of it has committed (R12, R55). -/
def SeqEntry.after (pr : Prof) (e : SeqEntry) (d : Desc) : SeqEntry :=
  if isAppend d then { e with lens := appendLens pr d e.lens }
  else if dOp d = 0x03 then
    { e with lens := e.lens.map fun x => Nat.min x (trimTo pr e d)
             handles := e.handles.filter fun h => !(trimGone pr e d).contains h }
  else e

/-- A sequence's entry as an append admitted now will find it: its changes commit in order of admission (R12, R45, R55). -/
def State.ahead (s : State) (i : Nat) : SeqEntry :=
  (s.sched.cmds.filter fun c => c.seq == some i).foldl (fun e c => e.after s.pr c.desc) (s.seq i)

/-- The part of an append beyond a committed length: the ordinals it writes in a plane. -/
def appendOrds (pr : Prof) (d : Desc) (p len : Nat) : List Nat :=
  let t := pr.tokens (p % 2)
  let stop := dOffset d + dTokens d
  if stop ≤ len then [] else (List.range ((stop - 1) / t + 1)).drop (len / t)

/-- The ordinals of every plane that an append writes, over given lengths. -/
def appendPages (pr : Prof) (d : Desc) (e : SeqEntry) : List (Nat × Nat) :=
  (appendPlanes pr d).flatMap fun p => (appendOrds pr d p (e.len p)).map fun j => (p, j)

/-- Bytes that BUF_IN of an append holds (R180). -/
def appendBytes (pr : Prof) (d : Desc) : Nat :=
  ((appendPlanes pr d).map fun p => dTokens d * pr.dim (p % 2) * 2).sum

/-- A page that an append would write in place is in HBM and writable (R46, R223). -/
def State.writable (s : State) (p : Nat) : Bool :=
  match s.page p with
  | some e =>
    if e.refs ≤ 1 then e.st == .device && !s.viewPending p else e.inHbm
  | none => true

/-- Steps 4 to 6 of an append, its buffer's contents apart. -/
def State.checkAppend (s : State) (c : Cmd) : Option Fail :=
  match s.checkSeq c with
  | some f => some f
  | none =>
    let d := c.desc
    let pr := s.pr
    let i := sidIndex (dSeq d)
    let e := s.ahead i
    let short := (appendPlanes pr d).find? fun p => decide (e.len p < dOffset d)
    match firstFail
      [(s.profOk, ⟨stProfile, 0, 0, 0⟩),
       (decide (1 ≤ dTokens d) && decide (dTokens d ≤ 2048), badParam 52),
       (dOp d != 0x10 || (decide (fld d 432 13 < pr.planes) && pr.stored (fld d 432 13 % 2)), badParam 54),
       (dOp d != 0x11 || decide (fld d 448 8 < pr.layers), badParam 56),
       (decide (e.posBase + dOffset d + dTokens d ≤ 2 ^ 32), badParam 48)] with
    | some f => some f
    | none =>
      match bufParam (dIn d) 16 (appendBytes pr d) with
      | some f => some f
      | none =>
        match short with
        | some p => some ⟨stBadPosition, 0, (s.seq i).len p, 0⟩
        | none =>
          if s.moveEnded i then some ⟨stBusy, 0, 0, 0⟩
          else if (appendPages pr d e).all fun pj => match e.handle pj.1 pj.2 with | some q => s.writable q | none => true then none
          else some ⟨stBusy, 0, 0, 0⟩

/-- Elements of a buffer in SOURCE_FORMAT; `none` for an Inf or a NaN (R67). -/
def sourceElems (pr : Prof) (l : List Byte) : Option (List Dy) :=
  (chunks 2 (l.length / 2 + 1) l).mapM fun b => if pr.sourceFormat = 0 then bf16 (leNat b) else fp16 (leNat b)

/-- The contents of an append's buffer hold no Inf and no NaN (R67). DESIGN CHOICE: where the positions are all committed already, R11
answers ST_OK whatever the payload and R67 refuses an Inf or a NaN before any work; here R67 stands first (log 127). -/
def State.takeAppend (s : State) (c : Cmd) : Option Fail :=
  if (sourceElems s.pr c.input).isSome then none else some (badParam 0xFF)

/-! ## Reservation -/

/-- Pages that earlier commands of the sequence have reserved. -/
def State.pendingWrites (s : State) (i : Nat) : List (Nat × Nat) :=
  ((s.sched.cmds.filter fun c => c.seq == some i).flatMap fun c => c.writes).map fun w => (w.plane, w.ordinal)

/-- The pages an append must reserve: fresh ones, and copies of pages with REFCOUNT above 1 (R48, R50). -/
def State.appendNeeds (s : State) (d : Desc) (i : Nat) (e : SeqEntry) : List (Nat × Nat × Option Nat) :=
  let pend := s.pendingWrites i
  ((appendPages s.pr d e).filter fun pj => !pend.contains pj).filterMap fun pj =>
    match e.handle pj.1 pj.2 with
    | none => some (pj.1, pj.2, none)
    | some q =>
      match s.page q with
      | some x => if 1 < x.refs then some (pj.1, pj.2, some q) else none
      | none => some (pj.1, pj.2, none)

/-- Pages reserved in order. -/
def State.takePages (s : State) (c : Cmd) (e : SeqEntry) : List (Nat × Nat × Option Nat) → Except Fail (State × Cmd)
  | [] => .ok (s, c)
  | (p, j, q) :: r =>
    match s.takePage c e p j q with
    | .ok (t, c2) => State.takePages t c2 e r
    | .error f => .error f

/-- Rows that an append reaches (R41). -/
def appendRows (pr : Prof) (d : Desc) (e : SeqEntry) : List Nat :=
  ((appendPages pr d e).map fun pj => rowOf pr pj.1 pj.2).eraseDups

/-- Step 7 of an append: pages, slots and granules, or ST_NO_PAGE (R50, R53). -/
def State.reserveAppend (s : State) (c : Cmd) : Except Fail (State × Cmd) :=
  let i := sidIndex (dSeq c.desc)
  let e := s.ahead i
  let c1 := { c with seq := some i }
  match s.takePages c1 e (s.appendNeeds c.desc i e) with
  | .error f => .error f
  | .ok (t, c2) =>
    let rows := appendRows s.pr c.desc e
    if rows.isEmpty then .ok (t, c2) else t.takeRuns c2 (s.runsFor i (s.seq i) rows)

/-- ST_NO_PAGE of an append: the sequence is STALLED and one event posted for each entry into that state (R53). -/
def State.stall (s : State) (i cause : Nat) : State :=
  let e := s.seq i
  if e.st = .open_ then
    (s.setSeq i { e with st := .stalled }).note 0x0101 (some e.dom) islSched 0 [(seqIdOf i e).toNat, cause]
  else s

/-! ## Commit -/

/-- The reservation of a command for a page: its Page Map index and slot. -/
def Cmd.pageFor (c : Cmd) (plane ord : Nat) : Except Fail (Nat × Nat) :=
  match c.writes.find? fun w => w.plane == plane && w.ordinal == ord with
  | some w => .ok (w.page, w.slot)
  | none => .error ⟨stNoPage, 1, 0, 0⟩

/-- The tokens of each plane of an append, as dyadic numbers (R180). -/
def splitInput (pr : Prof) (d : Desc) : List Nat → List Dy → List (Nat × List (List Dy))
  | [], _ => []
  | p :: r, xs =>
    let n := dTokens d * pr.dim (p % 2)
    (p, chunks (pr.dim (p % 2)) (dTokens d) (xs.take n)) :: splitInput pr d r (xs.drop n)

/-- A fresh page of a plane of a sequence, with `lead` zero tokens before the first written (R32). -/
def freshPage (pr : Prof) (i : Nat) (e : SeqEntry) (plane ord lead : Nat) : PageData :=
  let k := plane % 2
  let z : PageData :=
    { kind := k, format := pr.fmt k, log2T := log2T (pr.dim k) (pr.fmt k), dom := e.dom, group := e.group,
      layer := pr.planeLayer plane, head := pr.planeHead plane, ordinal := ord, posBase := e.posBase, writer := seqIdOf i e }
  let g := if k = 0 then ceilDiv lead z.block * z.dim pr else if fmtGlumed z.format then lead * (z.dim pr / 32) else 0
  { z with tokens := lead, payload := List.replicate (lead * z.tb pr) 0, glumes := List.replicate g 0 }

/-- The Page Map entry of a page that a sequence writes (R42). -/
def freshEntry (pr : Prof) (i : Nat) (e : SeqEntry) (plane ord slot : Nat) : PageEntry :=
  { st := .device, dom := e.dom, group := e.group, refs := 1, loc := slot, writer := i, writerGen := e.gen,
    layer := pr.planeLayer plane, head := pr.planeHead plane, ordinal := ord, kind := plane % 2 }

/-- A page copied for a sequence: its tokens below the sequence's length, its identity that of the sequence (R48). -/
def copyPage (pr : Prof) (i : Nat) (e : SeqEntry) (d : PageData) (plane ord keep : Nat) : PageData :=
  { d.cut pr keep with
      dom := e.dom, group := e.group, posBase := e.posBase, writer := seqIdOf i e, ordinal := ord,
      layer := pr.planeLayer plane, head := pr.planeHead plane, tier := 0, dirty := false, comp := 0, tableId := 0,
      tableGen := 0, cold := 0 }

/-- The pages that a commit must reserve beside those that its admission reserved (R48, R50). -/
def State.commitNeeds (s : State) (c : Cmd) (e : SeqEntry) : List (Nat × Nat × Option Nat) :=
  (appendPages s.pr c.desc e).filterMap fun pj =>
    if c.writes.any fun w => w.plane == pj.1 && w.ordinal == pj.2 then none
    else
      match e.handle pj.1 pj.2 with
      | none => some (pj.1, pj.2, none)
      | some q =>
        match s.page q with
        | some x => if 1 < x.refs then some (pj.1, pj.2, some q) else none
        | none => none

/-- A reserved page becomes the page of a handle. -/
def State.placePage (s : State) (i : Nat) (e : SeqEntry) (plane ord page slot : Nat) (d : PageData) : State :=
  (((s.setPage page (freshEntry s.pr i e plane ord slot)).setSlot slot d).setUse slot (.page page)).modPages fun q =>
    { q with reservedIdx := q.reservedIdx.filter (· ≠ page) }

/-- Tokens written into one page of a plane: in place, in a copy, or in a fresh page (R34, R48, R55). `len` is the
committed length of the plane. A page that has left HBM takes no write (R223). -/
def State.writePage (s : State) (c : Cmd) (i : Nat) (e : SeqEntry) (plane ord len : Nat) (toks : List (List Dy)) :
    Except Fail (State × EncCount × Nat) :=
  let pr := s.pr
  let keep := len - ord * pr.tokens (plane % 2)
  match e.handle plane ord with
  | none =>
    match c.pageFor plane ord with
    | .error f => .error f
    | .ok (p, n) =>
      let (d, k) := (freshPage pr i e plane ord keep).append pr toks
      .ok (s.placePage i e plane ord p n d, k, p)
  | some q =>
    match s.page q with
    | none => .error ⟨stPartFail, 0, 0, 0⟩
    | some x =>
      if s.isLost q then .error ⟨stPartFail, 0, 0, 0⟩
      else if !x.inHbm then .error ⟨stBusy, 0, 0, 0⟩
      else if 1 < x.refs then
        match c.pageFor plane ord with
        | .error f => .error f
        | .ok (p, n) =>
          let (d, k) := (copyPage pr i e (s.slotData x.loc) plane ord keep).append pr toks
          .ok ((s.placePage i e plane ord p n d).dropRef q, k, p)
      else if x.st ≠ .device then .error ⟨stBusy, 0, 0, 0⟩
      else
        let (d, k) := ((s.slotData x.loc).cut pr keep).append pr toks
        .ok (s.setSlot x.loc d.touch, k, q)

/-- The pages of one plane written in order. -/
def State.writePlane (s : State) (c : Cmd) (i : Nat) (e : SeqEntry) (plane len : Nat) (toks : List (List Dy)) (at_ : Nat)
    (n : EncCount) : List Nat → Except Fail (State × SeqEntry × EncCount)
  | [] => .ok (s, e, n)
  | j :: r =>
    let t := s.pr.tokens (plane % 2)
    let here := toks.take ((j + 1) * t - at_)
    match s.writePage c i e plane j len here with
    | .error f => .error f
    | .ok (s2, k, p) =>
      State.writePlane s2 c i { e with handles := aput e.handles (hkey plane j) p } plane len
        (toks.drop ((j + 1) * t - at_)) ((j + 1) * t) (n.add k) r

/-- The planes of an append written in order; the number of tokens newly committed is gathered (R11, R178). -/
def State.writePlanes (s : State) (c : Cmd) (i : Nat) (e : SeqEntry) (n : EncCount) (count : Nat) :
    List (Nat × List (List Dy)) → Except Fail (State × SeqEntry × EncCount × Nat)
  | [] => .ok (s, e, n, count)
  | (p, toks) :: r =>
    let len := e.len p
    let off := dOffset c.desc
    let stop := off + dTokens c.desc
    if len < off then .error ⟨stBadPosition, 0, len, 0⟩
    else if stop ≤ len then State.writePlanes s c i e n count r
    else
      match s.writePlane c i e p len (toks.drop (len - off)) len n (appendOrds s.pr c.desc p len) with
      | .error f => .error f
      | .ok (s2, e2, n2) =>
        State.writePlanes s2 c i { e2 with lens := e2.lens.set p stop } n2 (count + (stop - len)) r

/-- The slots and indices of a command that its commit did not use are released by its end. -/
def Cmd.unused (c : Cmd) (e : SeqEntry) : List PageWrite :=
  c.writes.filter fun w => e.handle w.plane w.ordinal != some w.page

/-- An append that fails at its commit ends; ST_NO_PAGE stalls its sequence (R53). -/
def State.endAppend (s : State) (c : Cmd) (i : Nat) (f : Fail) : State :=
  let s1 := s.endCmd c f
  if f.st = stNoPage then s1.stall i f.cause else s1

/-- Granule runs that the commit needs and admission did not reserve, joined to the entry. -/
def State.commitRuns (s : State) (c : Cmd) (i : Nat) (e : SeqEntry) (runs : List (Option Nat × Nat)) :
    Except Fail (State × Cmd × SeqEntry) :=
  match s.takeRuns { c with seq := some i } runs with
  | .error f => .error f
  | .ok (t, c2) => .ok (t, { c2 with grains := [] }, e.withGrains c2.grains)

/-- What the commit of an append reserves beside its admission: the state, the command and the entry with its granule runs. -/
def State.commitPages (s : State) (c : Cmd) (i : Nat) (held : SeqEntry) : Except Fail (State × Cmd × SeqEntry) :=
  let rows := appendRows s.pr c.desc held
  match s.takePages c held (s.commitNeeds c held) with
  | .error f => .error f
  | .ok (t, c2) => t.commitRuns { c2 with grains := [] } i held (if rows.isEmpty then [] else t.runsFor i held rows)

/-- Commit of an append (R34, R178): every change together, or none. -/
def State.commitAppend (s : State) (c : Cmd) : State :=
  let i := sidIndex (dSeq c.desc)
  let held := (s.seq i).withGrains c.grains
  match s.commitPages c i held with
  | .error f => s.endAppend c i f
  | .ok (s0, c0, e0) =>
  match s0.writePlanes c0 i e0 {} 0 (splitInput s.pr c.desc (appendPlanes s.pr c.desc)
      ((sourceElems s.pr c.input).getD [])) with
  | .error f => s.endAppend c i f
  | .ok (t, e, n, count) =>
    let e2 := { e with st := if e.st = .stalled then .open_ else e.st }
    let s1 := ((t.setSeq i e2).bump 0x2000 0x20 n.clamps).bump 0x2000 0x21 n.growths
    let r0 := if dOp c.desc = 0x10 then e2.len (fld c.desc 432 13) else e2.minLen s.pr
    s1.endOk { c0 with grains := [], writes := c0.unused e2 } count r0 0

/-! ## Stripes (R79, R90) -/

/-- The page that an append writes into, as the write finds it (R48, R55): its slot, its contents, and whether it is written in
place. -/
def State.baseOf (s : State) (c : Cmd) (i : Nat) (e : SeqEntry) (plane ord len : Nat) : Option (Nat × PageData × Bool) :=
  let keep := len - ord * s.pr.tokens (plane % 2)
  match e.handle plane ord with
  | none => (c.pageFor plane ord).toOption.map fun x => (x.2, freshPage s.pr i e plane ord keep, false)
  | some q =>
    match s.page q with
    | none => none
    | some x =>
      if 1 < x.refs then
        (c.pageFor plane ord).toOption.map fun y => (y.2, copyPage s.pr i e (s.slotData x.loc) plane ord keep, false)
      else if x.inHbm then some (x.loc, (s.slotData x.loc).cut s.pr keep, true)
      else none

/-- The GROW and SEAL stripes of tokens written into a page, block by block: one GROW for each block channel rescaled (R69), then
one SEAL. A value page is one block (log 115). -/
def blockStripes (pr : Prof) (slot : Nat) : Nat → PageData → List (List Dy) → List StripeIn
  | 0, _, _ => []
  | _ + 1, _, [] => []
  | f + 1, d, toks =>
    let b := if d.kind = 0 then d.block else d.cap
    let n := b - d.tokens % b
    let (d2, k) := d.append pr (toks.take n)
    let x : StripeIn := { op := .seal, slot := slot, block := d.tokens / b, tokens := d2.tokens - d.tokens / b * b }
    List.replicate k.growths { x with op := .grow } ++ x :: blockStripes pr slot f d2 (toks.drop n)

/-- The pages of one plane that an append writes: slot, contents before the write, whether in place, and the tokens. -/
def State.planeBases (s : State) (c : Cmd) (i : Nat) (e : SeqEntry) (p : Nat) (toks : List (List Dy)) :
    List (Nat × PageData × Bool × List (List Dy)) :=
  let len := e.len p
  let off := dOffset c.desc
  let t := s.pr.tokens (p % 2)
  (appendOrds s.pr c.desc p len).filterMap fun j =>
    let lo := Nat.max len (j * t)
    (s.baseOf c i e p j len).map fun x => (x.1, x.2.1, x.2.2, (toks.drop (lo - off)).take ((j + 1) * t - lo))

/-- The pages that an append writes. -/
def State.appendBases (s : State) (c : Cmd) : List (Nat × PageData × Bool × List (List Dy)) :=
  let i := sidIndex (dSeq c.desc)
  (splitInput s.pr c.desc (appendPlanes s.pr c.desc) ((sourceElems s.pr c.input).getD [])).flatMap fun x =>
    s.planeBases c i (s.seq i) x.1 x.2

/-- The undo areas that an append takes: one for each page that it writes in place (R90). -/
def undoFor (c : Cmd) (l : List (Nat × PageData × Bool × List (List Dy))) : List Undo :=
  (l.filter fun x => x.2.2.1).map fun x => { stack := slotStack x.1, cmd := c.id, slot := x.1, data := x.2.1 }

/-- Undo areas are free on every stack where an append takes some: a stack has 64, and a domain its share of them (R90, R306). -/
def State.undoRoom (s : State) (c : Cmd) (l : List Undo) : Bool :=
  let mine := s.awns.undo.filter fun u => ((s.cmd u.cmd).map Cmd.dom) == some c.dom
  let on := fun (k : List Undo) st => (k.filter fun u => u.stack == st).length
  (List.range 12).all fun st =>
    on l st == 0 || (decide (on s.awns.undo st + on l st ≤ 64) && decide (on mine st + on l st ≤ s.num 0x7120 0xD c.dom))

/-- An append's GROW and SEAL stripes are issued once its undo areas are free; else it waits (R90, R174). Where no awn is left to run
one, the append fails (R14, R105, log 121). -/
def State.issueAppend (s : State) (c : Cmd) : State :=
  let l := s.appendBases c
  let undo := undoFor c l
  let slots := l.flatMap fun x => blockStripes s.pr x.1 (x.2.2.2.length + 1) x.2.1 x.2.2.2
  if s.stripesDead slots then s.endAppend c (sidIndex (dSeq c.desc)) ⟨stPartFail, 0, 0, 0⟩
  else if !s.undoRoom c undo then s
  else
    let s1 := (s.modAwns fun a => { a with undo := a.undo ++ undo }).setCmd { c with issued := true }
    if slots.isEmpty then s1 else s1.addItem { op := .seal, cmd := c.id, dom := c.dom, prio := c.prio, slots := slots }

end Sys2Proof.Machine
end

