-- ==== Sys2Proof/Machine/Shaper.lean ====
section
/-! DEFINITION. Traffic shapers: the two token buckets of a domain, their refill, eligibility and charging (R315 to R317). -/

namespace Sys2Proof.Machine

/-- SHAPER_FABRIC (`n` 0) or SHAPER_TIER (`n` 1) of a domain (R316). -/
def State.shaper (s : State) (d n : Nat) : BitVec 256 := ofBytes 256 (s.active 0x7130 n d)

/-- The buckets of a shaper as a write leaves them: full or empty by RESET_MODE, in 1/65,536 byte (R315, R317). -/
def shaperFill (v : BitVec 256) : Nat × Nat :=
  if bit v 1 then (0, 0) else (fld v 96 32 * 65536, fld v 128 32 * 65536)

/-- The committed and peak bucket of one of a domain's shapers. -/
def Domain.buckets (x : Domain) (n : Nat) : Nat × Nat := if n = 0 then (x.fabC, x.fabP) else (x.tierC, x.tierP)

/-- The buckets of one of a domain's shapers replaced. -/
def Domain.setBuckets (x : Domain) (n c p : Nat) : Domain :=
  if n = 0 then { x with fabC := c, fabP := p } else { x with tierC := c, tierP := p }

/-- The buckets of a domain's shaper in the state. -/
def State.buckets (s : State) (d n : Nat) : Nat × Nat := ((aget s.dom.doms d).getD {}).buckets n

/-- The buckets of a domain's shaper replaced in the state. -/
def State.setBuckets (s : State) (d n c p : Nat) : State :=
  s.modDom fun x => { x with doms := amod x.doms d fun y => y.setBuckets n c p }

/-- The buckets of one of a domain's shapers set anew: 0 FABRIC, 1 TIER (R317). -/
def State.resetShaper (s : State) (d n : Nat) : State :=
  let f := shaperFill (s.shaper d n)
  s.setBuckets d n f.1 f.2

/-- What `rate` Mb/s add to a bucket in `dt` ns, in 1/65,536 byte (R315); half of it for TIER at x8 (R317). -/
def bucketGain (rate dt : Nat) (half : Bool) : Nat := rate * dt * 65536 / (if half then 16000 else 8000)

/-- One tick of length `dt` ns of one shaper (R315). -/
def State.refill (s : State) (d n dt : Nat) : State :=
  let v := s.shaper d n
  if bit v 0 then
    let b := s.buckets d n
    let half := n == 1 && s.link.width == 8
    s.setBuckets d n (Nat.min (fld v 96 32 * 65536) (b.1 + bucketGain (fld v 32 32) dt half))
      (Nat.min (fld v 128 32 * 65536) (b.2 + bucketGain (fld v 64 32) dt half))
  else s

/-- How a unit of traffic may leave (R315). -/
inductive Leave where
  | committed | excess | wait
deriving DecidableEq, Repr

/-- How a unit of `n` bytes may leave a domain's shaper now; a disabled shaper places no limit (R315). -/
def State.eligible (s : State) (d k n : Nat) : Leave :=
  let v := s.shaper d k
  let b := s.buckets d k
  if !bit v 0 then .committed
  else if n * 65536 ≤ b.1 ∧ n * 65536 ≤ b.2 then .committed
  else if !s.strict && decide (n * 65536 ≤ b.2) then .excess
  else .wait

/-- A unit of `n` bytes leaves: committed traffic takes from both buckets, excess from the peak bucket and counts in
EXCESS_BYTES (R315). -/
def State.leave (s : State) (d k n : Nat) (how : Leave) : State :=
  let b := s.buckets d k
  if !bit (s.shaper d k) 0 then s
  else if how = .excess then (s.setBuckets d k b.1 (b.2 - n * 65536)).bump 0x7130 (2 + k) n d
  else s.setBuckets d k (b.1 - n * 65536) (b.2 - n * 65536)

/-- Host-tier units of a domain, 4,096 bytes each, leave as far as its TIER shaper lets them, excess ones only where `excess` says so:
the state, and the number that still wait (R315). -/
def State.crossUnits (s : State) (d : Nat) (excess : Bool) : Nat → State × Nat
  | 0 => (s, 0)
  | n + 1 =>
    match s.eligible d 1 4096 with
    | .committed => (s.leave d 1 4096 .committed).crossUnits d excess n
    | .excess => if excess then (s.leave d 1 4096 .excess).crossUnits d excess n else (s, n + 1)
    | .wait => (s, n + 1)

/-- Host-tier units of a background copy charged to a domain once its first unit has left (R315, log 88). -/
def State.chargeTier (s : State) (d : Nat) : Nat → State
  | 0 => s
  | n + 1 => (s.leave d 1 4096 (s.eligible d 1 4096)).chargeTier d n

end Sys2Proof.Machine
end

