-- ==== Sys2Proof/Machine/Tier.lean ====
section
/-! DEFINITION. The host tier: images, code tables and coded blocks, swap-out, swap-in, TABLE_BUILD and precleaning
(R65, R218 to R223, R230 to R235). -/

namespace Sys2Proof.Machine

/-! ## Code lengths (R232) -/

/-- A node of the code tree under construction: weight, order among equals, and the symbols below it. -/
structure HuffNode where
  w : Nat
  ord : Nat
  syms : List Nat
deriving DecidableEq, Repr, Inhabited

/-- A node placed by weight, then order. -/
def huffInsert (x : HuffNode) : List HuffNode → List HuffNode
  | [] => [x]
  | y :: r => if x.w < y.w ∨ (x.w = y.w ∧ x.ord < y.ord) then x :: y :: r else y :: huffInsert x r

/-- The two lowest nodes merged until one remains; the depth of each symbol grows by one at each merge above it. -/
def huffMerge : Nat → Nat → List HuffNode → List Nat → List Nat
  | 0, _, _, lens => lens
  | f + 1, next, a :: b :: r, lens =>
    let syms := a.syms ++ b.syms
    huffMerge f (next + 1) (huffInsert ⟨a.w + b.w, next, syms⟩ r) (syms.foldl (fun l s => l.modify s (· + 1)) lens)
  | _ + 1, _, _, lens => lens

/-- Code lengths of one pass. -/
def huffPass (c : List Nat) : List Nat :=
  let leaves := (c.mapIdx fun i w => (⟨w, i, [i]⟩ : HuffNode)).foldl (fun l x => huffInsert x l) []
  huffMerge c.length c.length leaves (List.replicate c.length 0)

/-- The passes of R232 until the longest length fits. -/
def huffLens (maxLen : Nat) : Nat → List Nat → List Nat
  | 0, c => huffPass c
  | f + 1, c =>
    let l := huffPass c
    if l.foldl Nat.max 0 ≤ maxLen then l else huffLens maxLen f (c.map fun w => ceilDiv w 2)

/-- Code lengths from counts (R232). -/
def codeLens (bits : Nat) (count : List Nat) : List Nat :=
  huffLens (if bits = 4 then 12 else 15) 64 (count.map fun c => Nat.max c 1)

/-- Canonical codes by length, then symbol (R232): each as its symbol, length and code. -/
def canonCodes (lens : List Nat) : List (Nat × Nat × Nat) :=
  ((List.range 16).foldl (fun (acc : List (Nat × Nat × Nat) × Nat) n =>
    let here := (lens.mapIdx fun i l => (i, l)).filter fun p => p.2 == n && n != 0
    (acc.1 ++ here.mapIdx fun k p => (p.1, n, acc.2 + k), (acc.2 + here.length) * 2)) ([], 0)).1

/-! ## Coded blocks (R235) -/

/-- Symbols of payload bytes (R231). -/
def symbolsOf (bits : Nat) (l : List Byte) : List Nat := unpack bits l

/-- Bits of a code, most significant first. -/
def codeBits : Nat → Nat → List Bool
  | 0, _ => []
  | n + 1, c => c.testBit n :: codeBits n c

/-- Bytes filled from bit 0. -/
def packBits (l : List Bool) : List Byte :=
  (chunks 8 (l.length + 1) l).map fun b => BitVec.ofNat 8 ((b.mapIdx fun i x => b2n x * 2 ^ i).sum)

/-- Symbols cut into blocks: each takes symbols while the whole next code fits in 32,608 bits. Each block is its symbol count
and its bits, in reverse order of the bits. -/
def fillBlocks (codes : List (Nat × Nat)) : List Nat → Nat → Nat → List Bool → List (Nat × List Bool)
  | [], n, _, acc => if n = 0 then [] else [(n, acc.reverse)]
  | x :: r, n, used, acc =>
    let (len, code) := codes.getD x (0, 0)
    if used + len ≤ 32608 then fillBlocks codes r (n + 1) (used + len) ((codeBits len code).reverse ++ acc)
    else (n, acc.reverse) :: fillBlocks codes r 1 len (codeBits len code).reverse

/-- Codes by symbol. -/
def codeTable (lens : List Nat) : List (Nat × Nat) :=
  let l := canonCodes lens
  (List.range lens.length).map fun s => ((l.find? fun p => p.1 == s).map Prod.snd).getD (0, 0)

/-- A coded block (R235). -/
def codedBlock (idx n table gen : Nat) (b : Nat × List Bool) : List Byte :=
  let body := leBytes 2 (1 + idx * 2 ^ 8 + n * 2 ^ 12) ++ leBytes 2 table ++ leBytes 2 gen ++ leBytes 2 b.1
    ++ leBytes 2 b.2.length ++ leBytes 6 0 ++ padTo 4076 (packBits b.2)
  body ++ leBytes 4 (crc32c body).toNat

/-- The coded blocks of a payload. -/
def encodeBlocks (t : CodeTable) (payload : List Byte) : List (List Byte) :=
  let bs := fillBlocks (codeTable t.lengths) (symbolsOf t.bits payload) 0 0 []
  bs.mapIdx fun i b => codedBlock i bs.length t.id t.gen b

/-- The bits of bytes, bit 0 first. -/
def bitsOf (l : List Byte) : List Bool := l.flatMap fun b => (List.range 8).map b.getLsbD

/-- Symbols read from a bit stream, at most `n`; the bits left. -/
def decodeSyms (codes : List (Nat × Nat × Nat)) : Nat → Nat → Nat → Nat → List Bool → List Nat → Option (List Nat × List Bool)
  | _, 0, _, _, r, acc => some (acc.reverse, r)
  | 0, _ + 1, _, _, _, _ => none
  | f + 1, n + 1, len, code, bits, acc =>
    match codes.find? fun p => p.2.1 == len && p.2.2 == code && len != 0 with
    | some p => decodeSyms codes f n 0 0 bits (p.1 :: acc)
    | none =>
      match bits with
      | [] => none
      | b :: r => decodeSyms codes f (n + 1) (len + 1) (2 * code + b2n b) r acc

/-- The symbols of one coded block, when its fields and CRC are right and its bits decode exactly. -/
def decodeBlock (t : CodeTable) (idx n : Nat) (blk : List Byte) : Option (List Nat) :=
  let h : BitVec 128 := ofBytes 128 (blk.take 16)
  let bits := (bitsOf ((blk.drop 16).take 4076)).take (fld h 64 16)
  if (crc32c (blk.take 4092)).toNat ≠ leNat (slice blk 4092 4) ∨ fld h 0 8 ≠ 1 ∨ fld h 8 4 ≠ idx ∨ fld h 12 4 ≠ n
      ∨ fld h 16 16 ≠ t.id ∨ fld h 32 16 ≠ t.gen ∨ 32608 < fld h 64 16 ∨ fld h 80 48 ≠ 0 then none
  else
    match decodeSyms (canonCodes t.lengths) (33000 + fld h 48 16) (fld h 48 16) 0 0 bits [] with
    | some (l, []) => some l
    | _ => none

/-- The payload of coded blocks: the symbols must number `count` (R235). -/
def decodeBlocks (t : CodeTable) (count : Nat) (blks : List (List Byte)) : Option (List Byte) :=
  match (blks.mapIdx fun i b => decodeBlock t i blks.length b).mapM id with
  | some l => if l.flatten.length = count then some (pack t.bits l.flatten) else none
  | none => none

/-! ## Images (R219, R220) -/

/-- Payload units of a page's raw image: T × B bytes in units of 4,096 (R218). -/
def PageData.rawUnits (pr : Prof) (d : PageData) : Nat := ceilDiv (d.cap * d.tb pr) 4096

/-- The page is full. -/
def PageData.isFull (d : PageData) : Bool := d.tokens == d.cap

/-- The page as unit 0 shows it (R220). -/
def PageData.asImage (d : PageData) (comp id gen : Nat) : PageData :=
  { d with tier := 0, dirty := false, cold := 0, comp := comp, tableId := id, tableGen := gen }

/-- Units of a raw image. -/
def rawImage (pr : Prof) (d : PageData) : List (List Byte) :=
  (d.asImage 0 0 0).sideRecord pr :: chunks 4096 (d.rawUnits pr) (padTo (4096 * d.rawUnits pr) d.payload)

/-- The image of a page and whether it is coded (R220, R235). -/
def pageImage (pr : Prof) (d : PageData) (t : Option CodeTable) : List (List Byte) × Bool :=
  match t with
  | some t =>
    if d.isFull && t.bits == fmtBits d.format then
      let b := encodeBlocks t d.payload
      if b.length < d.rawUnits pr then ((d.asImage 1 t.id t.gen).sideRecord pr :: b, true) else (rawImage pr d, false)
    else (rawImage pr d, false)
  | none => (rawImage pr d, false)

/-- The XTS key pair of a domain. -/
def State.xtsKeyOf (s : State) (d : Nat) : List Byte := ((aget s.dom.doms d).map Domain.xtsKey).getD []

/-- Tweak of a unit (R219). -/
def unitTweak (u : Nat) : List Byte := leBytes 16 u

/-- Units encrypted and written to a domain's region from a unit on (R219, R221). -/
def State.writeUnits (s : State) (d first : Nat) : List (List Byte) → State
  | [] => s
  | u :: r =>
    State.writeUnits (s.hostWrite (s.num 0x3510 1 d + 4096 * first) (xts false (s.xtsKeyOf d) (unitTweak first) u)) d (first + 1) r

/-- One unit of a domain's region read and decrypted. -/
def State.readUnit (s : State) (d u : Nat) : List Byte :=
  xts true (s.xtsKeyOf d) (unitTweak u) (Memory.readBytes s.hostMem (s.num 0x3510 1 d + 4096 * u) 4096)

/-- A code-table record. -/
def State.tableOf (s : State) (id gen : Nat) : Option CodeTable :=
  s.tier.tables.find? fun t => t.id == id && t.gen == gen

/-- A page read from its side record and payload units, checked (R33, R220, R222, R235). -/
def State.parseImage (s : State) (sr : List Byte) (units : List (List Byte)) : Option PageData :=
  let pr := s.pr
  let h : BitVec 2048 := ofBytes 2048 (sr.take 256)
  let tb := tokenBytes (pr.dim (fld h 8 1)) (fld h 16 8)
  let size := 2 ^ fld h 24 4 * tb
  let payload : Option (List Byte) :=
    if fld h 260 2 = 0 then
      let l := units.flatten
      if units.length = ceilDiv size 4096 ∧ (l.drop (fld h 96 16 * tb)).all (· == 0) then some l else none
    else if fld h 260 2 = 1 then
      match s.tableOf (fld h 272 16) (fld h 288 16) with
      | some t => decodeBlocks t (size * 8 / t.bits) units
      | none => none
    else none
  match payload with
  | none => none
  | some p => PageData.parse pr sr p

/-- The page that a host-tier image holds; `none` when a check fails (R222). -/
def State.readImage (s : State) (e : PageEntry) (loc : Nat) : Option PageData :=
  let u := locUnit loc
  s.parseImage (s.readUnit e.dom u) ((List.range (locCount loc - 1)).map fun k => s.readUnit e.dom (u + 1 + k))

/-- The side record of a host-tier image as it lies in unit 0 (R220). -/
def State.imageSide (s : State) (e : PageEntry) : List Byte := s.readUnit e.dom (locUnit e.loc)

/-- R65: a verified side record of a domain's page does not fit the active profile. -/
def State.misfit (s : State) (dom : Nat) (sr : List Byte) : Bool :=
  sideOk sr && fld (ofBytes 2048 (sr.take 256)) 32 12 == dom && !sideFits s.pr sr

/-! ## Selecting pages (R184) -/

/-- A page of a range: plane, ordinal and Page Map index. -/
structure RangePage where
  plane : Nat
  ord : Nat
  page : Nat
deriving DecidableEq, Repr

/-- The pages of a sequence in the rows and planes a command names, clipped (R184). -/
def rangePages (pr : Prof) (e : SeqEntry) (d : Desc) : List RangePage :=
  let r0 := fld d 384 32
  let rn := fld d 416 32
  let p0 := fld d 448 13
  let pn := fld d 462 14
  e.handles.reverse.foldl (fun acc h =>
    let p := hplane h.1
    let r := rowOf pr p (hord h.1)
    if r0 ≤ r ∧ (rn = 0 ∨ r < r0 + rn) ∧ p0 ≤ p ∧ (pn = 0 ∨ p < p0 + pn) ∧ p < pr.planes then ⟨p, hord h.1, h.2⟩ :: acc
    else acc) []

/-- The pages of a range in one state that belong to a domain. -/
def State.rangeIn (s : State) (d : Desc) (dom : Nat) (st : PageSt) : List RangePage :=
  (rangePages s.pr (s.seq (sidIndex (dSeq d))) d).filter fun r =>
    match s.page r.page with
    | some e => e.st == st && e.dom == dom
    | none => false

/-- A page of the range is held by another move command: the command waits and then looks again (R223). -/
def State.rangeBusy (s : State) (c : Cmd) : Bool :=
  (rangePages s.pr (s.seq (sidIndex (dSeq c.desc))) c.desc).any fun r =>
    match s.page r.page with
    | some e => e.dom == c.dom && (match e.busy with | some b => b != c.id | none => false)
    | none => false

/-- A page of the range is viewed, or an admitted PAGE_VIEW names it (R46, R99). -/
def State.rangeViewed (s : State) (d : Desc) (dom : Nat) : Bool :=
  !(s.rangeIn d dom .hostView).isEmpty || (s.rangeIn d dom .device).any fun r => s.viewPending r.page

/-- BUSY set on a page. -/
def State.holdPage (s : State) (cmd p : Nat) : State :=
  match s.page p with
  | some e => s.setPage p { e with busy := some cmd }
  | none => s

/-! ## PAGE_SWAP_OUT (R221) -/

/-- The CURRENT table of a sequence's plane. -/
def State.currentTable (s : State) (seq : BitVec 64) (plane : Nat) : Option CodeTable :=
  s.tier.tables.find? fun t => t.seq == seq && t.plane == plane && t.st == 1

/-- Steps 4 to 6 of PAGE_SWAP_OUT. -/
def State.checkSwapOut (s : State) (c : Cmd) : Option Fail :=
  match s.checkSeq c with
  | some f => some f
  | none => if s.rangeViewed c.desc c.dom then some ⟨stBusy, 0, 0, 0⟩ else none

/-- Work of a swap-out on its pages in order: clean pages need none, the others a run of units. -/
def State.planOut (s : State) (c : Cmd) : List RangePage → Except Fail (State × Cmd)
  | [] => .ok (s, c)
  | r :: l =>
    let d := s.slotData (((s.page r.page).map PageEntry.loc).getD 0)
    if d.tier = 1 ∧ d.dirty = false then
      State.planOut (s.holdPage c.id r.page)
        { c with jobs := c.jobs ++ [{ page := r.page, clean := true, done := true }] } l
    else if !s.tierReady c.dom then .error ⟨stTierFail, 5, r.page, 0⟩
    else
      let n := 1 + d.rawUnits s.pr
      match s.reserveUnits c.dom n with
      | none => .error ⟨stTierFail, 1, r.page, 0⟩
      | some (t, a) =>
        let tb := if bit c.desc 476 then s.currentTable (dSeq c.desc) r.plane else none
        State.planOut (t.holdPage c.id r.page)
          { c with jobs := c.jobs ++ [{ page := r.page, unitAt := a, units := n, table := tb.map fun t => (t.id, t.gen) }] } l

/-- Step 7 of PAGE_SWAP_OUT; it waits while a page is BUSY (R221, R223). -/
def State.reserveSwapOut (s : State) (c : Cmd) : Except Fail (State × Cmd) :=
  let c1 := { c with seq := some (sidIndex (dSeq c.desc)), jobs := [] }
  if s.rangeBusy c then .ok (s, { c1 with stage := .waiting })
  else if s.rangeViewed c.desc c.dom then .error ⟨stBusy, 0, 0, 0⟩
  else s.planOut { c1 with stage := .planned } (s.rangeIn c.desc c.dom .device)

/-- The slot contents of a DEVICE page; `none` for a lost slot. -/
def State.hbmPage (s : State) (p : Nat) : Option PageData :=
  match s.page p with
  | some e => if e.inHbm && !s.pages.lost.contains e.loc then some (s.slotData e.loc) else none
  | none => none

/-- One image of a swap-out or preclean formed and written: the units used and whether it is coded. -/
def State.writeImage (s : State) (d : Nat) (data : PageData) (first : Nat) (asked : Bool) (t : Option (Nat × Nat)) :
    State × Nat × Bool :=
  let (img, coded) := pageImage s.pr data (match t with | some x => s.tableOf x.1 x.2 | none => none)
  let s1 := s.writeUnits d first img
  (if asked && !coded then s1.bump 0xA100 4 else s1, img.length, coded)

/-- The domain whose units a host-tier transfer of a command moves. -/
def State.jobDom (s : State) (c : Cmd) (j : PageJob) : Nat :=
  if dOp c.desc = 0x40 then c.dom else ((s.page j.page).map PageEntry.dom).getD c.dom

/-- Units that the host-tier transfer of a page reads or writes (R220, R221). -/
def State.jobUnits (s : State) (c : Cmd) (j : PageJob) : Nat :=
  if dOp c.desc = 0x40 then
    match s.hbmPage j.page, j.table with
    | some d, some t => (pageImage s.pr d (s.tableOf t.1 t.2)).1.length
    | some d, none => 1 + d.rawUnits s.pr
    | none, _ => 0
  else ((s.page j.page).map fun e => locCount e.loc).getD 0

/-- A committed unit of some domain waits for the tier engine's DMA: the next one of an open host-tier transfer (R315). -/
def State.tierCommitted (s : State) : Bool :=
  s.sched.cmds.any fun c => c.jobs.any fun j =>
    j.buf && !j.done && (s.page j.page).map PageEntry.st != some .remote && s.eligible (s.jobDom c j) 1 4096 == .committed

/-- The next host-tier unit of a domain may not leave now (R315). -/
def State.tierHeld (s : State) (d : Nat) : Bool :=
  match s.eligible d 1 4096 with
  | .committed => false
  | .excess => s.tierCommitted
  | .wait => true

/-- The units of a transfer that have not left yet leave as far as they may: the state, and those that still wait (R315). -/
def State.crossTier (s : State) (c : Cmd) (j : PageJob) : State × Nat :=
  s.crossUnits (s.jobDom c j) (!s.tierCommitted) (j.left.getD (s.jobUnits c j))

/-- One job of a command replaced. -/
def Cmd.setJob (c : Cmd) (p : Nat) (f : PageJob → PageJob) : Cmd :=
  { c with jobs := c.jobs.map fun j => if j.page = p then f j else j }

/-- The transfer of one page of a swap-out ends: its image is in host memory (R221). -/
def State.doneOut (s : State) (c : Cmd) (j : PageJob) : State :=
  match s.hbmPage j.page with
  | none => s.endCmd c ⟨stPartFail, 0, 0, 0⟩
  | some d =>
    let (s1, n, coded) := s.writeImage c.dom d j.unitAt (bit c.desc 476) j.table
    (s1.setCmd (c.setJob j.page fun x =>
      { x with used := n, done := true, data := some d, table := if coded then j.table else none })).sweepTables

/-- One page becomes SWAPPED at a commit (R221). -/
def State.swapPage (s : State) (c : Cmd) (j : PageJob) : State :=
  match s.page j.page with
  | none => s
  | some e =>
    let d := s.slotData e.loc
    let later := (s.readersOf j.page).filter (· ≠ c.id)
    if j.clean then
      (s.setPage j.page { e with st := .swapped, busy := none, loc := d.cold }).queueScrub e.loc later
    else
      let s1 := if d.tier = 0 then s else s.dropCold e.dom d
      let s2 := (s1.trimUnits c.dom j.unitAt j.used).setPage j.page
        { e with st := .swapped, busy := none, loc := hostLoc j.unitAt j.used }
      let s3 := match j.table with
        | some t => s2.modTier fun x => { x with coded := x.coded ++ [(c.dom, j.unitAt, t.1, t.2)] }
        | none => s2
      s3.queueScrub e.loc later

/-- Commit of PAGE_SWAP_OUT: every page SWAPPED together (R221). -/
def State.commitSwapOut (s : State) (c : Cmd) : State :=
  (c.jobs.foldl (fun t j => t.swapPage c j) s).endOk { c with jobs := [] } c.jobs.length 0 0

/-! ## PAGE_SWAP_IN (R222) -/

/-- Steps 4 to 6 of PAGE_SWAP_IN. -/
def State.checkSwapIn (s : State) (c : Cmd) : Option Fail :=
  match s.checkSeq c with
  | some f => some f
  | none => if s.profOk then none else some ⟨stProfile, 0, 0, 0⟩

/-- A slot and a Page Map entry reserved for each page brought back (R222, R225). -/
def State.planIn (s : State) (c : Cmd) (e : SeqEntry) (host : Bool) : List RangePage → Except Fail (State × Cmd)
  | [] => .ok (s, c)
  | r :: l =>
    if host && !s.tierReady c.dom then .error ⟨stTierFail, 5, r.page, 0⟩
    else
      match s.takePage c e r.plane r.ord none with
      | .error f => .error f
      | .ok (t, c2) =>
        let slot := (c2.writes.getLast?.map PageWrite.slot).getD 0
        State.planIn (t.holdPage c.id r.page) { c2 with jobs := c2.jobs ++ [{ page := r.page, slot := some slot }] } e host l

/-- Step 7 of PAGE_SWAP_IN. -/
def State.reserveSwapIn (s : State) (c : Cmd) : Except Fail (State × Cmd) :=
  let i := sidIndex (dSeq c.desc)
  let c1 := { c with seq := some i, jobs := [] }
  if s.rangeBusy c then .ok (s, { c1 with stage := .waiting })
  else s.planIn { c1 with stage := .planned } (s.seq i) true (s.rangeIn c.desc c.dom .swapped)

/-- A page that came back from a tier is judged by its side record and kept for the commit (R65, R222, R300). -/
def State.landJob (s : State) (c : Cmd) (j : PageJob) (side : List Byte) (d : Option PageData) : State :=
  if s.misfit c.dom side then s.endCmd c ⟨stProfile, 0, 0, 0⟩
  else
    match d with
    | none => (s.bump 0x3500 9).endCmd c ⟨stTierFail, 3, j.page, 0⟩
    | some d =>
      if !s.imageTagOk j.page d then ((s.reportIdentity j.page).bump 0x3500 9).endCmd c ⟨stTierFail, 3, j.page, 0⟩
      else s.setCmd (c.setJob j.page fun x => { x with data := some d, done := true })

/-- The transfer of one page of a swap-in ends (R222). -/
def State.doneIn (s : State) (c : Cmd) (j : PageJob) : State :=
  match s.page j.page with
  | none => s.endCmd c ⟨stTierFail, 3, j.page, 0⟩
  | some e => s.landJob c j (s.imageSide e) (s.readImage e e.loc)

/-- One page becomes DEVICE at a commit, with its cold copy kept: TIER 1 a host image, 2 a remote hold (R222, R225). -/
def State.landPage (s : State) (tier : Nat) (j : PageJob) : State :=
  match s.page j.page, j.slot, j.data with
  | some e, some n, some d =>
    ((s.setPage j.page { e with st := .device, busy := none, loc := n }).setSlot n
      { d with tier := tier, dirty := false, cold := e.loc }).setUse n (.page j.page)
  | _, _, _ => s

/-- Commit of PAGE_SWAP_IN: every page DEVICE together (R222). -/
def State.commitSwapIn (s : State) (c : Cmd) : State :=
  let s1 := (c.jobs.foldl (fun t j => t.landPage 1 j) s)
  s1.endOk c c.jobs.length 0 0

/-! ## TABLE_BUILD (R231 to R234) -/

/-- The full pages in HBM of a sequence's plane, lowest ordinal first (R231). -/
def State.tablePages (s : State) (e : SeqEntry) (plane : Nat) : List PageData :=
  (e.handles.filter fun h => hplane h.1 == plane).filterMap fun h =>
    match s.hbmPage h.2 with | some d => if d.isFull then some d else none | none => none

/-- The pages counted: those of the width of the lowest-ordinal one. -/
def State.countedPages (s : State) (e : SeqEntry) (plane : Nat) : List PageData :=
  match s.tablePages e plane with
  | [] => []
  | d :: r => d :: r.filter fun x => fmtBits x.format == fmtBits d.format

/-- Generation after another, 0 skipped (R234). -/
def nextGen (g : Nat) : Nat := if g ≥ 65535 then 1 else g + 1

/-- Live table records of a domain. -/
def State.tablesHeld (s : State) (d : Nat) : Nat := (s.tier.tables.filter fun t => sidDom t.seq == d).length

/-- Admitted TABLE_BUILDs, whose records, bindings and generations are taken from their admission on (R234). -/
def State.pendingTables (s : State) : List Cmd := s.sched.cmds.filter fun c => dOp c.desc == 0x51

/-- TABLE_ID of a TABLE_BUILD (R185). -/
def tId (d : Desc) : Nat := fld d 464 16
/-- PLANE of a TABLE_BUILD (R185). -/
def tPlane (d : Desc) : Nat := fld d 448 13

/-- Steps 4 to 6 of TABLE_BUILD and its own statuses (R231, R234). -/
def State.checkTable (s : State) (c : Cmd) : Option Fail :=
  match s.checkSeq c with
  | some f => some f
  | none =>
    let d := c.desc
    let plane := tPlane d
    let pend := s.pendingTables
    let mine := pend.filter fun p => tId p.desc == tId d
    let live := s.tier.tables.filter fun t => t.id == tId d
    let gen := mine.foldl (fun g _ => nextGen g) (nextGen (anat s.tier.tableGens (tId d)))
    firstFail
      [(decide (plane < s.pr.planes), badParam 56),
       (!(s.countedPages (s.seq (sidIndex (dSeq d))) plane).isEmpty, badParam 56),
       ((live.all fun t => t.seq == dSeq d && t.plane == plane)
         && mine.all fun p => dSeq p.desc == dSeq d && tPlane p.desc == plane, ⟨stBusy, 0, 0, 0⟩),
       (live.all fun t => t.gen != gen, ⟨stBusy, 0, 0, 0⟩),
       (decide (s.tier.tables.length + pend.length < 65536)
         && decide (s.tablesHeld c.dom + (pend.filter fun p => p.dom == c.dom).length < s.num 0x7120 0x12 c.dom),
         ⟨stTierFail, 6, 0, 0⟩)]

/-- Symbol counts of pages (R231). -/
def symbolCounts (bits : Nat) (l : List PageData) : List Nat :=
  let syms := l.flatMap fun d => symbolsOf bits d.payload
  (List.range (2 ^ bits)).map fun s => syms.count s

/-- Commit of TABLE_BUILD: the new generation is CURRENT, the old RETAINED (R234). A lost page of the plane fails it (R97). -/
def State.commitTable (s : State) (c : Cmd) : State :=
  let d := c.desc
  let plane := tPlane d
  let id := tId d
  let e := s.seq (sidIndex (dSeq d))
  if e.handles.any fun h => hplane h.1 == plane && s.isLost h.2 then s.endCmd c ⟨stPartFail, 0, 0, 0⟩ else
  match s.countedPages e plane with
  | [] => s.endCmd c (badParam 56)
  | p :: _ =>
    let pages := s.countedPages e plane
    let bits := fmtBits p.format
    let gen := nextGen (anat s.tier.tableGens id)
    let t : CodeTable :=
      { id := id, gen := gen, bits := bits, st := 1, seq := dSeq d, plane := plane, counted := pages.length,
        lengths := codeLens bits (symbolCounts bits pages) }
    let s1 := s.modTier fun x =>
      { x with
          tables := (x.tables.map fun r => if r.id = id then { r with st := 2 } else r) ++ [t]
          tableGens := aput x.tableGens id gen }
    s1.endOk c 0 (id + gen * 2 ^ 16) 0

/-! ## Precleaning (R230) -/

/-- A page's copy is queued for a sequence with PRECLEAN set (R230): full, of its domain, and without a copy that is as good. -/
def State.precleanable (s : State) (e : SeqEntry) (p : Nat) : Bool :=
  match s.page p with
  | some x =>
    let d := s.slotData x.loc
    x.inHbm && x.dom == e.dom && d.isFull && (d.tier == 0 || (d.tier == 1 && d.dirty)) && !s.pages.lost.contains x.loc
  | none => false

/-- The copy cannot be written now and waits: a move or a reader holds the page (R45, R223), the domain's husk or the host link is not
there, or the domain's shaper holds its units (R315). -/
def State.precleanWaits (s : State) (p : Nat) (x : PageEntry) : Bool :=
  x.busy.isSome || !(s.readersOf p).isEmpty || (s.xtsKeyOf x.dom).isEmpty || !s.dmaOk || s.tierHeld x.dom

/-- The background copy of a page: units reserved, image written, and the side record commits with the new cold copy. A page in
HOST_VIEW and a domain without units abandon it, counted; a page that does not qualify has none (R230). -/
def State.precleanPage (s : State) (p i : Nat) : State :=
  let e := s.seq i
  match s.page p with
  | none => s
  | some x =>
    let d := s.slotData x.loc
    if !s.precleanable e p then s
    else if x.st = .hostView ∨ s.viewPending p then s.bump 0x3500 0xA
    else if s.precleanWaits p x then s
    else
      match (if s.tierReady x.dom then s.reserveUnits x.dom (1 + d.rawUnits s.pr) else none) with
      | none => s.bump 0x3500 0xA
      | some (t, a) =>
        let plane := s.pr.plane x.layer x.head x.kind
        let tb := if e.precleanCoded then (s.currentTable (seqIdOf i e) plane).map fun t => (t.id, t.gen) else none
        let (s0, n, coded) := t.writeImage x.dom d a e.precleanCoded tb
        let s1 := s0.chargeTier x.dom n
        let s2 := (if d.tier = 0 then s1 else s1.dropCold x.dom d).trimUnits x.dom a n
        let s3 := match (if coded then tb else none) with
          | some y => s2.modTier fun z => { z with coded := z.coded ++ [(x.dom, a, y.1, y.2)] }
          | none => s2
        let y := (if coded then tb else none).getD (0, 0)
        s3.setSlot x.loc
          { d with tier := 1, dirty := false, cold := hostLoc a n, comp := b2n coded, tableId := y.1, tableGen := y.2 }

end Sys2Proof.Machine
end

