-- ==== Sys2Proof/Machine/Attend.lean ====
section
/-! DEFINITION. ATTEND and WINNOW: their checks, their read point, the cut into work items and their results (R10, R77, R110,
R111, R123, R130, R135, R136, R141 to R150, R158, R181, R182, R226). -/

namespace Sys2Proof.Machine

/-! ## Fields of ATTEND (R181) -/

/-- LAYER. -/
def aLayer (d : Desc) : Nat := fld d 384 8
/-- QHEAD0. -/
def aHead0 (d : Desc) : Nat := fld d 392 8
/-- NHEADS. -/
def aHeads (d : Desc) : Nat := fld d 400 9
/-- QPOS. -/
def aPos (d : Desc) : Nat := fld d 416 32
/-- NPOS. -/
def aNpos (d : Desc) : Nat := fld d 448 12
/-- RETURN. -/
def aRet (d : Desc) : Nat := fld d 464 2
/-- WINDOW. -/
def aWindow (d : Desc) : Nat := fld d 480 32
/-- SINKS. -/
def aSinks (d : Desc) : Nat := fld d 512 16
/-- ROWS. -/
def aRows (d : Desc) : Nat := aHeads d * aNpos d
/-- MODE is SIFTED and the request does not run as EXACT (R136). -/
def aSifted (d : Desc) : Bool := bit d 462 && !(decide (0 < aWindow d) && decide (aWindow d < 256))

/-- Query head of a row. -/
def rowHead (d : Desc) (r : Nat) : Nat := aHead0 d + r % aHeads d
/-- Query position of a row. -/
def rowPos (d : Desc) (r : Nat) : Nat := aPos d + r / aHeads d

/-- The KV heads that the rows use (R111). -/
def attendHeads (pr : Prof) (d : Desc) : List Nat :=
  ((List.range (aHeads d)).map fun k => (aHead0 d + k) / pr.group).eraseDups

/-! ## Leaves (R111, R119) -/

/-- Key ordinals below a length that are held, or will be once the pending appends have committed. -/
def leafOrds (pr : Prof) (now e : SeqEntry) (plane : Nat) : List Nat :=
  (List.range (ceilDiv (e.len plane) (pr.tokens 0))).filter fun j =>
    (e.handle plane j).isSome || decide (now.len plane ≤ j * pr.tokens 0)

/-- First page of a sequence's page range (R130). -/
def firstLeaf (pr : Prof) (e : SeqEntry) : Nat := e.posBase / pr.tokens 0

/-- Partials that a row over given leaf ordinals returns (R130). -/
def rowPartials (pr : Prof) (e : SeqEntry) (len ret : Nat) (ords : List Nat) : Nat :=
  if len = 0 then 1
  else if ret = 0 then ords.length
  else if ret = 1 then
    let lo := firstLeaf pr e
    ((ords.map fun j => (canonBlock lo (lo + (len - 1) / pr.tokens 0) (lo + j)).1).eraseDups).length
  else 1

/-- Partials that a request returns (R181). -/
def State.countPartials (s : State) (c : Cmd) (now e : SeqEntry) : Nat :=
  let d := c.desc
  let pr := s.pr
  ((List.range (aHeads d)).map fun k =>
    let plane := pr.plane (aLayer d) ((aHead0 d + k) / pr.group) 0
    aNpos d * rowPartials pr e (e.len plane) (aRet d) (leafOrds pr now e plane)).sum

/-! ## Checks -/

/-- A mask object by handle, of a domain (R121). -/
def State.maskOf (s : State) (dom h : Nat) : Option MaskObj :=
  match aget s.masks.objs (h % 65536) with
  | some o => if o.gen = h / 65536 ∧ o.dom = dom then some o else none
  | none => none

/-- SEGMENT_MASK names no object or a live SEGMENT object of the domain (R123). -/
def State.segOk (s : State) (c : Cmd) : Bool :=
  let h := fld c.desc 576 32
  h == 0 || match s.maskOf c.dom h with | some o => o.type == 3 | none => false

/-- BITMAP_MASK names no object or a live bitmap object of the domain, a TOKEN one with rows enough (R123). -/
def State.bmpOk (s : State) (c : Cmd) : Bool :=
  let h := fld c.desc 608 32
  h == 0 || match s.maskOf c.dom h with
    | some o => o.type == 2 || (o.type == 1 && decide (aRows c.desc ≤ fld o.hdr 16 8))
    | none => false

/-- Bytes of one query element. -/
def qBytes (d : Desc) : Nat := if fld d 460 2 < 2 then 2 else 1

/-- Precision in bits of a key page in HBM or in the host tier; a page in the remote tier shows its own when it is read (R77). -/
def State.pagePrec (s : State) (p : Nat) : Option Nat :=
  match s.page p with
  | some e =>
    if e.inHbm then some (fmtBits (s.slotData e.loc).format)
    else if e.st = .swapped then (s.readImage e e.loc).map fun d => fmtBits d.format
    else none
  | none => none

/-- MIN_KEY_PREC in bits. -/
def minPrec (d : Desc) : Nat := if fld d 466 2 = 1 then 4 else if fld d 466 2 = 2 then 8 else 0

/-- PREC_POLICY REJECT forbids a page of this many bits (R77). -/
def rejects (d : Desc) (bits : Nat) : Bool := bit d 468 && decide (bits < minPrec d)

/-- A key page that the request reads is narrower than MIN_KEY_PREC, under PREC_POLICY REJECT (R77). A page that a pending earlier
append will create counts with the profile's KEY_FORMAT (log 109). -/
def State.tooNarrow (s : State) (c : Cmd) (now e : SeqEntry) : Bool :=
  let pr := s.pr
  (attendHeads pr c.desc).any fun h =>
    let plane := pr.plane (aLayer c.desc) h 0
    (leafOrds pr now e plane).any fun j =>
      match e.handle plane j with
      | some p => match s.pagePrec p with | some b => rejects c.desc b | none => false
      | none => rejects c.desc (fmtBits pr.keyFormat)

/-- Working logical tiles of a slice that a domain may use (R157, R158, R306). -/
def State.sliceTiles (s : State) (slice dom : Nat) : List Nat :=
  (List.range 64).filter fun t =>
    (sliceGroups (s.sliceReg slice)).testBit (t / 4) && s.physTile t != 255 && (s.num 0x7120 2 dom).testBit t
      && !(s.tile (s.physTile t)).testing

/-- The ring-member slice of the node, if it has one (R16). -/
def State.ringSlice (s : State) : Option Nat :=
  (List.range 16).find? fun n => sliceUsed (s.sliceReg n) && sliceRole (s.sliceReg n) == 1

/-- An ATTEND admitted on a queue is a ring ATTEND, or meets a ring that is stopping (R281, R282). -/
def State.onRing (s : State) (sq : Nat) : Bool := decide (2 ≤ s.ring.st) && s.ring.sq == sq

/-- The slice whose tiles run an ATTEND's items: its sequence's, or the ring-member slice (R286). -/
def State.attendSlice (s : State) (c : Cmd) : Nat :=
  if s.onRing c.sq then s.ringSlice.getD 0 else (s.seq (sidIndex (dSeq c.desc))).slice

/-- Steps 4 to 6 of ATTEND, its buffer's contents apart. -/
def State.checkAttend (s : State) (c : Cmd) : Option Fail :=
  match s.checkSeq c with
  | some f => some f
  | none =>
    let d := c.desc
    let pr := s.pr
    let i := sidIndex (dSeq d)
    let e := s.projected i (some c.sq)
    match firstFail
      [(s.profOk, ⟨stProfile, 0, 0, 0⟩),
       (decide (aLayer d < pr.layers), badParam 48),
       (decide (1 ≤ aHeads d) && decide (aHeads d ≤ 256), badParam 50),
       (decide (aHead0 d + aHeads d ≤ pr.queryHeads), badParam 49),
       (decide (aPos d + aNpos d ≤ 2 ^ 32), badParam 52),
       (decide (1 ≤ aNpos d) && decide (aNpos d ≤ 2048), badParam 56),
       (decide (aRows d ≤ 4096), badParam 50),
       (aRet d != 3, badParam 58),
       (fld d 466 2 != 3, badParam 58),
       (!(bit d 470 && (bit d 469 || aWindow d != 0)), badParam 58),
       (!(bit d 462 && fld d 528 16 == 0), badParam 66),
       (s.segOk c, badParam 72),
       (s.bmpOk c, badParam 76)] with
    | some f => some f
    | none =>
      match bufParam (dIn d) 16 (aRows d * pr.keyDim * qBytes d) with
      | some f => some f
      | none =>
        match outParam (dOut d) (s.countPartials c (s.seq i) e * (32 + 4 * pr.valueDim)) with
        | some f => some f
        | none =>
          if s.tooNarrow c (s.seq i) e then some ⟨stPrecision, 0, 0, 0⟩
          else if (s.sliceTiles (s.attendSlice c) c.dom).isEmpty then some ⟨stPartFail, 0, 0, 0⟩
          else none

/-- Query elements of a request; `none` for an Inf or a NaN (R71). -/
def queryElems (d : Desc) (l : List Byte) : Option (List Dy) :=
  match fld d 460 2 with
  | 0 => (chunks 2 (l.length / 2 + 1) l).mapM fun b => bf16 (leNat b)
  | 1 => (chunks 2 (l.length / 2 + 1) l).mapM fun b => fp16 (leNat b)
  | 2 => l.mapM fun b => e4m3 b.toNat
  | _ => l.mapM fun b => e5m2 b.toNat

/-- The contents of an ATTEND's buffer hold no Inf and no NaN (R71). -/
def State.takeAttend (c : Cmd) : Option Fail := if (queryElems c.desc c.input).isSome then none else some (badParam 0xFF)

/-! ## The read point (R10, R45, R226) -/

/-- The pages that a request reads: key pages of its heads and, where values are stored, its value pages. -/
def attendPages (pr : Prof) (d : Desc) (e : SeqEntry) : List Nat :=
  let planes := (attendHeads pr d).flatMap fun h =>
    pr.plane (aLayer d) h 0 :: (if pr.stored 1 then [pr.plane (aLayer d) h 1] else [])
  (e.handles.filter fun h => planes.contains (hplane h.1) && decide (hord h.1 * pr.tokens (hplane h.1 % 2) < e.len (hplane h.1))).map
    Prod.snd

/-- The mask objects that a request names (R123). -/
def maskHandles (d : Desc) : List Nat := [fld d 576 32, fld d 608 32].filter (· ≠ 0)

/-- The request's read point: its sequence and pages are taken as they are, in the slots they are in; pages in colder tiers become
jobs (R45, R226). A lost slot fails the command (R97). -/
def State.readPoint (s : State) (c : Cmd) : Cmd :=
  let i := sidIndex (dSeq c.desc)
  let e := s.seq i
  let pages := attendPages s.pr c.desc e
  let hot := pages.filterMap fun p => (s.hbmPage p).map fun d => (p, d)
  let cold := pages.filter fun p => match s.page p with | some x => !x.inHbm | none => false
  let lost := pages.any fun p => s.isLost p
  { c with
      seq := some i, snap := some e, snapPages := hot, reads := pages, masks := maskHandles c.desc
      readSlots := pages.filterMap fun p => match s.page p with | some x => if x.inHbm then some (p, x.loc) else none | none => none
      jobs := cold.map fun p => { page := p }
      stage := if lost then .failed stPartFail 0 0 0 else c.stage }

/-- The pages in HBM of a read point whose side record does not name them (R300, R331). -/
def State.strangers (s : State) (c : Cmd) : List Nat :=
  (c.snapPages.filter fun x => match s.page x.1 with | some e => !x.2.sameAs e | none => false).map Prod.fst

/-- A request comes to its read point. A page that its side record does not name is a fault of the page, reported, and fails the
command (R148, R300, R331; log 133). -/
def State.readNow (s : State) (c : Cmd) : State :=
  let c1 := s.readPoint c
  let bad := s.strangers c1
  (bad.foldl State.reportIdentity s).setCmd (if bad.isEmpty then c1 else { c1 with stage := .failed stPartFail 0 0 0 })

/-- The read points of the waiting ATTENDs of a sequence, taken now: it leaves the node (R22). -/
def State.takeReads (s : State) (i : Nat) : State :=
  (s.sched.cmds.filter fun c => dOp c.desc == 0x20 && c.snap.isNone && c.seq == some i).foldl State.readNow s

/-! ## Results -/

/-- The generators of a request (R120). -/
def State.gensOf (s : State) (c : Cmd) : Gens :=
  let d := c.desc
  { causal := bit d 469, window := aWindow d, sinks := aSinks d,
    seg := if fld d 576 32 = 0 then none else s.maskOf c.dom (fld d 576 32)
    bmp := if fld d 608 32 = 0 then none else s.maskOf c.dom (fld d 608 32) }

/-- The leaves of a KV head at the read point, in ascending page order (R111). -/
def leavesOf (pr : Prof) (e : SeqEntry) (pages : List (Nat × PageData)) (layer head : Nat) : List Leaf :=
  let kp := pr.plane layer head 0
  let vp := pr.plane layer head 1
  let len := e.len kp
  let vals := (e.handles.filter fun h => hplane h.1 == vp).filterMap fun h => (aget pages h.2).map fun d => (hord h.1, d)
  (e.handles.filter fun h => hplane h.1 == kp && decide (hord h.1 * pr.tokens 0 < len)).filterMap fun h =>
    (aget pages h.2).map fun d =>
      let off := hord h.1 * pr.tokens 0
      { page := firstLeaf pr e + hord h.1, pos := e.posBase + off, off := off, key := d, vals := vals, seen := len - off }

/-- What a request computed. -/
structure AttendOut where
  bytes : List Byte := []
  count : Nat := 0
  clamps : Nat := 0
  scored : Nat := 0
deriving DecidableEq, Repr

/-- The blocks of a head that a sifted request attends to (R135); `none` in EXACT mode. -/
def headKeep (pr : Prof) (g : Gens) (d : Desc) (ready : List (Leaf × List Ready)) (rows : List (Nat × Row)) : Option (List Nat) :=
  if aSifted d then some (selectBlocks pr g (aSinks d) (fld d 528 16) (fld d 544 8) ready rows) else none

/-- The partials of the rows of one KV head, by row number; clamps met and blocks selected (R125, R130, R135). The page range is
that of the row's own key plane; where every row record of a plane with committed tokens is released, SPAN returns one MASKED
partial with PARTS 0 (log 110). -/
def attendHead (pr : Prof) (env : ProgEnv) (g : Gens) (d : Desc) (e : SeqEntry) (leaves : List Leaf) (head : Nat)
    (rows : List (Nat × Row)) : List (Nat × List Partial) × Nat × Nat :=
  let len := e.len (pr.plane (aLayer d) head 0)
  let lo := firstLeaf pr e
  let hi := lo + (len - 1) / pr.tokens 0
  let ready := leaves.map fun lf => (lf, leafBlocks pr lf)
  let keep := headKeep pr g d ready rows
  let vals := ready.map fun p => (p.1, p.2, p.2.mapIdx fun j b => b.toks.mapIdx fun t k =>
    leafValue pr p.1 (j * p.1.key.block + t) b.gl k)
  let res := rows.map fun r =>
    let ps := vals.map fun p =>
      leafPartial pr env g p.1 p.2.1 p.2.2 keep (decide (fmtBits p.1.key.format < minPrec d)) r.1 r.2
    let out :=
      if len = 0 then [emptyPartial pr.valueDim lo r.1 r.2.head (aSifted d)]
      else if ps.isEmpty && aRet d == 2 then [emptyPartial pr.valueDim lo r.1 r.2.head (aSifted d)]
      else rowReturn (aRet d) lo hi (ps.map Prod.fst)
    ((r.1, out), (ps.map Prod.snd).sum)
  (res.map Prod.fst, (res.map Prod.snd).sum, match keep with | some k => k.length | none => 0)

/-- The rows of one KV head of a request, by row number, ordered by position and then by query head (R143). -/
def headRows (pr : Prof) (d : Desc) (input : List Byte) (h : Nat) : List (Nat × Row) :=
  let qs := chunks pr.keyDim (aRows d) ((queryElems d input).getD [])
  ((List.range (aRows d)).filter fun r => rowHead d r / pr.group == h).map fun r =>
    (r, ⟨rowHead d r, rowPos d r, convertQuery (qs.getD r [])⟩)

/-- The partials of the rows of one KV head over a sequence's pages; clamps met and blocks selected (R130, R181). -/
def State.attendKv (s : State) (c : Cmd) (e : SeqEntry) (pages : List (Nat × PageData)) (h : Nat) :
    List (Nat × List Partial) × Nat × Nat :=
  let d := c.desc
  attendHead s.pr (s.progEnv (aLayer d)) (s.gensOf c) d e (leavesOf s.pr e pages (aLayer d) h) h (headRows s.pr d c.input h)

/-- The same for `n` rows of the head from row `row0` on. -/
def State.attendSet (s : State) (c : Cmd) (e : SeqEntry) (pages : List (Nat × PageData)) (h row0 n : Nat) :
    List (Nat × List Partial) × Nat × Nat :=
  let d := c.desc
  attendHead s.pr (s.progEnv (aLayer d)) (s.gensOf c) d e (leavesOf s.pr e pages (aLayer d) h) h
    (((headRows s.pr d c.input h).drop row0).take n)

/-- The partials of every row of a request over a sequence's pages, by row; clamps met and blocks selected (R130, R181). -/
def State.attendRows (s : State) (c : Cmd) (e : SeqEntry) (pages : List (Nat × PageData)) :
    List (Nat × List Partial) × Nat × Nat :=
  let per := (attendHeads s.pr c.desc).map (s.attendKv c e pages)
  ((per.flatMap fun x => x.1).foldl (fun acc x => aput acc x.1 x.2) [], (per.map fun x => x.2.1).sum,
    (per.map fun x => x.2.2).sum)

/-- The pages of a request that are at hand: those read in HBM at its read point and those read from a colder tier since. -/
def Cmd.pagesRead (c : Cmd) : List (Nat × PageData) :=
  c.snapPages ++ c.jobs.filterMap fun j => j.data.map fun d => (j.page, d)

/-- The result of a request from its read point and its queries (R130, R181). -/
def State.attendOut (s : State) (c : Cmd) : AttendOut :=
  let (byRow, clamps, scored) := s.attendRows c (c.snap.getD {}) c.pagesRead
  let ps := byRow.flatMap Prod.snd
  { bytes := ps.flatMap Partial.bytes, count := ps.length, clamps := clamps, scored := scored }

/-- The request's result computed: bytes and count kept for the commit, and its counters (R118, R136, R138). -/
def State.computeAttend (s : State) (c : Cmd) : State :=
  let o := s.attendOut c
  let s1 := s.bump 0x2106 2 o.clamps
  let s2 :=
    if aSifted c.desc then (s1.bump 0xB030 1).bump 0xB030 3 o.scored
    else if bit c.desc 462 then s1.bump 0xB030 2 else s1
  s2.setCmd { c with output := o.bytes, count := o.count, r0 := o.bytes.length, stage := .planned }

/-- Bytes of the partials that rows of a request return (R126, R181), as of its read point. -/
def rowBytes (pr : Prof) (d : Desc) (e : SeqEntry) (r : Nat) : Nat :=
  let plane := pr.plane (aLayer d) (rowHead d r / pr.group) 0
  rowPartials pr e (e.len plane) (aRet d) (leafOrds pr e e plane) * (32 + 4 * pr.valueDim)

/-- The partials of one row written into the result buffer, at the offset that they have in the whole result (R181). -/
def State.writeRow (s : State) (c : Cmd) (e : SeqEntry) (r : Nat) (b : List Byte) : State :=
  let at_ := ((List.range r).map (rowBytes s.pr c.desc e)).sum
  let o := dOut c.desc
  s.writeBuf c.sq { o with addr := o.addr + at_, len := o.len - at_ } b

/-- The partials of a row set placed in the result buffer as the set completes, at the offsets they have in the whole result
(R149, R181). A command that a shadow runs places none, and a buffer that takes no write fails the command at its commit. -/
def State.placeRows (s : State) (c : Cmd) (head set0 rows : Nat) : State :=
  let d := c.desc
  let e := c.snap.getD {}
  let mine := (((headRows s.pr d c.input head).drop set0).take rows).map Prod.fst
  if c.cls = 3 ∨ !s.outOk c.sq (dOut d) then s
  else
    let out := (s.attendKv c e c.pagesRead head).1
    (mine.foldl (fun t r =>
      t.writeRow c e r (((out.filter fun x => x.1 == r).flatMap Prod.snd).flatMap Partial.bytes)) s).setCmd
      { c with placed := c.placed ++ mine }

/-! ## Work items (R141, R143 to R150) -/

/-- Cycles of one leaf of an item (R144). -/
def leafCycles (pr : Prof) (ops r : Nat) (tile : Bool) (blocks : Nat) : Nat :=
  let vpad := ceilDiv pr.valueDim 128 * 128
  let vf := if pr.stored 1 then pr.valueFormat else pr.keyFormat
  let per := 1024 * (if fmtBits vf = 4 then 2 else 1) / vpad
  let sets := if tile then 4 else Nat.min 4 (ceilDiv r per)
  let tok := blocks * blockOf (pr.tokens 0)
  let value := ceilDiv r (sets * per) * tok
  let score := if tile then ceilDiv (r * tok * pr.keyDim) (if pr.keyFormat = 2 then 8192 else 4096) else 0
  Nat.max (score + value) (ceilDiv (r * tok) 256 * (ops + 4))

/-- Lane sets of an item (R144). -/
def itemSets (pr : Prof) (r : Nat) (tile : Bool) : Nat :=
  let vpad := ceilDiv pr.valueDim 128 * 128
  let vf := if pr.stored 1 then pr.valueFormat else pr.keyFormat
  if tile then 4 else Nat.min 4 (ceilDiv r (1024 * (if fmtBits vf = 4 then 2 else 1) / vpad))

/-- Granules of an item's reservation (R150). -/
def itemGranules (pr : Prof) (r leaves : Nat) (tile : Bool) : Nat :=
  let p := 32 + 4 * pr.valueDim
  let nb := Nat.min 2 leaves
  let keys := if tile || !pr.stored 1 then nb * 36864 else 0
  let v := if pr.stored 1 then nb * Nat.max 1 (pr.tokens 0 / pr.tokens 1) * 36864 else 0
  ceilDiv (r * (pr.keyDim + 8) + nb * r * pr.tokens 0 * 4 + keys + v + leaves * r * p) 65536

/-- Granules of a CHAINED row set of `r` rows and some items, of which some go the awn path and some the tile path (R150). -/
def chainGranules (pr : Prof) (r items : Nat) (awn tile : Bool) : Nat :=
  let p := 32 + 4 * pr.valueDim
  let scores := if awn then 2 * r * pr.tokens 0 * 4 else r * pr.tokens 0 * 4
  let keys := if tile || !pr.stored 1 then 2 * 36864 else 0
  let v := if pr.stored 1 then 2 * Nat.max 1 (pr.tokens 0 / pr.tokens 1) * 36864 else 0
  let depth := (if items ≤ 1 then 0 else Nat.log2 (items - 1) + 1) + 1
  ceilDiv (r * (pr.keyDim + 8) + scores + keys + v + depth * r * p) 65536

/-- The largest number of rows of a SCORE stripe over `v` valid tokens of a key block (R80). -/
def stripeRows (pr : Prof) (fmt v : Nat) : Nat :=
  Nat.max 1 (Nat.min 12 (384 / Nat.max 1 (ceilDiv (v * pr.keyDim) (if fmtBits fmt = 4 then 256 else 128))))

/-- What the cut of one KV head's rows into items reads (R141, R143 to R145, R150, R226): profile, descriptor, sequence as of the
read point, generators, the blocks a sifted request keeps, the head, its rows, the pages at hand with their slots, the pages that
are read from a colder tier, the layer's micro-ops, the cycle budget, and TILE_SCORE_ROWS, ITEM_LEAVES_MAX and FANOUT_GRANULES. -/
structure Cut where
  pr : Prof := {}
  d : Desc := 0
  e : SeqEntry := {}
  gens : Gens := {}
  keep : Option (List Nat) := none
  head : Nat := 0
  rows : List (Nat × Row) := []
  pages : List (Nat × PageData) := []
  slots : List (Nat × Nat) := []
  cold : List Nat := []
  ops : Nat := 0
  budget : Nat := 0
  scoreRows : Nat := 64
  leavesMax : Nat := 4
  fanout : Nat := 4
deriving DecidableEq, Repr

/-- The head's key plane. -/
def Cut.plane (v : Cut) : Nat := v.pr.plane (aLayer v.d) v.head 0

/-- First page of the sequence's page range. -/
def Cut.lo (v : Cut) : Nat := firstLeaf v.pr v.e

/-- Last page of the range that the key plane reaches. -/
def Cut.hi (v : Cut) : Nat := v.lo + (v.e.len v.plane - 1) / v.pr.tokens 0

/-- Rows of the head by place. -/
def Cut.rowsAt (v : Cut) (row0 n : Nat) : List (Nat × Row) := (v.rows.drop row0).take n

/-- The blocks of a leaf that hold a token visible to some of the rows and, in SIFTED mode, that the request keeps (R143, R145). -/
def Cut.visible (v : Cut) (rows : List (Nat × Row)) (a : Nat) : List Nat :=
  let t := v.pr.tokens 0
  let b := blockOf t
  let off := (a - v.lo) * t
  let n := Nat.min t (v.e.len v.plane - off)
  (List.range (ceilDiv n b)).filter fun j =>
    let pos := v.e.posBase + off + j * b
    (match v.keep with | some k => k.contains (pos / b) | none => true)
      && (List.range (Nat.min b (n - j * b))).any fun k => rows.any fun r => v.gens.visible r.1 r.2.qp (pos + k)

/-- The leaves of the head that get a run: in SIFTED mode those with a kept block (R145). -/
def Cut.leaves (v : Cut) : List Nat :=
  let l := (leafOrds v.pr v.e v.e v.plane).map (v.lo + ·)
  if v.keep.isSome then l.filter fun a => !(v.visible v.rows a).isEmpty else l

/-- The pages that a leaf reads: its key page and, where values are stored, the value pages of its tokens (R111, R150). -/
def Cut.leafPages (v : Cut) (a : Nat) : List Nat :=
  let t := v.pr.tokens 0
  let j := a - v.lo
  let keys := (v.e.handle v.plane j).toList
  if v.pr.stored 1 then
    let u := v.pr.tokens 1
    let stop := Nat.min (v.e.len v.plane) ((j + 1) * t)
    keys ++ ((List.range ((stop - 1) / u + 1)).drop (j * t / u)).filterMap (v.e.handle (v.plane + 1))
  else keys

/-- A leaf is cold: one of its pages is read from a colder tier (R226). -/
def Cut.isCold (v : Cut) (a : Nat) : Bool := (v.leafPages a).any v.cold.contains

/-- Rows are scored on the tile path: at least TILE_SCORE_ROWS rows that span at least two query positions (R141). -/
def Cut.manyRows (v : Cut) (rows : List (Nat × Row)) : Bool :=
  decide (v.scoreRows ≤ rows.length) && decide (2 ≤ ((rows.map fun r => r.2.qp).eraseDups).length)

/-- A leaf as R144 costs it: its page, whether it is cold, its cycles on the awn path and on the tile path. -/
def Cut.costs (v : Cut) (row0 n : Nat) : List (Nat × Bool × Nat × Nat) :=
  let rows := v.rowsAt row0 n
  v.leaves.map fun a =>
    let b := (v.visible rows a).length
    (a, v.isCold a, leafCycles v.pr v.ops n false b, leafCycles v.pr v.ops n true b)

/-- The run of `n` leaves from page `a` is all there and its cycles fit the budget on the path it takes (R141, R144, R226). -/
def runFits (cost : List (Nat × Bool × Nat × Nat)) (tile : Bool) (budget a n : Nat) : Bool :=
  let l := (List.range n).filterMap fun i => aget cost (a + i)
  let t := tile || l.any fun x => x.1
  l.length == n && decide ((l.map fun x => if t then x.2.2 else x.2.1).sum ≤ budget)

/-- The largest aligned run at page `a` that ends by `hi` and fits the budget: its length, 0 where one leaf does not fit. -/
def runAt (cost : List (Nat × Bool × Nat × Nat)) (tile : Bool) (maxN budget hi a : Nat) : Nat → Nat
  | 0 => if runFits cost tile budget a 1 then 1 else 0
  | k + 1 =>
    let n := 2 ^ (k + 1)
    if n ≤ maxN ∧ a % n = 0 ∧ a + n ≤ hi + 1 ∧ runFits cost tile budget a n then n
    else runAt cost tile maxN budget hi a k

/-- The runs of a row set over its leaves, canonical block by canonical block (R144, R145); `none` where a leaf does not fit. -/
def Cut.runs (v : Cut) (cost : List (Nat × Bool × Nat × Nat)) (tile : Bool) : Nat → List Nat → Option (List (Nat × Nat))
  | 0, _ => some []
  | _ + 1, [] => some []
  | f + 1, a :: r =>
    let (b, n) := canonBlock v.lo v.hi a
    match runAt cost tile v.leavesMax v.budget (b + n - 1) a 4 with
    | 0 => none
    | k => (Cut.runs v cost tile f (r.filter fun x => decide (a + k ≤ x))).map fun l => (a, k) :: l

/-- The row sets and the runs of `n` rows from `row0`: halved, in row order, until every leaf fits the budget (R143, R144). -/
def Cut.sets (v : Cut) (row0 : Nat) : Nat → Nat → List (Nat × Nat × List (Nat × Nat))
  | 0, n => [(row0, n, v.leaves.map fun a => (a, 1))]
  | f + 1, n =>
    match v.runs (v.costs row0 n) (v.manyRows (v.rowsAt row0 n)) v.leaves.length v.leaves with
    | some l => [(row0, n, l)]
    | none =>
      if n ≤ 1 then [(row0, n, v.leaves.map fun a => (a, 1))]
      else Cut.sets v row0 f (n / 2) ++ Cut.sets v (row0 + n / 2) f (n - n / 2)

/-- The slot and the data of the key page of a leaf in HBM at the read point. -/
def Cut.keyPage (v : Cut) (a : Nat) : Option (Nat × PageData) :=
  match v.e.handle v.plane (a - v.lo) with
  | some p => match aget v.slots p, aget v.pages p with | some n, some d => some (n, d) | _, _ => none
  | none => none

/-- The SCORE stripes of an item's rows over one leaf: every block with a token visible to them, in chunks of rows (R79 to R81). -/
def Cut.scoreStripes (v : Cut) (row0 n a : Nat) : List StripeIn :=
  match v.keyPage a with
  | none => []
  | some (slot, d) =>
    let b := d.block
    (v.visible (v.rowsAt row0 n) a).flatMap fun j =>
      let tok := Nat.min b (d.tokens - j * b)
      let r := stripeRows v.pr d.format tok
      (List.range (ceilDiv n r)).map fun k =>
        { op := .score, leaf := a, slot := slot, block := j, tokens := tok, row0 := row0 + k * r, rows := Nat.min r (n - k * r),
          pos := v.e.posBase + (a - v.lo) * v.pr.tokens 0 + j * b }

/-- An item's path, lane sets, query positions, pages, stripes and granules, from its rows and its leaf run (R141, R143, R150,
R189). -/
def Cut.shape (v : Cut) (it : Item) : Item :=
  let rows := v.rowsAt it.row0 it.rows
  let run := (List.range it.leaves).map (it.leaf0 + ·)
  let tile := v.manyRows rows || run.any v.isCold
  { it with
      tilePath := tile, sets := itemSets v.pr it.rows tile, granules := itemGranules v.pr it.rows it.leaves tile
      positions := ((rows.map fun r => r.2.qp).eraseDups).length
      slots := if tile then [] else run.flatMap (v.scoreStripes it.row0 it.rows)
      pages := (run.flatMap v.leafPages).eraseDups }

/-- The items of a CHAINED row set hold one reservation and the same lane sets in turn (R149, R150). -/
def Cut.chain (v : Cut) (l : List Item) : List Item :=
  let sets := (l.map Item.sets).foldl Nat.max 0
  l.map fun it =>
    { it with chained := true, sets := sets
              granules := chainGranules v.pr it.setRows l.length (l.any fun x => !x.tilePath) (l.any fun x => x.tilePath) }

/-- The items of one row set, FANNED or CHAINED (R149); in PAGE mode nothing is merged. -/
def Cut.setItems (v : Cut) (proto : Item) (x : Nat × Nat × List (Nat × Nat)) : List Item :=
  let l := x.2.2.map fun r =>
    v.shape { proto with set0 := x.1, setRows := x.2.1, row0 := x.1, rows := x.2.1, leaf0 := r.1, leaves := r.2 }
  if aRet v.d = 0 ∨ x.2.1 * l.length * (32 + 4 * v.pr.valueDim) ≤ v.fanout * 65536 then l else v.chain l

/-- The SUMMARY stripes of a head: its rows, 48 at a time, against each key page in HBM with an eligible block (R79, R134). -/
def Cut.summaryStripes (v : Cut) : List StripeIn :=
  let v0 := { v with keep := none }
  v0.leaves.flatMap fun a =>
    match v0.keyPage a with
    | none => []
    | some (slot, d) =>
      if (v0.visible v.rows a).isEmpty then []
      else (List.range (ceilDiv v.rows.length 48)).map fun k =>
        { op := .summary, leaf := a, slot := slot, tokens := d.blocks, row0 := 48 * k, rows := Nat.min 48 (v.rows.length - 48 * k),
          pos := v.e.posBase + (a - v.lo) * v.pr.tokens 0 }

/-- The slice whose tiles run a request's items: its sequence's. -/
def Cmd.itemSlice (c : Cmd) : Nat := (c.snap.getD {}).slice

/-- The cycle budget of R144 at the lowest frequency of the slice's tiles (log 60). -/
def State.cycleBudget (s : State) (slice dom : Nat) : Nat :=
  6144 * (((s.sliceTiles slice dom).map fun l => (s.tile (s.physTile l)).mhz).foldl Nat.min 2000) / 1000

/-- What the cut of one KV head of a request reads over a sequence whose pages `cold` are read into the scratchpad (R226). -/
def State.cutOver (s : State) (c : Cmd) (e : SeqEntry) (slice : Nat) (cold : List Nat) (h : Nat) : Cut :=
  { pr := s.pr, d := c.desc, e := e, gens := s.gensOf c, head := h, rows := headRows s.pr c.desc c.input h, cold := cold
    ops := (s.progEnv (aLayer c.desc)).words.length, budget := s.cycleBudget slice c.dom
    scoreRows := c.scoreRows, leavesMax := c.leavesMax, fanout := c.fanout }

/-- The cut of one KV head of a request at its read point. `keep` are the blocks that a sifted request attends to. -/
def State.cutOf (s : State) (c : Cmd) (h : Nat) : Cut :=
  let e := c.snap.getD {}
  let v := s.cutOver c e c.itemSlice (c.jobs.map PageJob.page) h
  let ready := (leavesOf s.pr e c.pagesRead (aLayer c.desc) h).map fun lf => (lf, leafBlocks s.pr lf)
  { v with
      keep := if aSifted c.desc then headKeep s.pr v.gens c.desc ready v.rows else none
      pages := c.snapPages, slots := c.readSlots }

/-- The row sets of a head, at most 512 rows each, with their runs (R143, R144). -/
def Cut.rowSets (v : Cut) : List (Nat × Nat × List (Nat × Nat)) :=
  (List.range (ceilDiv v.rows.length 512)).flatMap fun k => v.sets (512 * k) 10 (Nat.min 512 (v.rows.length - 512 * k))

/-- The item that carries a request's command, domain, slice and priority. -/
def Cmd.itemOf (c : Cmd) (op : AwnOp) (h : Nat) : Item :=
  { op := op, cmd := c.id, dom := c.dom, slice := c.itemSlice, prio := c.prio, head := h }

/-- The work items of a request (R141 to R150), without tags: each KV head's rows in sets of at most 512, each cut into runs. -/
def State.itemsFor (s : State) (c : Cmd) : List Item :=
  (attendHeads s.pr c.desc).flatMap fun h =>
    let v := s.cutOf c h
    v.rowSets.flatMap (v.setItems (c.itemOf .score h))

/-- The items that carry a sifted request's SUMMARY stripes, one for each head that has any (R79, R134). -/
def State.summaryItems (s : State) (c : Cmd) : List Item :=
  (attendHeads s.pr c.desc).filterMap fun h =>
    let v := s.cutOf { c with jobs := c.jobs.map fun j => { j with data := none } } h
    let l := v.summaryStripes
    if l.isEmpty then none
    else some { c.itemOf .summary h with rows := v.rows.length, slots := l, pages := (l.map StripeIn.leaf).flatMap v.leafPages }

/-- Steps of ATTEND after its checks: nothing is reserved beyond its items and buffers. Its masks are held from here (R123). -/
def State.reserveAttend (s : State) (c : Cmd) : Except Fail (State × Cmd) :=
  .ok (s, { c with seq := some (sidIndex (dSeq c.desc)), masks := maskHandles c.desc, stage := .waiting })

/-- What a command's output still lacks in its buffer: all of it, or the rows that no completed row set has placed (R149). -/
def State.placeOutput (s : State) (c : Cmd) : State :=
  if c.placed.isEmpty then s.writeBuf c.sq (dOut c.desc) c.output
  else
    let e := c.snap.getD {}
    ((List.range (aRows c.desc)).filter fun r => !c.placed.contains r).foldl (fun t r =>
      let at_ := ((List.range r).map (rowBytes s.pr c.desc e)).sum
      t.writeRow c e r (slice (c.output.drop at_) 0 (rowBytes s.pr c.desc e r))) s

/-- Commit of ATTEND and WINNOW: the output placed, then the completion (R178). A command that a shadow runs places none. -/
def State.commitOut (s : State) (c : Cmd) : State :=
  if c.cls = 3 then s.endOk c c.count c.r0 0
  else if s.outOk c.sq (dOut c.desc) then (s.placeOutput c).endOk c c.count c.r0 0
  else s.endCmd c ⟨stBufAccess, 1, 0, 0⟩

/-! ## WINNOW (R182) -/

/-- The partials that bytes hold, placed densely; `none` where one is cut short. -/
def parsePartials : Nat → List Byte → Option (List (List Byte))
  | 0, l => if l.isEmpty then some [] else none
  | n + 1, l =>
    let size := 32 + 4 * leNat (slice l 24 2)
    if l.length < size ∨ l.length < 32 then none
    else (parsePartials n (l.drop size)).map fun r => l.take size :: r

/-- The checks of one partial (R126, R127): its CRC and PFORMAT. -/
def partialOk (l : List Byte) : Bool :=
  (crc32c (l.take 28 ++ l.drop 32)).toNat == leNat (slice l 28 4) && leNat (slice l 26 1) == 1

/-- The ranges of partials of one group neither overlap nor leave the tree (R129). -/
def rangesOk (l : List Partial) : Bool :=
  l.all (fun p => decide (p.first ≤ p.last) && decide (p.last < 2 ^ 27))
    && decide ((l.foldl (fun acc p => insertPartial (p.first, p) acc) []).Pairwise fun a b => a.2.last < b.2.first)

/-- Groups of a WINNOW by row, then query head. -/
def winnowGroups (l : List Partial) : List (Nat × List Partial) :=
  l.foldl (fun acc p => aput acc (p.row * 256 + p.qhead) ((aget acc (p.row * 256 + p.qhead)).getD [] ++ [p])) []

/-- The output of a WINNOW, or `none` where R182 fails it. -/
def winnowOut (count : Nat) (l : List Byte) : Option (List Partial) :=
  match parsePartials count l with
  | none => none
  | some bs =>
    let ps := bs.map Partial.ofList
    let vd := (ps.head?.map fun p => p.o.length).getD 0
    if bs.all partialOk ∧ ps.all (fun p => p.o.length == vd) ∧ (winnowGroups ps).all (fun g => rangesOk g.2) then
      some ((winnowGroups ps).filterMap fun g => treeMerge g.2)
    else none

/-- COUNT of WINNOW (R182). -/
def winnowCount (d : Desc) : Nat := fld d 384 32

/-- The slice on whose tiles a WINNOW runs: the lowest that its domain may use (log 112). -/
def State.winnowSlice (s : State) (dom : Nat) : Nat :=
  ((List.range 16).find? fun n => (s.num 0x7120 1 dom).testBit n).getD 0

/-- Step 6 of WINNOW, its buffer's contents apart. A slice without a working tile fails it (R158). -/
def State.checkWinnow (s : State) (c : Cmd) : Option Fail :=
  (firstFail
    [(decide (1 ≤ winnowCount c.desc) && decide (winnowCount c.desc ≤ 65536), badParam 48),
     ((dIn c.desc).addr % 32 == 0, badParam 16), ((dOut c.desc).addr % 32 == 0, badParam 32)]).or
  (if (s.sliceTiles (s.winnowSlice c.dom) c.dom).isEmpty then some ⟨stPartFail, 0, 0, 0⟩ else none)

/-- The contents of a WINNOW's buffer (R182). Bytes beyond COUNT partials are a wrong LEN. -/
def State.takeWinnow (c : Cmd) : Option Fail :=
  match winnowOut (winnowCount c.desc) c.input with
  | some ps => if (ps.flatMap Partial.bytes).length ≤ (dOut c.desc).len then none else some (badParam 0xFF)
  | none => some (badParam 0xFF)

/-- WINNOW's result, formed once its input is there. -/
def State.computeWinnow (s : State) (c : Cmd) : State :=
  let ps := (winnowOut (winnowCount c.desc) c.input).getD []
  let b := ps.flatMap Partial.bytes
  s.setCmd { c with output := b, count := ps.length, r0 := b.length, stage := .planned }

end Sys2Proof.Machine
end

