-- ==== Sys2Proof/Machine/Awn.lean ====
section
/-! DEFINITION. What an awn computes in a SCORE or a SUMMARY stripe and checks: its query rows with their CRCs (R81), scores and
summary scores (R74, R134), the checks of the score path (R85), and the trailer (R83). -/

namespace Sys2Proof.Machine

/-! ## Query rows (R81) -/

/-- A query row as it is delivered to an awn: its elements and its exponent, in bytes (R71, R150; log 120). -/
def QRow.bytes (q : QRow) : List Byte := q.q.flatMap (fun v => leBytes 1 (toCode 8 v)) ++ leBytes 4 (toCode 32 q.qexp)

/-- A query row with the CRC-32C that travels with it (R81). -/
structure SentRow where
  q : QRow := ⟨[], 0⟩
  crc : BitVec 32 := 0
deriving DecidableEq, Repr

/-- A query row sent (R81). -/
def QRow.send (q : QRow) : SentRow := ⟨q, crc32c q.bytes⟩

/-- The awn's check of a row before it uses it (R81). -/
def SentRow.ok (r : SentRow) : Bool := crc32c r.q.bytes == r.crc

/-! ## A block as a stripe reads it -/

/-- A key block: its glume codes, key sums and valid tokens with the sines and cosines of their positions (R31, R72, R81). -/
structure AwnBlock where
  gl : List Nat := []
  sums : List Int := []
  toks : List (List Int) := []
  rots : List (List (Int × Int)) := []
deriving DecidableEq, Repr

/-- Block `j` of a key page with `n` valid tokens, the first at position `pos` (R49, R81). -/
def awnBlock (pr : Prof) (d : PageData) (j n pos : Nat) : AwnBlock :=
  let toks := (d.blockInts pr j).take n
  { gl := d.blockGlumes pr j, sums := keySums (d.dim pr) toks, toks := toks
    rots := (List.range toks.length).map fun t => if pr.ropeDims = 0 then [] else rotation pr (pos + t) }

/-! ## The checks of the score path (R85) -/

/-- Sum over the rotated pairs of `u + v` (R85). -/
def pairSum (f : Folded) (ka kb : List Int) : Int :=
  dot f.aa ka + dot f.bb kb + dot f.ab ka - dot f.ba kb

/-- The left side of the check: over every valid token (R85). -/
def abftLhs (pr : Prof) (f : Folded) (toks : List (List Int)) : Int :=
  (toks.map fun k => let (kp, ka, kb) := splitRot pr k; dot f.plain kp + pairSum f ka kb).sum

/-- The right side: from the stored key sums (R85). -/
def abftRhs (pr : Prof) (f : Folded) (sums : List Int) : Int :=
  let (kp, ka, kb) := splitRot pr sums
  dot f.plain kp + dot (List.zipWith (· + ·) f.aa f.ab) ka + dot (List.zipWith (· - ·) f.bb f.ba) kb

/-- `e_blk` on the check datapath's own comparator tree: no glume exceeds it and some glume is equal (R85). -/
def eBlkChecks (gl : List Nat) (e : Int) : Bool :=
  gl.isEmpty || (gl.all (fun g => decide (((g : Nat) : Int) - 127 ≤ e)) && gl.any fun g => decide (((g : Nat) : Int) - 127 = e))

/-- `abft_ok` of a row over a block (R85). -/
def abftOk (pr : Prof) (b : AwnBlock) (q : QRow) : Bool :=
  let f := foldQuery pr q.q (blockShifts b.gl)
  decide (abftLhs pr f b.toks = abftRhs pr f b.sums) && eBlkChecks b.gl (eBlk b.gl)

/-- Residue modulo 63. -/
def res63 (v : Int) : Int := v % 63

/-- `Σ (cs × u + sn × v)` formed from residues modulo 63 (R85). -/
def rotResidue : List (Int × Int) → List Int → List Int → List Int → List Int → List Int → List Int → Int
  | (sn, cs) :: r, aa :: l1, bb :: l2, ab :: l3, ba :: l4, ka :: l5, kb :: l6 =>
    let u := res63 (aa * ka + bb * kb)
    let v := res63 (ab * ka - ba * kb)
    res63 (res63 cs * u + res63 sn * v + rotResidue r l1 l2 l3 l4 l5 l6)
  | _, _, _, _, _, _, _ => 0

/-- The residue checks of a token and a row: of the rotated sum, and of its rounding (R85). -/
def residueOk (pr : Prof) (f : Folded) (rot : List (Int × Int)) (k : List Int) : Bool :=
  let (_, ka, kb) := splitRot pr k
  let rs := rotSum rot f.aa f.bb f.ab f.ba ka kb
  let s := rshiftRne rs 14
  let r := rs - s * 16384
  decide (res63 rs = rotResidue rot f.aa f.bb f.ab f.ba ka kb) && decide (-8192 ≤ r) && decide (r ≤ 8192)
    && decide (res63 (s * 16384 + r) = res63 rs)

/-! ## What a stripe delivers -/

/-- Scores of a stripe in stream order, its shared exponent, and its two check bits (R83, R85). -/
structure AwnResult where
  scores : List Int := []
  eblk : Int := 0
  abft : Bool := true
  residue : Bool := true
deriving DecidableEq, Repr

/-- A SCORE stripe: every row against every valid token, row by row (R74, R79, R85; log 120). -/
def scoreStripe (pr : Prof) (b : AwnBlock) (rows : List SentRow) : AwnResult :=
  let one : SentRow → List Int × Bool × Bool := fun r =>
    let f := foldQuery pr r.q.q (blockShifts b.gl)
    (List.zipWith (fun k rot => scoreInt pr f rot k) b.toks b.rots, abftOk pr b r.q,
      (List.zipWith (fun k rot => residueOk pr f rot k) b.toks b.rots).all id)
  let l := rows.map one
  { scores := l.flatMap Prod.fst, eblk := eBlk b.gl, abft := l.all fun x => x.2.1
    residue := l.all (fun x => x.2.2) && rows.all SentRow.ok }

/-- Summary scores of rows against the blocks of a page, row by row (R134). -/
def summaryScores (pr : Prof) (d : PageData) (blocks pos : Nat) (rows : List SentRow) : List Int :=
  rows.flatMap fun r => (List.range blocks).map fun j =>
    let gl := d.blockGlumes pr j
    let rot := if pr.ropeDims = 0 then [] else rotation pr (pos + j * d.block + d.block / 2)
    summaryScore pr gl r.q.q rot (sigma d.format gl (keySums (d.dim pr) (d.blockInts pr j)))

/-- A SUMMARY stripe: every score on both lane halves, which must agree (R79, R85, R134). -/
def summaryStripe (pr : Prof) (d : PageData) (blocks pos : Nat) (rows : List SentRow) : AwnResult :=
  let a := summaryScores pr d blocks pos rows
  let b := summaryScores pr d blocks pos rows
  { scores := a, abft := decide (a = b), residue := rows.all SentRow.ok }

/-- The bytes of a score stream: one int32 for each score (R83). -/
def AwnResult.stream (r : AwnResult) : List Byte := r.scores.flatMap fun v => leBytes 4 (toCode 32 v)

/-- KIND of a trailer (R83). -/
def AwnOp.kind (op : AwnOp) : Nat := if op = .summary then 1 else 0

/-- The trailer of a stripe (R83), with what the hardware's own checks made of it (R85, R88). -/
def trailerOf (x : StripeIn) (tag : Nat) (a : AwnResult) (r : StripeResult) : BitVec 128 :=
  BitVec.ofNat 128 ((if x.op = .summary then 0 else toCode 8 a.eblk) + x.tokens % 256 * 2 ^ 8 + x.rows % 64 * 2 ^ 16 + x.op.kind * 2 ^ 22
    + b2n (a.abft && r.abftOk) * 2 ^ 24 + b2n (a.residue && r.residueOk) * 2 ^ 25 + b2n r.corrected * 2 ^ 26
    + tag % 2 ^ 32 * 2 ^ 32 + (crc32c a.stream).toNat * 2 ^ 64)

/-- STRIPE_TAG of a trailer (R83). -/
def trTag (t : BitVec 128) : Nat := fld t 32 32
/-- ABFT_OK of a trailer. -/
def trAbft (t : BitVec 128) : Bool := bit t 24
/-- RESIDUE_OK of a trailer. -/
def trResidue (t : BitVec 128) : Bool := bit t 25

/-- ABFT_OK and RESIDUE_OK of a trailer, both 1. -/
def trChecksOk : BitVec 128 := 0x3000000

/-! ## A stripe of a command -/

/-- The query rows that a stripe of a command's item carries (R71, R81). -/
def State.stripeQ (s : State) (c : Cmd) (it : Item) (x : StripeIn) : List SentRow :=
  (((headRows s.pr c.desc c.input it.head).drop x.row0).take x.rows).map fun r => r.2.q.send

/-- What a SCORE or SUMMARY stripe of a command's item delivers over its page as of the read point (R45, R81). -/
def State.stripeResult (s : State) (c : Cmd) (it : Item) (x : StripeIn) : AwnResult :=
  let page := (c.readSlots.find? fun p => p.2 == x.slot).bind fun p => aget c.snapPages p.1
  match page with
  | none => {}
  | some d =>
    if x.op = .summary then summaryStripe s.pr d x.tokens x.pos (s.stripeQ c it x)
    else scoreStripe s.pr (awnBlock s.pr d x.block x.tokens x.pos) (s.stripeQ c it x)

/-- The trailer of a running stripe of an item (R83). -/
def State.trailer (s : State) (it : Item) (x : Stripe) (r : StripeResult) : BitVec 128 :=
  match s.cmd it.cmd with
  | some c => trailerOf x.inp x.tag (s.stripeResult c it x.inp) r
  | none => trailerOf x.inp x.tag {} r

/-- A thresher takes a stripe's scores: ABFT_OK and RESIDUE_OK are 1, and SCORE_CRC matches over the received bytes (R84). -/
def trailerOk (t : BitVec 128) (crcOk : Bool) : Bool := trAbft t && trResidue t && crcOk

end Sys2Proof.Machine
end

