-- ==== Sys2Proof/Machine/Prefix.lean ====
section
/-! DEFINITION. The Prefix Index: entries, banks and runs, PREFIX_FIND, PREFIX_ADD, PREFIX_DROP, rebalance and sweep
(R183, R199 to R213). -/

namespace Sys2Proof.Machine

/-! ## Entries -/

/-- Bytes 0 to 95 of an entry with a STATE and HITS (R199). -/
def IdxEntry.head (e : IdxEntry) (st hits : Nat) : List Byte :=
  leBytes 16 e.key.toNat ++ leBytes 2 (e.scopeId + e.scopeKind * 4096) ++ leBytes 1 e.prio ++ leBytes 1 st ++ leBytes 4 0
    ++ leBytes 8 e.src.toNat ++ leBytes 4 e.block ++ leBytes 4 e.anchor ++ leBytes 2 hits ++ leBytes 2 e.adder ++ leBytes 52 0

/-- BLOCK_DIGEST of an entry (R199). -/
def IdxEntry.digestOf (e : IdxEntry) : List Byte := sha256 (e.head 0 0)

/-- The 128 bytes of an entry (R199). -/
def IdxEntry.bytes (e : IdxEntry) : List Byte := e.head e.st e.hits ++ padTo 32 e.digest

/-- The order of entries in a bank (R200). -/
def IdxEntry.lt (a b : IdxEntry) : Bool :=
  if a.key ≠ b.key then decide (a.key.toNat < b.key.toNat)
  else if a.scopeKind ≠ b.scopeKind then decide (a.scopeKind < b.scopeKind)
  else if a.scopeId ≠ b.scopeId then decide (a.scopeId < b.scopeId)
  else if a.prio ≠ b.prio then decide (b.prio < a.prio)
  else if a.src ≠ b.src then decide (a.src.toNat < b.src.toNat)
  else decide (a.block < b.block)

/-- Bank of a key (R200). -/
def keyBank (k : BitVec 128) : Nat := fld k 122 6

/-- Entries of a run, numbered over all banks, in order. -/
def runOf (l : List (Nat × IdxEntry)) (g : Nat) : List IdxEntry := (l.filter fun p => p.1 / 64 == g).map Prod.snd

/-- The slots of a run set to given entries. -/
def putRun (l : List (Nat × IdxEntry)) (g : Nat) (es : List IdxEntry) : List (Nat × IdxEntry) :=
  (es.mapIdx fun i e => (64 * g + i, e)).foldl (fun a p => aput a p.1 p.2) (l.filter fun p => p.1 / 64 ≠ g)

/-- An entry placed in order. -/
def orderIn (x : IdxEntry) : List IdxEntry → List IdxEntry
  | [] => [x]
  | y :: r => if x.lt y then x :: y :: r else y :: orderIn x r

/-- A bank rewritten with its holes spread evenly (R201): run `i` gets its share of the entries. -/
def spread (bank : Nat) (holes : Nat) : Nat → Nat → List IdxEntry → List (Nat × IdxEntry)
  | 0, _, _ => []
  | f + 1, i, es =>
    let n := 64 - (holes / 2048 + if i < holes % 2048 then 1 else 0)
    ((es.take n).mapIdx fun k e => (131072 * bank + 64 * i + k, e)) ++
      (if es.length ≤ n then [] else spread bank holes f (i + 1) (es.drop n))

/-- The index with a bank rebalanced (R201). -/
def rebalance (l : List (Nat × IdxEntry)) (b : Nat) : List (Nat × IdxEntry) :=
  let es := (l.filter fun p => p.1 / 131072 == b).map Prod.snd
  l.filter (fun p => decide (p.1 / 131072 < b)) ++ spread b (131072 - es.length) 2048 0 es
    ++ l.filter fun p => decide (b < p.1 / 131072)

/-- The run that covers an entry's place: that of the greatest entry before it, else of the least after it, else the first
(R200). -/
def runFor (l : List (Nat × IdxEntry)) (x : IdxEntry) : Nat :=
  let b := keyBank x.key
  let bk := l.filter fun p => p.1 / 131072 == b
  match (bk.filter fun p => p.2.lt x).getLast? with
  | some p => p.1 / 64
  | none => match bk.head? with | some p => p.1 / 64 | none => 2048 * b

/-- An overfull run passes its last entry on to the next, run by run. -/
def pushRight (l : List (Nat × IdxEntry)) (g : Nat) (es : List IdxEntry) : Nat → List (Nat × IdxEntry)
  | 0 => putRun l g es
  | f + 1 =>
    if es.length ≤ 64 then putRun l g es
    else pushRight (putRun l g (es.take 64)) (g + 1) (es.drop 64 ++ runOf l (g + 1)) f

/-- An overfull run passes its first entry back to the one before, run by run. -/
def pushLeft (l : List (Nat × IdxEntry)) (g : Nat) (es : List IdxEntry) : Nat → List (Nat × IdxEntry)
  | 0 => putRun l g es
  | f + 1 =>
    if es.length ≤ 64 then putRun l g es
    else pushLeft (putRun l g (es.drop 1)) (g - 1) (runOf l (g - 1) ++ es.take 1) f

/-- An entry inserted into its bank, and whether the bank was rebalanced (R201). Where the covering run is full even after
that, the shift goes on to the nearest run with a hole (log 27). -/
def insertEntry (l : List (Nat × IdxEntry)) (x : IdxEntry) : List (Nat × IdxEntry) × Bool :=
  let g := runFor l x
  let es := runOf l g
  if es.length < 64 then (putRun l g (orderIn x es), false)
  else
    let b := keyBank x.key
    let l2 := rebalance l b
    let g2 := runFor l2 x
    let es2 := orderIn x (runOf l2 g2)
    let right := (List.range 2048).find? fun k => decide ((g2 + k) / 2048 = b) && decide ((runOf l2 (g2 + k)).length < 64)
    let left := (List.range 2048).find? fun k => decide (2048 * b + k ≤ g2) && decide ((runOf l2 (g2 - k)).length < 64)
    match right, left with
    | some r, some k => if r ≤ k then (pushRight l2 g2 es2 2048, true) else (pushLeft l2 g2 es2 2048, true)
    | some _, none => (pushRight l2 g2 es2 2048, true)
    | none, _ => (pushLeft l2 g2 es2 2048, true)

/-- An entry added, its anchor referenced (R199). -/
def State.addEntry (s : State) (x : IdxEntry) : State :=
  let (l, r) := insertEntry s.index.entries x
  let s1 := (s.setIndex l).addRef x.anchor
  if r then s1.bump 0xA000 8 else s1

/-- Entries removed by a commit, their anchors released: they become holes once the FINDs admitted before have completed (R211). -/
def State.removeEntries (s : State) (f : IdxEntry → Bool) : State :=
  let hit : IdxEntry → Bool := fun x => x.gone.isNone && f x
  let finds := (s.sched.cmds.filter fun c => dOp c.desc == 0x30).map Cmd.id
  ((s.setIndex (s.index.entries.map fun p => if hit p.2 then (p.1, { p.2 with gone := some finds }) else p)).dropRefs
    ((s.index.entries.filter fun p => hit p.2).map fun p => p.2.anchor)).dropHoles

/-! ## Validity (R204, R207) -/

/-- Every row that a block lies in is complete and held (R204 check 2). -/
def blockComplete (pr : Prof) (e : SeqEntry) (b : Nat) : Bool :=
  decide ((64 * (b + 1) - 1) / pr.align * pr.align + pr.align ≤ e.minLen pr)
    && ((List.range ((64 * b + 63) / pr.align + 1)).drop (64 * b / pr.align)).all fun r => (aget e.rows r).isSome

/-- The anchor of a block: the plane 0 key page that holds it (R199). -/
def anchorOf (pr : Prof) (e : SeqEntry) (b : Nat) : Option Nat := e.handle 0 (64 * b / pr.tokens 0)

/-- An entry is valid (R207). -/
def State.idxValid (s : State) (x : IdxEntry) : Bool :=
  let e := s.seq (sidIndex x.src)
  (e.st == .open_ || e.st == .stalled || e.st == .moving) && e.gen == sidGen x.src && e.dom == sidDom x.src
    && blockComplete s.pr e x.block && anchorOf s.pr e x.block == some x.anchor

/-- The digest of an entry matches (R208). -/
def IdxEntry.verified (x : IdxEntry) : Bool := x.digestOf == x.digest

/-! ## Fields (R183) -/

/-- BLOCKS. -/
def pBlocks (d : Desc) : Nat := fld d 384 32
/-- FIRST_BLOCK. -/
def pFirst (d : Desc) : Nat := fld d 416 32
/-- SHARE_GROUP. -/
def pGroup (d : Desc) : Nat := fld d 448 12
/-- SEARCH_MASK. -/
def pMask (d : Desc) : BitVec 128 := d.extractLsb' 512 128
/-- The keys of BUF_IN. -/
def pKeys (c : Cmd) : List (BitVec 128) := (chunks 16 (pBlocks c.desc) c.input).map (ofBytes 128)

/-- An entry lies in the command's scope (R202). -/
def inScope (c : Cmd) (x : IdxEntry) : Bool :=
  if pGroup c.desc = 0 then x.scopeKind == 0 && x.scopeId == c.dom else x.scopeKind == 1 && x.scopeId == pGroup c.desc

/-- Step 2 of the prefix commands: a DOMAIN queue names a group only as a member (R202), FIRST_MATCH needs a privileged
class (R183). -/
def State.prefixDenied (s : State) (c : Cmd) : Option Fail :=
  let g := pGroup c.desc
  if c.cls = 0 ∧ g ≠ 0 ∧ !s.inGroup g c.dom then some ⟨stDenied, 56, 0, 0⟩
  else if dOp c.desc = 0x30 ∧ bit c.desc 464 ∧ c.cls = 0 then some ⟨stDenied, 58, 0, 0⟩
  else none

/-- BLOCKS in range and BUF_IN of 16 bytes a key. -/
def prefixParam (c : Cmd) : Option Fail :=
  if pBlocks c.desc < 1 ∨ 65536 < pBlocks c.desc then some (badParam 48) else bufParam (dIn c.desc) 16 (16 * pBlocks c.desc)

/-! ## PREFIX_FIND (R206 to R209) -/

/-- Step 6 of PREFIX_FIND. -/
def State.checkFind (c : Cmd) : Option Fail :=
  match prefixParam c with
  | some f => some f
  | none =>
    if pMask c.desc ≠ BitVec.allOnes 128 ∧ 64 < pBlocks c.desc then some (badParam 48)
    else if bit c.desc 464 then outParam (dOut c.desc) 32
    else none

/-- An entry placed by priority, source and block. -/
def rankEntry (x : Nat × IdxEntry) : List (Nat × IdxEntry) → List (Nat × IdxEntry)
  | [] => [x]
  | y :: r =>
    if y.2.prio < x.2.prio ∨ (x.2.prio = y.2.prio ∧ (x.2.src.toNat < y.2.src.toNat
        ∨ (x.2.src = y.2.src ∧ x.2.block < y.2.block))) then x :: y :: r
    else y :: rankEntry x r

/-- The first accepted candidate, and the candidates read before it whose digest failed (R208). -/
def firstGood (ok : Nat × IdxEntry → Bool) : List (Nat × IdxEntry) → List Nat → Option (Nat × IdxEntry) × List Nat
  | [], bad => (none, bad)
  | x :: r, bad => if !x.2.verified then firstGood ok r (bad ++ [x.1]) else if ok x then (some x, bad) else firstGood ok r bad

/-- What a PREFIX_FIND admitted now will see: the LIVE entries of its scope, with their validity (R207, R211). -/
def State.indexSeen (s : State) (c : Cmd) : List (Nat × IdxEntry × Bool) :=
  (s.index.entries.filter fun p => p.2.st == 1 && p.2.gone.isNone && inScope c p.2).map fun p => (p.1, p.2, s.idxValid p.2)

/-- An entry was valid at the FIND's admission. -/
def Cmd.wasValid (c : Cmd) (n : Nat) : Bool := ((aget c.index n).map Prod.snd).getD false

/-- The candidates of a key: every entry that passes the key and scope comparison, in order of preference (R206, R208). -/
def candidates (c : Cmd) (k : BitVec 128) : List (Nat × IdxEntry) :=
  let m := pMask c.desc
  ((c.index.filter fun p => (p.2.1.key &&& m) == (k &&& m)).map fun p => (p.1, p.2.1)).foldl (fun acc x => rankEntry x acc) []

/-- The blocks after the first that match at the same source. -/
def findChain (c : Cmd) (src : BitVec 64) : Nat → List (BitVec 128) → List Nat → List Nat → List Nat × List Nat
  | _, [], hits, bad => (hits, bad)
  | b, k :: r, hits, bad =>
    match firstGood (fun p => c.wasValid p.1 && p.2.src == src && p.2.block == b) (candidates c k) bad with
    | (some x, bad2) => findChain c src (b + 1) r (hits ++ [x.1]) bad2
    | (none, bad2) => (hits, bad2)

/-- A search: the first match, the slots counted, and the slots whose digest failed (R206). -/
def findOf (c : Cmd) : Option (Nat × IdxEntry) × List Nat × List Nat :=
  match pKeys c with
  | [] => (none, [], [])
  | k :: r =>
    match firstGood (fun p => c.wasValid p.1) (candidates c k) [] with
    | (none, bad) => (none, [], bad)
    | (some x, bad) =>
      let (hits, bad2) := findChain c x.2.src (x.2.block + 1) r [x.1] bad
      (some x, hits, bad2)

/-- Where an entry that a FIND saw lies now: rebalances move entries and change nothing else (R201). -/
def State.slotNow (s : State) (x : IdxEntry) : Option Nat :=
  (s.index.entries.find? fun p => p.2.gone.isNone && (x.lt p.2 || p.2.lt x) == false && p.2.anchor == x.anchor).map Prod.fst

/-- An entry quarantined, counted and reported (R208). -/
def State.quarantine (s : State) (n : Nat) (injected : Bool) : State :=
  match aget s.index.entries n with
  | some x =>
    if x.st = 1 then
      let s1 := (s.setIndex (aput s.index.entries n { x with st := 3 })).bump 0xA000 7
      s1.raise 0x10 islIndex n none [n, x.src.toNat] injected fun _ t => t
    else s
  | none => s

/-- The first-match reference (R209). -/
def findRef (m : Option (Nat × IdxEntry)) : List Byte :=
  match m with
  | some (n, x) =>
    leBytes 4 (n + 2 ^ 23) ++ leBytes 4 x.block ++ leBytes 8 x.src.toNat ++ leBytes 4 x.anchor ++ leBytes 12 x.prio
  | none => leBytes 32 0

/-- PREFIX_FIND's result, from what it saw at its admission (R206, R211). -/
def State.computeFind (s : State) (c : Cmd) : State :=
  let (m, hits, bad) := findOf c
  ((bad.eraseDups.filterMap fun n => (aget c.index n).bind fun x => s.slotNow x.1).foldl (fun t n => t.quarantine n false) s).setCmd
    { c with count := hits.length, hits := hits, output := if bit c.desc 464 then findRef m else [], stage := .planned }

/-- HITS of an entry raised (R209). -/
def State.addHit (s : State) (n : Nat) : State :=
  s.setIndex (s.index.entries.map fun p => if p.1 = n then (p.1, { p.2 with hits := Nat.min 65535 (p.2.hits + 1) }) else p)

/-- Commit of PREFIX_FIND: each entry counted has one more hit (R209). -/
def State.commitFind (s : State) (c : Cmd) : State :=
  if c.output.isEmpty || s.outOk c.sq (dOut c.desc) then
    (((c.hits.filterMap fun n => (aget c.index n).bind fun x => s.slotNow x.1).foldl State.addHit s).writeBuf c.sq (dOut c.desc)
      c.output).endOk c c.count 0 0
  else s.endCmd c ⟨stBufAccess, 1, 0, 0⟩

/-! ## PREFIX_ADD (R204, R205) -/

/-- Steps 4 and 6 of PREFIX_ADD: checks 1 and 2 of R204. -/
def State.checkAdd (s : State) (c : Cmd) : Option Fail :=
  match s.checkSeq c with
  | some f => some f
  | none =>
    match prefixParam c with
    | some f => some f
    | none =>
      let e := s.seq (sidIndex (dSeq c.desc))
      let g := pGroup c.desc
      firstFail
        [(g == 0 || (g == e.group && s.inGroup g c.dom), badParam 56),
         ((List.range (pBlocks c.desc)).all fun k => blockComplete s.pr e (pFirst c.desc + k), badParam 52)]

/-- The entry that an add writes for one block. -/
def addedEntry (pr : Prof) (e : SeqEntry) (c : Cmd) (st k : Nat) (key : BitVec 128) : IdxEntry :=
  let g := pGroup c.desc
  let x : IdxEntry :=
    { key := key, scopeId := if g = 0 then c.dom else g, scopeKind := if g = 0 then 0 else 1, prio := fld c.desc 460 4,
      st := st, src := dSeq c.desc, block := pFirst c.desc + k, anchor := (anchorOf pr e (pFirst c.desc + k)).getD 0,
      adder := c.dom, cmd := c.id }
  { x with digest := x.digestOf }

/-- A LIVE or PENDING entry of the same scope, source and block. -/
def State.sameBlock (s : State) (c : Cmd) (b : Nat) : Option IdxEntry :=
  (s.index.entries.find? fun p =>
    (p.2.st == 1 || p.2.st == 2) && p.2.gone.isNone && inScope c p.2 && p.2.src == dSeq c.desc && p.2.block == b).map Prod.snd

/-- Check 3 of R204, on the keys. -/
def State.takeAdd (s : State) (c : Cmd) : Option Fail :=
  let ok := ((pKeys c).mapIdx fun k key => (k, key)).all fun p =>
    match s.sameBlock c (pFirst c.desc + p.1) with
    | some x => x.key == p.2
    | none => true
  if ok then none else some (badParam 0xFF)

/-- Blocks of an add that need a slot: block number within the command and key. -/
def State.newBlocks (s : State) (c : Cmd) : List (Nat × BitVec 128) :=
  ((pKeys c).mapIdx fun k key => (k, key)).filter fun p => (s.sameBlock c (pFirst c.desc + p.1)).isNone

/-- Entries charged to a domain (R215). -/
def State.indexHeld (s : State) (d : Nat) : Nat := (s.index.entries.filter fun p => p.2.gone.isNone && p.2.adder == d).length

/-- Check 4 of R204, with the bank limit of strict mode (R306). -/
def State.addFits (s : State) (c : Cmd) (l : List (Nat × BitVec 128)) : Option Fail :=
  let banks := (l.map fun p => keyBank p.2).eraseDups
  let quota := s.num 0xA020 1 c.dom
  if banks.any fun b => decide (131072 < (s.bank b).length + (l.filter fun p => keyBank p.2 == b).length) then
    some ⟨stIndexFull, 1, 0, 0⟩
  else if quota < s.indexHeld c.dom + l.length then some ⟨stIndexFull, 2, 0, 0⟩
  else if s.strict ∧ banks.any fun b => decide (ceilDiv quota 64 <
      ((s.bank b).filter fun p => p.2.adder == c.dom).length + (l.filter fun p => keyBank p.2 == b).length) then
    some ⟨stIndexFull, 2, 0, 0⟩
  else none

/-- Step 7 of PREFIX_ADD: its entries are PENDING with their references (R205). -/
def State.reserveAdd (s : State) (c : Cmd) : Except Fail (State × Cmd) :=
  let e := s.seq (sidIndex (dSeq c.desc))
  let l := s.newBlocks c
  match s.addFits c l with
  | some f => .error f
  | none =>
    .ok ((l.foldl (fun t p => t.addEntry (addedEntry s.pr e c 2 p.1 p.2)) s).indexCheck,
      { c with seq := some (sidIndex (dSeq c.desc)) })

/-- Commit of PREFIX_ADD: its entries LIVE together (R205). A block whose entry of an earlier add was removed since is added
now, where its bank has room. -/
def State.commitAdd (s : State) (c : Cmd) : State :=
  let e := s.seq (sidIndex (dSeq c.desc))
  let mine := (s.index.entries.filter fun p => p.2.st == 2 && p.2.cmd == c.id).length
  let late := (s.newBlocks c).filter fun p => (anchorOf s.pr e (pFirst c.desc + p.1)).isSome
  let s1 := s.setIndex (s.index.entries.map fun p =>
    if p.2.st = 2 ∧ p.2.cmd = c.id then (p.1, { p.2 with st := 1 }) else p)
  match s.addFits c late with
  | some _ => (s1.indexCheck).endOk c mine 0 0
  | none =>
    ((late.foldl (fun t p => t.addEntry (addedEntry s.pr e c 1 p.1 p.2)) s1).indexCheck).endOk c (mine + late.length) 0 0

/-! ## PREFIX_DROP (R210) and the sweep (R212) -/

/-- Step 6 of PREFIX_DROP. -/
def State.checkDrop (c : Cmd) : Option Fail :=
  match prefixParam c with
  | some f => some f
  | none => if pMask c.desc = 0 ∨ pMask c.desc = BitVec.allOnes 128 then none else some (badParam 64)

/-- An entry that a drop names (R210). -/
def dropped (c : Cmd) (x : IdxEntry) : Bool :=
  (x.st == 1 || x.st == 3) && inScope c x && (pKeys c).contains x.key && (c.cls != 0 || sidDom x.src == c.dom)

/-- Commit of PREFIX_DROP. -/
def State.commitDrop (s : State) (c : Cmd) : State :=
  let n := (s.index.entries.filter fun p => p.2.gone.isNone && dropped c p.2).length
  ((s.removeEntries (dropped c)).indexCheck).endOk c n 0 0

/-- The sweep removes stale and QUARANTINED entries (R212). -/
def State.sweepIndex (s : State) : State :=
  let gone : IdxEntry → Bool := fun x => x.st == 3 || (x.st == 1 && !s.idxValid x)
  let n := (s.index.entries.filter fun p => p.2.gone.isNone && gone p.2).length
  ((s.removeEntries gone).bump 0xA000 6 n).indexCheck

end Sys2Proof.Machine
end

