-- ==== Sys2Proof/Machine/Recode.lean ====
section
/-! DEFINITION. NARROW, the re-encoding of a page for compaction, as a command of the node's own (R46, R48, R51, R76, R79, R89): its
admission, its stripes and its commit. Its opcode 0xF0 is the model's; its answer goes out as log 107 says. -/

namespace Sys2Proof.Machine

/-- PLANE that a NARROW names. -/
def nPlane (d : Desc) : Nat := fld d 384 13

/-- ORDINAL that a NARROW names. -/
def nOrd (d : Desc) : Nat := fld d 416 32

/-- A NARROW as a command: its sequence, plane and ordinal. It has no queue. -/
def State.narrowCmd (s : State) (dom : Nat) (id : BitVec 64) (plane ord : Nat) : Cmd :=
  { id := s.sched.nextId, sq := 65536, cq := 65536, dom := dom, cls := 4, waitLimit := s.num 0x4000 7
    desc := BitVec.ofNat 1024 (0xF0 + id.toNat * 2 ^ 64 + plane * 2 ^ 384 + ord * 2 ^ 416) }

/-- The scrubbed free slot of a bank pair that a NARROW takes: the spec does not say which, the model takes the lowest (log 116). -/
def State.freeIn (s : State) (st ch bp : Nat) : Option Nat :=
  let b := bpBase st ch bp
  let n := leastFree ((akeys s.pages.use).filter fun k => decide (b ≤ k) && decide (k < b + 1792)) b 1793
  if n < b + 1792 ∧ !s.stackOut st then some n else none

/-- The page that a NARROW names, with its place: the page of the sequence, in HBM, whose format has a narrower one (R46, R76,
R97). A page in HOST_VIEW, or one that an admitted PAGE_VIEW names, is busy. -/
def State.narrowTarget (s : State) (c : Cmd) : Except Fail (Nat × PageEntry) :=
  match s.checkSeq c with
  | some f => .error f
  | none =>
    match (s.ahead (sidIndex (dSeq c.desc))).handle (nPlane c.desc) (nOrd c.desc) with
    | none => .error (badParam 0xFF)
    | some p =>
      match s.page p with
      | none => .error (badParam 0xFF)
      | some x =>
        if (x.refs ≤ 1 ∧ (x.st = .hostView ∨ s.viewPending p)) ∨ !x.inHbm then .error ⟨stBusy, 0, 0, 0⟩
        else if s.isLost p then .error ⟨stPartFail, 0, 0, 0⟩
        else if (narrowTo (s.slotData x.loc).format).isNone then .error (badParam 0xFF)
        else .ok (p, x)

/-- Admission of a NARROW: its target slot in the page's bank pair, within the domain's quota, and for a page with other references
the Page Map entry of its copy (R48, R51, R89). -/
def State.reserveNarrow (s : State) (c : Cmd) : Except Fail (State × Cmd) :=
  match s.narrowTarget c with
  | .error f => .error f
  | .ok (p, x) =>
    let st := slotStack x.loc
    if s.num 0x3200 1 c.dom ≤ s.slotsHeld c.dom then .error ⟨stNoPage, 2, 0, 0⟩
    else
      match (if s.grantOk c.dom then s.freeIn st (slotChan x.loc) (slotBp x.loc) else none) with
      | none => .error ⟨stNoPage, 1, 0, 0⟩
      | some n =>
        let c1 := { c with seq := some (sidIndex (dSeq c.desc)), jobs := [{ page := p, slot := some n, done := true }] }
        let s1 := s.setUse n (.reserved c.id)
        if x.refs ≤ 1 then .ok (s1, c1)
        else if s.num 0x7120 8 c.dom ≤ s.mapHeld c.dom then .error ⟨stNoPage, 2, 0, 0⟩
        else
          match s1.nextPage with
          | none => .error ⟨stNoPage, 3, 0, 0⟩
          | some q =>
            .ok (s1.picked.modPages fun y => { y with reservedIdx := y.reservedIdx ++ [q] },
              { c1 with writes := [⟨nPlane c.desc, nOrd c.desc, q, n, some p⟩] })

/-- The six stripes of a NARROW are issued: they write the target only (R79, R89). They are background work (R96). A page whose side
record does not carry its tag fails it (R300). -/
def State.issueNarrow (s : State) (c : Cmd) : State :=
  match c.jobs.head? with
  | some j =>
    if (s.page j.page).any fun e => e.inHbm && !(s.slotData e.loc).tagOk e then (s.reportIdentity j.page).endCmd c ⟨stPartFail, 0, 0, 0⟩ else
    if s.stripesDead [{ slot := j.slot.getD 0 }] then s.endCmd c ⟨stPartFail, 0, 0, 0⟩ else
    let x : StripeIn := { op := .narrow, slot := j.slot.getD 0 }
    (s.setCmd { c with issued := true }).addItem
      { op := .narrow, cmd := c.id, dom := c.dom, prio := c.prio, slots := (List.range 6).map fun k => { x with block := k } }
  | none => s

/-- Commit of a NARROW (R48, R76, R89): the page's LOCATION moves to the target and its old slot enters the scrub queue; of a shared
page the sequence's handle moves to the copy, which keeps every token of the page (log 117). -/
def State.commitNarrow (s : State) (c : Cmd) : State :=
  let i := sidIndex (dSeq c.desc)
  let e := s.seq i
  match s.narrowTarget c, c.jobs.head? with
  | .error f, _ => s.endCmd c f
  | .ok _, none => s.endCmd c ⟨stBusy, 0, 0, 0⟩
  | .ok (p, x), some j =>
    let d := s.slotData x.loc
    let n := j.slot.getD 0
    let nd := d.narrow s.pr ((narrowTo d.format).getD d.format)
    if p ≠ j.page then s.endCmd c ⟨stBusy, 0, 0, 0⟩
    else if x.refs ≤ 1 then
      ((((s.setPage p { x with loc := n }).setSlot n nd.touch).setUse n (.page p)).queueScrub x.loc
        ((s.readersOf p).filter (· ≠ c.id))).endOk c 0 0 0
    else
      match c.writes.head? with
      | none => s.endCmd c ⟨stBusy, 0, 0, 0⟩
      | some w =>
        let s1 := s.placePage i e w.plane w.ordinal w.page n { copyPage s.pr i e nd w.plane w.ordinal nd.tokens with format := nd.format }
        ((s1.setSeq i { e with handles := aput e.handles (hkey w.plane w.ordinal) w.page }).dropRef p).endOk { c with writes := [] } 0 0 0

end Sys2Proof.Machine
end

