-- ==== Sys2Proof/Machine/View.lean ====
section
/-! DEFINITION. The inspection window's commands and the mask objects: PAGE_VIEW, PAGE_UNVIEW, MASK_PUT, MASK_DROP (R46, R98,
R99, R103, R121 to R123, R184, R185). -/

namespace Sys2Proof.Machine

/-! ## Views -/

/-- Frames of the window (R98). -/
abbrev frameCount : Nat := 1835008

/-- ORDINAL (R184). -/
def vOrd (d : Desc) : Nat := fld d 512 32
/-- PLANE (R184). -/
def vPlane (d : Desc) : Nat := fld d 544 13
/-- FRAME (R184). -/
def vFrame (d : Desc) : Nat := fld d 560 21

/-- The page that PAGE_VIEW, or PAGE_UNVIEW by sequence, names; else the failure of R184. A page that a SEQ_TRIM admitted
before will drop is not held (R99). -/
def State.viewPage (s : State) (c : Cmd) : Except Fail Nat :=
  let e := s.ahead (sidIndex (dSeq c.desc))
  if s.pr.planes ≤ vPlane c.desc then .error (badParam 68)
  else
    match e.handle (vPlane c.desc) (vOrd c.desc) with
    | some p => .ok p
    | none => .error (badParam 64)

/-- Steps 4 to 6 of PAGE_VIEW. A page that a move holds, or that another view has taken, is not in DEVICE state for it
(R99). -/
def State.checkView (s : State) (c : Cmd) : Option Fail :=
  match s.checkSeq c with
  | some f => some f
  | none =>
    match s.viewPage c with
    | .error f => some f
    | .ok p =>
      match s.page p with
      | some e => if e.st = .device ∧ e.busy = none ∧ ¬ s.viewPending p then none else some ⟨stBusy, 0, 0, 0⟩
      | none => some (badParam 64)

/-- Step 7 of PAGE_VIEW: a frame is left for it (R99). -/
def State.reserveView (s : State) (c : Cmd) : Except Fail (State × Cmd) :=
  let pend := (s.sched.cmds.filter fun x => dOp x.desc == 0x43).length
  match s.viewPage c with
  | .error f => .error f
  | .ok p =>
    if s.win.frames.length + pend < frameCount then
      .ok (s, { c with seq := some (sidIndex (dSeq c.desc)), jobs := [{ page := p, done := true }] })
    else .error ⟨stWindowFull, 0, 0, 0⟩

/-- Commit of PAGE_VIEW: the lowest free frame (R99). -/
def State.commitView (s : State) (c : Cmd) : State :=
  let f := leastFree (akeys s.win.frames) 0 frameCount
  match c.jobs.head? with
  | some j =>
    match s.page j.page with
    | some e =>
      ((s.setPage j.page { e with st := .hostView, frame := f }).modWin fun w =>
        { w with frames := aput w.frames f j.page }).endOk c 0 f 0
    | none => s.endCmd c ⟨stBusy, 0, 0, 0⟩
  | none => s.endCmd c ⟨stBusy, 0, 0, 0⟩

/-- The page that PAGE_UNVIEW names (R103). -/
def State.unviewPage (s : State) (c : Cmd) : Except Fail Nat :=
  if dByFrame c.desc then
    match aget s.win.frames (vFrame c.desc) with
    | some p =>
      match s.page p with
      | some e => if c.cls ≠ 0 ∨ e.dom = c.dom then .ok p else .error (badParam 70)
      | none => .error (badParam 70)
    | none => .error (badParam 70)
  else s.viewPage c

/-- Steps 4 to 6 of PAGE_UNVIEW. -/
def State.checkUnview (s : State) (c : Cmd) : Option Fail :=
  match (if dByFrame c.desc then none else s.checkSeq c) with
  | some f => some f
  | none =>
    match s.unviewPage c with
    | .error f => some f
    | .ok p =>
      match s.page p with
      | some e => if e.st = .hostView then none else some ⟨stBusy, 0, 0, 0⟩
      | none => some ⟨stBusy, 0, 0, 0⟩

/-- Frame that a window offset addresses: a payload or a side-record frame (R98). -/
def winFrame (off : Nat) : Option Nat :=
  if off < 0xE00000000 then some (off / 32768)
  else if off < 0xFC0000000 then some ((off - 0xE00000000) / 4096)
  else none

/-- The window reads of a frame that wait (R103). -/
def State.frameReads (s : State) (f : Nat) : List (Nat × Bool) := s.win.reads.filter fun r => winFrame r.1 == some f

/-- Admission of PAGE_UNVIEW: the reads of the frame that came before it are counted (R103). -/
def State.reserveUnview (s : State) (c : Cmd) : Except Fail (State × Cmd) :=
  match s.unviewPage c with
  | .error f => .error f
  | .ok p =>
    .ok (s, { c with
      seq := if dByFrame c.desc then none else some (sidIndex (dSeq c.desc)), jobs := [{ page := p, done := true }]
      early := (s.frameReads (((s.page p).map PageEntry.frame).getD 0)).length })

/-- A view ends: its frame is free, the page DEVICE, or FREE and queued for scrub without references (R46, R103). -/
def State.unview (s : State) (p : Nat) (e : PageEntry) : State :=
  let s1 := s.modWin fun w => { w with frames := adel w.frames e.frame }
  if e.refs = 0 then s1.freePage p { e with st := .device, frame := 0 }
  else s1.setPage p { e with st := .device, frame := 0 }

/-- Commit of PAGE_UNVIEW. -/
def State.commitUnview (s : State) (c : Cmd) : State :=
  match c.jobs.head? with
  | some j =>
    match s.page j.page with
    | some e =>
      if e.st = .hostView then (s.unview j.page e).endOk c 0 0 0
      else s.endCmd c ⟨stBusy, 0, 0, 0⟩
    | none => s.endCmd c ⟨stBusy, 0, 0, 0⟩
  | none => s.endCmd c ⟨stBusy, 0, 0, 0⟩

/-! ## Mask objects -/

/-- OP of MASK_PUT (R185). -/
def maskOp (d : Desc) : Nat := fld d 384 8
/-- HANDLE (R185). -/
def maskHandle (d : Desc) : Nat := fld d 416 32

/-- Bytes of the body that a header implies; `none` where a field breaks its range (R121, R122). -/
def maskBody (h : BitVec 512) : Option Nat :=
  let rows := fld h 16 8
  let ks := fld h 32 32
  let kl := fld h 64 32
  let qs := fld h 96 32
  let qb := fld h 128 32
  let t := fld h 0 8
  if fld h 9 7 ≠ 0 ∨ fld h 192 320 ≠ 0 ∨ fld h 24 8 ≠ 0 then none
  else if t = 1 then
    if 1 ≤ rows ∧ rows ≤ 64 ∧ ks + kl ≤ 2 ^ 32 ∧ qs = 0 ∧ qb = 0 then some (8 * rows * wordsOf kl) else none
  else if t = 2 then
    if rows = 0 ∧ ks % 64 = 0 ∧ ks + 64 * kl ≤ 2 ^ 32 ∧ qs % 64 = 0 ∧ qs + 64 * qb ≤ 2 ^ 32 then some (8 * qb * wordsOf kl)
    else none
  else if t = 3 then
    if !bit h 8 ∧ rows = 0 ∧ ks = 0 ∧ 1 ≤ kl ∧ kl ≤ 65536 ∧ qs = 0 ∧ qb = 0 then some (512 + 8 * kl) else none
  else none

/-- The runs of a SEGMENT body: STARTs ascend strictly and reserved bits are 0 (R122). -/
def runsOk : List Nat → Bool
  | [] => true
  | [a] => decide (a < 2 ^ 38)
  | a :: b :: r => decide (a < 2 ^ 38) && decide (a % 2 ^ 32 < b % 2 ^ 32) && runsOk (b :: r)

/-- The checks of R123 on a mask object's bytes. -/
def maskOk (l : List Byte) : Bool :=
  let h : BitVec 512 := ofBytes 512 (slice l 0 64)
  let body := l.drop 64
  match maskBody h with
  | some n =>
    decide (64 ≤ l.length) && decide (n ≤ 16777216) && body.length == n && (crc32c body).toNat == fld h 160 32
      && (fld h 0 8 != 3 || runsOk ((chunks 8 (fld h 64 32) (body.drop 512)).map leNat))
  | none => false

/-- The object that a DROP names is live and the queue's domain's (R121, R123). -/
def State.liveMask (s : State) (dom h : Nat) : Bool :=
  match aget s.masks.objs (h % 65536) with
  | some o => o.gen == h / 65536 && o.dom == dom
  | none => false

/-- Step 6 of MASK_PUT, its buffer's contents apart. -/
def State.checkMask (s : State) (c : Cmd) : Option Fail :=
  let d := c.desc
  if maskOp d = 0 then if (dIn d).addr % 32 ≠ 0 then some (badParam 16) else none
  else if maskOp d = 1 then if s.liveMask c.dom (maskHandle d) then none else some (badParam 52)
  else some (badParam 48)

/-- The contents of a MASK_PUT's buffer (R123). -/
def State.takeMask (c : Cmd) : Option Fail :=
  if maskOp c.desc ≠ 0 ∨ maskOk c.input then none else some (badParam 0xFF)

/-- Bytes of live mask objects (R138). -/
def maskBytes (l : List (Nat × MaskObj)) : Nat := (l.map fun o => 64 + o.2.body.length).sum

/-- Bytes that admitted puts will store. -/
def putBytes (l : List Cmd) : Nat := (l.map fun p => (dIn p.desc).len).sum

/-- Admitted MASK_PUTs of op PUT. -/
def State.pendingPuts (s : State) : List Cmd := s.sched.cmds.filter fun c => dOp c.desc == 0x50 && maskOp c.desc == 0

/-- Step 7 of MASK_PUT: the region and the domain's quotas (R123, R306). -/
def State.reserveMask (s : State) (c : Cmd) : Except Fail (State × Cmd) :=
  let pend := s.pendingPuts
  let own := s.masks.objs.filter fun o => o.2.dom == c.dom
  let mine := pend.filter fun p => p.dom == c.dom
  if maskOp c.desc ≠ 0 then .ok (s, c)
  else if 65536 ≤ s.masks.objs.length + pend.length
      ∨ s.num 0x3400 3 < maskBytes s.masks.objs + putBytes pend + (dIn c.desc).len
      ∨ s.num 0x7120 0x10 c.dom ≤ own.length + mine.length
      ∨ s.num 0x7120 0x11 c.dom < maskBytes own + putBytes mine + (dIn c.desc).len then
    .error ⟨stMaskFull, 0, 0, 0⟩
  else .ok (s, c)

/-- Commit of MASK_PUT: a free choice of index, or the handle a shadow adopts (R121, R353). -/
def State.commitPut (s : State) (c : Cmd) : State :=
  let used := akeys s.masks.objs
  let i := match c.adopted with
    | some h => fld h 0 16
    | none => s.choose 65536 (fun i => !used.contains i) (leastFree used 0 65536)
  let gen := match c.adopted with
    | some h => fld h 16 16
    | none => (aget s.masks.gens i).getD 1
  let o : MaskObj := { dom := c.dom, gen := gen, hdr := ofBytes 512 (c.input.take 64), body := c.input.drop 64 }
  (s.picked.modMasks fun m => { m with objs := aput m.objs i o, gens := aput m.gens i gen }).endOk c 0 (i + gen * 65536) 0

/-- Commit of a drop: the index's next generation skips 0 (R123). RESULT0 is the dropped handle (R178). -/
def State.commitDropMask (s : State) (c : Cmd) : State :=
  let h := maskHandle c.desc
  let i := h % 65536
  let g := h / 65536
  if s.liveMask c.dom h then
    (s.modMasks fun m =>
      { m with objs := adel m.objs i, gens := aput m.gens i (if 65535 ≤ g then 1 else g + 1) }).endOk c 0 h 0
  else s.endCmd c (badParam 52)

/-- Commit of MASK_PUT. -/
def State.commitMask (s : State) (c : Cmd) : State :=
  if maskOp c.desc = 0 then s.commitPut c else s.commitDropMask c

end Sys2Proof.Machine
end

