-- ==== Sys2Proof/Machine/Migrate.lean ====
section
/-! DEFINITION. PAGE_MIGRATE: copies to and from remote holds and the move of a whole sequence, as the origin and as the
target act on them (R21, R22, R57, R65, R224, R225, R265, R266, R270 to R272). -/

namespace Sys2Proof.Machine

/-! ## Fields (R184) -/

/-- TARGET_NODE. -/
def mNode (d : Desc) : Nat := fld d 480 12
/-- QP. -/
def mQp (d : Desc) : Nat := fld d 496 16
/-- MOVE. -/
def mMove (d : Desc) : Bool := bit d 477
/-- DIRECTION is 1. -/
def mBack (d : Desc) : Bool := bit d 478

/-! ## Registration keys (R265, R266) -/

/-- A key is not FREE. -/
def State.rkey (s : State) (n : Nat) : Option Rkey := aget s.xnt.rkeys n

/-- A key registered at a FREE index with its current generation; `none` when the table has none, or the domain's quota is
reached (R265, R306). -/
def State.newKey (s : State) (r : Rkey) : Option (State × Nat × Nat) :=
  let used := akeys s.xnt.rkeys
  let n := s.choose 65536 (fun i => !used.contains i) (leastFree used 0 65536)
  let g := anat s.xnt.rkeyGens n
  if n < 65536 ∧ (s.xnt.rkeys.filter fun x => x.2.dom == r.dom).length < s.num 0x7120 0x13 r.dom then
    some ((s.picked.modXnt fun x => { x with rkeys := aput x.rkeys n { r with st := 1, gen := g } }), n, g)
  else none

/-- A key revoked: REVOKING from now on (R266). -/
def State.revoke (s : State) (n : Nat) : State :=
  s.modXnt fun x => { x with rkeys := amod x.rkeys n fun r => if r.st = 1 then { r with st := 2 } else r }

/-- The LANDING region of a key. -/
def State.landingOf (s : State) (key : Nat) : Option Landing := s.xnt.landings.find? fun l => l.key == key

/-- A LANDING region ends: its key is REVOKING, its unused units are released and scrubbed (R266, R271). -/
def State.closeLanding (s : State) (key : Nat) : State :=
  match s.landingOf key with
  | none => s
  | some l =>
    let s1 := (s.revoke key).modXnt fun x => { x with landings := x.landings.filter fun y => y.key ≠ key }
    l.binds.foldl (fun t b =>
      let t1 := t.modPages fun p => { p with reservedIdx := p.reservedIdx.filter (· ≠ b.2.1) }
      if aget t1.pages.use b.2.2 = some (.landing key) then t1.queueScrub b.2.2 [] else t1) s1

/-- A read sent for a command: its response fills a page job or the input buffer (R263). -/
def State.readFor (s : State) (qp key gen off len cmd : Nat) (job : Option Nat) : State :=
  let m := (s.qp qp).txMsn
  (s.sendRead qp key gen off len).modQp qp fun q =>
    { q with reads := q.reads ++ [{ msn := m, cmd := cmd, job := job, len := len }] }

/-- Bytes of a landing unit and of a hold (R268, R271). -/
abbrev unitBytes : Nat := 36864

/-- The HOLDS key of a node for a domain (R271). -/
def State.holdsKey (s : State) (node d : Nat) : Option (Nat × Nat) :=
  (aget s.tier.remoteKeys (node * 4096 + d)).map fun k => (k % 65536, k / 65536)

/-- A hold read back over a QP for a page job; `none` where the key is not known or the QP not in RTS (R225, R271). -/
def State.readHold (s : State) (qp d loc cmd page : Nat) : Option State :=
  match s.holdsKey (locNode loc) d with
  | some (k, g) =>
    if (s.qp qp).st = .rts then some (s.readFor qp k g (unitBytes * locPage loc) unitBytes cmd (some page)) else none
  | none => none

/-- Raw image of a page: its side record, then its payload (R268, R271). -/
def pageUnit (pr : Prof) (d : PageData) : List Byte := (d.asImage 0 0 0).sideRecord pr ++ d.full

/-- A page from the bytes of a unit, which is a raw image, with the checks of R33. -/
def State.parseRaw (s : State) (l : List Byte) : Option PageData :=
  match PageData.parse s.pr (slice l 0 4096) (slice l 4096 32768) with
  | some d => if d.comp = 0 then some d else none
  | none => none

/-- A page of a domain from the bytes of a unit. -/
def State.parseUnit (s : State) (dom : Nat) (l : List Byte) : Option PageData :=
  match s.parseRaw l with
  | some d => if d.dom = dom then some d else none
  | none => none

/-! ## Checks -/

/-- The QP named is a DATA QP of the queue's domain to TARGET_NODE (R184, R270). -/
def State.migrateQpOk (s : State) (c : Cmd) : Bool :=
  let q := s.qp (mQp c.desc)
  !q.isMgmt && q.dom == c.dom && q.peerNode == mNode c.desc

/-- A page of a whole sequence is in HOST_VIEW, or an admitted PAGE_VIEW names it (R46, R99). -/
def State.anyViewed (s : State) (e : SeqEntry) : Bool :=
  e.handles.any fun h => (match s.page h.2 with | some x => x.st == .hostView | none => false) || s.viewPending h.2

/-- Steps 4 to 6 of PAGE_MIGRATE. -/
def State.checkMigrate (s : State) (c : Cmd) : Option Fail :=
  match s.checkSeq c with
  | some f => some f
  | none =>
    let d := c.desc
    let i := sidIndex (dSeq d)
    let e := s.seq i
    firstFail
      [(!mBack d || s.profOk, ⟨stProfile, 0, 0, 0⟩),
       (!mMove d || fld d 384 32 == 0, badParam 48),
       (!mMove d || fld d 416 32 == 0, badParam 52),
       (!mMove d || fld d 448 13 == 0, badParam 56),
       (!mMove d || fld d 462 14 == 0, badParam 57),
       (!bit d 476, badParam 59),
       (!(mMove d && mBack d), badParam 59),
       (s.migrateQpOk c, badParam 62),
       (!mMove d || (e.st != .moving || (s.xnt.moves.all fun m => m.seq != i)), ⟨stBusy, 0, 0, 0⟩),
       (!mMove d || !s.anyViewed e, ⟨stBusy, 0, 0, 0⟩),
       (!mMove d || !(s.ring.seqId == dSeq d && (s.ring.st == 2 || s.ring.st == 3)), ⟨stBusy, 0, 0, 0⟩),
       (mMove d || mBack d || !s.rangeViewed d c.dom, ⟨stBusy, 0, 0, 0⟩)]

/-! ## Holds: the origin (R224, R225, R271) -/

/-- HOLD_OFFER for the pages that no exchange has carried, at most 1,024 of them (R271). -/
def State.offerHolds (s : State) (c : Cmd) : State :=
  let n := Nat.min 1024 ((c.jobs.filter fun j => !j.done).length)
  s.sendSvc (mQp c.desc) (svcHdr 1 0 c.tag n 0 0 0) [] (c.id + 1)

/-- Work of a migration out: its pages are BUSY and offered (R224, R271). -/
def State.planHolds (s : State) (c : Cmd) : Except Fail (State × Cmd) :=
  let l := s.rangeIn c.desc c.dom .device
  let s1 := l.foldl (fun t r => t.holdPage c.id r.page) s
  let c1 := { c with jobs := l.map fun r => { page := r.page }, tag := s.pages.picks % 65536 }
  if l.isEmpty then .ok (s, c1)
  else if (s.qp (mQp c.desc)).st ≠ .rts then .error ⟨stTierFail, 4, (l.head?.map RangePage.page).getD 0, 0⟩
  else .ok (s1.picked.offerHolds c1, c1)

/-- The pages of the range that TARGET_NODE holds (R225). -/
def State.remoteRange (s : State) (c : Cmd) : List RangePage :=
  (s.rangeIn c.desc c.dom .remote).filter fun r =>
    match s.page r.page with
    | some e => locNode e.loc == mNode c.desc
    | none => false

/-- One page becomes REMOTE at the commit: its slot is scrubbed, its former cold copy released (R224). -/
def State.leavePage (s : State) (c : Cmd) (j : PageJob) : State :=
  match s.page j.page with
  | none => s
  | some e =>
    let s1 := s.dropCold e.dom (s.slotData e.loc)
    (s1.setPage j.page { e with st := .remote, busy := none, loc := remoteLoc (mNode c.desc) j.landing }).queueScrub e.loc
      ((s.readersOf j.page).filter (· ≠ c.id))

/-! ## Moves: the origin (R21, R22, R272) -/

/-- Redirect records written, reserved, or kept for a move that is unresolved (R21). -/
def State.redirectsHeld (s : State) : Nat :=
  s.seqs.redirects.length + s.seqs.moveReserved.length + (s.xnt.moves.filter MoveSt.unresolved).length

/-- A redirect record reserved for a command (R21); `none` when the table is full of records of the current epoch. -/
def State.reserveRedirect (s : State) (cmd : Nat) : Option State :=
  let q := s.seqs
  let age : Redirect → Nat := fun r => (q.epochC.toNat + 2 ^ 32 - r.epoch) % 2 ^ 32
  let oldest := q.redirects.foldl (fun a r => Nat.max a (age r)) 0
  if s.redirectsHeld < 65536 then
    some (s.modSeqs fun x => { x with moveReserved := x.moveReserved ++ [cmd] })
  else if oldest = 0 then none
  else
    some ((s.bump 0x4300 4 (q.redirects.filter fun r => age r == oldest).length).modSeqs fun x =>
      { x with
          redirects := x.redirects.filter fun r => age r ≠ oldest
          epochO := x.epochC - BitVec.ofNat 32 oldest + 1
          moveReserved := x.moveReserved ++ [cmd] })

/-- The pages that the appends and trims admitted before a move may still change, and the pages they add (R272). -/
def State.changing (s : State) (i : Nat) : Nat :=
  ((s.pendingAppends i none).map fun a => (appendPages s.pr a.desc (s.seq i)).length).sum
    + (s.sched.cmds.filter fun c => dOp c.desc == 0x03 && c.seq == some i).length * s.pr.planes

/-- MOVE_BEGIN offers the sequence and the units its images need: one for each page, and one more for each that may change
before the final stage (R57, R272, log 29). -/
def State.beginMove (s : State) (c : Cmd) : State :=
  let i := sidIndex (dSeq c.desc)
  let n := (s.seq i).handles.length + s.changing i
  (s.sendSvc (mQp c.desc) (svcHdr 8 0 c.tag n (dSeq c.desc) 0 0) [] (c.id + 1)).modXnt fun x =>
    { x with moves := x.moves ++ [{ seq := i, cmd := some c.id, node := mNode c.desc, qp := mQp c.desc, units := n }] }

/-- Pages of the sequence in colder tiers, read for the move. -/
def State.coldOf (s : State) (e : SeqEntry) : List Nat :=
  (e.handles.map Prod.snd).filter fun p => match s.page p with | some x => !x.inHbm | none => false

/-- The page that a status of a sequence's move names: its first (R228). -/
def State.firstPage (s : State) (i : Nat) : Nat := ((s.seq i).handles.head?.map Prod.snd).getD 0

/-- Admission of a move: its redirect record, the reads of its cold pages, which stay BUSY, or its offer (R21, R272). -/
def State.planMove (s : State) (c : Cmd) : Except Fail (State × Cmd) :=
  let i := sidIndex (dSeq c.desc)
  if (s.qp (mQp c.desc)).st ≠ .rts then .error ⟨stTierFail, 4, s.firstPage i, 0⟩
  else
    match s.reserveRedirect c.id with
    | none => .error ⟨stBusy, 0, 0, 0⟩
    | some t =>
      let cold := s.coldOf (s.seq i)
      let c1 := { c with jobs := cold.map fun p => { page := p }, tag := s.pages.picks % 65536 }
      if cold.isEmpty then .ok (t.picked.beginMove c1, c1)
      else .ok (cold.foldl (fun u p => u.holdPage c.id p) t.picked, { c1 with stage := .waiting })

/-- Step 7 of PAGE_MIGRATE. -/
def State.reserveMigrate (s : State) (c : Cmd) : Except Fail (State × Cmd) :=
  let i := sidIndex (dSeq c.desc)
  let c1 := { c with seq := some i, jobs := [] }
  if mMove c.desc then s.planMove c1
  else if s.rangeBusy c then .ok (s, { c1 with stage := .waiting })
  else if !mBack c.desc && s.rangeViewed c.desc c.dom then .error ⟨stBusy, 0, 0, 0⟩
  else if mBack c.desc then s.planIn { c1 with stage := .planned } (s.seq i) false (s.remoteRange c)
  else s.planHolds { c1 with stage := .planned }

/-- Bytes of a Sequence Table entry (R40). -/
def SeqEntry.bytes (pr : Prof) (i : Nat) (e : SeqEntry) : List Byte :=
  let st := match e.st with
    | .free => 0 | .open_ => 1 | .stalled => 2 | .moving => 3 | .closing => 4 | .shadowed => 5 | .incoming => 6 | .retired => 7
  leBytes 8 (seqIdOf i e).toNat
    ++ leBytes 4 (st + b2n e.reclaimable * 8 + e.prio * 16 + e.group * 2 ^ 8 + e.slice * 2 ^ 20)
    ++ leBytes 4 e.posBase ++ leBytes 4 (e.minLen pr) ++ leBytes 4 (e.maxLen pr) ++ leBytes 4 e.lenPtr
    ++ leBytes 4 (e.indexPtrs.headD 0) ++ leBytes 4 e.rows.length ++ leBytes 4 e.handles.length
    ++ leBytes 24 (e.parent + b2n e.forked * 2 ^ 24)

/-- Planes and ordinals of a row record's handle words, in order (R41). -/
def rowWords (pr : Prof) (r : Nat) : List Nat :=
  (List.range pr.planes).flatMap fun p =>
    if pr.stored (p % 2) then
      let n := pr.align / pr.tokens (p % 2)
      (List.range n).map fun k => hkey p (r * n + k)
    else []

/-- A row record whose handle words hold unit numbers (R41, R270). -/
def rowRecord (pr : Prof) (units : List (Nat × Nat)) (r : Nat) : List Byte :=
  padTo (256 * pr.rowGrains)
    (leBytes 4 r ++ leBytes 4 pr.rowHandles ++ leBytes 24 0
      ++ (rowWords pr r).flatMap fun k => leBytes 4 (match aget units k with | some u => u + 2 ^ 31 | none => 0))

/-- Payload of MOVE_FINAL (R270). -/
def moveFinalBytes (pr : Prof) (i : Nat) (e : SeqEntry) (units : List (Nat × Nat)) : List Byte :=
  e.bytes pr i ++ padTo (256 * pr.lenGrains) (e.lens.flatMap (leBytes 4))
    ++ (akeys e.rows).flatMap (rowRecord pr units)

/-- The contents of a page of the sequence: in HBM, or as read for the move. A page shared by another domain is sent with the
sequence's own identity, as a copy of it would have (R48, log 29). -/
def State.movePage (s : State) (i : Nat) (e : SeqEntry) (jobs : List PageJob) (h : Nat × Nat) : Option PageData :=
  let own : PageData → PageData := fun d =>
    if d.dom = e.dom then d else copyPage s.pr i e d (hplane h.1) (hord h.1) d.tokens
  ((s.hbmPage h.2).or ((jobs.find? fun j => j.page == h.2).bind PageJob.data)).map own

/-- The bulk copy: every page of the sequence written to a unit of the target's region; `none` where a page cannot be read
(R272). -/
def State.bulkCopy (s : State) (m : MoveSt) (jobs : List PageJob) : Option (State × MoveSt) :=
  let e := s.seq m.seq
  match e.handles.mapM fun h => (s.movePage m.seq e jobs h).map fun d => (h.1, d) with
  | none => none
  | some ds =>
    some (ds.zipIdx.foldl (fun t p => t.sendWrite m.qp m.key m.gen (unitBytes * p.2) (pageUnit s.pr p.1.2) m.own) s,
      { m with sent := ds.zipIdx.map fun p => (p.1.1, p.2, p.1.2) })

/-- The unit that holds a page as it is now, and the bulk copy with the further unit of one that has changed (R272). -/
def MoveSt.unitOf (m : MoveSt) (k : Nat) (d : PageData) : Nat × Bool :=
  match m.sent.find? fun x => x.1 == k && x.2.2 == d with
  | some x => (x.2.1, false)
  | none => (m.sent.foldl (fun a x => Nat.max a (x.2.1 + 1)) 0, true)

/-- The final stage's images: pages changed since the bulk copy go to further units, and MOVE_FINAL names the unit of every page
(R272). -/
def State.sendMove (s : State) (m : MoveSt) (tag : Nat) (jobs : List PageJob) : Option State :=
  let e := s.seq m.seq
  match e.handles.mapM fun h => (s.movePage m.seq e jobs h).map fun d => (h.1, d) with
  | none => none
  | some ds =>
    let (s1, m1, units) := ds.foldl (fun (a : State × MoveSt × List (Nat × Nat)) p =>
      let (u, new) := a.2.1.unitOf p.1 p.2
      let t := if new then a.1.sendWrite m.qp m.key m.gen (unitBytes * u) (pageUnit s.pr p.2) m.own else a.1
      (t, { a.2.1 with sent := if new then a.2.1.sent ++ [(p.1, u, p.2)] else a.2.1.sent }, a.2.2 ++ [(p.1, u)])) (s, m, [])
    let n := m1.sent.foldl (fun a x => Nat.max a (x.2.1 + 1)) 0
    some (s1.sendSvc m.qp (svcHdr 0x0A 0 tag n (seqIdOf m.seq e) m.key m.gen) (moveFinalBytes s.pr m.seq e units) m.own)

/-- A move's record changed. -/
def State.setMove (s : State) (seq : Nat) (shadow : Bool) (f : MoveSt → MoveSt) : State :=
  s.modXnt fun x => { x with moves := x.moves.map fun m => if m.seq = seq ∧ m.shadow = shadow then f m else m }

/-- Commands admitted before a move that still change its sequence, or have to find it as it stands: a PREFIX_ADD whose keys are on
their way. -/
def State.changesBefore (s : State) (m : MoveSt) (id : Nat) : Bool :=
  s.sched.cmds.any fun a => decide (a.id < id) && a.seq == some m.seq
    && (isAppend a.desc || dOp a.desc == 0x03 || (dOp a.desc == 0x31 && a.stage == .input))

/-- A move goes on: cold pages it has not read are read and held; once the region is there the bulk copy goes out; once no
command admitted before it changes the sequence the final stage begins, the sequence is MOVING, and the changed images and
MOVE_FINAL go out (R22, R272). -/
def State.finalMove (s : State) (c : Cmd) : State :=
  match s.xnt.moves.find? fun m => m.cmd == some c.id with
  | none => s
  | some m =>
    let new := (s.coldOf (s.seq m.seq)).filter fun p => !(c.jobs.any fun j => j.page == p)
    if !m.ready || m.final then s
    else if !new.isEmpty then
      (new.foldl (fun u p => u.holdPage c.id p) s).setCmd { c with jobs := c.jobs ++ new.map fun p => { page := p } }
    else if !c.jobs.all PageJob.done then s
    else
      match (if m.sent.isEmpty then s.bulkCopy m c.jobs else some (s, m)) with
      | none => s.endCmd c ⟨stPartFail, 0, 0, 0⟩
      | some (s1, m1) =>
        let s2 := s1.setMove m.seq false fun _ => m1
        if s2.changesBefore m1 c.id then s2
        else
          match s2.sendMove m1 c.tag c.jobs with
          | some t =>
            (t.setSeq m.seq { t.seq m.seq with st := .moving }).setMove m.seq false fun x => { x with final := true }
          | none => s2.endCmd c ⟨stPartFail, 0, 0, 0⟩

/-- The pages of a sequence that has moved: what ATTENDs still read of its cold pages keeps its reference until they end (R22). -/
def State.linger (s : State) (i : Nat) : State :=
  let e := s.seq i
  let cold := e.handles.filter fun h => (match s.page h.2 with | some x => !x.inHbm | none => false) && !(s.readersOf h.2).isEmpty
  (s.setSeq i { e with handles := e.handles.filter fun h => !cold.contains h }).modSeqs fun q =>
    { q with lingering := q.lingering ++ cold.map fun h => (h.2, s.readersOf h.2) }

/-- Admitted PAGE_VIEWs of a sequence commit before it leaves: an admitted view always commits (R99). -/
def State.flushViews (s : State) (i : Nat) : State :=
  (s.sched.cmds.filter fun c => dOp c.desc == 0x43 && c.seq == some i).foldl State.commitView s

/-- The commit of R22 without a completion: the redirect record is written, every held append completes with ST_REDIRECT, the
ATTENDs admitted before read the sequence as it stands, and it leaves (R38). -/
def State.moveOut (s : State) (m : MoveSt) : State :=
  let id := seqIdOf m.seq (s.seq m.seq)
  let epoch := s.seqs.epochC.toNat
  let held := s.pendingAppends m.seq none
  let s0 := s.flushViews m.seq
  let s1 := s0.modSeqs fun q => { q with redirects := q.redirects ++ [⟨id, m.node, epoch⟩] }
  let s2 := s1.modXnt fun x => { x with moves := x.moves.filter fun y => y.seq ≠ m.seq ∨ y.shadow }
  (((held.foldl (fun t c => t.endCmd c ⟨stRedirect, 0, m.node, epoch⟩) s2).takeReads m.seq).linger m.seq).closeSeq m.seq

/-- Commit of PAGE_MIGRATE (R178, R224, R225, R272). -/
def State.commitMigrate (s : State) (c : Cmd) : State :=
  if mMove c.desc then
    match s.xnt.moves.find? fun m => m.cmd == some c.id with
    | some m => (s.moveOut m).endOk { c with jobs := [] } (s.seq m.seq).handles.length 0 0
    | none => s
  else if mBack c.desc then (c.jobs.foldl (fun t j => t.landPage 2 j) s).endOk c c.jobs.length 0 0
  else (c.jobs.foldl (fun t j => t.leavePage c j) s).endOk { c with jobs := [] } c.jobs.length 0 0

/-- A sequence whose move ended without a commit is OPEN again (R272). -/
def State.abandonMove (s : State) (i : Nat) : State :=
  let e := s.seq i
  let s1 := if e.st = .moving then s.setSeq i { e with st := .open_ } else s
  s1.modXnt fun x => { x with moves := x.moves.filter fun m => m.seq ≠ i ∨ m.shadow }

/-! ## The target (R57, R265, R268, R271, R272) -/

/-- A LANDING region of `n` units opened over a QP (R268). -/
def State.openLanding (s : State) (qp tag n : Nat) (seq : Option (BitVec 64)) (shadow : Bool) : Option (State × Nat × Nat) :=
  let q := s.qp qp
  match s.newKey { kind := .landing, dom := q.dom, len := unitBytes * n, place := q.peerNode } with
  | none => none
  | some (t, k, g) =>
    some (t.modXnt fun x =>
      { x with landings := x.landings ++
          [{ key := k, dom := q.dom, origin := q.peerNode, qp := qp, tag := tag, units := n, seq := seq, shadow := shadow }] }, k, g)

/-- REFUSE on a QP (R270). -/
def State.refuse (s : State) (qp reason tag : Nat) (seq : BitVec 64) : State := s.sendSvc qp (svcHdr 0x0F reason tag 0 seq 0 0) []

/-- HOLD_OFFER (R271). -/
def State.holdOffer (s : State) (qp tag count : Nat) : State :=
  let d := (s.qp qp).dom
  if count < 1 ∨ 1024 < count ∨ ¬ s.domActive d ∨ s.num 0x3200 1 d < s.slotsHeld d + count
      ∨ s.num 0x7120 8 d < s.mapHeld d + count then s.refuse qp 1 tag 0
  else if !s.profOk then s.refuse qp 4 tag 0
  else
    match s.openLanding qp tag count none false with
    | some (t, k, g) => t.sendSvc qp (svcHdr 2 0 tag count 0 k g) []
    | none => s.refuse qp 2 tag 0

/-- The side record and the payload that a unit holds. -/
def Landing.unit (l : Landing) (u : Nat) : List Byte := Memory.readBytes l.bytes (unitBytes * u) unitBytes

/-- The pages that named units of a region hold, or the reason of a refusal: 4 for a verified side record that does not fit the
profile, 5 for a unit that is missing or fails its checks (R65, R271). -/
def State.landedPages (s : State) (l : Landing) (units : List Nat) : Except Nat (List (PageData × Nat × Nat)) :=
  let one : Nat → Option (PageData × Nat × Nat) := fun u =>
    match l.binds.find? fun b => b.1 == u with
    | some b => (s.parseUnit l.dom (l.unit u)).map fun d => (d, b.2.1, b.2.2)
    | none => none
  if units.any fun u => s.misfit l.dom (slice (l.unit u) 0 4096) then .error 4
  else
    match units.mapM one with
    | none => .error 5
    | some ps => .ok ps

/-- The Page Map entry of a landed page (R42). -/
def landedEntry (d : PageData) (slot : Nat) : PageEntry :=
  { st := .device, dom := d.dom, group := d.group, refs := 1, loc := slot, writer := sidIndex d.writer,
    writerGen := sidGen d.writer, layer := d.layer, head := d.head, ordinal := d.ordinal, kind := d.kind }

/-- A landed page bound to its Page Map entry and slot. -/
def State.bindLanded (s : State) (p : PageData × Nat × Nat) : State :=
  (((s.setPage p.2.1 (landedEntry p.1 p.2.2)).setSlot p.2.2 p.1).setUse p.2.2 (.page p.2.1)).modPages fun q =>
    { q with reservedIdx := q.reservedIdx.filter (· ≠ p.2.1) }

/-- The HOLDS key for an origin and domain, registered at the first hold (R265). -/
def State.holdsRegion (s : State) (origin d : Nat) : Option (State × Nat × Nat) :=
  match s.xnt.rkeys.find? fun r => r.2.kind == .holds && r.2.st == 1 && r.2.dom == d && r.2.place == origin with
  | some r => some (s, r.1, r.2.gen)
  | none =>
    s.newKey { kind := .holds, dom := d, len := unitBytes * 2 ^ 25, place := origin, readable := true, writable := false }

/-- HOLD_COMMIT: every unit is verified and committed as a remote hold, or none (R271). -/
def State.holdCommit (s : State) (qp tag : Nat) : State :=
  match s.xnt.landings.find? fun l => l.qp == qp && l.tag == tag && l.seq.isNone with
  | none => s.refuse qp 5 tag 0
  | some l =>
    match s.landedPages l (List.range l.units) with
    | .error r => (s.closeLanding l.key).refuse qp r tag 0
    | .ok ps =>
      match s.holdsRegion l.origin l.dom with
      | none => (s.closeLanding l.key).refuse qp 2 tag 0
      | some (t, k, g) =>
        let t1 := ps.foldl State.bindLanded t
        let t2 := t1.modTier fun x =>
          { x with holds := x.holds ++ ps.map fun p => ⟨l.origin, l.dom, p.2.1⟩ }
        (t2.closeLanding l.key).sendSvc qp (svcHdr 3 0 tag ps.length 0 k g) (ps.flatMap fun p => leBytes 4 p.2.1)

/-- One hold freed: its entry cleared, its slot scrubbed (R54, R224). -/
def State.freeHold (s : State) (h : Hold) : State :=
  let s1 := s.modTier fun t => { t with holds := t.holds.filter fun x => x ≠ h }
  match s1.page h.page with
  | some e => (s1.delPage h.page).queueScrub e.loc []
  | none => s1

/-- HOLD_RELEASE: the named holds of that origin and domain are freed (R225). -/
def State.holdRelease (s : State) (qp tag : Nat) (pages : List Nat) : State :=
  let q := s.qp qp
  let gone := s.tier.holds.filter fun h => h.origin == q.peerNode && h.dom == q.dom && pages.contains h.page
  (gone.foldl State.freeHold s).sendSvc qp (svcHdr 6 0 tag gone.length 0 0 0) []

/-- MOVE_BEGIN: accepted as INCOMING, or refused (R57). REASON 1 marks a copy for a shadow, which is SHADOWED at its commit
(R352); a node that is no shadow of that domain refuses it (log 28). -/
def State.moveBegin (s : State) (qp tag count : Nat) (id : BitVec 64) (shadow : Bool) : State :=
  let d := (s.qp qp).dom
  let i := sidIndex id
  let e := s.seq i
  if shadow ∧ ¬ (s.shadow.st = 1 ∧ s.shadow.isShadow ∧ s.mirrorQp d = some qp) then s.refuse qp 6 tag id
  else if fld id 40 8 ≠ 0 ∨ fld id 60 4 ≠ 0 ∨ sidDom id ≠ d ∨ e.st ≠ .free ∨ sidGen id < e.gen ∨ !s.seqFree i then s.refuse qp 3 tag id
  else if !s.domActive d || decide (s.num 0x7120 9 d ≤ s.seqsHeld d) || decide (s.num 0x3200 1 d < s.slotsHeld d + count) then
    s.refuse qp 1 tag id
  else if !s.profOk then s.refuse qp 4 tag id
  else
    match s.openLanding qp tag count (some id) shadow with
    | none => s.refuse qp 2 tag id
    | some (t, k, g) =>
      (t.setSeq i { gen := sidGen id, dom := d, st := .incoming }).sendSvc qp (svcHdr 9 0 tag count id k g) []

/-- A move into the node discarded: the entry is FREE with its generation, and the last in the order of issue (R38, R57). -/
def State.discardMove (s : State) (id : BitVec 64) : State :=
  let i := sidIndex id
  let s1 := if (s.seq i).st = .incoming then
      (s.setSeq i { gen := (s.seq i).gen }).modSeqs fun q => { q with freed := q.freed.filter (· ≠ i) ++ [i] }
    else s
  match s1.xnt.landings.find? fun l => l.seq == some id with
  | some l => s1.closeLanding l.key
  | none => s1

/-- Row records of a MOVE_FINAL: row number and the handles with their units. -/
def parseRows (pr : Prof) : Nat → List Byte → List (Nat × List (Nat × Nat))
  | 0, _ => []
  | n + 1, l =>
    let r := leNat (slice l 0 4)
    let ws := (chunks 4 pr.rowHandles (slice l 32 (4 * pr.rowHandles))).map leNat
    let hs := ((rowWords pr r).zip ws).filterMap fun p => if 2 ^ 31 ≤ p.2 then some (p.1, p.2 % 2 ^ 25) else none
    (r, hs) :: parseRows pr n (l.drop (256 * pr.rowGrains))

/-- The identity of a landed page agrees with its place in the sequence. -/
def placeOk (pr : Prof) (id : BitVec 64) (k : Nat) (d : PageData) : Bool :=
  let p := hplane k
  d.dom == sidDom id && d.kind == p % 2 && d.layer == pr.planeLayer p && d.head == pr.planeHead p && d.ordinal == hord k

/-- MOVE_FINAL: every unit is verified and bound, the sequence is built and committed, and MOVE_DONE answered (R272). -/
def State.moveFinal (s : State) (qp tag : Nat) (id : BitVec 64) (payload : List Byte) : State :=
  let pr := s.pr
  match s.xnt.landings.find? fun l => l.seq == some id && l.qp == qp with
  | none => s.refuse qp 6 tag id
  | some l =>
    let h : BitVec 512 := ofBytes 512 (slice payload 0 64)
    let lens := (chunks 4 pr.planes (slice payload 64 (4 * pr.planes))).map leNat
    let rows := parseRows pr (fld h 256 32) (payload.drop (64 + 256 * pr.lenGrains))
    let handles := (rows.flatMap Prod.snd).foldl (fun a x => aput a x.1 x.2) []
    match s.landedPages l (handles.map Prod.snd) with
    | .error r => (s.discardMove id).refuse qp r tag id
    | .ok ps =>
      let at_ : Nat → Option (PageData × Nat × Nat) := fun u => ps[(handles.map Prod.snd).idxOf u]?
      if !(handles.all fun x => match at_ x.2 with | some p => placeOk pr id x.1 p.1 | none => false) then
        (s.discardMove id).refuse qp 5 tag id
      else
        let i := sidIndex id
        let runs := (if rows.isEmpty then [] else [(none, pr.lenGrains)]) ++ rows.map (fun r => (some r.1, pr.rowGrains))
          ++ (List.range (ceilDiv rows.length 1023)).map fun k => (indexKey k, 16)
        match s.takeRuns { dom := sidDom id } runs with
        | .error _ => (s.discardMove id).refuse qp 1 tag id
        | .ok (t, c) =>
          let t1 := ps.foldl State.bindLanded t
          let e0 : SeqEntry :=
            { gen := sidGen id, dom := sidDom id, st := if l.shadow then .shadowed else .open_, reclaimable := bit h 67
              prio := fld h 68 4, group := fld h 72 12, slice := fld h 84 4, posBase := fld h 96 32, lens := lens
              handles := handles.filterMap fun x => (at_ x.2).map fun p => (x.1, p.2.1)
              released := (rows.head?.map Prod.fst).getD 0 }
          let t2 := t1.issueSeq i (e0.withGrains c.grains)
          let t3 := if l.shadow then t2.modShadow fun x => { x with seqs := x.seqs ++ [id] } else t2
          (t3.closeLanding l.key).sendSvc qp (svcHdr 0x0B 0 tag 0 id 0 0) []

/-- MOVE_QUERY: the outcome of a move; an uncommitted one is discarded first (R272). A QP learns and discards nothing of another
domain (R270, R296). -/
def State.moveQuery (s : State) (qp tag : Nat) (id : BitVec 64) : State :=
  let e := s.seq (sidIndex id)
  if sidDom id ≠ (s.qp qp).dom then s.refuse qp 6 tag id
  else if e.st = .incoming ∧ e.gen = sidGen id then (s.discardMove id).refuse qp 6 tag id
  else if (e.gen = sidGen id ∧ e.st ≠ .free) ∨ sidGen id < e.gen then s.sendSvc qp (svcHdr 0x0B 0 tag 0 id 0 0) []
  else s.refuse qp 6 tag id

end Sys2Proof.Machine
end

