-- ==== Sys2Proof/Machine/Ring.lean ====
section
/-! DEFINITION. The rachis ring: joining, laps, stooks, credits, what a member returns, commit, abort and stopping (R278 to
R295). -/

namespace Sys2Proof.Machine

/-! ## Fields (R186) -/

/-- RING_ID. -/
def gId (d : Desc) : Nat := fld d 384 32
/-- POSITION. -/
def gPos (d : Desc) : Nat := fld d 416 6
/-- MEMBERS. -/
def gMembers (d : Desc) : Nat := fld d 424 7
/-- PREV_QP. -/
def gPrev (d : Desc) : Nat := fld d 432 16
/-- NEXT_QP. -/
def gNext (d : Desc) : Nat := fld d 448 16

/-- STATE values of RING_STATUS (R295). -/
abbrev ringNone : Nat := 0
/-- JOINING. -/
abbrev ringJoining : Nat := 1
/-- FORMED. -/
abbrev ringFormed : Nat := 2
/-- LAP_OPEN. -/
abbrev ringOpen : Nat := 3
/-- STOPPING. -/
abbrev ringStopping : Nat := 4
/-- DISSOLVED. -/
abbrev ringDissolved : Nat := 5

/-! ## Digests -/

/-- SCORE_DIGEST (R117). -/
def State.scoreDigest (s : State) : List Byte :=
  let part := fun (idx lo n size : Nat) => (List.range n).flatMap fun k => padTo size (s.active idx (lo + k) 0)
  sha256 (part 0x2100 0 8 128 ++ part 0x2101 1 1 256 ++ part 0x2102 1 1 64 ++ part 0x2103 0 4 1024 ++ part 0x2104 0 8 4100
    ++ part 0x2105 0 4 4100)

/-! ## Messages (R280) -/

/-- A ring message on a QP. -/
def State.sendRing (s : State) (qp svc reason tag count : Nat) (payload : List Byte) : State :=
  s.sendSvc qp (svcHdr svc reason tag count (BitVec.ofNat 64 s.ring.ringId) 0 0) payload

/-- The node is a formed member (R280). -/
def State.ringMember (s : State) : Bool := s.ring.st == ringFormed || s.ring.st == ringOpen || s.ring.st == ringStopping

/-- This node's own RING_HELLO payload (R280). -/
def State.helloBytes (s : State) : List Byte :=
  let r := s.ring
  leBytes 4 r.ringId ++ leBytes 1 r.position ++ leBytes 1 r.members ++ leBytes 2 0 ++ leBytes 2 r.domain
    ++ leBytes 1 r.bufCount ++ leBytes 5 0 ++ leBytes 8 r.bufBytes ++ padTo 32 s.prof.digest ++ s.scoreDigest ++ leBytes 8 0

/-! ## RING_JOIN (R278, R279) -/

/-- SLICE of a QP (R248). -/
def Qp.slice (q : Qp) : Nat := fld q.cfg 64 4

/-- A QP can carry the ring (R278). -/
def State.ringQpOk (s : State) (c : Cmd) (n : Nat) : Bool :=
  let q := s.qp n
  !q.isMgmt && q.dom == c.dom && q.st == .rts && s.ringSlice == some q.slice

/-- The checks of RING_JOIN (R278). -/
def State.checkJoin (s : State) (c : Cmd) : Option Fail :=
  let d := c.desc
  firstFail
    [(s.profOk, ⟨stProfile, 0, 0, 0⟩),
     (s.ringSlice.isSome && s.ring.st == ringNone, ⟨stBusy, 0, 0, 0⟩),
     (decide (2 ≤ gMembers d) && decide (gMembers d ≤ 64), badParam 53),
     (decide (gPos d < gMembers d), badParam 52),
     (s.ringQpOk c (gPrev d), badParam 54),
     (s.ringQpOk c (gNext d), badParam 56)]

/-- Admission of RING_JOIN: buffers reserved, STATE JOINING, RING_HELLO to both neighbours (R279). The stook buffers' entries apply
here and nowhere else (R294). -/
def State.reserveJoin (s0 : State) (c : Cmd) : Except Fail (State × Cmd) :=
  let s := s0.takeShadow governsRing
  let d := c.desc
  let r : Ring :=
    { st := ringJoining, position := gPos d, members := gMembers d, ringId := gId d, sq := c.sq, domain := c.dom,
      prevQp := gPrev d, nextQp := gNext d, hellos := s.ring.hellos, bufCount := s.num 0x6600 3, bufBytes := s.num 0x6600 2,
      abortCause := s.ring.abortCause, abortPos := s.ring.abortPos }
  let s1 := s.modRing fun _ => r
  let hello := fun (t : State) (q : Nat) => t.sendRing q 0x20 0 0 r.bufCount s1.helloBytes
  let s2 := hello s1 r.prevQp
  .ok (if r.nextQp = r.prevQp then s2 else hello s2 r.nextQp, { c with stage := .waiting })

/-- A neighbour's hello against this node's own: none agree, a failure of the join, or agreement (R279). -/
def State.helloFail (s : State) (h : List Byte) (pos : Nat) : Option Fail :=
  let own := s.helloBytes
  if slice h 0 4 ≠ slice own 0 4 ∨ slice h 5 1 ≠ slice own 5 1 ∨ slice h 8 3 ≠ slice own 8 3 ∨ slice h 16 8 ≠ slice own 16 8
      ∨ leNat (slice h 4 1) ≠ pos then some (badParam 0xFF)
  else if slice h 24 64 ≠ slice own 24 64 then some ⟨stProfile, 0, 0, 0⟩
  else none

/-- A failed join: the buffers are released and STATE is NONE (R279). -/
def State.failJoin (s : State) (c : Cmd) (f : Fail) : State :=
  (s.modRing fun r => { abortCause := r.abortCause, abortPos := r.abortPos }).endCmd c f

/-- The join commits, fails, or waits on, by the hellos held (R279). -/
def State.tryJoin (s : State) : State :=
  let r := s.ring
  match s.sched.cmds.find? fun c => dOp c.desc == 0x60, aget r.hellos r.prevQp, aget r.hellos r.nextQp with
  | some c, some a, some b =>
    if r.st ≠ ringJoining then s
    else
      match (s.helloFail a ((r.position + r.members - 1) % r.members)).or
          (s.helloFail b ((r.position + 1) % r.members)) with
      | some f => s.failJoin c f
      | none =>
        (s.modRing fun x =>
          { x with st := ringFormed, credits := x.bufCount,
                   hellos := adel (adel x.hellos r.prevQp) r.nextQp }).endOk c 0 0 0
  | _, _, _ => s

/-- RING_HELLO received (R279). -/
def State.ringHello (s : State) (qp : Nat) (payload : List Byte) : State :=
  (s.modRing fun r => { r with hellos := aput r.hellos qp (padTo 96 payload) }).tryJoin

/-! ## Ring ATTENDs (R281, R282) -/

/-- Bytes of one partial. -/
def Prof.partialBytes (pr : Prof) : Nat := 32 + 4 * pr.valueDim

/-- The checks of R282. -/
def State.checkRing (s : State) (c : Cmd) : Option Fail :=
  let d := c.desc
  let r := s.ring
  firstFail
    [(!bit d 462, badParam 57), (aRet d == 2, badParam 58), (!bit d 470, badParam 58),
     (decide (aRows d * r.members * s.pr.partialBytes ≤ (dOut d).len), badParam 40),
     (r.seqId == 0 || r.seqId == dSeq d, badParam 8),
     (r.lapCmds.isEmpty || r.layer == aLayer d, badParam 48),
     (r.st == ringFormed || r.st == ringOpen, ⟨stLapAbort, 7, 0, 0⟩)]

/-- A command is a ring ATTEND. -/
def State.ringed (s : State) (id : Nat) : Bool := s.ring.lapCmds.contains id || s.ring.unsealed.contains id

/-- A ring ATTEND joins the unsealed lap; the first opens it and binds the ring sequence (R281, R282). -/
def State.joinLap (s : State) (c : Cmd) : State × Cmd :=
  (s.modRing fun r =>
    { r with st := if r.st = ringFormed then ringOpen else r.st, seqId := dSeq c.desc, layer := aLayer c.desc,
             lapCmds := r.lapCmds ++ [c.id] },
   { c with stage := .planned, masks := maskHandles c.desc
            output := List.replicate (aRows c.desc * s.ring.members * s.pr.partialBytes) 0 })

/-- A ring ATTEND that fails before any work leaves its lap (R71, R281); the lap that it alone opened is not open (log 113). -/
def State.leaveLap (s : State) (id : Nat) : State :=
  s.modRing fun r =>
    let l := r.lapCmds.filter (· ≠ id)
    { r with lapCmds := l, unsealed := r.unsealed.filter (· ≠ id)
             st := if r.st = ringOpen ∧ !r.sealed ∧ l.isEmpty then ringFormed else r.st }

/-! ## Stooks (R283 to R285) -/

/-- Planes of a layer, in plane order (R35). -/
def layerPlanes (pr : Prof) (layer : Nat) : List Nat :=
  (List.range pr.kvHeads).flatMap fun h => [pr.plane layer h 0, pr.plane layer h 1]

/-- First held row of a sequence. -/
def SeqEntry.firstRow (e : SeqEntry) : Nat := (e.rows.head?.map Prod.fst).getD 0

/-- Planes and ordinals of the pages that a stook of given lengths holds, in order (R283). -/
def stookPages (pr : Prof) (layer first : Nat) (lens : List Nat) : List (Nat × Nat) :=
  ((layerPlanes pr layer).zip lens).flatMap fun p =>
    let t := pr.tokens (p.1 % 2)
    if pr.stored (p.1 % 2) then
      ((List.range (ceilDiv p.2 t)).drop (first * pr.align / t)).map fun j => (p.1, j)
    else []

/-- Bytes of a stook (R284). -/
def stookBytes (pr : Prof) (r : Ring) (e : SeqEntry) (layer : Nat) (pages : List PageData) : List Byte :=
  let lens := (layerPlanes pr layer).map e.len
  let list := lens.flatMap (leBytes 4)
  let total := 64 + list.length + unitBytes * pages.length
  let head := leBytes 4 (1 + r.position * 2 ^ 8 + r.members * 2 ^ 16) ++ leBytes 4 r.ringId ++ leBytes 4 r.lap
    ++ leBytes 4 layer ++ leBytes 4 e.posBase ++ leBytes 4 e.firstRow ++ leBytes 4 e.rows.length
    ++ leBytes 4 pages.length ++ leBytes 8 total ++ leBytes 20 r.domain
  head ++ leBytes 4 (crc32c (head ++ list)).toNat ++ list ++ pages.flatMap (pageUnit pr)

/-- ORIGIN of a stook. -/
def stookOrigin (l : List Byte) : Nat := (l.getD 1 0).toNat % 64
/-- LAP of a stook. -/
def stookLap (l : List Byte) : Nat := leNat (slice l 8 4)
/-- LAYER of a stook. -/
def stookLayer (l : List Byte) : Nat := leNat (slice l 12 2)
/-- POSITION_BASE of a stook. -/
def stookBase (l : List Byte) : Nat := leNat (slice l 16 4)
/-- FIRST_ROW of a stook. -/
def stookFirst (l : List Byte) : Nat := leNat (slice l 20 4)
/-- Plane lengths of a stook. -/
def stookLens (pr : Prof) (l : List Byte) : List Nat := (chunks 4 (2 * pr.kvHeads) (slice l 64 (8 * pr.kvHeads))).map leNat
/-- One past the last position of a stook's span. -/
def stookEnd (pr : Prof) (l : List Byte) : Nat := stookBase l + (stookLens pr l).foldl Nat.max 0

/-- H_CRC holds (R285). -/
def stookHeadOk (pr : Prof) (l : List Byte) : Bool :=
  (crc32c (slice l 0 60 ++ slice l 64 (8 * pr.kvHeads))).toNat == leNat (slice l 60 4)
    && leNat (slice l 0 1) == 1 && leNat (slice l 32 8) == l.length

/-- The sequence and pages that a stook carries; `none` where a page fails its checks (R148, R285). The pages are keyed by
their number in the stook. -/
def stookSeq (pr : Prof) (l : List Byte) : Option (SeqEntry × List (Nat × PageData)) :=
  let layer := stookLayer l
  let lens := stookLens pr l
  let places := stookPages pr layer (stookFirst l) lens
  let body := l.drop (64 + 8 * pr.kvHeads)
  let units := chunks unitBytes places.length body
  let page : (Nat × Nat) × List Byte → Option PageData := fun x =>
    match PageData.parse pr (x.2.take 4096) (x.2.drop 4096) with
    | some d =>
      if d.layer = layer ∧ d.head = pr.planeHead x.1.1 ∧ d.kind = x.1.1 % 2 ∧ d.ordinal = x.1.2 then some d else none
    | none => none
  match (places.zip units).mapM page with
  | some ds =>
    let all := (List.replicate (pr.plane layer 0 0) 0) ++ lens
    some ({ posBase := stookBase l, lens := all,
            handles := places.mapIdx fun k p => (hkey p.1 p.2, k) }, ds.mapIdx fun k d => (k, d))
  | none => none

/-! ## Lap end (R289, R290, R292) -/

/-- Buffers freed: one CREDIT to the previous member (R286). -/
def State.creditBack (s : State) (n : Nat) : State := if n = 0 then s else s.sendRing s.ring.prevQp 0x22 0 0 n []

/-- The ring's part of a lap cleared. -/
def Ring.endLap (r : Ring) : Ring :=
  { r with st := if r.st = ringOpen then ringFormed else r.st, lapCmds := [], sealed := false, fence := none, own := [],
           ownSent := false, formed := [], markHeld := none, doneLap := r.lap }

/-- RING_ENDED posted (R290, R292). -/
def State.ringEnded (s : State) : State := s.note 0x010A (some s.ring.domain) islEdge 0 [s.ring.ringId, s.ring.abortCause]

/-- Commands of a list end with a failure. -/
def State.endAll (s : State) (l : List Nat) (f : Fail) : State :=
  l.foldl (fun t id => match t.cmd id with | some c => t.endCmd c f | none => t) s

/-- The sealing FENCE, or the node's own seal of R292, ends. -/
def State.endFence (s : State) : State :=
  match s.ring.fence.bind s.cmd with
  | some c => s.endOk { c with jobs := [] } 0 0 0
  | none => s

/-- STATE NONE: the remaining ring ATTENDs end with ST_LAP_ABORT, CAUSE 7 (log 114), and every pending RING_LEAVE commits
(R292). -/
def State.ringLeft (s : State) : State :=
  let r := s.ring
  let s1 := (s.endAll (r.lapCmds ++ r.unsealed) ⟨stLapAbort, 7, r.lap, r.position⟩).endFence
  let s2 := s1.modRing fun x => { hellos := x.hellos, abortCause := x.abortCause, abortPos := x.abortPos }
  (s2.sched.cmds.filter fun c => dOp c.desc == 0x61).foldl (fun t c => t.endOk c 0 0 0) s2

/-- The issuer of a stop sends RING_END once the final lap is behind it (R292). -/
def State.tryEnd (s : State) : State :=
  match s.ring.stopping with
  | some (l, true) =>
    if s.ring.doneLap = l then
      (s.sendRing s.ring.nextQp 0x27 0 s.ring.position l []).modRing fun r => { r with stopping := some (l, false) }
    else s
  | _ => s

/-- A lap aborted at this member (R290): its items are killed with its ATTENDs, which end with ST_LAP_ABORT, then its FENCE ends;
a lost member dissolves it. Its lap number moves on with the ring's (log 30). -/
def State.abortLap (s : State) (cause pos lap : Nat) : State :=
  let r := s.ring
  let wasOpen := r.sealed || !r.lapCmds.isEmpty
  let s1 := (s.endAll (if cause = 1 then r.lapCmds ++ r.unsealed else r.lapCmds) ⟨stLapAbort, cause, lap, pos⟩).endFence
  let s2 := (s1.modRing fun x => ({ x with abortCause := cause, abortPos := pos, lap := lap }).endLap).creditBack
    (if cause = 1 then 0 else r.buffers.length)
  let s3 := s2.modRing fun x => { x with buffers := [] }
  let s4 := if wasOpen then s3.bump 0x6600 9 else s3
  if cause = 1 then
    let s5 := (s4.modRing fun x => { x with st := ringDissolved }).ringEnded
    if s5.sched.cmds.any fun c => dOp c.desc == 0x61 then s5.ringLeft else s5
  else s4.tryEnd

/-- LAP_ABORT sent to the neighbours, but for a lost side (R290). -/
def State.tellAbort (s : State) (cause lap : Nat) (lost : Option Nat) : State :=
  let r := s.ring
  let one := fun (t : State) (q : Nat) => if lost = some q then t else t.sendRing q 0x25 cause r.position lap []
  let s1 := one s r.prevQp
  if r.nextQp = r.prevQp then s1 else one s1 r.nextQp

/-- This member detects a cause and aborts its open lap (R290). -/
def State.detectAbort (s : State) (cause : Nat) (lost : Option Nat) : State :=
  let r := s.ring
  let lap := if r.sealed then r.lap else (r.lap + 1) % 2 ^ 32
  ((s.modRing fun x => { x with abortSeen := x.abortSeen ++ [(lap, r.position)] }).tellAbort cause lap lost).abortLap cause
    r.position lap

/-- A member lost on one side: a neighbour QP in ERROR, or silence (R290). -/
def State.ringLost (s : State) (qp : Nat) : State :=
  if s.ringMember && (s.ring.prevQp == qp || s.ring.nextQp == qp) then s.detectAbort 1 (some qp) else s

/-! ## The seal (R281, R283) -/

/-- The ring sequence's entry; an empty one once no live sequence has that ID, so that a seal finds no held row (R293). -/
def State.ringSeq (s : State) : SeqEntry :=
  match s.seqRef s.ring.seqId s.ring.domain with
  | .ok i => s.seq i
  | _ => {}

/-- The lap sealed by a command: its number rises (R281). -/
def State.sealLap (s : State) (id : Nat) : State :=
  s.modRing fun r =>
    { r with lap := (r.lap + 1) % 2 ^ 32, sealed := true, fence := some id, own := [], ownSent := false, formed := [] }

/-- The ring sequence read as of the seal: the sealing command is an admitted reader of its pages, and pages in colder tiers
become its jobs (R45, R226, R283). -/
def State.sealRead (s : State) (c : Cmd) : Cmd :=
  let e := s.ringSeq
  let places := stookPages s.pr s.ring.layer e.firstRow ((layerPlanes s.pr s.ring.layer).map e.len)
  let pages := places.filterMap fun p => e.handle p.1 p.2
  let cold := pages.filter fun p => match s.page p with | some x => !x.inHbm | none => false
  { c with
      seq := some (sidIndex s.ring.seqId), snap := some e, reads := pages
      snapPages := pages.filterMap fun p => (s.hbmPage p).map fun d => (p, d)
      jobs := cold.map fun p => { page := p } }

/-- The own stook built from the pages of the seal (R283), or the cause of an abort: a lost slot fails the lap's ATTENDs (R14,
R290), any other page that was not read is a tier failure. `e` and `pages` are as of the seal. -/
def State.buildOwn (s : State) (e : SeqEntry) (pages : List (Nat × PageData)) : Except Nat State :=
  let pr := s.pr
  let layer := s.ring.layer
  let places := stookPages pr layer e.firstRow ((layerPlanes pr layer).map e.len)
  if e.rows.isEmpty then .error 5
  else
    match places.mapM fun p => (e.handle p.1 p.2).bind (aget pages) with
    | none => .error (if places.any fun p => ((e.handle p.1 p.2).map s.isLost).getD false then 5 else 6)
    | some ds =>
      let b := stookBytes pr s.ring e layer ds
      if s.ring.bufBytes < b.length then .error 2 else .ok (s.modRing fun r => { r with own := b })

/-! ## Work of a member (R286, R287, R289) -/

/-- Bytes placed in a list. -/
def placeAt (l : List Byte) (off : Nat) (b : List Byte) : List Byte := l.take off ++ b ++ l.drop (off + b.length)

/-- The span of an origin: the sequence and pages of its stook (R287). -/
def State.spanOf (s : State) (p : Nat) : Option (SeqEntry × List (Nat × PageData)) :=
  if p = s.ring.position then stookSeq s.pr s.ring.own
  else (s.ring.buffers.find? fun b => b.origin == p && b.lap == s.ring.lap).bind fun b => stookSeq s.pr b.bytes

/-- The partials of a row set of a ring ATTEND over one origin placed in its result buffer as the set completes (R149, R287); a
buffer that takes no write fails the lap (R290). -/
def State.placeSpan (s : State) (c : Cmd) (p : Nat) (e : SeqEntry) (pages : List (Nat × PageData)) (head set0 rows : Nat) : State :=
  if !s.outOk c.sq (dOut c.desc) then s.detectAbort 5 none
  else
    let n := s.pr.partialBytes
    let (out, clamps, _) := s.attendSet c e pages head set0 rows
    let bytes := out.map fun r => ((r.1 * s.ring.members + p) * n, (r.2.flatMap Partial.bytes).take n)
    let o := dOut c.desc
    let s1 := bytes.foldl (fun t b => t.writeBuf c.sq { o with addr := o.addr + b.1, len := o.len - b.1 } b.2) s
    (s1.bump 0x2106 2 clamps).setCmd { c with output := bytes.foldl (fun l b => placeAt l b.1 b.2) c.output }

/-- A completed row set of a ring ATTEND placed, by its command and origin. -/
def State.closeSpan (s : State) (id p head set0 rows : Nat) : State :=
  match s.cmd id, s.spanOf p with
  | some c, some x => s.placeSpan c p x.1 x.2 head set0 rows
  | _, _ => s

/-- The row sets of a ring ATTEND over one origin with their items: every one runs on the tile path, on the ring-member slice
(R143 to R149, R286). -/
def State.spanSets (s : State) (c : Cmd) (p : Nat) (e : SeqEntry) (pages : List (Nat × PageData)) :
    List (Nat × Nat × Nat × List Item) :=
  let slice := s.ringSlice.getD 0
  (attendHeads s.pr c.desc).flatMap fun h =>
    let v := s.cutOver c e slice (akeys pages) h
    v.rowSets.map fun x =>
      (h, x.1, x.2.1, (v.setItems { c.itemOf .score h with org := p + 1, slice := slice } x).map fun it => { it with pages := [] })

/-- One row set of a ring ATTEND over an origin enters the scoreboard; one without a leaf is placed at once. -/
def State.formSet (s : State) (p : Nat) (e : SeqEntry) (pages : List (Nat × PageData)) (id : Nat) (x : Nat × Nat × Nat × List Item) :
    State :=
  if x.2.2.2.isEmpty then
    match s.cmd id with
    | some c => s.placeSpan c p e pages x.1 x.2.1 x.2.2.1
    | none => s
  else x.2.2.2.foldl State.addItem s

/-- The items of every ring ATTEND of the lap over one origin formed (R286, R287). -/
def State.formSpan (s : State) (p : Nat) (e : SeqEntry) (pages : List (Nat × PageData)) : State :=
  let s1 := s.ring.lapCmds.foldl (fun t id => match s.cmd id with
    | some c => (s.spanSets c p e pages).foldl (fun u x => u.formSet p e pages id x) t
    | none => t) s
  if s1.ring.sealed then s1.modRing fun r => { r with formed := r.formed ++ [p] } else s1

/-- The inputs of the lap's ATTENDs have all arrived. -/
def State.lapInputs (s : State) : Bool :=
  s.ring.lapCmds.all fun id => match s.cmd id with | some c => c.stage != .input | none => true

/-- A stook of the sealed lap checked, and its items formed (R285, R287); a failed check is the abort's cause. -/
def State.useStook (s : State) (b : StookBuf) : Except Nat State :=
  let pr := s.pr
  let own := s.ring.own
  if b.lap ≠ s.ring.lap ∨ stookLayer b.bytes ≠ s.ring.layer then .error 8
  else if ¬ (if b.origin < s.ring.position then stookEnd pr b.bytes ≤ stookBase own
      else stookEnd pr own ≤ stookBase b.bytes) then .error 3
  else
    match stookSeq pr b.bytes with
    | none => .error 4
    | some (e, pages) =>
      .ok ((s.modRing fun r =>
        { r with buffers := r.buffers.map fun x => if x.origin = b.origin ∧ x.lap = b.lap then { x with used := true } else x }).formSpan b.origin e pages)

/-- The first buffered stook that the sealed lap has not worked on. -/
def State.nextStook (s : State) : Option StookBuf := s.ring.buffers.find? fun b => !b.used

/-- The stook needs no forwarding: the next member built it (R286). -/
def State.stopsHere (s : State) (b : StookBuf) : Bool := b.origin == (s.ring.position + 1) % s.ring.members

/-- Forwarding: the own stook and the received ones in order of arrival, as credits allow (R286). -/
def State.forward (s : State) : Nat → State
  | 0 => s
  | f + 1 =>
    let r := s.ring
    if r.credits = 0 then s
    else if r.sealed ∧ ¬ r.own.isEmpty ∧ !r.ownSent then
      ((s.sendRing r.nextQp 0x21 0 0 0 r.own).modRing fun x =>
        { x with credits := x.credits - 1, ownSent := true }).forward f
    else
      match r.buffers.find? fun b => !b.forwarded && !s.stopsHere b with
      | none => s
      | some b =>
        (((s.sendRing r.nextQp 0x21 0 0 0 b.bytes).modRing fun x =>
          { x with credits := x.credits - 1, buffers := x.buffers.map fun y =>
              if y.origin = b.origin ∧ y.lap = b.lap then { y with forwarded := true } else y }).bump 0x6600 0xA).forward f

/-- An item of the lap reads an origin's span. -/
def State.spanBusy (s : State) (p : Nat) : Bool := s.sched.items.any fun it => it.org == p + 1

/-- Buffers whose stook is forwarded, or needs no forwarding, and whose items have all ended are free (R286). -/
def State.freeBuffers (s : State) : State :=
  let done : StookBuf → Bool := fun b => b.used && (b.forwarded || s.stopsHere b) && !s.spanBusy b.origin
  (s.modRing fun r => { r with buffers := r.buffers.filter fun b => !done b }).creditBack (s.ring.buffers.filter done).length

/-- The member is done with its lap: sealed, its buffers free, and every partial placed (R289). -/
def State.lapDone (s : State) : Bool :=
  let r := s.ring
  r.sealed && r.buffers.isEmpty && r.formed.length == r.members && !(s.sched.items.any fun it => it.org != 0)

/-- LAP_MARK: member 0 starts it, the others pass it on, once done (R289). -/
def State.markStep (s : State) : State :=
  let r := s.ring
  if !s.lapDone then s
  else if r.position = 0 then
    if r.markHeld.isNone then
      (s.sendRing r.nextQp 0x23 0 0 r.lap []).modRing fun x => { x with markHeld := some r.lap }
    else s
  else
    match r.markHeld with
    | some l => (s.sendRing r.nextQp 0x23 0 0 l []).modRing fun x => { x with markHeld := none }
    | none => s

/-- The stooks at hand worked on, one after another. -/
def State.workStooks (s : State) : Nat → State
  | 0 => s
  | f + 1 =>
    match s.nextStook with
    | none => s
    | some b =>
      match s.useStook b with
      | .ok t => t.workStooks f
      | .error cause => s.detectAbort cause none

/-- Everything a member can do now for its lap (R286 to R289). -/
def State.ringStep (s : State) : State :=
  let r := s.ring
  if !s.ringMember then s
  else
    let s1 :=
      if r.sealed ∧ ¬ r.own.isEmpty ∧ s.lapInputs then
        let s0 := if r.formed.contains r.position then s
          else match stookSeq s.pr r.own with
            | some (e, pages) => s.formSpan r.position e pages
            | none => s
        if s0.ring.sealed then s0.workStooks 8 else s0
      else s
    if s1.ringMember then (((s1.forward 70).freeBuffers).forward 70).markStep else s1

/-- The own stook built once the pages of the seal are there, and the lap goes on (R283). -/
def State.ownReady (s : State) (c : Cmd) : State :=
  if c.jobs.all PageJob.done then
    match s.buildOwn (c.snap.getD {}) c.pagesRead with
    | .ok t => (t.setCmd { c with snapPages := [], reads := [], jobs := [] }).ringStep
    | .error cause => s.detectAbort cause none
  else s

/-- A sealing command goes on: it reads the ring sequence once the earlier appends of its queue have committed, and builds the own
stook from what it read (R10, R45, R283). -/
def State.sealStep (s : State) (c : Cmd) : State :=
  if s.ring.fence = some c.id ∧ s.ring.sealed ∧ s.ring.own.isEmpty then
    if c.snap.isSome then s.ownReady c
    else if (s.pendingAppends (sidIndex s.ring.seqId) (some c.sq)).any fun a => decide (a.id < c.id) then s
    else
      let c1 := s.sealRead c
      (s.setCmd c1).ownReady c1
  else s

/-- A STOPPING member seals the lap of a stook at hand with no ring ATTEND (R292): the layer is the stook's, and ring ATTENDs
admitted since the previous seal stay unsealed. A command of the node's own, which has no queue, reads the pages. -/
def State.autoSeal (s : State) : State :=
  let s0 := s.modRing fun r =>
    { r with layer := (s.nextStook.map fun b => stookLayer b.bytes).getD r.layer, lapCmds := [],
             unsealed := r.unsealed ++ r.lapCmds }
  let s1 := s0.sealLap s0.sched.nextId
  let c := s1.sealRead { id := s0.sched.nextId, sq := s0.ring.sq, dom := s0.ring.domain, cls := 5, desc := 0xF1 }
  (s1.modSched fun q => { q with cmds := q.cmds ++ [c], nextId := c.id + 1 }).ownReady c

/-- The lap commits at this member: its ATTENDs, then its FENCE, complete (R289). An ATTEND whose units failed fails the lap
(R290, R334, R420). -/
def State.commitLap (s : State) : State :=
  let r := s.ring
  if r.lapCmds.any fun id => ((s.cmd id).map s.unitFails).getD false then s.detectAbort 5 none
  else
    let s1 := r.lapCmds.foldl (fun t id => match t.cmd id with
      | some c => t.endOk c (aRows c.desc * r.members) c.output.length 0
      | none => t) s
    ((s1.endFence.modRing Ring.endLap).bump 0x6600 8).tryEnd

/-! ## Received messages -/

/-- STOOK received: its header is checked, and it waits in a buffer (R285, R286). A stook of a lap that this member has
already ended is dropped with its buffer free at once. -/
def State.ringStook (s : State) (payload : List Byte) : State :=
  let lap := stookLap payload
  if s.ring.bufBytes < payload.length then s.detectAbort 2 none
  else if !stookHeadOk s.pr payload then s.detectAbort 4 none
  else if !newer 32 lap s.ring.doneLap then s.creditBack 1
  else
    let s1 := s.modRing fun r =>
      { r with buffers := r.buffers ++ [{ bytes := payload, origin := stookOrigin payload, lap := lap }] }
    if s1.ring.st = ringStopping ∧ !s1.ring.sealed then s1.autoSeal else s1.ringStep

/-- CREDIT received (R286). -/
def State.ringCredit (s : State) (n : Nat) : State := (s.modRing fun r => { r with credits := r.credits + n }).ringStep

/-- LAP_MARK received: it returns to member 0, or waits until this member is done (R289). -/
def State.ringMark (s : State) (lap : Nat) : State :=
  if s.ring.position = 0 then
    if s.ring.sealed ∧ s.ring.lap = lap then (s.sendRing s.ring.nextQp 0x24 0 0 lap []).commitLap else s
  else (s.modRing fun r => { r with markHeld := some lap }).ringStep

/-- LAP_COMMIT received (R289). -/
def State.ringCommit (s : State) (lap : Nat) : State :=
  if s.ring.position = 0 then s
  else
    let s1 := s.sendRing s.ring.nextQp 0x24 0 0 lap []
    if s.ring.sealed ∧ s.ring.lap = lap then s1.commitLap else s1

/-- LAP_ABORT received (R290): it is forwarded once; a lap that this member has committed is not aborted, and a lost member still
dissolves the ring with the lap that is open here. -/
def State.ringAbort (s : State) (qp cause pos lap : Nat) : State :=
  let r := s.ring
  if r.abortSeen.contains (lap, pos) then s
  else
    let s1 := s.modRing fun x => { x with abortSeen := x.abortSeen ++ [(lap, pos)] }
    let s2 := s1.sendRing (if qp = r.prevQp then r.nextQp else r.prevQp) 0x25 cause pos lap []
    if newer 32 lap r.doneLap then s2.abortLap cause pos lap
    else if cause = 1 then s2.abortLap cause pos (if r.sealed || r.lapCmds.isEmpty then r.lap else (r.lap + 1) % 2 ^ 32)
    else s2

/-- RING_STOP received (R292). -/
def State.ringStop (s : State) (pos lap : Nat) : State :=
  let r := s.ring
  if pos = r.position then (s.modRing fun x => { x with stopping := some (lap, true) }).tryEnd
  else
    let s1 := s.modRing fun x => { x with st := ringStopping }
    let s2 := s1.sendRing r.nextQp 0x26 0 pos (Nat.max lap r.lap) []
    if !r.sealed ∧ s2.nextStook.isSome then s2.autoSeal else s2

/-- RING_END received (R292). -/
def State.ringEnd (s : State) (pos lap : Nat) : State :=
  let r := s.ring
  if pos = r.position then s.ringLeft
  else
    let s1 := s.sendRing r.nextQp 0x27 0 pos lap []
    let issued := s.sched.cmds.any fun c => dOp c.desc == 0x61
    (if issued then s1 else s1.ringEnded).ringLeft

/-- A ring message other than RING_HELLO, acted on by a member of that ring; else answered with LAP_ABORT, REASON 1 (R280). -/
def State.ringMsg (s : State) (qp : Nat) (h : BitVec 256) (f : State → State) : State :=
  if s.ringMember && s.ring.ringId == fld h 64 32 then f s
  else s.sendSvc qp (svcHdr 0x25 1 0 (fld h 32 32) (BitVec.ofNat 64 (fld h 64 32)) 0 0) []

/-- The pulses of one period (R290). -/
def State.ringPulse (s : State) : State :=
  if s.ring.st = ringNone then s
  else
    let s1 := s.sendRing s.ring.prevQp 0x28 0 0 0 []
    if s.ring.nextQp = s.ring.prevQp then s1 else s1.sendRing s.ring.nextQp 0x28 0 0 0 []

/-! ## RING_LEAVE (R292) -/

/-- Step 2 of RING_LEAVE: a queue of the ring's domain, or a privileged one (R173, R292). -/
def State.leaveDenied (s : State) (c : Cmd) : Option Fail :=
  if s.ring.st ≠ ringNone ∧ c.cls = 0 ∧ c.dom ≠ s.ring.domain then some ⟨stDenied, 0, 0, 0⟩ else none

/-- Step 6 of RING_LEAVE: the node's RING_ID. -/
def State.checkLeave (s : State) (c : Cmd) : Option Fail :=
  if s.ring.st = ringNone ∨ s.ring.ringId ≠ gId c.desc then some (badParam 48)
  else if s.ring.st = ringJoining then some ⟨stBusy, 0, 0, 0⟩
  else none

/-- Admission of RING_LEAVE: the member stops the ring, and seals the lap of an early stook (R286, R292); a dissolved one leaves at its commit (R290, R292). -/
def State.reserveLeave (s : State) (c : Cmd) : Except Fail (State × Cmd) :=
  if s.ring.st = ringDissolved then .ok (s, c)
  else if s.ring.st = ringStopping then .ok (s, { c with stage := .waiting })
  else
    let s1 := s.modRing fun r => { r with st := ringStopping, stopping := some (r.lap, false) }
    let s2 := s1.sendRing s.ring.nextQp 0x26 0 s.ring.position s.ring.lap []
    .ok (if !s.ring.sealed ∧ s.nextStook.isSome then s2.autoSeal else s2, { c with stage := .waiting })

end Sys2Proof.Machine
end

