-- ==== Sys2Proof/Machine/Engine.lean ====
section
/-! DEFINITION. The life of a command: admission (R172, R173, R308, R396), its waits (R10, R45, R56, R99, R174, R187, R211,
R223), its work, and its commit (R178). -/

namespace Sys2Proof.Machine

/-! ## By opcode -/

/-- Steps 4 to 6 of R173, a buffer's contents apart. -/
def State.opCheck (s : State) (c : Cmd) : Option Fail :=
  match dOp c.desc with
  | 0x01 => s.checkOpen c
  | 0x02 => s.checkFork c
  | 0x03 => s.checkTrim c
  | 0x04 => s.checkClose c
  | 0x10 => s.checkAppend c
  | 0x11 => s.checkAppend c
  | 0x20 => s.checkAttend c
  | 0x21 => s.checkWinnow c
  | 0x30 => State.checkFind c
  | 0x31 => s.checkAdd c
  | 0x32 => State.checkDrop c
  | 0x40 => s.checkSwapOut c
  | 0x41 => s.checkSwapIn c
  | 0x42 => s.checkMigrate c
  | 0x43 => s.checkView c
  | 0x44 => s.checkUnview c
  | 0x50 => s.checkMask c
  | 0x51 => s.checkTable c
  | 0x60 => s.checkJoin c
  | 0x61 => s.checkLeave c
  | _ => none

/-- The checks of a buffer's contents. -/
def State.opTake (s : State) (c : Cmd) : Option Fail :=
  match dOp c.desc with
  | 0x10 => s.takeAppend c
  | 0x11 => s.takeAppend c
  | 0x20 => State.takeAttend c
  | 0x21 => State.takeWinnow c
  | 0x31 => s.takeAdd c
  | 0x50 => State.takeMask c
  | _ => none

/-- Admission of ATTEND; on the ring SQ it joins the lap, after the checks of R282. -/
def State.admitAttend (s : State) (c : Cmd) : Except Fail (State × Cmd) :=
  if s.onRing c.sq then
    match s.checkRing c with
    | some f => .error f
    | none => .ok (s.joinLap c)
  else s.reserveAttend c

/-- SCOPE of a FENCE (R187). -/
def fenceScope (d : Desc) : Nat := fld d 384 1

/-- Admission of FENCE: one with SCOPE 0 on the ring SQ seals the lap that ring ATTENDs opened (R281). -/
def State.admitFence (s : State) (c : Cmd) : State × Cmd :=
  if fenceScope c.desc = 0 ∧ s.onRing c.sq ∧ s.ring.st = ringOpen ∧ !s.ring.sealed ∧ !s.ring.lapCmds.isEmpty then
    (s.sealLap c.id, c)
  else (s, c)

/-- Step 7 of R173: what fails rather than waits, reserved. -/
def State.opReserve (s : State) (c : Cmd) : Except Fail (State × Cmd) :=
  match dOp c.desc with
  | 0x01 => s.reserveSeq c
  | 0x02 => s.reserveFork c
  | 0x03 => .ok (s, { c with seq := some (sidIndex (dSeq c.desc)) })
  | 0x04 => (s.reserveClose c).map fun p => (p.1, { p.2 with seq := some (sidIndex (dSeq c.desc)) })
  | 0x10 => s.reserveAppend c
  | 0x11 => s.reserveAppend c
  | 0x20 => s.admitAttend c
  | 0x31 => s.reserveAdd c
  | 0x40 => s.reserveSwapOut c
  | 0x41 => s.reserveSwapIn c
  | 0x42 => s.reserveMigrate c
  | 0x43 => s.reserveView c
  | 0x44 => s.reserveUnview c
  | 0x50 => s.reserveMask c
  | 0x51 => .ok (s, { c with seq := some (sidIndex (dSeq c.desc)) })
  | 0x60 => s.reserveJoin c
  | 0x61 => s.reserveLeave c
  | 0x70 => .ok (s.admitFence c)
  | _ => .ok (s, c)

/-- Commit by opcode (R178). -/
def State.opCommit (s : State) (c : Cmd) : State :=
  match dOp c.desc with
  | 0x01 => s.commitOpen c
  | 0x02 => s.commitFork c
  | 0x03 => s.commitTrim c
  | 0x04 => s.commitClose c
  | 0x10 => s.commitAppend c
  | 0x11 => s.commitAppend c
  | 0x20 => s.commitOut c
  | 0x21 => s.commitOut c
  | 0x30 => s.commitFind c
  | 0x31 => s.commitAdd c
  | 0x32 => s.commitDrop c
  | 0x40 => s.commitSwapOut c
  | 0x41 => s.commitSwapIn c
  | 0x42 => s.commitMigrate c
  | 0x43 => s.commitView c
  | 0x44 => s.commitUnview c
  | 0x50 => s.commitMask c
  | 0x51 => s.commitTable c
  | 0x61 => s.ringLeft
  | 0xF0 => s.commitNarrow c
  | _ => s.endOk c 0 0 0

/-! ## Admission -/

/-- A domain is provisioned for strict mode (R308). -/
def State.provisioned (s : State) (d : Nat) : Bool :=
  let q := fun n => s.num 0x7120 n d
  q 3 != 0 && q 4 != 0 && q 6 != 0 && q 5 != 0 && q 7 != 0
    && bit (ofBytes 256 (s.active 0x7130 0 d)) 0 && bit (ofBytes 256 (s.active 0x7130 1 d)) 0
    && (List.range 16).any fun n => (q 1).testBit n &&
      (List.range 64).any fun t => (q 2).testBit t && (sliceGroups (s.sliceReg n)).testBit (t / 4)

/-- Step 2: the caller's rights (R183, R184, R202, R292, R308). -/
def State.opRights (s : State) (c : Cmd) : Option Fail :=
  if s.strict && !s.provisioned c.dom then some ⟨stDenied, 0, 0, 0⟩
  else
    match dOp c.desc with
    | 0x30 => s.prefixDenied c
    | 0x31 => s.prefixDenied c
    | 0x32 => s.prefixDenied c
    | 0x42 => if mMove c.desc ∧ c.cls = 0 then some ⟨stDenied, 59, 0, 0⟩ else none
    | 0x61 => s.leaveDenied c
    | _ => none

/-- Step 3: redirects and epochs (R18). -/
def State.opEpoch (s : State) (c : Cmd) : Option Fail :=
  let cur := s.seqs.epochC
  let old := s.seqs.epochO
  match if opNamesSeq c.desc then s.seqs.redirects.find? fun r => r.seq == dSeq c.desc else none with
  | some r => some ⟨stRedirect, 0, r.node, r.epoch⟩
  | none =>
    if newer 32 (dEpoch c.desc).toNat cur.toNat then some ⟨stEpochAhead, 0, cur.toNat, 0⟩
    else if newer 32 old.toNat (dEpoch c.desc).toNat then some ⟨stEpochStale, 0, cur.toNat, old.toNat⟩
    else none

/-- Steps 1 to 6 of R173, a buffer's contents apart; the first failure. -/
def State.precheck (s : State) (c : Cmd) (fabric : Bool) : Option Fail :=
  match malformedAt c.desc fabric with
  | some b => some ⟨stMalformed, b, 0, 0⟩
  | none => (s.opRights c).or ((s.opEpoch c).or (s.opCheck c))

/-- The input buffer lies on the submitter's node and must be read over XNT (R171). -/
def Cmd.peerInput (c : Cmd) : Bool := (dIn c.desc).kind == 3

/-- The input that is at hand; `none` where the access fails (R171). -/
def State.inputOf (s : State) (c : Cmd) : Option (List Byte) :=
  let b := dIn c.desc
  if b.kind = 0 then some []
  else if b.kind = 3 then if (s.qp (sqQp (s.sqOf c.sq).cfg)).st = .rts then some [] else none
  else s.readBuf c.sq b

/-- A command takes its place in the command table and its slot in the CQ (R172). -/
def State.insertCmd (s : State) (c : Cmd) : State :=
  (s.modSched fun q => { q with cmds := q.cmds ++ [c], nextId := c.id + 1 }).modCq c.cq fun q =>
    { q with reserved := q.reserved + 1 }

/-- Commands whose reservations follow the check of their buffer's contents: with a PEER buffer they are made once it has arrived,
so that a command with bad contents fails before any work (R67, R204). -/
def lateReserve (d : Desc) : Bool := isAppend d || dOp d == 0x31

/-- What the admission of a command whose checks have passed reserves: a failure, or the state with the command in its
table. A PREFIX_FIND keeps what it sees (R211). -/
def State.reserveCmd (s : State) (c : Cmd) : Except Fail (State × Cmd) :=
  let s0 := s.insertCmd { c with desc := 0, input := [] }
  let r := if c.peerInput && lateReserve c.desc then .ok (s0, { c with seq := some (sidIndex (dSeq c.desc)) }) else s0.opReserve c
  match r with
  | .error f => .error f
  | .ok (t, c2) =>
    let c3 := { c2 with stage := if c.peerInput then .input else c2.stage, index := if dOp c.desc = 0x30 then s.indexSeen c else [] }
    .ok (t.setCmd c3, c3)

/-- Contents checks, where the input is at hand. -/
def State.takeInput (s : State) (c : Cmd) : Option Fail := if c.peerInput then none else s.opTake c

/-- An admission: the failure that completes the descriptor, or the state with the command admitted (R173). -/
def State.admission (s : State) (c : Cmd) (fabric : Bool) : Except Fail (State × Cmd) :=
  match s.precheck c fabric with
  | some f => .error f
  | none =>
    match s.inputOf c with
    | none => .error ⟨stBufAccess, 0, 0, 0⟩
    | some b =>
      if (dOut c.desc).kind ≠ 0 ∧ !s.outOk c.sq (dOut c.desc) then .error ⟨stBufAccess, 1, 0, 0⟩
      else
        let c1 := { c with input := b }
        match s.takeInput c1 with
        | some f => .error f
        | none => s.reserveCmd c1

/-! ## Waits -/

/-- Pages of a sequence that a command would change or drop. -/
def State.touches (s : State) (c : Cmd) : List Nat :=
  let e := s.seq (c.seq.getD 0)
  if isAppend c.desc then (appendPages s.pr c.desc e).filterMap fun pj => e.handle pj.1 pj.2
  else if dOp c.desc = 0x03 then (trimGone s.pr e c.desc ++ tailPages s.pr e (trimTo s.pr e c.desc)).map Prod.snd
  else if dOp c.desc = 0x04 then e.handles.map Prod.snd
  else if dOp c.desc = 0x32 then (s.index.entries.filter fun p => p.2.gone.isNone && dropped c p.2).map fun p => p.2.anchor
  else if dOp c.desc = 0xF0 then c.jobs.map PageJob.page
  else []

/-- The pages among them that it writes or frees: those that nothing else references (R45, R48, R55). -/
def State.alters (s : State) (c : Cmd) : List Nat :=
  let l := s.touches c
  l.filter fun p =>
    match s.page p with
    | some e => decide (e.refs ≤ if dOp c.desc = 0x32 then l.count p else 1)
    | none => true

/-- A command is the sealing one of a lap and has not yet read the ring sequence (R283). -/
def State.sealWaits (s : State) (c : Cmd) : Bool := s.ring.fence == some c.id && s.ring.sealed && s.ring.own.isEmpty && c.snap.isNone

/-- An ATTEND that reads its sequence's pages and has not come to its read point. -/
def State.unread (s : State) (c : Cmd) : Bool := dOp c.desc == 0x20 && !s.ringed c.id && c.snap.isNone

/-- An admitted command reads a page, or will at its read point (R10, R45). -/
def State.willRead (s : State) (c : Cmd) (p : Nat) : Bool :=
  c.reads.contains p
    || (s.unread c && (attendPages s.pr c.desc (s.seq (sidIndex (dSeq c.desc)))).contains p)
    || (s.sealWaits c && (s.sealRead c).reads.contains p)

/-- A command admitted before has still to read the sequence that a command changes: the change would be seen (R10, R119). -/
def State.unreadOf (s : State) (x : Cmd) (seq : Option Nat) : Bool :=
  (s.unread x && x.seq == seq) || (s.sealWaits x && some (sidIndex s.ring.seqId) == seq)

/-- A command changes the lengths or page lists of a sequence, or its pages (R45). -/
def changesSeq (x : Cmd) : Bool :=
  isAppend x.desc || dOp x.desc == 0x03 || dOp x.desc == 0x04 || dOp x.desc == 0xF0 || (dOp x.desc == 0x42 && mMove x.desc)

/-- No other move command holds a page (R223). -/
def State.unheld (s : State) (c : Cmd) (p : Nat) : Bool :=
  match s.page p with | some e => (match e.busy with | some b => b == c.id | none => true) | none => true

/-- Waits of a command for the commands admitted before it and for the pages it changes (R10, R45, R56, R99, R103, R123, R187,
R211, R223). -/
def State.waitsOver (s : State) (c : Cmd) : Bool :=
  let before := s.sched.cmds.filter fun x => decide (x.id < c.id)
  let changed := before.any fun x => changesSeq x && x.seq == c.seq
  let readBefore : Nat → Bool := fun p => before.any fun x => s.willRead x p
  let free := (s.touches c).all (s.unheld c) && !(s.alters c).any readBefore
  let jobsRead := c.jobs.any fun j => readBefore j.page
  match dOp c.desc with
  | 0x02 => !(before.any fun x => isAppend x.desc && x.sq == c.sq && x.seq == some (sidIndex (dSeq c.desc)))
  | 0x03 =>
    !changed && free && !(before.any fun x => s.unreadOf x c.seq
      || (dOp x.desc == 0x02 && sidIndex (dSeq x.desc) == sidIndex (dSeq c.desc))
      || (dOp x.desc == 0x31 && x.stage == .input && x.seq == c.seq))
  | 0x04 =>
    free && !(before.any fun x =>
      (x.seq == c.seq || (opNamesSeq x.desc && dSeq x.desc == dSeq c.desc)) && !s.ringed x.id)
  | 0x10 => !changed && free && !(before.any fun x => s.unreadOf x c.seq) && (s.seq (c.seq.getD 0)).st != .moving
  | 0x11 => !changed && free && !(before.any fun x => s.unreadOf x c.seq) && (s.seq (c.seq.getD 0)).st != .moving
  | 0x20 => !s.ringed c.id
  | 0x31 => !(before.any fun x => dOp x.desc == 0x31 || dOp x.desc == 0x32)
  | 0x32 => free && !(before.any fun x => dOp x.desc == 0x31 || dOp x.desc == 0x32)
  | 0x40 => !jobsRead && (c.flushed || c.jobs.all PageJob.clean)
  | 0x41 => !jobsRead
  | 0x42 =>
    if mMove c.desc then c.flushed && !((s.seq (c.seq.getD 0)).handles.any fun h => readBefore h.2) else !jobsRead
  | 0x43 => !jobsRead && !(before.any fun x => changesSeq x && dOp x.desc != 0x42 && x.seq == c.seq)
  | 0x44 => !jobsRead && c.early == 0
  | 0x50 => maskOp c.desc == 0 || !(before.any fun x => x.masks.contains (maskHandle c.desc))
  | 0x60 => false
  | 0x70 =>
    s.ring.fence != some c.id
      && !(before.any fun x => if fenceScope c.desc = 0 then x.sq == c.sq else x.dom == c.dom)
  | 0xF0 => !changed && free
  | 0xF1 => false
  | _ => true

/-! ## Work -/

/-- A tier failure or lateness ends the command that issued the transfer (R227); while a stook is built it aborts the lap
(R283). -/
def State.tierFailed (s : State) (c : Cmd) (st cause page : Nat) : State :=
  if s.ring.fence = some c.id then s.detectAbort 6 none else s.endCmd c ⟨st, cause, page, 0⟩

/-- The read point of an ATTEND whose queue's earlier appends have all committed, whether or not its queries have come (R10, R45,
R119). -/
def State.openRead (s : State) (c : Cmd) : State :=
  if (s.pendingAppends (sidIndex (dSeq c.desc)) (some c.sq)).any fun a => decide (a.id < c.id) then s
  else
    let t := s.readNow c
    match t.cmd c.id with
    | some c1 => match c1.stage with | .failed st cause r0 r1 => t.endCmd c1 ⟨st, cause, r0, r1⟩ | _ => t
    | none => t

/-- Items of a command placed on the scoreboard (R188). -/
def State.addItems (s : State) (l : List Item) : State := l.foldl State.addItem s

/-- A command has stripes that no tile waits for. -/
def State.ownStripes (s : State) (id : Nat) : Bool := s.sched.items.any fun it => it.cmd == id && it.op != .score

/-- A request past its read point, with its queries at hand, goes on: a SIFTED one has its SUMMARY stripes first and its items once
the blocks are selected, which needs every cold page; any other has its items at once (R134, R135, R143, R226). Under PREC_POLICY
REJECT nothing is issued before the cold pages have shown their precision (R77). Key pages that no awn serves are lost to SCORE and
SUMMARY stripes (R105). -/
def State.issueAttend (s : State) (c : Cmd) : State :=
  let sift := aSifted c.desc
  let there := c.jobs.all PageJob.done
  if bit c.desc 468 && !there then s
  else
    let first := if c.issued then [] else if sift then s.summaryItems c else s.itemsFor c
    let s1 := if c.issued then s else (s.setCmd { c with issued := true }).addItems first
    let then_ := there && !s1.ownStripes c.id
    let second := if then_ && sift then s.itemsFor c else []
    if (first ++ second).any fun it => s.stripesDead it.slots then s.endCmd c ⟨stPartFail, 0, 0, 0⟩
    else if then_ then (s1.computeAttend { c with issued := true }).addItems second
    else s1

/-- An ATTEND goes on: its read point, then its items and its result (R10, R226). -/
def State.attendStep (s : State) (c : Cmd) : State :=
  let s1 := if c.snap.isNone then s.openRead c else s
  match s1.cmd c.id with
  | some c2 => if c2.snap.isSome ∧ c2.stage = .waiting then s1.issueAttend c2 else s1
  | none => s1

/-- What a command whose admission met a page held by another reserves now (R223). -/
def State.retry (s : State) (c : Cmd) (r : Except Fail (State × Cmd)) : State :=
  match r with
  | .ok (t, c2) => t.setCmd c2
  | .error f => s.endCmd c f

/-- A command goes on as far as it can without its commit. -/
def State.progressCmd (s : State) (c : Cmd) : State :=
  match c.stage, dOp c.desc with
  | .input, 0x20 => if s.ringed c.id then s else s.attendStep c
  | .waiting, 0x20 => s.attendStep c
  | .planned, 0x10 => if !c.issued && s.waitsOver c then s.issueAppend c else s
  | .planned, 0x11 => if !c.issued && s.waitsOver c then s.issueAppend c else s
  | .planned, 0xF0 => if !c.issued && s.waitsOver c then s.issueNarrow c else s
  | .planned, 0x21 => if c.output.isEmpty then s.computeWinnow c else s
  | .waiting, 0x60 => s.tryJoin
  | .planned, 0x70 => s.sealStep c
  | .planned, 0xF1 => s.sealStep c
  | .waiting, 0x42 =>
    if mMove c.desc then
      if c.jobs.all PageJob.done then
        let c2 := { c with stage := .planned }
        (s.setCmd c2).beginMove c2
      else s
    else s.retry c (s.reserveMigrate c)
  | .planned, 0x42 => if mMove c.desc then s.finalMove c else s
  | .waiting, 0x40 => s.retry c (s.reserveSwapOut c)
  | .waiting, 0x41 => s.retry c (s.reserveSwapIn c)
  | _, _ => s

/-- The command of a number goes on. -/
def State.progress (s : State) (id : Nat) : State :=
  match s.cmd id with
  | some c => s.progressCmd c
  | none => s

/-! ## The tier engine's page buffers (R227) -/

/-- The transfers of a command pass through the tier engine's page buffers; images that go to another node as they lie in HBM need
none (log 118). -/
def Cmd.usesBuf (c : Cmd) : Bool := !(dOp c.desc == 0x42 && !mMove c.desc && !mBack c.desc)

/-- Page buffers that the transfers of given commands hold. -/
def bufsHeld (l : List Cmd) : Nat := (l.map fun c => (c.jobs.filter fun j => j.buf && !j.done).length).sum

/-- A command may take one more of the 512 buffers, within its domain's share (R227, R306). -/
def State.bufFree (s : State) (d : Nat) : Bool :=
  decide (bufsHeld s.sched.cmds < 512) && decide (bufsHeld (s.sched.cmds.filter fun c => c.dom == d) < s.num 0x7120 0xE d)

/-- The QP on which a page in another node is read: the one a PAGE_MIGRATE names, else one of the page's domain (R225, R226). -/
def State.holdQp (s : State) (c : Cmd) (e : PageEntry) : Option (Nat × Nat) :=
  if dOp c.desc = 0x42 ∧ mBack c.desc then some (mQp c.desc, c.dom) else (s.qpTo e.dom (locNode e.loc)).map fun q => (q, e.dom)

/-- A transfer that holds a buffer starts: a remote page is requested from its holder (R226). -/
def State.startTransfer (s : State) (c : Cmd) (page : Nat) : State :=
  match s.page page with
  | some e =>
    if e.st = .remote then
      match (s.holdQp c e).bind fun q => s.readHold q.1 q.2 e.loc c.id page with
      | some t => t
      | none => s.tierFailed c stTierFail 4 page
    else s
  | none => s

/-- One waiting transfer takes a buffer, where it may. -/
def State.grantBuf (s : State) (x : Nat × Nat) : State :=
  match s.cmd x.1 with
  | none => s
  | some c =>
    if (c.jobs.any fun j => j.page == x.2 && !j.buf && !j.done) && s.bufFree c.dom then
      let c1 := c.setJob x.2 fun j => { j with buf := true }
      (s.setCmd c1).startTransfer c1 x.2
    else s

/-- Waiting transfers take buffers by command priority and then by admission order (R227). -/
def State.grantBufs (s : State) : State :=
  let l := sortBy (fun c => (15 - c.prio) * 2 ^ 48 + c.id) (s.sched.cmds.filter fun c => c.usesBuf && c.jobs.any fun j => !j.buf && !j.done)
  (l.flatMap fun c => (c.jobs.filter fun j => !j.buf && !j.done).map fun j => (c.id, j.page)).foldl State.grantBuf s

/-- Every command goes on, in admission order. -/
def State.progressAll (s : State) : State := (s.sched.cmds.map Cmd.id).foldl State.progress s

/-- Every command that waited for another looks again, in admission order. -/
def State.wake (s : State) : State := s.progressAll.grantBufs.progressAll.promoteItems

/-- A command just admitted starts (R171, R263). -/
def State.startCmd (s : State) (c : Cmd) : State :=
  let b := dIn c.desc
  let s1 := if c.stage = .input then s.readFor (sqQp (s.sqOf c.sq).cfg) b.rkey b.rgen b.addr b.len c.id none
    else if dOp c.desc = 0x30 then s.computeFind c
    else s
  (s1.progress c.id).grantBufs

/-- A command that failed at its admission: its completion, and STALLED for an append without a page (R53, R173). -/
def State.failAdmission (s : State) (sq cq head : Nat) (d : Desc) (f : Fail) : State :=
  let s1 := s.completeDesc sq cq head d f
  if f.st = stNoPage ∧ isAppend d then s1.stall (sidIndex (dSeq d)) f.cause else s1

/-- The descriptor at the front of a queue as a command. -/
def State.newCmd (s : State) (sq : Nat) (d : Desc) (head : Nat) : Cmd :=
  let cfg := (s.sqOf sq).cfg
  { id := s.sched.nextId, sq := sq, cq := fld cfg 0 16, dom := sqDom cfg, cls := sqClass cfg, prio := sqPrio cfg, desc := d,
    sqHead := head, waitLimit := s.num 0x4000 7, scoreRows := s.num 0xB100 4, leavesMax := s.num 0xB100 5,
    fanout := s.num 0xB100 6 }

/-- A descriptor admitted, or completed with its failure (R173), with the CMD entries in force at its admission (R395). -/
def State.admitDesc (s : State) (sq : Nat) (d : Desc) (head : Nat) : State :=
  let t := s.takeEntries (sqDom (s.sqOf sq).cfg)
  let c := t.newCmd sq d head
  match t.admission c (sqFabric (s.sqOf sq).cfg) with
  | .error f => (t.failAdmission sq c.cq head d f).lowCheck
  | .ok (t, c2) => (t.startCmd c2).lowCheck

/-- The commands that a DRAIN entry holds and quiesces (R396): a descriptor of a queue and its domain. -/
def State.drainHolds (s : State) (k : PdKey) (sq dom : Nat) (d : Desc) : Bool :=
  if k.idx = 0x4310 then
    (dOp d == 0x20 && s.attendSlice { sq := sq, desc := d } == k.sub) || (dOp d == 0x21 && s.winnowSlice dom == k.sub)
  else if k.idx = 0x2000 ∨ k.idx = 0x7000 then true
  else if 0x2100 ≤ k.idx ∧ k.idx ≤ 0x2105 then dOp d == 0x20
  else if k.idx = 0x3710 then
    dom == k.dom && ((dIn d).kind == 1 || (dOut d).kind == 1 || dOp d == 0x40 || dOp d == 0x41 || dOp d == 0x20)
  else false

/-- The DRAIN write under way holds a descriptor (R396). -/
def State.heldByDrain (s : State) (sq dom : Nat) (d : Desc) : Bool :=
  match s.dict.drains with
  | w :: _ => s.drainHolds w.key sq dom d
  | [] => false

/-- Slots of a CQ that neither an entry nor a reservation takes: a ring of depth n holds n − 1 entries (R168, R172). -/
def Cq.room (q : Cq) : Bool :=
  decide ((q.tail + cqDepth q.cfg - q.head) % cqDepth q.cfg + q.reserved + 1 ≤ cqDepth q.cfg - 1)

/-- The commands in the table's 32,768 entries: the node's own have none (R172). -/
def State.tableCmds (s : State) : List Cmd := s.sched.cmds.filter fun c => decide (c.cls < 4)

/-- The front descriptor of a queue may be admitted: the node runs, a table entry and a CQ slot are free (R172, R306), no
FENCE of the queue waits (R187), and no DRAIN write holds it (R396). -/
def State.canAdmit (s : State) (sq : Nat) (d : Desc) : Bool :=
  let cfg := (s.sqOf sq).cfg
  let dom := sqDom cfg
  s.alive && !(s.sched.cmds.any fun c => c.sq == sq && dOp c.desc == 0x70)
    && decide (s.tableCmds.length < 32768)
    && decide ((s.tableCmds.filter fun c => c.dom == dom).length < s.soon 0x7120 0xB dom)
    && !s.heldByDrain sq dom d
    && (match aget s.queues.cqs (fld cfg 0 16) with | some q => q.room | none => false)

/-- The front descriptor of a queue admitted, where it may be. -/
def State.admitFront (s : State) (sq : Nat) : State :=
  match (s.sqOf sq).fetched with
  | (d, head) :: r =>
    if s.canAdmit sq d then (s.modSq sq fun q => { q with fetched := r }).admitDesc sq d head else s
  | [] => s

/-! ## Commit -/

/-- A command whose stripes write pages has had them issued (R90). -/
def Cmd.stripesOut (c : Cmd) : Bool := c.issued || !(isAppend c.desc || dOp c.desc == 0xF0)

/-- A command may commit now: its work is planned, its items, stripes and transfers have ended, and its waits are over (R178,
R188). -/
def State.commitReady (s : State) (c : Cmd) : Bool :=
  c.stage == .planned && c.stripesOut && !(s.sched.items.any fun it => it.cmd == c.id) && c.jobs.all PageJob.done && s.waitsOver c

/-- The sequence that a command names has gone since its admission: it moved, or it closed (R18, R37). -/
def State.seqGone (s : State) (c : Cmd) : Option Fail :=
  let e := s.seq (sidIndex (dSeq c.desc))
  if opNamesSeq c.desc && dOp c.desc != 0x20 && (e.gen != sidGen (dSeq c.desc) || e.st == .free || e.st == .retired) then
    match s.seqs.redirects.find? fun r => r.seq == dSeq c.desc with
    | some r => some ⟨stRedirect, 0, r.node, r.epoch⟩
    | none => some ⟨stBadSeq, 0, 0, 0⟩
  else none

/-- A command commits (R178); the commands that waited for it look again. -/
def State.commitCmd (s : State) (c : Cmd) : State :=
  if s.unitFails c then (s.endCmd c ⟨stPartFail, 0, 0, 0⟩).wake.lowCheck
  else
  match s.seqGone c with
  | some f => (s.endCmd c f).wake.lowCheck
  | none => (s.opCommit c).wake.lowCheck

/-- A held append of a sequence whose PAGE_MIGRATE has ended completes with ST_BUSY (R272). -/
def State.heldEnded (s : State) (c : Cmd) : Bool := isAppend c.desc && s.moveEnded (c.seq.getD 0)

/-- A command commits if it may. -/
def State.tryCommit (s : State) (id : Nat) : State :=
  match s.cmd id with
  | some c =>
    if s.heldEnded c then (s.endCmd c ⟨stBusy, 0, 0, 0⟩).wake
    else
      match c.stage with
      | .failed st cause r0 r1 => (s.endCmd c ⟨st, cause, r0, r1⟩).wake
      | _ => if s.commitReady c then s.commitCmd c else s
  | none => s

/-- A command whose input turns out bad ends; a ring ATTEND leaves its lap (R67, R71). -/
def State.badInput (s : State) (c : Cmd) (f : Fail) : State :=
  if s.ringed c.id then (((s.leaveLap c.id).endCmd c f).ringStep).wake else (s.endCmd c f).wake

/-- A command with good input goes on: it reserves what waited for the input, it computes, or it looks again. -/
def State.goOn (s : State) (c : Cmd) : State :=
  if lateReserve c.desc then
    match s.opReserve c with
    | .ok (t, c2) => (t.setCmd c2).progress c.id
    | .error f => if isAppend c.desc then s.endAppend c (sidIndex (dSeq c.desc)) f else s.endCmd c f
  else if dOp c.desc = 0x30 then s.computeFind c
  else if s.ringed c.id then (s.setCmd c).ringStep
  else (s.setCmd c).progress c.id

/-- The input of a command has arrived over XNT: its contents are checked, and it goes on (R171, R263). -/
def State.inputArrived (s : State) (id : Nat) (b : List Byte) : State :=
  match s.cmd id with
  | none => s
  | some c =>
    let c1 := { c with input := b, stage := if dOp c.desc = 0x20 ∧ ¬ s.ringed id then .waiting else .planned }
    match s.opTake c1 with
    | some f => s.badInput c f
    | none => (s.goOn c1).wake

/-! ## Tier transfers (R221, R222, R226) -/

/-- A cold page of an ATTEND, a stook or a move was read: it is checked and kept (R33, R226, R300); as an input of an ATTEND it must
be the page that its Page Map entry names (R148, R331). A key page from another node shows its precision only now (R77). -/
def State.doneRead (s : State) (c : Cmd) (j : PageJob) (d : Option PageData) : State :=
  match d with
  | some d =>
    if !s.imageTagOk j.page d then ((s.reportIdentity j.page).bump 0x3500 9).tierFailed c stTierFail 3 j.page
    else if dOp c.desc = 0x20 ∧ (s.page j.page).any (fun e => !d.sameAs e) = true then
      (s.reportIdentity j.page).endCmd c ⟨stPartFail, 0, 0, 0⟩
    else if dOp c.desc = 0x20 ∧ d.kind = 0 ∧ rejects c.desc (fmtBits d.format) then s.endCmd c ⟨stPrecision, 0, 0, 0⟩
    else s.setCmd (c.setJob j.page fun x => { x with data := some d, done := true })
  | none => (s.bump 0x3500 9).tierFailed c stTierFail 3 j.page

/-- The host-tier transfer of one page of a command ends well. -/
def State.transferDone (s : State) (c : Cmd) (j : PageJob) : State :=
  let s1 := match dOp c.desc with
    | 0x40 => s.doneOut c j
    | 0x41 => s.doneIn c j
    | _ => s.doneRead c j ((s.page j.page).bind fun e => s.readImage e e.loc)
  s1.progress c.id

/-- A page's image can be read: it is not SWAPPED, or its domain has its key pair and its region (R219). -/
def State.coldReady (s : State) (page : Nat) : Bool :=
  match s.page page with | some e => e.st != .swapped || s.tierReady e.dom | none => true

/-- A transfer goes as far as its domain's shaper lets its units leave: it ends with the last of them, else it goes on (R315). -/
def State.moveUnits (s : State) (c : Cmd) (j : PageJob) : State :=
  let x := s.crossTier c j
  if x.2 = 0 then (x.1.transferDone c j).wake else x.1.setCmd (c.setJob j.page fun y => { y with left := some x.2 })

/-- The transfer of one page of a command by number: nothing where the command or its open job is gone, where it waits for a page
buffer, or where the page is remote. -/
def State.endTransfer (s : State) (id page : Nat) (ok : Bool) : State :=
  match s.cmd id with
  | none => s
  | some c =>
    match c.jobs.find? fun j => j.page == page && j.buf && !j.done with
    | none => s
    | some j =>
      if (s.page page).map PageEntry.st == some .remote then s
      else if ok && s.dmaOk && !s.rekeying then
        if s.coldReady page then s.moveUnits c j else (s.tierFailed c stTierFail 5 page).wake
      else (s.tierFailed c stTierFail 2 page).wake

/-- The host-tier pages of a command whose transfers are not over; that of a swap-out's page ends with the flushing read (R223,
R227). -/
def State.hostJobs (s : State) (c : Cmd) : List Nat :=
  (c.jobs.filter fun j =>
    if dOp c.desc = 0x40 then !j.clean && !c.flushed
    else c.usesBuf && !j.done && (s.page j.page).map PageEntry.st != some .remote).map PageJob.page

/-- The host link resets: every host-tier transfer in flight fails, and the unit runs of killed commands are free (R218, R223,
R364). -/
def State.failHost (s : State) : State :=
  (((s.sched.cmds.map fun c => (c.id, s.hostJobs c)).foldl (fun t x =>
    match x.2.head?, t.cmd x.1 with
    | some p, some c => t.tierFailed c stTierFail 2 p
    | _, _ => t) s).endLimbo fun _ => true).wake

/-- The flushing read of a swap-out returns (R221); behind one that has ended, its unit runs are free (R218). -/
def State.flushDone (s : State) (id : Nat) : State :=
  match s.cmd id with
  | some c => if c.jobs.all PageJob.done then s.setCmd { c with flushed := true } else s
  | none => s.endLimbo (· == id)

/-- A hold or remote page was read back: a page of a migration, or a cold page of another command (R225, R226). -/
def State.holdRead (s : State) (id page : Nat) (b : List Byte) : State :=
  match s.cmd id with
  | none => s
  | some c =>
    match c.jobs.find? fun j => j.page == page && !j.done, s.page page with
    | some j, some _ =>
      let d := s.parseRaw b
      (if dOp c.desc = 0x42 ∧ !mMove c.desc then s.landJob c j (slice b 0 4096) d else s.doneRead c j d).wake
    | _, _ => s

/-! ## A command run whole (log 4) -/

/-- The flushing read of a swap-out goes to the last unit written (R221). -/
def State.flushRead (s : State) (c : Cmd) : State :=
  match (c.jobs.filter fun j => j.units != 0).getLast? with
  | some j => s.emit (.flushRead (s.num 0x3510 1 c.dom + 4096 * (j.unitAt + j.used - 1)))
  | none => s

/-- The host-tier transfers of a command run to their end. -/
def State.runTransfers (s : State) (id : Nat) : State :=
  match s.cmd id with
  | none => s
  | some c =>
    let s1 := (c.jobs.filter fun j => !j.done).foldl (fun t j => t.endTransfer id j.page true) s
    match s1.cmd id with
    | some c2 => if dOp c2.desc = 0x40 ∧ c2.jobs.all PageJob.done then (s1.flushRead c2).flushDone id else s1
    | none => s1

/-- The stripes of a command that no tile waits for run to their end (R79). -/
def State.runStripes (s : State) (id : Nat) : State :=
  let mine : Item → Bool := fun it => it.cmd == id && it.op != .score
  let s1 := (s.sched.items.filter mine).foldl State.deadTag s
  (s1.modSched fun q => { q with items := q.items.filter fun it => !mine it }).progress id

/-- The items of a command whose inputs are there run to their end: what they held is given back, and those scored on the tile path
are counted (R152, R159). Those of a ring ATTEND run with its lap. -/
def State.runItems (s : State) (id : Nat) : State :=
  match s.cmd id with
  | some c =>
    if c.stage = .planned ∧ ¬ s.ringed id then
      (s.bump 0xB100 0xC ((s.sched.items.filter fun it => it.cmd == id && it.tilePath).length)).dropItems id
    else s
  | none => s

/-- A command run as far as it can go: its transfers, its stripes, its items, its commit. -/
def State.runCmd (s : State) (id : Nat) : State := (((s.runTransfers id).runStripes id).runItems id).tryCommit id

/-- A descriptor of a row of the table: the row's opcode, and the option bits that make it that row's command. -/
def rowDesc (op : Nat) (set clear : BitVec 1024) (d : Desc) : Desc :=
  ((d &&& ~~~(onesAt 0 8)) ||| BitVec.ofNat 1024 op) &&& ~~~clear ||| set

/-- The descriptor at the head of an SQ's ring, in host memory or in its node-side region (R165). -/
def State.ringDesc (s : State) (q : Sq) : Desc :=
  ofBytes 1024 (if sqFabric q.cfg then Memory.readBytes s.nodeMem (q.region + 128 * q.head) 128
    else Memory.readBytes s.hostMem (fld q.cfg 64 64 + 128 * q.head) 128)

/-- An SQ fetches one descriptor, where it holds one that the node may read (R172). -/
def State.fetch (s : State) (n : Nat) : State :=
  match aget s.queues.sqs n with
  | some q =>
    if s.alive && q.st == .active && q.head != q.tail && (sqFabric q.cfg || s.dmaOk) then
      let head := (q.head + 1) % sqDepth q.cfg
      s.modSq n fun x => { x with head := head, fetched := x.fetched ++ [(s.ringDesc q, head)] }
    else s
  | none => s

/-- An SQ fetches what its ring holds, in ring order (R172). -/
def State.fetchAll (s : State) (n : Nat) : Nat → State
  | 0 => s
  | k + 1 => (s.fetch n).fetchAll n k

/-- Descriptors that an SQ's ring holds. -/
def Sq.waiting (q : Sq) : Nat := (q.tail + sqDepth q.cfg - q.head) % sqDepth q.cfg

/-- A descriptor is submitted to a queue and fetched behind those that its ring holds: tail and head advance (R172). An absent
queue, or one that is not ACTIVE, takes none (R168); a HOST queue takes none while the host link gives no doorbell or DMA (R360, R364,
R365). -/
def State.submit (s : State) (sq : Nat) (d : Desc) : State :=
  match aget s.queues.sqs sq with
  | some q =>
    if !sqFabric q.cfg && !s.dmaOk then s
    else if q.st = .active then
      (s.fetchAll sq q.waiting).modSq sq fun x =>
        let head := (x.head + 1) % sqDepth x.cfg
        { x with head := head, tail := (x.tail + 1) % sqDepth x.cfg, fetched := x.fetched ++ [(d, head)] }
    else s.bump 0x4000 8
  | none => s.bump 0x4000 8

/-- The fetched descriptors of a queue, at most `n`, admitted in order and each run as far as it can go; a front one that may not be
admitted holds up those behind it (R172). -/
def State.admitRun (s : State) (sq : Nat) : Nat → State
  | 0 => s
  | n + 1 =>
    match (s.sqOf sq).fetched with
    | (d, _) :: _ => if s.canAdmit sq d then ((s.admitFront sq).runCmd s.sched.nextId).admitRun sq n else s
    | [] => s

/-- A command of a queue: submitted, admitted once it is at the front, and run as far as it can go (log 4). -/
def State.runOp (s : State) (sq : Nat) (d : Desc) : State :=
  let t := s.submit sq d
  t.admitRun sq (t.sqOf sq).fetched.length

/-- A NARROW admitted and run as far as it can go, or answered with its failure (R89). -/
def State.runNarrow (s : State) (dom : Nat) (id : BitVec 64) (plane ord : Nat) : State :=
  let c := s.narrowCmd dom id plane ord
  if !s.alive then s
  else
    match (s.insertCmd { c with desc := 0 }).reserveNarrow c with
    | .error f => s.recodeDone c f
    | .ok (t, c2) => (((t.setCmd c2).progress c.id).runCmd c.id).lowCheck

end Sys2Proof.Machine
end

