-- ==== Sys2Proof/Machine/Shadow.lean ====
section
/-! DEFINITION. The shadow join: start, copying, mirrored commands, takeover and end (R351 to R354, R357; message forms the
manual leaves open: log 28). -/

namespace Sys2Proof.Machine

/-- The session takes a state and posts it (R354). -/
def State.shadowState (s : State) (st : Nat) : State := (s.modShadow fun x => { x with st := st }).shadowNote

/-- Payload of SHADOW_HELLO: the image measurement, both digests, and whether checks 3 and 4 hold here (R351). -/
def State.shadowHelloBytes (s : State) : List Byte :=
  let ds := s.mirroredDoms
  let active := ds.all s.domActive
  let empty := ds.all fun d =>
    (s.seqs.table.all fun p => p.2.dom != d || p.2.st == .free || p.2.st == .retired) && s.masks.objs.all fun o => o.2.dom != d
  padTo 32 s.boot.fwMeas ++ padTo 32 s.prof.digest ++ s.scoreDigest ++ leBytes 1 (b2n active) ++ leBytes 1 (b2n empty)

/-- The checks of R351 of the shadow's hello `h` against the primary's `p`: the first that fails, 0 for none. -/
def shadowCheck (p h : List Byte) : Nat :=
  if slice p 0 32 ≠ slice h 0 32 then 1
  else if slice p 32 64 ≠ slice h 32 64 then 2
  else if slice h 96 1 ≠ leBytes 1 1 then 3
  else if slice h 97 1 ≠ leBytes 1 1 then 4
  else 0

/-- SHADOW_HELLO sent over the QP of the lowest mirrored domain; REASON carries the session's state (log 28). -/
def State.sendShadowHello (s : State) : State :=
  match s.shadowQp with
  | some q => s.sendSvc q (svcHdr 0x30 s.shadow.st 0 0 0 0 0) s.shadowHelloBytes
  | none => s

/-! ## Copying -/

/-- The sequences that the primary copies (R352). -/
def State.shadowable (s : State) : List Nat :=
  (s.seqs.table.filter fun p =>
    (s.mirrorQp p.2.dom).isSome && (p.2.st == .open_ || p.2.st == .stalled) && seqIdOf p.1 p.2 != s.ring.seqId
      && p.2.handles.all fun h => match s.page h.2 with | some x => x.inHbm | none => false).map Prod.fst

/-- The next sequence offered with REASON 1, or MIRRORING once none is left (R352). -/
def State.copyNext (s : State) : State :=
  if s.shadow.st ≠ 1 ∨ s.shadow.isShadow ∨ s.xnt.moves.any MoveSt.shadow then s
  else
    match s.shadow.copying with
    | [] => (s.shadowState 2).sendShadowHello
    | i :: r =>
      let e := s.seq i
      let s1 := s.modShadow fun x => { x with copying := r }
      match s.mirrorQp e.dom with
      | some q =>
        (s1.sendSvc q (svcHdr 8 1 (i % 65536) (s.projected i none).handles.length (seqIdOf i e) 0 0) []).modXnt fun x =>
          { x with moves := x.moves ++ [{ seq := i, node := s.num 0x8400 2, qp := q, shadow := true }] }
      | none => s1

/-- The shadow is ready for a copy: its images and MOVE_FINAL go out, and from now on its commands are mirrored (R352). -/
def State.copyReady (s : State) (m : MoveSt) (tag : Nat) : State :=
  match s.sendMove m tag [] with
  | some t =>
    (t.setMove m.seq true fun x => { x with final := true }).modShadow fun x =>
      { x with seqs := x.seqs ++ [seqIdOf m.seq (s.seq m.seq)] }
  | none => s.shadowFail 3

/-- A copy has been built at the shadow (R352). -/
def State.copyDone (s : State) (m : MoveSt) : State :=
  (s.modXnt fun x => { x with moves := x.moves.filter fun y => ¬ (y.seq = m.seq ∧ y.shadow) }).copyNext

/-- A live mask object as the mirrored MASK_PUT that would make it (R352). -/
def maskCopy (h : Nat) (o : MaskObj) : Cmd × BitVec 256 :=
  let input := leBytes 64 o.hdr.toNat ++ o.body
  ({ desc := BitVec.ofNat 1024 (0x50 + input.length * 2 ^ 192 + 2 ^ 224), input := input },
    completion 0 0 0 stOk 0 0 (h + o.gen * 65536) 0)

/-- The mask objects of the mirrored domains sent (R352). -/
def State.copyMasks (s : State) : State :=
  s.masks.objs.foldl (fun t o =>
    match t.mirrorQp o.2.dom with
    | some q => let (c, e) := maskCopy o.1 o.2; t.sendMirror q c e
    | none => t) s

/-! ## START (R351) -/

/-- The primary's part of START: the four checks, then COPYING. -/
def State.startPrimary (s : State) : Except Fail State :=
  let k := shadowCheck s.shadowHelloBytes s.shadow.hello
  if k ≠ 0 then .error ⟨stBadParam, 0xFF, 0, k⟩
  else
    let s1 := (s.modShadow fun x => { x with startCheck := 0, isShadow := false, matched := 0, dropped := 0, seqs := [],
                                             failCause := 0, failSeq := 0, lag := 0, hello := [], started := false })
    let s2 := (s1.shadowState 1).sendShadowHello.copyMasks
    .ok ((s2.modShadow fun x => { x with copying := s2.shadowable }).copyNext)

/-- SHADOW_OP START: the node started first becomes the shadow and sends its hello; the one that holds a hello becomes the
primary and checks it. -/
def State.shadowStart (s : State) : Except Fail State :=
  if s.shadow.st ≠ 0 ∨ s.shadow.started then .error ⟨stBusy, 0, 0, 0⟩
  else
    match s.shadowQp with
    | none => .error ⟨stBadParam, 0xFF, 0, 0⟩
    | some q =>
      if (s.qp q).st ≠ .rts then .error ⟨stBadParam, 0xFF, 0, 0⟩
      else if s.shadow.hello.isEmpty then
        .ok ((s.modShadow fun x => { x with isShadow := true, started := true, startCheck := 0 }).sendShadowHello)
      else s.startPrimary

/-- A failed START: SHADOW_STATUS names the check, and the hello lets the shadow find the same (R351, R357). -/
def State.shadowStartFailed (s : State) (k : Nat) : State :=
  (s.modShadow fun x => { x with startCheck := k, hello := [] }).sendShadowHello

/-- SHADOW_HELLO received over the QP of the lowest mirrored domain (R351): a started shadow checks the primary's and enters COPYING,
then follows its states; another node keeps it for its own START. One on any other QP changes nothing. -/
def State.shadowHello (s : State) (qp reason : Nat) (payload : List Byte) : State :=
  if s.shadowQp ≠ some qp then s
  else if s.shadow.started then
    let k := shadowCheck payload s.shadowHelloBytes
    let s1 := s.modShadow fun x => { x with started := false, startCheck := k, matched := 0, dropped := 0, seqs := [],
                                            failCause := 0, failSeq := 0 }
    if k = 0 then s1.shadowState 1 else s1
  else if s.shadowOn && s.shadow.isShadow then
    if reason = 2 ∧ s.shadow.st = 1 then s.shadowState 2 else s
  else s.modShadow fun x => { x with hello := padTo 98 payload }

/-! ## Mirroring (R353, R354) -/

/-- READY at SHADOW_COUNT matches (R352). -/
def State.shadowReady (s : State) : State :=
  if s.shadow.st = 2 ∧ s.num 0x8400 3 ≤ s.shadow.matched then s.shadowState 3 else s

/-- The shadowed sequences set to a state, while a mirrored command runs. -/
def State.setShadowed (s : State) (src dst : SeqSt) : State :=
  (s.shadow.seqs.map sidIndex).foldl (fun t i => if (t.seq i).st = src then t.setSeq i { t.seq i with st := dst } else t) s

/-- The Sequence ID or mask handle that a mirrored command adopts (R353). -/
def adoptedOf (d : Desc) (e : BitVec 256) : Option (BitVec 64) :=
  if dOp d = 1 ∨ dOp d = 2 ∨ (dOp d = 0x50 ∧ maskOp d = 0) then some (e.extractLsb' 128 64) else none

/-- An adopted mask handle is not free (R354). -/
def State.adoptBusy (s : State) (d : Desc) (e : BitVec 256) : Bool :=
  match adoptedOf d e with
  | some h =>
    if dOp d = 0x50 then (aget s.masks.objs (fld h 0 16)).isSome
    else !(s.seqFree (sidIndex h) && decide ((s.seq (sidIndex h)).gen ≤ sidGen h))
  | none => false

/-- SHADOW_CMD run: steps 2 and 3 of R173 are skipped, the priority is 8, and the command runs to its end (R352, R353). -/
def State.runMirror (s : State) (qp tag : Nat) (payload : List Byte) : State :=
  let d : Desc := ofBytes 1024 (slice payload 0 128)
  let e : BitVec 256 := ofBytes 256 (slice payload 128 32)
  let dom := (s.qp qp).dom
  let w := s.takeEntries dom
  let c : Cmd := { id := s.sched.nextId, sq := 65536, cq := 65536, dom := dom, cls := 3, prio := 8, desc := d,
                   input := payload.drop 176, adopted := adoptedOf d e, tag := tag, waitLimit := w.num 0x4000 7
                   scoreRows := w.num 0xB100 4, leavesMax := w.num 0xB100 5, fanout := w.num 0xB100 6 }
  if s.adoptBusy d e then s.shadowFail 2
  else
    let s0 := w.setShadowed .shadowed .open_
    match (s0.opCheck c).or (s0.opTake c) with
    | some _ => (s0.setShadowed .open_ .shadowed).shadowFail 3
    | none =>
      match (s0.insertCmd { c with desc := 0, input := [] }).opReserve c with
      | .error _ => (s0.setShadowed .open_ .shadowed).shadowFail 3
      | .ok (t, c2) =>
        let t1 := (t.setCmd c2).modShadow fun x => { x with sentDigests := aput x.sentDigests c.id (slice payload 160 16) }
        let t2 := (t1.progress c.id).runCmd c.id
        let id : BitVec 64 := e.extractLsb' 128 64
        let t3 := t2.modShadow fun x =>
          { x with seqs := if dOp d = 1 ∨ dOp d = 2 then x.seqs ++ [id]
                           else if dOp d = 4 then x.seqs.filter (· ≠ dSeq d) else x.seqs }
        if t3.shadowOn then (t3.setShadowed .open_ .shadowed).shadowReady
        else (t3.setShadowed .open_ .shadowed).shadowScrub

/-- A QP is the one over which its domain is mirrored (R351): the session's messages for a domain come over no other (R270, R296). -/
def State.mirrorsOn (s : State) (qp : Nat) : Bool := s.mirrorQp (s.qp qp).dom == some qp

/-- SHADOW_CMD received: a command to run at the shadow, or, with COUNT 1, the shadow's answer at the primary (log 28). -/
def State.shadowCmd (s : State) (qp tag count : Nat) (payload : List Byte) : State :=
  if !s.shadowOn || !s.mirrorsOn qp then s
  else if s.shadow.isShadow then if count = 0 then s.runMirror qp tag payload else s
  else if count = 1 then
    (s.modShadow fun x => { x with matched := x.matched + 1, lag := x.lag - 1 }).shadowReady
  else s

/-! ## Takeover and end (R352) -/

/-- SHADOW_COMMIT at the shadow: the shadowed sequences of that QP's domain are OPEN; the session is DONE with the last. -/
def State.shadowCommit (s : State) (qp : Nat) : State :=
  if s.shadowOn && s.shadow.isShadow && s.mirrorsOn qp then
    let d := (s.qp qp).dom
    let l := s.shadow.seqs.filter fun id => sidDom id == d
    let s1 := l.foldl (fun t id =>
      let i := sidIndex id
      if (t.seq i).st = .shadowed then t.setSeq i { t.seq i with st := .open_ } else t) s
    let s2 := s1.modShadow fun x => { x with seqs := x.seqs.filter fun id => sidDom id != d }
    if s2.shadow.seqs.isEmpty then s2.shadowState 5 else s2
  else s

/-- SHADOW_END received: one sequence of the QP's domain leaves the session, or, over the session's own QP, the session has failed at
the peer (R352, R353). -/
def State.shadowEnd (s : State) (qp reason count : Nat) (id : BitVec 64) : State :=
  if !s.shadowOn || !s.mirrorsOn qp then s
  else if count = 1 then
    if s.shadow.isShadow && sidDom id == (s.qp qp).dom && s.shadow.seqs.contains id then
      let i := sidIndex id
      let s1 := if (s.seq i).st = .shadowed then s.closeSeq i else s
      s1.modShadow fun x => { x with seqs := x.seqs.filter (· ≠ id), dropped := x.dropped + 1 }
    else s
  else if s.shadowQp ≠ some qp then s
  else s.shadowFail (if reason = 0 then 5 else reason)

/-- A redirect record reserved for each of a number of sequences (R21). -/
def State.takeRecords (s : State) : Nat → Option State
  | 0 => some s
  | n + 1 => (s.reserveRedirect s.sched.nextId).bind fun t => t.takeRecords n

/-- SHADOW_OP TAKEOVER, written to a READY primary: every shadowed sequence makes the commit of R22 with the shadow as its target
(R352). Where the redirect table has no record for all of them it is busy before any work, as a move is (R21, log 119). -/
def State.shadowTakeover (s : State) : Except Fail State :=
  let live := s.shadow.seqs.filter fun id => seqIdOf (sidIndex id) (s.seq (sidIndex id)) == id
  if s.shadow.st ≠ 3 ∨ s.shadow.isShadow then .error ⟨stBusy, 0, 0, 0⟩
  else
    match s.takeRecords live.length with
    | none => .error ⟨stBusy, 0, 0, 0⟩
    | some t =>
      let s1 := (t.modSeqs fun q => { q with moveReserved := q.moveReserved.filter (· ≠ s.sched.nextId) }).shadowState 4
      let s2 := s1.mirroredDoms.foldl (fun u d => match u.mirrorQp d with
        | some q => u.sendSvc q (svcHdr 0x32 0 0 0 0 0 0) []
        | none => u) s1
      let s3 := live.foldl (fun u id => u.moveOut { seq := sidIndex id, node := s.num 0x8400 2 }) s2
      .ok ((s3.modShadow fun x => { x with seqs := [] }).shadowState 5)

/-- SHADOW_OP ABANDON (R352, R357). -/
def State.shadowAbandon (s : State) : Except Fail State :=
  if s.shadow.started then .ok (s.modShadow fun x => { x with started := false, hello := [] })
  else if s.shadowOn then .ok (s.shadowFail 7) else .error ⟨stBusy, 0, 0, 0⟩

/-- SHADOW_OP RESET: a session that has ended returns to IDLE (R352). -/
def State.shadowReset (s : State) : Except Fail State :=
  if s.shadow.st = 5 ∨ s.shadow.st = 6 then .ok (s.modShadow fun _ => {}) else .error ⟨stBusy, 0, 0, 0⟩

end Sys2Proof.Machine
end

