-- ==== Sys2Proof/Machine/Units.lean ====
section
/-! DEFINITION. Lost slots, detections, and the retirement of awns, tiles and channels with their spares (R97, R104 to R109,
R155 to R160, R338, R344). -/

namespace Sys2Proof.Machine

/-! ## Lost and withdrawn slots (R97) -/

/-- A command has still to read or write a page: an ATTEND with work left, a lap's seal without its stook, a transfer, a write, or
the source of a copy. -/
def State.needsPage (s : State) (c : Cmd) (p : Nat) : Bool :=
  (dOp c.desc == 0x20 && c.reads.contains p && (c.stage != .planned || s.sched.items.any fun it => it.cmd == c.id))
    || (s.ring.fence == some c.id && s.ring.own.isEmpty && c.reads.contains p)
    || c.jobs.any (fun j => j.page == p && !j.done) || (c.writes.any fun w => w.copied == some p)
    || ((isAppend c.desc || dOp c.desc == 0xF0) && (s.touches c).contains p)

/-- A command fails with ST_PART_FAIL; one of the open lap aborts it (R14, R97, R290). -/
def State.failPart (s : State) (id : Nat) : State :=
  match s.cmd id with
  | some c => if s.ringed id || s.ring.fence == some id then s.detectAbort 5 none else s.endCmd c ⟨stPartFail, 0, 0, 0⟩
  | none => s

/-- Commands fail with ST_PART_FAIL; those that waited for them look again. -/
def State.failParts (s : State) (l : List Nat) : State := if l.isEmpty then s else (l.foldl State.failPart s).wake

/-- The units of landing regions in a slot are not there any more: verification will find them missing (R271). -/
def State.unbindSlot (s : State) (n : Nat) : State :=
  let hit := (s.xnt.landings.flatMap Landing.binds).filter fun b => b.2.2 == n
  ((s.modXnt fun x =>
      { x with landings := x.landings.map fun l => { l with binds := l.binds.filter fun b => b.2.2 ≠ n } }).modPages fun p =>
    { p with reservedIdx := p.reservedIdx.filter fun i => !(hit.any fun b => b.2.1 == i) }).queueScrub n []

/-- A slot is lost: it enters the lost-slot log, and the commands that would read or write its page fail. A free slot is
scrubbed (R97). -/
def State.loseSlot (s : State) (n : Nat) : State :=
  if s.pages.lost.contains n then s
  else
    let s1 := s.modPages fun p => { p with lost := p.lost ++ [n] }
    match aget s.pages.use n with
    | none => s1.queueScrub n []
    | some (.page p) => s1.failParts ((s1.sched.cmds.filter fun c => s1.needsPage c p).map Cmd.id)
    | some (.reserved id) => ((s1.failPart id).queueScrub n []).wake
    | some (.landing _) => s1.unbindSlot n
    | some _ => s1

/-- The free slots of a range withdrawn from allocation. -/
def State.withdraw (s : State) (lo n : Nat) : State :=
  s.modPages fun p =>
    let mid := (List.range n).map fun k => (lo + k, (aget p.use (lo + k)).getD .withdrawn)
    { p with use := p.use.filter (fun u => decide (u.1 < lo)) ++ mid ++ p.use.filter fun u => decide (lo + n ≤ u.1) }

/-- What the slots of a range are doing. -/
def State.useIn (s : State) (lo n : Nat) : List (Nat × SlotUse) :=
  s.pages.use.filter fun u => decide (lo ≤ u.1) && decide (u.1 < lo + n)

/-- A reserved slot already holds data of its command: a page landed there. -/
def State.landedIn (s : State) (u : Nat × SlotUse) : Bool :=
  match u.2 with
  | .reserved id => match s.cmd id with
    | some c => c.jobs.any fun j => j.slot == some u.1 && j.data.isSome
    | none => false
  | _ => false

/-- The data in a range of slots is lost: pages, landed images and landing units (R97, R106). -/
def State.loseData (s : State) (lo n : Nat) : State :=
  ((s.useIn lo n).filter fun u => s.landedIn u || match u.2 with | .page _ => true | .landing _ => true | _ => false).foldl
    (fun t u => t.loseSlot u.1) s

/-- A range of slots is lost for good: its data, the commands that hold reservations in it, and its slots (R97, R106). -/
def State.loseRange (s : State) (lo n : Nat) : State :=
  let s1 := s.loseData lo n
  let ids := ((s1.useIn lo n).filterMap fun u => match u.2 with | .reserved id => some id | _ => none).eraseDups
  (s1.failParts ids).withdraw lo n

/-! ## Channels (R106, R108) -/

/-- The spare channel that a retirement takes: the lower one that is in service and not used (R106). -/
def State.spareChan (s : State) (stack : Nat) : Option Nat :=
  [32, 33].find? fun p =>
    !s.chanGone stack p && (s.logChan stack p).isNone && !(s.awns.chanCopies.any fun c => c.1 == stack && c.2.2 == p)

/-- A logical channel served by another physical one. -/
def State.mapChan (s : State) (stack l p : Nat) : State :=
  s.modAwns fun a =>
    { a with
        chanMap := a.chanMap.filter (fun m => ¬ (m.1 = stack ∧ m.2.1 = l)) ++ [(stack, l, p)]
        chanCopies := a.chanCopies.filter fun c => ¬ (c.1 = stack ∧ c.2.1 = l) }

/-- CHANNEL_RETIRED (R338, R343). -/
def State.chanEvent (s : State) (stack p : Nat) (spare : Option Nat) : State :=
  s.note 0x010F none (0x100 + stack) (chanUnit stack p) [chanUnit stack p, spare.getD 0xFF]

/-- Predictive retirement: the channel is copied to a spare; without one it stays in service (R106). -/
def State.predictChan (s : State) (stack l : Nat) : State :=
  if s.awns.chanCopies.any fun c => c.1 == stack && c.2.1 == l then s
  else
    match s.spareChan stack with
    | some p =>
      (s.modAwns fun a => { a with chanCopies := a.chanCopies ++ [(stack, l, p)] }).chanEvent stack (s.physChan stack l) (some p)
    | none => s

/-- The copy has ended: the map switches while no stripe runs on the channel (R106). -/
def State.switchChan (s : State) (stack l : Nat) : State :=
  match s.awns.chanCopies.find? fun c => c.1 == stack && c.2.1 == l with
  | some c =>
    if s.chanBusy stack l then s
    else (s.modAwns fun a => { a with chanDead := a.chanDead ++ [(stack, s.physChan stack l)] }).mapChan stack l c.2.2
  | none => s

/-- Sudden loss of a channel: its pages are lost, and a spare channel is mapped in scrubbed, or its slots are withdrawn
(R106). -/
def State.loseChan (s : State) (stack l : Nat) : State :=
  let p := s.physChan stack l
  if s.chanGone stack p then s
  else
    let lo := bpBase stack l 0
    let copy := (s.awns.chanCopies.find? fun c => c.1 == stack && c.2.1 == l).map fun c => c.2.2
    let spare := copy.or (s.spareChan stack)
    let s1 := s.modAwns fun a => { a with chanDead := a.chanDead ++ [(stack, p)] }
    let s2 := match spare with
      | some q => (s1.loseData lo 57344).mapChan stack l q
      | none => s1.loseRange lo 57344
    s2.chanEvent stack p spare

/-! ## Awns (R104, R105, R109) -/

/-- An AWN_SELECT value names an awn (R108). -/
def awnExists (u : Nat) : Bool := decide (u = awnUnit (uStack u) (uChan u) (uAwn u)) && decide (uStack u < 12)
  && decide (uChan u < 34) && decide (uAwn u < 34)

/-- STATE of an awn as AWN_STATUS shows it (R109). -/
def State.awnState (s : State) (u : Nat) : Nat :=
  let x := s.awn u
  if x.st ≠ 2 ∧ (s.logChan (uStack u) (uChan u)).isNone then 3 else x.st

/-- Commands with stripes left on bank pairs that no awn serves (R105). -/
def State.deadWork (s : State) : List Nat :=
  ((s.sched.items.filter fun it => it.st != .ended
      && s.stripesDead (if it.issues then it.stripes.filterMap fun n => it.slots[n]? else it.slots)).map Item.cmd).eraseDups

/-- R105: a group without a working awn. Its free slots are withdrawn; its pages are lost for the stripes of awns, so that the
commands which have some there fail, and are read on through the ordinary path. -/
def State.groupLost (s : State) (stack p g : Nat) : State :=
  match s.logChan stack p with
  | some l => let s1 := (s.withdraw (bpBase stack l (16 * g)) 28672).lowCheck; s1.failParts s1.deadWork
  | none => s

/-- An awn retired: AWN_RETIRED names the spare that will take its place, GROUP_CRITICAL follows when fewer than 8 awns of the
group work, and R105 when none does. Its bank pair waits for SPARE_MAP (R104, R107, R338). -/
def State.retireAwn (s : State) (u : Nat) : State :=
  if !awnExists u ∨ (s.awn u).st = 2 then s
  else
    let g := awnGroup (uAwn u)
    let p := uChan u
    let st := uStack u
    let spare := awnUnit st p (32 + g)
    let s1 := s.modAwn u fun x => { x with st := 2 }
    let isl := 0x100 + st
    let s2 := s1.note 0x010D none isl u [u, if (s1.awn spare).st = 1 then 32 + g else 0xFF]
    let left := (s2.groupWorking st p g).length
    let s3 := if left = 7 then s2.note 0x0104 none isl u [left] else s2
    if left = 0 then s3.groupLost st p g else s3

/-- One bank pair of a retired awn mapped to the group's spare, or to the lowest working awn that serves only its own; further
pairs go to the lowest working awn (R104). -/
def State.mapPair (s : State) (u bp : Nat) : State :=
  let g := awnGroup (uAwn u)
  let at_ := awnUnit (uStack u) (uChan u)
  let spare := at_ (32 + g)
  if bp = 63 then s
  else if (s.awn spare).st = 1 then s.modAwn spare fun x => { x with st := 0, servesA := bp }
  else
    let w := s.groupWorking (uStack u) (uChan u) g
    match w.find? fun a => (s.awn (at_ a)).servesB == 63 with
    | some a =>
      let first := !(groupAwns g).any fun b => (s.awn (at_ b)).borrowed
      let s1 := s.modAwn (at_ a) fun x => { x with borrowed := true, servesB := bp }
      if first then s1.note 0x0103 none (0x100 + uStack u) u [w.length] else s1
    | none => s

/-- SPARE_MAP of an awn, at a stripe boundary of its bank pairs (R104, R107). -/
def State.mapAwn (s : State) (u : Nat) : State :=
  let x := s.awn u
  let busy := match s.logChan (uStack u) (uChan u) with
    | some l => s.bpBusy (uStack u) l x.servesA || s.bpBusy (uStack u) l x.servesB
    | none => false
  if x.st ≠ 2 ∨ busy = true then s
  else ((s.modAwn u fun y => { y with servesA := 63, servesB := 63, borrowed := false }).mapPair u x.servesA).mapPair u x.servesB

/-! ## Tiles (R157, R158) -/

/-- The lowest idle spare of a tile's field, else of any field (R157). -/
def State.spareTile (s : State) (t : Nat) : Option Nat :=
  let idle := (List.range 72).filter fun k => (s.tile k).st == 1 && !(s.tile k).testing
  (idle.find? fun k => k / 24 == t / 24).or idle.head?

/-- The items on a physical tile. -/
def State.itemsOn (s : State) (t : Nat) : List Item := s.sched.items.filter fun it => it.onTile && s.physTile it.tile == t

/-- The collections homed on a physical tile are discarded, and every item of their row sets is re-run (R355). -/
def State.dropHomed (s : State) (t : Nat) : State :=
  let homed := s.sched.collects.filter fun c => s.physTile c.tile == t
  let hit : Item → Bool := fun it => homed.any fun c => c.holds it
  let s1 := s.requeueAll (s.sched.items.filter fun it => it.onTile && hit it)
  (s1.modSched fun q => { q with items := q.items.map fun it => if it.st == .ended && hit it then { it with st := .waiting } else it })
    |>.dropCollects fun c => s.physTile c.tile == t

/-- A tile retired: its items are killed and requeued, its collections discarded; TILE_RETIRED names the spare (R157, R338). -/
def State.retireTile (s : State) (t : Nat) : State :=
  if 72 ≤ t ∨ (s.tile t).st = 2 then s
  else
    let s1 := (s.requeueAll (s.itemsOn t)).dropHomed t
    let s2 := s1.modTile t fun x => { x with st := 2 }
    s2.note 0x010E none t t [t, if (s2.tile t).logical.isSome then (s2.spareTile t).getD 0xFF else 0xFF]

/-- SPARE_MAP of a tile: the spare takes its logical number; without one GROUP_MAP reads 0xFF (R157, R158). -/
def State.mapTile (s : State) (t : Nat) : State :=
  match (s.tile t).logical with
  | none => s
  | some l =>
    if (s.tile t).st ≠ 2 then s
    else
      let s1 := s.modTile t fun x => { x with logical := none }
      match s.spareTile t with
      | some p =>
        (s1.modTile p fun x => { x with st := 0, logical := some l }).modTiles fun q => { q with groupMap := q.groupMap.set l p }
      | none => (s1.modTiles fun q => { q with groupMap := q.groupMap.set l 255 }).note 0x0105 none t t [l / 4]

/-! ## Detections (R338, R344) -/

/-- Temperature band of R344; temperatures are in 1/16 °C. -/
def tempBand (t : Int) : Nat :=
  if t < 640 then 0 else if t < 880 then 1 else if t < 1120 then 2 else if t < 1360 then 3 else if t < 1520 then 4
  else if t < 1680 then 5 else if t < 1840 then 6 else 7

/-- Load class of a LOAD_SIG (R341, R344). -/
def loadClass (l : BitVec 32) : Nat :=
  if 128 ≤ fld l 8 8 then 3 else if fld l 0 8 < 64 then 0 else if fld l 0 8 < 192 then 1 else 2

/-- One detection in a unit's histogram (R344). -/
def State.histAdd (s : State) (island unit : Nat) (load : BitVec 32) : State :=
  let k := unitKey island unit
  let h := (aget s.faults.hist k).getD (List.replicate 32 0)
  s.modFaults fun q =>
    { q with hist := aput q.hist k (h.modify (4 * tempBand (s.islandTemp island) + loadClass load) fun n => Nat.min 65535 (n + 1)) }

/-- Detections of a source against a unit within a window of collector time (R338, R342). -/
def State.detectsWithin (s : State) (src island unit window : Nat) : Nat :=
  (s.faults.detects.filter fun d =>
    d.source == src && d.island == island && d.unit == unit && decide (s.faults.time < d.time + window)).length

/-- A detection kept: in the histogram and, unless it was injected, towards retirement (R338, R344, R345). -/
def State.detect (s : State) (src island unit : Nat) (load : BitVec 32) (injected : Bool) : State :=
  let s1 := s.histAdd island unit load
  if injected then s1
  else s1.modFaults fun q => { q with detects := q.detects ++ [⟨src, island, unit, q.time⟩] }

/-- RETIRE_WINDOW in collector time, whose unit is 100 µs (log 16). -/
def State.retireWindow (s : State) : Nat := 10 * s.num 0x8000 0xC

/-- One more in an 8-bit count that saturates (R109, R160). -/
def sat8 (n : Nat) : Nat := Nat.min 255 (n + 1)

/-- A detection against an awn, which is retired at AWN_RETIRE_DETECTIONS within RETIRE_WINDOW (R86, R338). -/
def State.detectAwn (s : State) (u : Nat) (load : BitVec 32) (injected : Bool) : State :=
  let isl := 0x100 + uStack u
  let s1 := (s.detect 0x04 isl u load injected).modAwn u fun x => { x with detections := sat8 x.detections }
  if s1.num 0x8000 0xA ≤ s1.detectsWithin 0x04 isl u s1.retireWindow then s1.retireAwn u else s1

/-- A detection against a tile (R156, R338). -/
def State.detectTile (s : State) (t : Nat) (load : BitVec 32) (injected : Bool) : State :=
  let s1 := ((s.detect 0x06 t t load injected).bump 0xB100 8).modTile t fun x => { x with detections := sat8 x.detections }
  if s1.num 0x8000 0xB ≤ s1.detectsWithin 0x06 t t s1.retireWindow then s1.retireTile t else s1

/-- A corrected error of a channel; at CHANNEL_CE_LIMIT within CHANNEL_CE_WINDOW the channel is retired predictively (R106,
R338). -/
def State.detectChan (s : State) (stack l : Nat) (load : BitVec 32) (injected : Bool) : State :=
  let isl := 0x100 + stack
  let u := chanUnit stack (s.physChan stack l)
  let s1 := s.detect 0x00 isl u load injected
  let copying := s1.awns.chanCopies.any fun c => c.1 == stack && c.2.1 == l
  if !copying ∧ s1.num 0x8000 0xD ≤ s1.detectsWithin 0x00 isl u (10000 * s1.num 0x8000 0xE) then
    (s1.raise 0x02 isl u none [] injected fun _ t => t.predictChan stack l)
  else s1

/-- An awn fails a sweep: a detection against it, and its retirement (R87, R109). -/
def State.sweptAwn (s : State) (u : Nat) (load : BitVec 32) (injected : Bool) : State :=
  ((s.detect 0x05 (0x100 + uStack u) u load injected).modAwn u fun x => { x with detections := sat8 x.detections }).retireAwn u

/-- A tile fails a sweep: a detection against it, and its retirement (R155, R160). -/
def State.sweptTile (s : State) (t : Nat) (load : BitVec 32) (injected : Bool) : State :=
  ((s.detect 0x07 t t load injected).modTile t fun x => { x with detections := sat8 x.detections }).retireTile t


/-- The patrol finds a suspect slot faulty: the detections made for it are withdrawn from their units (R337). -/
def State.undetect (s : State) (slot : Nat) : State :=
  let units := ((s.pages.suspects.filter fun x => x.1 == slot).map Prod.snd).filter (· ≠ noUnit)
  units.foldl (fun t k =>
    let isl := k % 2 ^ 16
    let u := k / 2 ^ 16
    let hit : Detect → Bool := fun d => d.island == isl && d.unit == u
    let old := (t.faults.detects.filter hit).getLast?
    let t1 := t.modFaults fun q => { q with detects := match old with | some d => q.detects.erase d | none => q.detects }
    if isl < 72 then t1.modTile isl fun x => { x with detections := x.detections - 1 }
    else t1.modAwn u fun x => { x with detections := x.detections - 1 }) s

/-- A slot queued for CRC verification, with the unit that the detection was counted against (R86, R156, R337). -/
def State.suspect (s : State) (slot island unit : Nat) : State :=
  s.modPages fun p => { p with suspects := p.suspects ++ [(slot, unitKey island unit)] }

end Sys2Proof.Machine
end

