-- ==== Sys2Proof/Machine/Window.lean ====
section
/-! DEFINITION. The inspection window: reads, writes, and the bank pairs they wait for (R88, R93, R94, R98, R100, R101, R360,
R362). -/

namespace Sys2Proof.Machine

/-- The page slot that a window offset addresses (R98, R100). -/
def State.winSlot (s : State) (off : Nat) : Option Nat :=
  match (winFrame off).bind (aget s.win.frames) with
  | some p =>
    match s.page p with
    | some e => if e.st = .hostView then some e.loc else none
    | none => none
  | none => none

/-- The stored line at a window offset of a slot: payload below 56 GiB, side record above (R98). -/
def State.winLine (s : State) (off slot : Nat) : List Byte :=
  let d := s.slotData slot
  if off < 0xE00000000 then slice d.full (off % 32768) 64 else slice (d.sideRecord s.pr) (off % 4096) 64

/-- A read answered with poison (R100). -/
def State.poison (s : State) : State := (s.bump 0x3300 4).emit .cxlPoison

/-- An uncorrected array error in a slot: counted, reported, and the slot is lost (R88, R97). -/
def State.arrayUe (s : State) (slot : Nat) (injected : Bool) : State :=
  let page := match aget s.pages.use slot with | some (.page p) => some p | _ => none
  let dom := (page.bind s.page).map PageEntry.dom
  let u := chanUnit (slotStack slot) (s.physChan (slotStack slot) (slotChan slot))
  (s.bump 0xB000 9).raise 0x01 (0x100 + slotStack slot) u dom (s.pageDetail page) injected fun _ t => t.loseSlot slot

/-- A corrected array error in a slot: counted against its channel (R88, R338). -/
def State.arrayCe (s : State) (slot : Nat) (injected : Bool) : State :=
  let page := match aget s.pages.use slot with | some (.page p) => some p | _ => none
  let dom := (page.bind s.page).map PageEntry.dom
  let st := slotStack slot
  (s.bump 0xB000 8).raise 0x00 (0x100 + st) (chanUnit st (s.physChan st (slotChan slot))) dom (s.pageDetail page) injected
    fun l t => t.detectChan st (slotChan slot) l injected

/-- A window read served (R94, R100). -/
def State.serveRead (s : State) (off : Nat) (ue : Bool) : State :=
  match s.winSlot off with
  | some n =>
    if s.pages.lost.contains n then s.poison
    else if ue then (s.arrayUe n false).poison
    else s.emit (.cxlData (s.winLine off n))
  | none => s.poison

/-- The reads that wait for a bank pair served, ahead of its next stripe (R94). -/
def State.serveReads (s : State) (stack ch bp : Nat) : State :=
  let here : Nat × Bool → Bool := fun r =>
    match s.winSlot r.1 with
    | some n => slotStack n == stack && slotChan n == ch && slotBp n == bp
    | none => true
  (s.win.reads.filter here).foldl (fun t r => t.serveRead r.1 r.2)
    (s.modWin fun w => { w with reads := w.reads.filter fun r => !here r })

/-- The window offset of an address under the committed decoder (R362). -/
def State.winOffset (s : State) (addr : Nat) : Option Nat :=
  match s.link.decoder with
  | some b => if b ≤ addr ∧ addr < b + 2 ^ 36 then some (addr - b) else none
  | none => none

/-- CXL.mem read of one line (R94, R100, R360, R362). An address that the decoder does not claim is not the node's. -/
def State.memRead (s : State) (addr : Nat) (ue : Bool) : State :=
  match s.winOffset addr with
  | none => s
  | some o =>
    let off := o / 64 * 64
    if !s.linkFull then s
    else if s.boot.st ≠ .running then s.poison
    else
      match s.winSlot off with
      | some n =>
        if s.bpIdle (slotStack n) (slotChan n) (slotBp n) then s.serveRead off ue
        else s.modWin fun w => { w with reads := w.reads ++ [(off, ue)] }
      | none => s.poison

/-- CXL.mem write: it completes, its data is discarded and counted (R101). -/
def State.memWrite (s : State) (addr : Nat) : State :=
  match s.winOffset addr with
  | none => s
  | some _ => if s.linkFull then (s.bump 0x3300 3).emit .cxlWriteDone else s

/-- CXL_MEM_READ (R100). -/
def execCxlMemRead (addr : BitVec 64) (uncorrected : Bool) (s : State) : Host.Outcome State Fault Refusal :=
  s.seal (s.memRead addr.toNat uncorrected)

/-- CXL_MEM_WRITE (R101): the data reaches no page. -/
def execCxlMemWrite (addr : BitVec 64) (_data : BitVec 512) (s : State) : Host.Outcome State Fault Refusal :=
  s.seal (s.memWrite addr.toNat)

end Sys2Proof.Machine
end

