-- ==== Sys2Proof/Machine/Items.lean ====
section
/-! DEFINITION. Stripes as they end, work items on the tiles, sheaves, turns and pre-emption (R79 to R96, R143 to R156, R188 to R194,
R309 to R312), and the events that advance them. -/

namespace Sys2Proof.Machine

/-! ## Bank pairs (R93, R94) -/

/-- A bank pair has no stripe running any more: a due refresh or refresh-management command comes first, then the window
reads, then the next stripes (R93, R94). Both commands due at one boundary run as one refresh (log 122). -/
def State.boundary (s : State) (stack ch bp : Nat) : State :=
  let r := s.refreshOf stack ch bp
  if s.bpBusy stack ch bp then s
  else if r.running then s
  else if r.due ∨ r.management then s.setRefresh stack ch bp { running := true }
  else (s.serveReads stack ch bp).pump stack

/-- The commands of R93 issued to a bank pair: at once where no stripe runs, else at the next boundary. A postponement counts
once. -/
def State.refreshDue (s : State) (stack ch bp : Nat) (management : Bool) : State :=
  let r := s.refreshOf stack ch bp
  if s.bpBusy stack ch bp then
    let s1 := s.setRefresh stack ch bp
      { r with due := r.due || !management, management := r.management || management, postponed := 1 }
    if !management ∧ s1.counter 0xB000 0xB = 0 then s1.bump 0xB000 0xB else s1
  else if r.running then s.setRefresh stack ch bp { r with due := r.due || !management, management := r.management || management }
  else s.setRefresh stack ch bp { running := true }

/-- A refresh ends (R93): one that fell due meanwhile follows. -/
def State.refreshEnd (s : State) (stack ch bp : Nat) : State :=
  let r := s.refreshOf stack ch bp
  if !r.running then s
  else if r.due ∨ r.management then (s.setRefresh stack ch bp { r with running := false }).boundary stack ch bp
  else (s.modAwns fun a => { a with refresh := adel a.refresh (bpKey stack ch bp) }).boundary stack ch bp

/-! ## Stripes end (R83 to R86) -/

/-- Stripe number that a stripe tag carries (R83). -/
def stripeNo (tag : Nat) : Nat := tag / 2 ^ 14

/-- The live item that a stripe tag names: one whose stripes run, with that stripe not ended (R84, R147). -/
def State.stripeOwner (s : State) (tag : Nat) : Option Item :=
  s.sched.items.find? fun it => it.tag == stripeItem tag && it.issues && it.stripes.contains (stripeNo tag)

/-- An item without a tile leaves the scoreboard once its stripes have all ended, and its command goes on (R79, R188). -/
def State.endStripes (s : State) (tag : Nat) : State :=
  match s.sched.items.find? fun it => it.tag == tag && it.st == .writing && it.stripes.isEmpty with
  | some _ => (s.modSched fun q => { q with items := q.items.filter fun x => x.tag ≠ tag }).promoteItems.wake
  | none => s

/-- A stripe of an item has ended well (R79). -/
def State.stripeDone (s : State) (tag : Nat) (trailer : List (BitVec 128)) : State :=
  match s.stripeOwner tag with
  | some it =>
    (s.modItem it.tag fun x =>
      { x with stripes := x.stripes.filter (· ≠ stripeNo tag), trailers := x.trailers ++ trailer }).endStripes it.tag
  | none => s

/-- The thresher accepts a stripe's scores with its trailer (R84, R148). -/
def State.accept (s : State) (t : BitVec 128) : State := s.stripeDone (trTag t) [t]

/-- A dead tag is free once none of its stripes runs (R147). -/
def State.freeTag (s : State) (tag : Nat) : State :=
  if s.awns.stripes.any fun x => stripeItem x.tag == stripeItem tag then s
  else (s.modSched fun q => { q with deadTags := q.deadTags.filter (· ≠ stripeItem tag) }).promoteItems

/-- The tiles that an item may run on, lowest first: those of its slice and, for a re-run, another tile first and then an idle
spare (R156). -/
def State.itemTiles (s : State) (it : Item) : List Nat :=
  let l := s.sliceTiles it.slice it.dom
  if it.front then l.filter (· ≠ it.tile) ++ ((List.range 72).filter fun p => (s.tile p).st == 1).map (256 + ·) else l

/-- Items of one command killed and run once more, ahead of all others, on another tile than `tile` or on a spare; without one the
command fails (R14, R86, R156). Items that have ended run again. `units` are those that they failed on. -/
def State.rerun (s : State) (l : List Item) (tile : Nat) (units : List Nat) : State :=
  let tags := l.map Item.tag
  let s1 := s.modSched fun q =>
    { q with items := q.items.map fun x =>
        if tags.contains x.tag then
          { x with failures := 1, front := x.op == .score, tile := tile, failed := units, st := if x.st = .ended then .waiting else x.st }
        else x }
  let s2 := (l.filter Item.issues).foldl State.requeueOne s1
  let s3 := (s2.sched.items.filter fun x => x.st == .writing && l.any x.meets).foldl State.pumpItem s2
  if l.any fun x => x.op == .score && (s3.itemTiles { x with front := true, tile := tile }).isEmpty then
    s3.failParts ((l.map Item.cmd).eraseDups)
  else s3

/-- The failure of an item: it is run once more, of a CHAINED row set the whole set; after a second one its command fails (R14, R86,
R149, R156). -/
def State.itemFails (s : State) (it : Item) (units : List Nat) : State :=
  if it.failures = 0 then s.rerun (if it.chained then s.rowSet it else [it]) it.tile units else s.failParts [it.cmd]

/-- The failure of a row set as a whole: its collection is discarded and every item of it runs once more (R14, R154, R332). -/
def State.setFails (s : State) (it : Item) (tile : Nat) (units : List Nat) : State :=
  if it.failures = 0 then (s.rerun (s.rowSet it) tile units).dropCollects fun c => c.holds it else s.failParts [it.cmd]

/-- A stripe failed its check: counted, reported, run once more on another awn; the second failure makes the slot suspect and fails
the item (R86). -/
def State.stripeFails (s : State) (x : Stripe) (abft residue injected : Bool) : State :=
  let isl := 0x100 + x.stack
  let s1 := if !abft then s.bump 0xB000 6 else s
  let s2 := if !residue then s1.bump 0xB000 7 else s1
  let dom := (s.stripeOwner x.tag).map Item.dom
  let s3 := s2.raise 0x04 isl x.awn dom [stripeItem x.tag, ((s.stripeOwner x.tag).map s.itemSeq).getD 0] injected fun l t => t.detectAwn x.awn l injected
  match s3.awns.reruns.find? fun y => y.1 == x.tag with
  | none =>
    if (s3.stripeOwner x.tag).isSome then s3.modAwns fun a => { a with reruns := a.reruns ++ [(x.tag, x.awn)] } else s3
  | some y =>
    let s4 := (s3.modAwns fun a => { a with reruns := a.reruns.filter fun z => z.1 ≠ x.tag }).suspect x.inp.slot isl y.2
    match s4.stripeOwner x.tag with
    | some it => (s4.suspect x.inp.slot isl x.awn).itemFails it []
    | none => s4

/-- The scores of a SCORE or SUMMARY stripe arrive with their trailer: accepted by the thresher, in strict partition mode held in the
base die until a slot of the domain comes, or failed (R83 to R86, R311). An armed injection fails the result datapath, or disables
the awn's checks, which then find nothing (R345). -/
def State.scoreEnd (s : State) (x : Stripe) (it : Item) (r : StripeResult) : State :=
  let (inj, a) := s.takeInject (0x100 + x.stack) x.awn 0
  let (off, s0) := a.checkOff (0x100 + x.stack) x.awn
  let t0 := s0.trailer it x { r with abftOk := r.abftOk && !inj }
  let t := if off then t0 ||| trChecksOk else t0
  if !trailerOk t r.crcOk then s0.stripeFails x (trAbft t) (trResidue t) inj
  else
    let s1 := s0.modAwns fun a => { a with reruns := a.reruns.filter fun z => z.1 ≠ x.tag }
    if s1.strict then s1.modAwns fun a => { a with held := a.held ++ [(x.stack, t)] } else s1.accept t

/-- What the array and the link of a stripe that ends met (R88, R330, R345): a corrected error, also an injected one, a retried flit, an
uncorrected error. -/
def State.stripeErrors (s : State) (x : Stripe) (r : StripeResult) : State :=
  let (inj, s0) := s.takeInject (0x100 + x.stack) x.awn 2
  let s1 := (if r.corrected || inj then s0.arrayCe x.inp.slot (!r.corrected) else s0).linkOff (0x100 + x.stack) x.awn
  if r.uncorrected then s1.arrayUe x.inp.slot false else s1

/-- STRIPE_END (R79, R83 to R86, R88): a running stripe ends. An uncorrected error loses its slot, and a command that still needs it
fails (R97); the stripes of a dead tag end unused (R147); those that write pages deliver no scores. -/
def State.stripeEnd (s : State) (tag : Nat) (r : StripeResult) : State :=
  match s.awns.stripes.find? fun x => x.tag == tag with
  | none => s
  | some x =>
    let s1 := s.modAwns fun a => { a with stripes := a.stripes.filter fun y => y.tag ≠ tag }
    let s3 := s1.stripeErrors x r
    let s4 := match s3.stripeOwner tag with
      | none => s3
      | some it =>
        if r.uncorrected then s3.failParts [it.cmd]
        else if it.op = AwnOp.score ∨ it.op = AwnOp.summary then s3.scoreEnd x it r
        else s3.stripeDone tag []
    ((s4.freeTag tag).boundary x.stack x.ch x.bp).pump x.stack

/-- INTERFACE_SLOT (R311): in strict partition mode slot `i` carries the score streams of its owner; in shared mode it carries
any that is held. -/
def State.interfaceSlot (s : State) (stack i : Nat) : State :=
  let mine : BitVec 128 → Bool := fun t =>
    match s.stripeOwner (trTag t) with
    | some it => !s.strict || (s.num 0x7120 7 it.dom).testBit i
    | none => true
  let go := (s.awns.held.filter fun h => h.1 == stack && mine h.2).map Prod.snd
  go.foldl State.accept (s.modAwns fun a => { a with held := a.held.filter fun h => !(h.1 == stack && mine h.2) })

/-! ## Turns (R190, R309) -/

/-- Domains whose tiles and slices include a logical tile (R306, R309). -/
def State.tileDoms (s : State) (l : Nat) : List Nat :=
  (akeys s.dom.doms).filter fun d =>
    (s.num 0x7120 2 d).testBit l
      && (List.range 16).any fun n => (s.num 0x7120 1 d).testBit n && (sliceGroups (s.sliceReg n)).testBit (l / 4)

/-- Turn of a logical tile. -/
def State.turn (s : State) (l : Nat) : Turn := (aget s.sched.turns l).getD {}

/-- A domain may start items on a tile: in strict partition mode only its turn holder, and only while 8 µs of its turn remain, where
several domains share the tile (R190, R309). A spare that re-runs an item has no turns. -/
def State.turnOk (s : State) (l d : Nat) : Bool :=
  !s.strict || decide (256 ≤ l) || s.tileDoms l == [d]
    || ((s.turn l).holder == some d && decide (s.xnt.clock + 8000 ≤ (s.turn l).till))

/-- Rank of a domain in the turn order of a tile: its holder first, then the others in turn (R190). -/
def State.turnRank (s : State) (l d : Nat) : Nat :=
  match (s.turn l).holder with
  | some h => (d + 4096 - h) % 4096
  | none => d

/-- A charge to a domain's next turn on a tile, in ns (R190, R191). -/
def State.chargeTurn (s : State) (l d ns : Nat) : State :=
  if ns = 0 then s
  else s.modSched fun q => { q with turns := aput q.turns l { s.turn l with charges := abump (s.turn l).charges d ns } }

/-- The time that an item has run on its tile: 0 before its start. -/
def State.ranFor (s : State) (it : Item) : Nat := if it.st = .running then s.xnt.clock - it.startedAt else 0

/-! ## Placing items (R149 to R151, R189) -/

/-- Granules of a domain on a physical tile: its items and its collections. -/
def State.domGranules (s : State) (t d : Nat) : Nat :=
  ((s.itemsOn t).filter fun it => it.dom == d).foldl (fun n it => n + it.granules) 0
    + ((s.sched.collects.filter fun c => s.physTile c.tile == t && ((s.cmd c.cmd).map Cmd.dom == some d)).map Collect.granules).sum

/-- Granules of the collection that a FANNED row set needs and does not have yet (R149, R150). -/
def State.collectNeed (s : State) (it : Item) : Nat :=
  let page := match s.cmd it.cmd with | some c => aRet c.desc == 0 | none => true
  if it.chained ∨ page = true ∨ s.sched.collects.any fun c => c.holds it then 0
  else ceilDiv (it.setRows * (s.rowSet it).length * (32 + 4 * s.pr.valueDim)) 65536

/-- Granules that starting an item takes. -/
def State.need (s : State) (it : Item) : Nat := it.granules + s.collectNeed it

/-- A tile admits items: it works, is not under test, and waits for no lower frequency (R157, R423, R427). -/
def State.tileOpen (s : State) (t : Nat) : Bool :=
  let x := s.tile t
  (x.st == 0 || x.st == 1) && !x.testing && x.want.isNone && !s.faults.deadIslands.contains t

/-- A domain's GRANULE_SHARE allows so many more granules on a tile (R151). -/
def State.shareOk (s : State) (t d n : Nat) : Bool := !s.strict || decide (s.domGranules t d + n ≤ s.num 0x7120 4 d)

/-- An item of higher priority waits for a logical tile under R193: this one does not start there. -/
def State.barredOn (s : State) (it : Item) (l : Nat) : Bool :=
  s.sched.barred.any fun b => b.2.2.1 == l && decide (it.prio < b.2.2.2)
    && s.sched.items.any fun x => x.tag == b.1 && x.cmd == b.2.1 && x.st == .waiting

/-- An item's lane sets and granules can be granted on a logical tile (R151, R189, R193). -/
def State.fits (s : State) (it : Item) (l : Nat) : Bool :=
  let t := s.physTile l
  s.tileOpen t && decide (it.sets ≤ (s.tile t).sets) && decide (s.need it ≤ (s.tile t).free) && s.shareOk t it.dom (s.need it)
    && s.turnOk l it.dom && !s.barredOn it l

/-- The awn tokens that an item's stripes take are free on every stack: as many as it has stripes there, or as its domain may hold
(R96, R189). -/
def State.tokensFor (s : State) (it : Item) : Bool :=
  (itemStacks it).all fun st =>
    decide (Nat.min ((it.slots.filter fun x => slotStack x.slot == st).length) (Nat.max 1 (s.tokenCap it.dom)) ≤ s.tokensLeft st it.dom)

/-- Order of a CHAINED row set's items: ascending pages, then rows (R149). -/
def chainKey (it : Item) : Nat := it.leaf0 * 2 ^ 16 + it.row0

/-- The next item of a CHAINED row set: the first that waits (R149). -/
def State.chainNext (s : State) (it : Item) : Option Item :=
  (sortBy chainKey ((s.rowSet it).filter fun x => x.st == .waiting)).head?

/-- An item's first inputs can be requested: it holds a tag and, in a CHAINED row set, it is the first and none has run (R149,
R189). -/
def State.itemReady (s : State) (it : Item) : Bool :=
  it.st == .waiting && decide (it.tag < 16384)
    && (!it.chained || ((s.rowSet it).all (fun x => x.st == .waiting) && (s.chainNext it).map Item.tag == some it.tag))

/-- An item starts to fetch on a tile: its granules, lane sets and, for the first of its row set, the collection are granted,
and its stripes are issued (R149, R150). In shared mode one of another domain than the turn's fills in (R190). -/
def State.place (s : State) (it : Item) (l : Nat) : State :=
  let t := s.physTile l
  let n := s.collectNeed it
  let s1 := s.modTile t fun x => { x with free := x.free - (it.granules + n), sets := x.sets - it.sets }
  let s2 := s1.modSched fun q =>
    { q with collects := if n = 0 then q.collects else q.collects ++ [⟨it.cmd, it.head, it.org, it.set0, it.setRows, l, n⟩]
             barred := q.barred.filter fun b => ¬ (b.1 = it.tag ∧ b.2.1 = it.cmd) }
  let fill := !s.strict && (match (s.turn l).holder with | some h => h != it.dom | none => false)
  (s2.modItem it.tag fun x =>
    { x with st := .placed, tile := l, front := false, stripes := List.range x.slots.length, trailers := [], backfill := fill }).pumpItem it

/-! ## Pre-emption (R193, R194) -/

/-- Lower-priority items on a tile that pre-emption may kill for an item, in the order of the kills (R193, R194). -/
def State.victims (s : State) (it : Item) (l : Nat) : List Item :=
  sortBy (fun x => x.prio * 2 ^ 48 + (2 ^ 48 - 1 - x.cmd)) ((s.itemsOn (s.physTile l)).filter fun x =>
    decide (x.prio < it.prio) && decide (x.kills < s.num 0x4200 6) && (!s.strict || x.dom == it.dom))

/-- The victims, in order, whose granules make up a shortage; `none` where all of them do not. -/
def takeVictims : Nat → List Item → Option (List Item)
  | 0, _ => some []
  | _ + 1, [] => none
  | n + 1, x :: r => (takeVictims (n + 1 - x.granules) r).map fun l => x :: l

/-- The items to kill for an item on a tile. -/
def State.killsOn (s : State) (it : Item) (l : Nat) : Option (List Item) :=
  let t := s.tile (s.physTile l)
  takeVictims (s.need it - (t.free + t.zeroing)) (s.victims it l)

/-- The tile of R193: the fewest granules of lower-priority items to free, ties to the lowest. -/
def State.preemptTile (s : State) (it : Item) : Option Nat :=
  ((s.sliceTiles it.slice it.dom).filter fun l => s.tileOpen (s.physTile l)).foldl (fun best l =>
    match s.killsOn it l with
    | none => best
    | some v =>
      let n := (v.map Item.granules).sum
      match best with
      | some b => match s.killsOn it b with
        | some w => if n < (w.map Item.granules).sum then some l else best
        | none => some l
      | none => some l) none

/-- An item waits under R193: it has the priority, and no tile of its slice can grant its granules. -/
def State.preempts (s : State) (it : Item) : Bool :=
  decide (s.num 0x4200 4 ≤ it.prio) && s.itemReady it
    && !((s.sliceTiles it.slice it.dom).any fun l =>
      s.tileOpen (s.physTile l) && decide (s.need it ≤ (s.tile (s.physTile l)).free) && s.shareOk (s.physTile l) it.dom (s.need it))

/-- An item begins its wait: the tile chosen for it starts nothing of lower priority (R193). -/
def State.beginWait (s : State) (it : Item) : State :=
  if (s.sched.barred.any fun b => b.1 == it.tag && b.2.1 == it.cmd) || !s.preempts it then s
  else
    match s.preemptTile it with
    | some l => s.modSched fun q => { q with barred := q.barred ++ [(it.tag, it.cmd, l, it.prio)] }
    | none => s

/-- PREEMPT_WAIT ends (R193, R194): where the granules are still not free, lower-priority items on the tile chosen when it began are
killed until they suffice. The time they ran is charged to the domain they were killed for (R191). -/
def State.preempt (s : State) (tag : Nat) : State :=
  match s.sched.items.find? (fun it => it.tag == tag), s.sched.barred.find? fun b => b.1 == tag with
  | some it, some b =>
    if b.2.1 = it.cmd ∧ s.preempts it then
      let v := (s.killsOn it b.2.2.1).getD []
      v.foldl (fun t x => match t.sched.items.find? fun y => y.tag == x.tag && y.cmd == x.cmd && y.onTile with
        | some y =>
          let t1 := (t.bump 0x4000 9).modSched fun q =>
            { q with items := q.items.map fun z => if z.tag = y.tag ∨ (y.chained ∧ y.meets z) then { z with kills := z.kills + 1 } else z }
          (if s.strict then t1 else t1.chargeTurn y.tile it.dom (t.ranFor y)).requeue y
        | none => t) s
    else s
  | _, _ => s

/-! ## Sheaves (R189, R190) -/

/-- No item of a domain ahead in a tile's turn order could start there now (R190). -/
def State.turnFree (s : State) (ready : List Item) (it : Item) (l : Nat) : Bool :=
  s.strict || decide (256 ≤ l) || !(ready.any fun x => decide (s.turnRank l x.dom < s.turnRank l it.dom)
    && (s.sched.items.any fun y => y.tag == x.tag && y.cmd == x.cmd && y.st == .waiting)
    && (s.sliceTiles x.slice x.dom).contains l && s.fits x l && (x.tilePath || s.tokensFor x))

/-- One item of the sheaf: started on the lowest tile that can take it, passed over, or put to wait under R193 (R189, R190). -/
def State.sheafItem (ready : List Item) (budget : Nat) (a : State × Nat) (it : Item) : State × Nat :=
  let (s, pos) := a
  let beyond := it.tilePath && decide (budget < pos + it.positions) && ready.any fun x => !x.tilePath
  if s.power.brownOut ∨ !s.itemReady it ∨ beyond = true ∨ (!it.tilePath && !s.tokensFor it) = true then a
  else
    match (s.itemTiles it).find? fun l => s.fits it l && s.turnFree ready it l with
    | some l => (s.place it l, if it.tilePath then pos + it.positions else pos)
    | none => (s.beginWait it, pos)

/-- The rank of an item in a sheaf: re-runs first, then by its best turn rank on a tile of its slice, priority and admission order
(R156, R189, R190). -/
def State.sheafKey (s : State) (it : Item) : Nat :=
  if it.front then 0
  else (((s.sliceTiles it.slice it.dom).map fun l => s.turnRank l it.dom).foldl Nat.min 4095 + 1) * 2 ^ 56 + prioKey it

/-- Stripes that wait for no event of their own bank pair take the tokens that are free on every stack (R96). -/
def State.pumpAll (s : State) : State := (List.range 12).foldl State.pump s

/-- SHEAF_BUILD (R189). -/
def State.buildSheaf (s0 : State) (slice : Nat) : State :=
  let s := s0.pumpAll
  let ready := s.sched.items.filter fun it => it.op == .score && it.slice == slice && s.itemReady it
  let groups := ((List.range 16).filter fun g => (sliceGroups (s.sliceReg slice)).testBit g).length
  ((sortBy s.sheafKey ready).foldl (State.sheafItem ready (s.num 0x4200 2 * groups)) (s, 0)).1

/-- TURN_END (R190, R191, R309): the overrun is charged to the holder's next turn, and the turn passes; the charge of the next
holder is spent. In strict partition mode the new turn lasts TILE_SHARE times TIME_QUANTUM. -/
def State.turnEnd (s : State) (l overrun : Nat) : State :=
  let t := s.turn l
  let doms := s.tileDoms l
  let share := (doms.map fun d => s.num 0x7120 3 d).sum
  let line := if s.strict then doms else
    doms.filter fun d => s.sched.items.any fun it => it.dom == d && s.itemReady it && (s.sliceTiles it.slice d).contains l
  let next := match t.holder with
    | some h =>
      match line.find? fun d => decide (h < d) with
      | some d => some d
      | none => if s.strict ∧ share < 64 then none else line.head?
    | none => line.head?
  let c1 := match t.holder with
    | some h => if s.strict ∨ overrun = 0 then t.charges else abump t.charges h overrun
    | none => t.charges
  let c2 := match next with | some d => adel c1 d | none => c1
  let till := match next with
    | some d => if s.strict then s.xnt.clock + 1000 * (s.num 0x7120 3 d * s.num 0x4200 3) else 0
    | none => 0
  s.modSched fun q => { q with turns := aput q.turns l { holder := next, till := till, charges := c2 } }

/-! ## Items run (R146 to R149, R156) -/

/-- The cut that an item was made from: that of its request's head, or of the span it covers (R287). -/
def State.itemCut (s : State) (c : Cmd) (it : Item) : Option Cut :=
  if it.org = 0 then some (s.cutOf c it.head)
  else (s.spanOf (it.org - 1)).map fun x => s.cutOver c x.1 it.slice (akeys x.2) it.head

/-- The pages of a leaf of an item are read: none of them is still on its way from a colder tier (R148, R226). -/
def State.leafRead (s : State) (c : Cmd) (it : Item) (a : Nat) : Bool :=
  it.org != 0 ||
    let v : Cut := { pr := s.pr, d := c.desc, e := c.snap.getD {}, head := it.head }
    (v.leafPages a).all fun p => c.jobs.all fun j => j.page != p || j.done

/-- A leaf of an item has all its scores (R148). -/
def leafReady (it : Item) (a : Nat) : Bool :=
  !(it.stripes.any fun n => match it.slots[n]? with | some x => x.leaf == a | none => false)

/-- All inputs of a leaf are accepted (R148). -/
def State.leafIn (s : State) (it : Item) (a : Nat) : Bool :=
  leafReady it a && (match s.cmd it.cmd with | some c => c.stage != .input && s.leafRead c it a | none => false)

/-- ITEM_START (R146, R148): the inputs of some leaf are accepted; in a brown-out no item starts (R414), and in strict partition mode
none outside its domain's turn or in its last 8 µs (R309). -/
def State.itemStart (s : State) (tag : Nat) : State :=
  match s.sched.items.find? fun it => it.tag == tag && it.st == .placed with
  | some it =>
    if !s.power.brownOut && s.turnOk it.tile it.dom && (List.range it.leaves).any fun k => s.leafIn it (it.leaf0 + k) then
      s.modItem tag fun x => { x with st := .running, startedAt := s.xnt.clock }
    else s
  | none => s

/-- The two items that replace one: half its leaf run, or half its rows where the run is one leaf, each with its own path, lane sets,
positions, stripes and granules (R141, R143, R146, R150). -/
def Cut.halves (v : Cut) (it : Item) : List Item :=
  let base := { it with st := .waiting, stripes := [], trailers := [] }
  let one : Item → Item := fun x => let y := v.shape x; { y with pages := if it.org = 0 then y.pages else [] }
  if 2 ≤ it.leaves then
    let n := it.leaves / 2
    [one { base with leaves := n }, one { base with leaf0 := it.leaf0 + n, leaves := it.leaves - n }]
  else if 2 ≤ it.rows then
    let n := it.rows / 2
    [one { base with rows := n }, one { base with row0 := it.row0 + n, rows := it.rows - n }]
  else [base]

/-- A CHAINED row set's reservation and lane sets formed again over its items (R149, R150). -/
def State.rechain (s : State) (v : Cut) (it : Item) : State :=
  if !it.chained then s
  else
    let l := v.chain (s.rowSet it)
    s.modSched fun q => { q with items := q.items.map fun x => (l.find? fun y => y.tag == x.tag).getD x }

/-- ITEM_OVERRUN (R146): an item that has not ended in 8 µs is killed and halved. A FANNED collection stays as it was reserved
(log 123). -/
def State.itemOverrun (s : State) (tag : Nat) : State :=
  match s.sched.items.find? fun it => it.tag == tag && it.st == .running with
  | some it =>
    let s1 := (s.bump 0xB100 0xB).requeueAll [it]
    let same : Item → Bool := fun x => it.meets x && x.row0 == it.row0 && x.leaf0 == it.leaf0
    match s1.sched.items.find? same, s1.cmd it.cmd with
    | some w, some c =>
      match s1.itemCut c w with
      | some v =>
        let s2 := s1.modSched fun q => { q with items := q.items.filter fun x => !same x }
        ((v.halves { w with tag := 0 }).foldl State.addItem s2).rechain v it
      | none => s1
    | _, _ => s1
  | none => s

/-- What a completed row set leaves: its partials in the result buffer, of a ring ATTEND over one origin (R149, R287). -/
def State.placeSet (s : State) (it : Item) : State :=
  if it.org = 0 then
    match s.cmd it.cmd with
    | some c => s.placeRows c it.head it.set0 it.setRows
    | none => s
  else (s.closeSpan it.cmd (it.org - 1) it.head it.set0 it.setRows).ringStep

/-- Every item of a row set has ended: its items leave the scoreboard, its collection ends, and its partials are placed (R149,
R188). -/
def State.closeRows (s : State) (it : Item) : State :=
  let set := s.rowSet it
  if set.all fun x => x.st == .ended then
    let tags := set.map Item.tag
    let s1 := (s.dropCollects fun c => c.holds it).modSched fun q => { q with items := q.items.filter fun x => !tags.contains x.tag }
    s1.promoteItems.placeSet it
  else s

/-- The next item of a CHAINED set takes over the tile and granules of the one that ended, and its tag where it has none of the
scoreboard's yet (R147, R149). -/
def State.chainOn (s : State) (it x : Item) : State :=
  let tag := if x.tag < 16384 then x.tag else it.tag
  let swap : Item → Item := fun y =>
    if y.tag = it.tag then { y with st := .ended, tag := if tag = it.tag then x.tag else it.tag }
    else if y.tag = x.tag then
      { y with tag := tag, st := .placed, tile := it.tile, stripes := List.range y.slots.length, trailers := [], backfill := it.backfill }
    else y
  (s.modSched fun q => { q with items := q.items.map swap }).pumpItem x

/-- An item ends well (R149): FANNED and PAGE items wait for their row set; the next item of a CHAINED set takes over. Items scored
on the tile path are counted, and the time of one that filled in is charged (R159, R190). -/
def State.itemDone (s : State) (it : Item) : State :=
  let s0 := if it.tilePath then s.bump 0xB100 0xC else s
  let s1 := if it.backfill then s0.chargeTurn it.tile it.dom (s.ranFor it) else s0
  match (if it.chained then s1.chainNext it else none) with
  | some x => s1.chainOn it x
  | none => ((s1.freeItem it).modItem it.tag fun x => { x with st := .ended }).closeRows it

/-- The slots of the pages that an item reads (R156). -/
def State.itemSlots (s : State) (it : Item) : List Nat :=
  match s.cmd it.cmd with
  | some c => it.pages.filterMap (aget c.readSlots)
  | none => []

/-- The pages that an item reads queued for the patrol, with the units that it failed on (R156, R337). -/
def State.suspectPages (s : State) (it : Item) (units : List Nat) : State :=
  (s.itemSlots it).foldl (fun t n => t.modPages fun p => { p with suspects := p.suspects ++ units.map fun u => (n, u) }) s

/-- An item failed on its tile (R156): it is run once more on another; the second failure makes the pages it read suspect and fails
it. -/
def State.failsOnTile (s : State) (i : Item) : State :=
  match s.sched.items.find? fun x => x.tag == i.tag && x.cmd == i.cmd && x.onTile with
  | some it =>
    let t := s.physTile it.tile
    let units := it.failed ++ [unitKey t t]
    (if it.failures = 0 then s else s.suspectPages it units).itemFails it units
  | none => s

/-- The merged partials of a FANNED row set failed on its home tile: the row set runs once more; the second failure makes the pages
it read suspect and fails it (R154, R156). -/
def State.collectFails (s : State) (c : Collect) : State :=
  match s.sched.items.find? fun it => c.holds it with
  | some it =>
    let t := s.physTile c.tile
    let units := it.failed ++ [unitKey t t]
    (if it.failures = 0 then s else (s.rowSet it).foldl (fun u x => u.suspectPages x units) s).setFails it c.tile units
  | none => s

/-- A check failed on a tile (R156): a detection against the tile, and its item fails on it. -/
def State.tileFails (s : State) (src : Nat) (it : Item) (injected : Bool) : State :=
  let t := s.physTile it.tile
  s.raise src t t (some it.dom) [it.tag, s.itemSeq it] injected fun l x => (x.failsOnTile it).detectTile t l injected

/-- What the SRAM and the link of an item that ends met of the injections armed for its tile (R330, R345): a corrected error in the
scratchpad, a retried flit. -/
def State.itemErrors (s : State) (t : Nat) : State :=
  let (inj, s1) := s.takeInject t t 2
  (if inj then (s1.bump 0xB100 9).raise 0x08 t t none [] true fun l x => x.detect 0x08 t t l true else s1).linkOff t t

/-- ITEM_END (R149): a running item whose inputs have all been accepted ends; an armed injection fails its tile's result
datapath, unless one has disabled its checks (R345). -/
def State.itemEnd (s : State) (tag : Nat) : State :=
  match s.sched.items.find? fun it => it.tag == tag && it.st == .running with
  | some it =>
    if !it.stripes.isEmpty || !((List.range it.leaves).all fun k => s.leafIn it (it.leaf0 + k)) then s
    else
      let t := s.physTile it.tile
      let (inj, s1) := (s.itemErrors t).takeInject t t 0
      let (off, s2) := s1.checkOff t t
      if inj && !off then s2.tileFails 0x06 it true else s2.itemDone it
  | none => s

/-- GRANULE_ZERO_FILL_DONE (R152): the released granules of a tile are clean. -/
def State.zeroFilled (s : State) (t : Nat) : State := s.modTile t fun x => { x with free := Nat.min 64 (x.free + x.zeroing), zeroing := 0 }

/-! ## The commands -/

/-- SHEAF_BUILD (R189). -/
def execSheafBuild (slice : BitVec 4) (s : State) : Host.Outcome State Fault Refusal := s.seal (s.buildSheaf slice.toNat)

/-- TURN_END (R190, R191, R309). -/
def execTurnEnd (tile : BitVec 6) (overrunNs : BitVec 32) (s : State) : Host.Outcome State Fault Refusal :=
  s.seal (s.turnEnd tile.toNat overrunNs.toNat)

/-- ITEM_START (R146, R148). -/
def execItemStart (tag : BitVec 14) (s : State) : Host.Outcome State Fault Refusal := s.seal (s.itemStart tag.toNat)

/-- ITEM_OVERRUN (R146). -/
def execItemOverrun (tag : BitVec 14) (s : State) : Host.Outcome State Fault Refusal := s.seal (s.itemOverrun tag.toNat)

/-- ITEM_END (R149). -/
def execItemEnd (tag : BitVec 14) (s : State) : Host.Outcome State Fault Refusal := s.seal (s.itemEnd tag.toNat)

/-- PREEMPT_WAIT (R193). -/
def execPreemptWait (tag : BitVec 14) (s : State) : Host.Outcome State Fault Refusal := s.seal (s.preempt tag.toNat)

/-- STRIPE_END (R79, R83, R86). -/
def execStripeEnd (stripeTag : BitVec 32) (r : StripeResult) (s : State) : Host.Outcome State Fault Refusal :=
  s.seal (s.stripeEnd stripeTag.toNat r)

/-- REFRESH_DUE (R93). -/
def execRefreshDue (bp : BankPair) (s : State) : Host.Outcome State Fault Refusal :=
  s.seal (s.refreshDue bp.stack.toNat bp.ch.toNat bp.bp.toNat false)

/-- REFRESH_MANAGEMENT (R93). -/
def execRefreshManagement (bp : BankPair) (s : State) : Host.Outcome State Fault Refusal :=
  s.seal (s.refreshDue bp.stack.toNat bp.ch.toNat bp.bp.toNat true)

/-- REFRESH_DONE (R93). -/
def execRefreshDone (bp : BankPair) (s : State) : Host.Outcome State Fault Refusal :=
  s.seal (s.refreshEnd bp.stack.toNat bp.ch.toNat bp.bp.toNat)

/-- INTERFACE_SLOT (R311). -/
def execInterfaceSlot (stack : BitVec 4) (i : BitVec 6) (s : State) : Host.Outcome State Fault Refusal :=
  s.seal (s.interfaceSlot stack.toNat i.toNat)

/-- GRANULE_ZERO_FILL_DONE (R152). -/
def execGranuleZeroFillDone (tile : BitVec 7) (s : State) : Host.Outcome State Fault Refusal := s.seal (s.zeroFilled tile.toNat)

end Sys2Proof.Machine
end

