-- ==== Sys2Proof/Machine/Checks.lean ====
section
/-! DEFINITION. The node's background work: sweeps, scrub, patrol, spare mapping, narrowing, preclean copies, the Prefix
Index's own events and the ends of tier transfers (R76, R87, R89, R91, R92, R104 to R107, R155, R201, R212, R221, R226 to R230,
R333 to R337). -/

namespace Sys2Proof.Machine

/-! ## Sweeps (R87, R155, R333, R334) -/

/-- A sweep passes: the clean run passes and the corrupted run is caught. -/
def sweepOk (r : SweepResult) : Bool := r.cleanPass && r.corruptCaught

/-- The two SWEEP stripes of an awn can run: it runs no other stripe, the bank pair whose table area they read carries none, and its
stack has a token for them (R79, R87, R95, R96). -/
def State.sweepRuns (s : State) (u : Nat) : Bool :=
  let pair := (s.awn u).servesA
  !s.awnBusy u && s.tokenSweep (uStack u) && !s.faults.deadIslands.contains (0x100 + uStack u)
    && match s.logChan (uStack u) (uChan u) with
      | some l => pair == 63 || s.bpIdle (uStack u) l pair
      | none => true

/-- SWEEP of an awn, its two stripes back to back (log 125): one that fails either half is retired (R87); an armed checker injection
makes it fail (R345). A sweep that cannot run waits. -/
def State.sweepAwn (s : State) (u : Nat) (r : SweepResult) : State :=
  if !awnExists u ∨ (s.awn u).st = 2 ∨ !s.sweepRuns u then s
  else
    let isl := 0x100 + uStack u
    let (inj, s1) := s.sweepOff isl u
    if sweepOk r && !inj then s1 else s1.raise 0x05 isl u none [] inj fun l t => t.sweptAwn u l inj

/-- A tile can run its sweep: it is not under test, and it has a granule and a lane set free (R155, log 124). -/
def State.tileSweeps (s : State) (t : Nat) : Bool :=
  let x := s.tile t
  !x.testing && decide (1 ≤ x.free) && decide (1 ≤ x.sets) && !s.faults.deadIslands.contains t

/-- TILE_SWEEP: a tile that fails either run is retired (R155). Its granule is zero-filled after it (R152). A sweep that cannot run
waits. -/
def State.sweepTile (s : State) (t : Nat) (r : SweepResult) : State :=
  if 72 ≤ t ∨ (s.tile t).st = 2 ∨ !s.tileSweeps t then s
  else
    let (inj, s0) := s.sweepOff t t
    let s1 := s0.modTile t fun x => { x with free := x.free - 1, zeroing := x.zeroing + 1 }
    if sweepOk r && !inj then s1 else s1.raise 0x07 t t none [] inj fun l x => x.sweptTile t l inj

/-- Number of a shared checker, in the order of R333. -/
def checkerNo : Checker → Nat
  | .encoder => 0 | .conversion => 1 | .identity => 2 | .coverage => 3 | .completion => 4 | .linkCrc => 5
  | .indexDigest => 6 | .husk => 7

/-- Island of a shared checker (R340; log 31). -/
def checkerIsland (k : Nat) : Nat := if k = 5 ∨ k = 7 then islEdge else if k = 6 then islIndex else islSched

/-- A shared checker is late: what it covers fails until a sweep of it passes (R334). -/
def State.checkerDown (s : State) (k : Nat) (injected : Bool) : State :=
  if s.faults.late.contains k then s
  else
    (s.bump 0x8000 0x10).raise 0x13 (checkerIsland k) k none [] injected fun _ t =>
      t.modFaults fun q => { q with late := q.late ++ [k] }

/-- CHECKER_SWEEP (R333, R334): a pass ends lateness; a sweep that does not pass leaves the checker untested (log 31). -/
def State.sweepChecker (s : State) (k : Nat) (r : SweepResult) : State :=
  let (inj, s1) := s.sweepOff (checkerIsland k) k
  if sweepOk r && !inj then s1.modFaults fun q => { q with late := q.late.filter (· ≠ k) } else s1.checkerDown k inj

/-- CHECKER_LATE (R334): the unit is retired, or the shared checker's commands fail. -/
def State.late (s : State) : LateUnit → State
  | .awn u =>
    if !awnExists u.toNat ∨ (s.awn u.toNat).st = 2 then s
    else (s.bump 0x8000 0x10).raise 0x13 (0x100 + uStack u.toNat) u.toNat none [] false fun _ t => t.retireAwn u.toNat
  | .tile t =>
    if 72 ≤ t.toNat ∨ (s.tile t.toNat).st = 2 then s
    else (s.bump 0x8000 0x10).raise 0x13 t.toNat t.toNat none [] false fun _ x => x.retireTile t.toNat
  | .shared c => s.checkerDown (checkerNo c) false

/-! ## Scrub (R54, R91, R97) -/

/-- The domain whose AWN_GROUP_MASK holds a slot's group (R310, R312). -/
def State.groupDom (s : State) (n : Nat) : Option Nat :=
  (akeys s.dom.doms).find? fun d => (s.num 0x7120 5 d).testBit (2 * slotChan n + slotBp n / 16)

/-- A background access to a slot can run now: its bank pair carries no stripe and no refresh, its stack controller runs, and there is
a token for it: in strict partition mode of a SCRUB from the share of the slot's domain (R79, R93, R95, R96, R312). -/
def State.backgroundRuns (s : State) (n : Nat) (scrub : Bool) : Bool :=
  let st := slotStack n
  s.bpIdle st (slotChan n) (slotBp n) && !s.faults.deadIslands.contains (0x100 + st)
    && match (if s.strict && scrub then s.groupDom n else none) with
      | some d => s.tokenBack st d
      | none => s.tokenSweep st && decide (s.tokensBack st < s.num 0xB000 4)

/-- SCRUB: a queued slot without readers left is zero-filled by three stripes, back to back on an awn that serves its bank pair, and
counts in F; one that meets an uncorrected error, or that nothing can scrub, is withdrawn (R79, R91, R97, R105, log 125). -/
def State.scrubSlot (s : State) (n : Nat) (uncorrected : Bool) : State :=
  let st := slotStack n
  match aget s.pages.use n with
  | some (.scrub readers) =>
    if readers.any fun id => (s.cmd id).isSome then s
    else if !s.slotWorks n then s.setUse n .withdrawn
    else if !s.backgroundRuns n true || (match s.stripeAwn st (slotChan n) (slotBp n) none with | some u => s.awnBusy u | none => true) then s
    else if uncorrected then
      (s.bump 0xB000 9).raise 0x01 (0x100 + slotStack n) (chanUnit (slotStack n) (s.physChan (slotStack n) (slotChan n))) none
        [] false fun _ t => t.setUse n .withdrawn
    else
      (s.modPages fun p =>
        { p with use := adel p.use n, slots := adel p.slots n, lost := p.lost.filter (· ≠ n) }).lowCheck
  | _ => s

/-! ## Patrol (R92, R336, R337) -/

/-- The items on a tile whose inputs hold a page (R148). -/
def State.itemsReading (s : State) (page : Nat) : List Item := s.sched.items.filter fun it => it.onTile && it.pages.contains page

/-- A CRC mismatch of a page: PAGE_CRC, and the slot is lost (R322, R336). Where a tile met it as it accepted its inputs, the pages
that its item reads are queued for the patrol, detected against no unit, and the item fails with its command (R148, R156). -/
def State.pageCrc (s : State) (n : Nat) (injected : Bool) : State :=
  let page := match aget s.pages.use n with | some (.page p) => some p | _ => none
  let dom := (page.bind s.page).map PageEntry.dom
  let hit := match page with | some p => s.itemsReading p | none => []
  s.raise 0x0A (0x100 + slotStack n) (chanUnit (slotStack n) (s.physChan (slotStack n) (slotChan n))) dom (s.pageDetail page) injected
    fun _ t => ((hit.foldl (fun u it => u.suspectPages it [noUnit]) t).failParts ((hit.map Item.cmd).eraseDups)).loseSlot n

/-- What a read of a slot by the patrol met (R88, R336). -/
def State.readSlot (s : State) (n : Nat) (r : ReadResult) : State :=
  let (inj, s0) := s.takeInject (0x100 + slotStack n) (s.awnOf (slotStack n) (slotChan n) (slotBp n)) 2
  let s1 := if r.corrected ∨ inj then s0.arrayCe n inj else s0
  if r.uncorrected then s1.arrayUe n false
  else if r.mismatch then
    match aget s1.pages.use n with
    | some (.page _) => s1.pageCrc n false
    | none => s1.queueScrub n []
    | _ => s1
  else s1

/-- PATROL of one slot; the last slot of a scan ends a pass (R336). Lost and withdrawn slots are known. A read that has no token, or
whose bank pair is busy, waits (R93, R96). -/
def State.patrol (s : State) (n : Nat) (r : ReadResult) : State :=
  if n < slotCount ∧ !s.backgroundRuns n false then s else
  let s1 :=
    if slotCount ≤ n ∨ s.pages.lost.contains n ∨ aget s.pages.use n = some .withdrawn then s else (s.readSlot n r).lowCheck
  if n + 1 = slotCount then s1.bump 0x8000 9 else s1

/-- PATROL_SUSPECT_VERIFY: a faulty slot withdraws the detections made for it and is lost (R337). -/
def State.verifySuspect (s : State) (n : Nat) (r : ReadResult) : State :=
  if !(s.pages.suspects.any fun x => x.1 == n) || !s.backgroundRuns n false then s
  else
    let s1 := if r.uncorrected ∨ r.mismatch then s.undetect n else s
    let s2 := s1.modPages fun p => { p with suspects := p.suspects.filter fun x => x.1 ≠ n }
    if s2.pages.lost.contains n then s2 else (s2.readSlot n r).lowCheck

/-! ## Tier transfers (R221, R226 to R228, R230) -/

/-- TIER_TRANSFER_DONE; the last page of a swap-out sends the flushing read (R221). -/
def State.tierDone (s : State) (id page : Nat) (ok : Bool) : State :=
  let s1 := s.endTransfer id page ok
  match s1.cmd id, s.cmd id with
  | some c, some c0 =>
    if dOp c.desc = 0x40 ∧ c.jobs.all PageJob.done ∧ ¬ c0.jobs.all PageJob.done then s1.flushRead c else s1
  | _, _ => s1

/-- CAUSE of ST_TIER_LATE (R228). -/
def lateCause : TierLimit → Nat
  | .hostRead => 1 | .hostWrite => 2 | .remote => 3 | .queue => 4

/-- The limit under which a page's transfer runs now: the wait for a page buffer, a host write until its flushing read has returned,
a transfer to or from another node, or a host read; none where no transfer of the page is open (R227, R228). -/
def State.limitOf (s : State) (c : Cmd) (j : PageJob) : Option TierLimit :=
  let far := (s.page j.page).map PageEntry.st == some .remote || !c.usesBuf
  if dOp c.desc = 0x40 then
    if j.clean ∨ c.flushed then none else if j.buf ∨ j.done then some .hostWrite else some .queue
  else if j.done then none
  else if c.usesBuf ∧ ¬ j.buf then some .queue
  else if far then some .remote
  else some .hostRead

/-- TIER_LATE: the transfer's command ends, and no other (R227). -/
def State.tierLate (s : State) (id page : Nat) (limit : TierLimit) : State :=
  match s.cmd id with
  | some c =>
    if c.jobs.any fun j => j.page == page && s.limitOf c j == some limit then
      (s.tierFailed c stTierLate (lateCause limit) page).wake.lowCheck
    else s
  | none => s

/-- PRECLEAN of a page for the lowest sequence with PRECLEAN set that references it; as a page write it waits for the page's
admitted readers (R45, R230). -/
def State.preclean (s : State) (p : Nat) : State :=
  if s.sched.cmds.any fun c => s.willRead c p then s else
  match s.seqs.table.find? fun q => q.2.preclean && (q.2.handles.any fun h => h.2 == p)
      && ((s.page p).map PageEntry.dom == some q.2.dom) with
  | some q => s.precleanPage p q.1
  | none => s

/-! ## The commands -/

/-- SWEEP (R87). -/
def execSweep (awn : BitVec 32) (r : SweepResult) (s : State) : Host.Outcome State Fault Refusal := s.seal (s.sweepAwn awn.toNat r)

/-- TILE_SWEEP (R155). -/
def execTileSweep (tile : BitVec 7) (r : SweepResult) (s : State) : Host.Outcome State Fault Refusal :=
  s.seal (s.sweepTile tile.toNat r)

/-- CHECKER_SWEEP (R333). -/
def execCheckerSweep (chk : Checker) (r : SweepResult) (s : State) : Host.Outcome State Fault Refusal :=
  s.seal (s.sweepChecker (checkerNo chk) r)

/-- CHECKER_LATE (R334). -/
def execCheckerLate (u : LateUnit) (s : State) : Host.Outcome State Fault Refusal := s.seal (s.late u)

/-- SCRUB (R91). -/
def execScrub (slot : BitVec 25) (uncorrected : Bool) (s : State) : Host.Outcome State Fault Refusal :=
  s.seal (s.scrubSlot slot.toNat uncorrected)

/-- PATROL (R336). -/
def execPatrol (slot : BitVec 25) (r : ReadResult) (s : State) : Host.Outcome State Fault Refusal := s.seal (s.patrol slot.toNat r)

/-- PATROL_SUSPECT_VERIFY (R337). -/
def execPatrolSuspectVerify (slot : BitVec 25) (r : ReadResult) (s : State) : Host.Outcome State Fault Refusal :=
  s.seal (s.verifySuspect slot.toNat r)

/-- SPARE_MAP (R104, R107, R157). -/
def execSpareMap (u : SpareUnit) (s : State) : Host.Outcome State Fault Refusal :=
  s.seal (match u with | .awn a => (s.mapAwn a.toNat).pump (uStack a.toNat) | .tile t => s.mapTile t.toNat)

/-- CHANNEL_COPY_SWITCH (R106). -/
def execChannelCopySwitch (stack : BitVec 4) (ch : BitVec 5) (s : State) : Host.Outcome State Fault Refusal :=
  s.seal (s.switchChan stack.toNat ch.toNat)

/-- RECODE_NARROW (R76, R89). -/
def execRecodeNarrow (dom : BitVec 12) (seq : BitVec 64) (plane : BitVec 13) (ordinal : BitVec 32) (s : State) :
    Host.Outcome State Fault Refusal :=
  s.seal (s.runNarrow dom.toNat seq plane.toNat ordinal.toNat)

/-- INDEX_REBALANCE (R201). -/
def execIndexRebalance (bank : BitVec 6) (s : State) : Host.Outcome State Fault Refusal :=
  s.seal ((s.setIndex (rebalance s.index.entries bank.toNat)).bump 0xA000 8)

/-- INDEX_SWEEP (R212). -/
def execIndexSweep (s : State) : Host.Outcome State Fault Refusal := s.seal s.sweepIndex

/-- PRECLEAN (R230). -/
def execPreclean (page : BitVec 25) (s : State) : Host.Outcome State Fault Refusal := s.seal (s.preclean page.toNat)

/-- TIER_FLUSH_READ_DONE (R221). -/
def execTierFlushReadDone (id : Nat) (s : State) : Host.Outcome State Fault Refusal := s.seal (s.flushDone id)

/-- TIER_TRANSFER_DONE (R221, R226). -/
def execTierTransferDone (id : Nat) (page : BitVec 25) (dmaOk : Bool) (s : State) : Host.Outcome State Fault Refusal :=
  s.seal (s.tierDone id page.toNat dmaOk)

/-- TIER_LATE (R227). -/
def execTierLate (id : Nat) (page : BitVec 25) (limit : TierLimit) (s : State) : Host.Outcome State Fault Refusal :=
  s.seal (s.tierLate id page.toNat limit)

end Sys2Proof.Machine
end

