-- ==== Sys2Proof/Machine/Service.lean ====
section
/-! DEFINITION. SERVICE messages: holds, moves, ring and shadow messages as they are acted on in PSN order (R57, R225, R270 to
R272, R279 to R292, R351 to R354), and the timers of the tier engine's exchanges. -/

namespace Sys2Proof.Machine

/-! ## Header fields (R270) -/

/-- SVC. -/
def hSvc (h : BitVec 256) : Nat := fld h 0 8
/-- REASON. -/
def hReason (h : BitVec 256) : Nat := fld h 8 8
/-- SVC_TAG. -/
def hTag (h : BitVec 256) : Nat := fld h 16 16
/-- COUNT. -/
def hCount (h : BitVec 256) : Nat := fld h 32 32
/-- SEQ_ID. -/
def hSeq (h : BitVec 256) : BitVec 64 := h.extractLsb' 64 64
/-- RKEY_INDEX. -/
def hKey (h : BitVec 256) : Nat := fld h 128 16
/-- RKEY_GEN. -/
def hGen (h : BitVec 256) : Nat := fld h 144 8

/-- The words of a payload that holds COUNT times U32. -/
def svcWords (n : Nat) (l : List Byte) : List Nat := (chunks 4 n (padTo (4 * n) l)).map leNat

/-- A QP's messages are acted on: a DATA QP in RTS or DRAINING (R249, R260, R270). -/
def State.svcQp (s : State) (qp : Nat) : Bool :=
  let q := s.qp qp
  s.alive && !q.isMgmt && (q.st == .rts || q.st == .draining)

/-! ## Holds: the origin (R271) -/

/-- The PAGE_MIGRATE whose hold exchange runs on a QP with a tag. -/
def State.holdCmd (s : State) (qp tag : Nat) : Option Cmd :=
  s.sched.cmds.find? fun c => dOp c.desc == 0x42 && !mMove c.desc && !mBack c.desc && mQp c.desc == qp && c.tag == tag

/-- HOLD_READY: every image of the exchange is written to its unit, then HOLD_COMMIT (R271). -/
def State.holdReady (s : State) (qp : Nat) (h : BitVec 256) : State :=
  match s.holdCmd qp (hTag h) with
  | none => s
  | some c =>
    let js := (c.jobs.filter fun j => !j.done).take (Nat.min 1024 (hCount h))
    match js.mapM fun j => s.hbmPage j.page with
    | none => (s.endCmd c ⟨stPartFail, 0, 0, 0⟩).wake
    | some ds =>
      let s1 := ds.zipIdx.foldl (fun t p => t.sendWrite qp (hKey h) (hGen h) (unitBytes * p.2) (pageUnit s.pr p.1) (c.id + 1)) s
      s1.sendSvc qp (svcHdr 4 0 (hTag h) js.length 0 0 0) [] (c.id + 1)

/-- HOLD_DONE: the target's indices are kept, its HOLDS key is known; the next exchange or the commit follows (R271). -/
def State.holdDone (s : State) (qp : Nat) (h : BitVec 256) (payload : List Byte) : State :=
  match s.holdCmd qp (hTag h) with
  | none => s
  | some c =>
    let s1 := s.modTier fun t =>
      { t with remoteKeys := aput t.remoteKeys ((s.qp qp).peerNode * 4096 + c.dom) (hKey h + hGen h * 65536) }
    let open_ := c.jobs.filter fun j => !j.done
    let at_ := open_.zip (svcWords (hCount h) payload)
    let c1 := at_.foldl (fun a p => a.setJob p.1.page fun x => { x with landing := p.2, done := true }) c
    let s2 := s1.setCmd c1
    if c1.jobs.all PageJob.done then s2.tryCommit c.id else s2.offerHolds c1

/-- A command ends since its target refused (R224, R271). -/
def State.holdRefused (s : State) (c : Cmd) : State :=
  let page := ((c.jobs.find? fun j => !j.done).map PageJob.page).getD 0
  (s.endCmd c ⟨stTierFail, 4, page, 0⟩).wake

/-- RELEASED: the release is acknowledged (R225). -/
def State.released (s : State) (qp tag : Nat) : State :=
  s.modTier fun t => { t with releases := t.releases.filter fun r => ¬ (r.node = (s.qp qp).peerNode ∧ r.tag = tag) }

/-- TIER_REMOTE_LIMIT without an acknowledgement: the reference is dropped and counted (R225). -/
def State.releaseLost (s : State) (node page : Nat) : State :=
  if s.tier.releases.any fun r => r.node == node && r.page == page then
    (s.modTier fun t => { t with releases := t.releases.filter fun r => ¬ (r.node = node ∧ r.page = page) }).bump 0x3500 0xC
  else s

/-! ## Moves: the origin (R272) -/

/-- The move that a message on a QP names: on its own QP, or for an unresolved one on any QP of its domain to its target (R272). -/
def State.moveOn (s : State) (qp : Nat) (id : BitVec 64) : Option MoveSt :=
  let q := s.qp qp
  s.xnt.moves.find? fun m => seqIdOf m.seq (s.seq m.seq) == id
    && (m.qp == qp || (m.unresolved && q.peerNode == m.node && q.dom == (s.seq m.seq).dom))

/-- MOVE_READY: the region is known; the final stage begins as soon as it may (R272). -/
def State.moveReady (s : State) (qp : Nat) (h : BitVec 256) : State :=
  match s.moveOn qp (hSeq h) with
  | none => s
  | some m =>
    if m.ready then s
    else
      let m1 := { m with ready := true, key := hKey h, gen := hGen h }
      let s1 := s.setMove m.seq m.shadow fun _ => m1
      if m.shadow then s1.copyReady m1 (hTag h)
      else
        match m.cmd.bind s1.cmd with
        | some c => s1.finalMove c
        | none => s1

/-- MOVE_DONE: the target has committed, and the origin makes the commit of R22; readers that a move must wait for are waited
for by its command (R272). -/
def State.moveDone (s : State) (qp : Nat) (h : BitVec 256) : State :=
  match s.moveOn qp (hSeq h) with
  | none => s
  | some m =>
    if m.shadow then s.copyDone m
    else
      match m.cmd with
      | some id =>
        match s.cmd id with
        | some c => (s.setCmd { c with flushed := true }).tryCommit id
        | none => s
      | none => (s.moveOut m).wake.lowCheck

/-- REFUSE of a move or of a copy for a shadow (R57, R65, R272). -/
def State.moveRefused (s : State) (m : MoveSt) (reason : Nat) : State :=
  if m.shadow then s.shadowFail (if reason = 3 then 2 else 3)
  else
    match m.cmd with
    | some id =>
      match s.cmd id with
      | some c => (s.endCmd c (if reason = 3 then ⟨stBusy, 0, 0, 0⟩ else ⟨stTierFail, 4, s.firstPage m.seq, 0⟩)).wake
      | none => s
    | none => if reason = 6 then (s.abandonMove m.seq).wake else s

/-- REFUSE received (R270): by the move of its SEQ_ID, or by the hold exchange of its tag. -/
def State.refused (s : State) (qp : Nat) (h : BitVec 256) : State :=
  match s.holdCmd qp (hTag h), s.moveOn qp (hSeq h) with
  | _, some m => s.moveRefused m (hReason h)
  | some c, none => s.holdRefused c
  | none, none => s

/-- TIER_REMOTE_LIMIT after MOVE_FINAL: the command fails, the sequence stays MOVING, held appends are busy (R272). -/
def State.moveTimeout (s : State) (i : Nat) : State :=
  match s.xnt.moves.find? fun m => m.seq == i && m.final && !m.unresolved with
  | none => s
  | some m =>
    if m.shadow then s.shadowFail 5
    else
      let e := s.seq i
      let s1 := s.setMove i false fun x => { x with unresolved := true, cmd := none }
      let s2 := match m.cmd.bind s.cmd with
        | some c => s1.endCmd c ⟨stTierFail, 4, s.firstPage i, 0⟩
        | none => s1
      let s3 := (s2.pendingAppends i none).foldl (fun t c => t.endCmd c ⟨stBusy, 0, 0, 0⟩) s2
      (s3.note 0x0109 (some e.dom) islEdge 0 [(seqIdOf i e).toNat, m.node]).wake

/-- MOVE_QUERY sent while the move is unresolved and a QP to the target is in RTS (R272). -/
def State.moveAsk (s : State) (i : Nat) : State :=
  match s.xnt.moves.find? fun m => m.seq == i && m.unresolved with
  | none => s
  | some m =>
    match s.qpTo (s.seq i).dom m.node with
    | some q =>
      (s.sendSvc q (svcHdr 0x0C 0 (i % 65536) 0 (seqIdOf i (s.seq i)) 0 0) []).setMove i false fun x => { x with qp := q }
    | none => s

/-! ## The ring's timers (R279, R290) -/

/-- Both hellos are not held within RING_JOIN_LIMIT: ST_BUSY (R279). -/
def State.joinLimit (s : State) (id : Nat) : State :=
  match s.cmd id with
  | some c => if dOp c.desc = 0x60 then s.failJoin c ⟨stBusy, 0, 0, 0⟩ else s
  | none => s

/-- Nothing came from a neighbour for RING_IDLE_LIMIT (R290). -/
def State.ringIdle (s : State) (qp : Nat) : State := s.ringLost qp

/-- A held RING_HELLO expires (R279). -/
def State.helloExpiry (s : State) (qp : Nat) : State := s.modRing fun r => { r with hellos := adel r.hellos qp }

/-! ## By SVC -/

/-- The action of a SERVICE message on the QP it came by; codes without a meaning change nothing (R270, R280, R351). -/
def State.onService (s : State) (qp : Nat) (h : BitVec 256) (p : List Byte) : State :=
  match hSvc h with
  | 0x01 => s.holdOffer qp (hTag h) (hCount h)
  | 0x02 => s.holdReady qp h
  | 0x03 => s.holdDone qp h p
  | 0x04 => s.holdCommit qp (hTag h)
  | 0x05 => s.holdRelease qp (hTag h) (svcWords (hCount h) p)
  | 0x06 => s.released qp (hTag h)
  | 0x08 => s.moveBegin qp (hTag h) (hCount h) (hSeq h) (hReason h == 1)
  | 0x09 => s.moveReady qp h
  | 0x0A => s.moveFinal qp (hTag h) (hSeq h) p
  | 0x0B => s.moveDone qp h
  | 0x0C => s.moveQuery qp (hTag h) (hSeq h)
  | 0x0F => s.refused qp h
  | 0x20 => s.ringHello qp p
  | 0x21 => s.ringMsg qp h fun t => t.ringStook p
  | 0x22 => s.ringMsg qp h fun t => t.ringCredit (hCount h)
  | 0x23 => s.ringMsg qp h fun t => t.ringMark (hCount h)
  | 0x24 => s.ringMsg qp h fun t => t.ringCommit (hCount h)
  | 0x25 => s.ringMsg qp h fun t => t.ringAbort qp (hReason h) (hTag h % 64) (hCount h)
  | 0x26 => s.ringMsg qp h fun t => t.ringStop (hTag h % 64) (hCount h)
  | 0x27 => s.ringMsg qp h fun t => t.ringEnd (hTag h % 64) (hCount h)
  | 0x28 => s.ringMsg qp h id
  | 0x30 => s.shadowHello qp (hReason h) p
  | 0x31 => s.shadowCmd qp (hTag h) (hCount h) p
  | 0x32 => s.shadowCommit qp
  | 0x33 => s.shadowEnd qp (hReason h) (hCount h) (hSeq h)
  | _ => s

/-- A SERVICE message of one code acted on: the row fixes SVC. -/
def State.svcRow (s : State) (qp : BitVec 16) (svc : Nat) (m : SvcMsg) : State :=
  if s.svcQp qp.toNat then
    (s.onService qp.toNat ((m.hdr &&& ~~~(0xFF#256)) ||| BitVec.ofNat 256 svc) m.payload).wake.lowCheck
  else s

/-- HOLD_OFFER (R271). -/
def execHoldOffer (qp : BitVec 16) (m : SvcMsg) (s : State) : Host.Outcome State Fault Refusal := s.seal (s.svcRow qp 0x01 m)

/-- HOLD_READY (R271). -/
def execHoldReady (qp : BitVec 16) (m : SvcMsg) (s : State) : Host.Outcome State Fault Refusal := s.seal (s.svcRow qp 0x02 m)

/-- HOLD_COMMIT (R271). -/
def execHoldCommit (qp : BitVec 16) (m : SvcMsg) (s : State) : Host.Outcome State Fault Refusal := s.seal (s.svcRow qp 0x04 m)

/-- HOLD_DONE (R271). -/
def execHoldDone (qp : BitVec 16) (m : SvcMsg) (s : State) : Host.Outcome State Fault Refusal := s.seal (s.svcRow qp 0x03 m)

/-- HOLD_RELEASE (R225). -/
def execHoldRelease (qp : BitVec 16) (m : SvcMsg) (s : State) : Host.Outcome State Fault Refusal := s.seal (s.svcRow qp 0x05 m)

/-- RELEASED (R225). -/
def execReleased (qp : BitVec 16) (m : SvcMsg) (s : State) : Host.Outcome State Fault Refusal := s.seal (s.svcRow qp 0x06 m)

/-- MOVE_BEGIN (R57, R272). -/
def execMoveBegin (qp : BitVec 16) (m : SvcMsg) (s : State) : Host.Outcome State Fault Refusal := s.seal (s.svcRow qp 0x08 m)

/-- MOVE_READY (R272). -/
def execMoveReady (qp : BitVec 16) (m : SvcMsg) (s : State) : Host.Outcome State Fault Refusal := s.seal (s.svcRow qp 0x09 m)

/-- MOVE_FINAL (R272). -/
def execMoveFinal (qp : BitVec 16) (m : SvcMsg) (s : State) : Host.Outcome State Fault Refusal := s.seal (s.svcRow qp 0x0A m)

/-- MOVE_DONE (R22, R272). -/
def execMoveDone (qp : BitVec 16) (m : SvcMsg) (s : State) : Host.Outcome State Fault Refusal := s.seal (s.svcRow qp 0x0B m)

/-- MOVE_QUERY (R272). -/
def execMoveQuery (qp : BitVec 16) (m : SvcMsg) (s : State) : Host.Outcome State Fault Refusal := s.seal (s.svcRow qp 0x0C m)

/-- REFUSE (R270). -/
def execRefuse (qp : BitVec 16) (m : SvcMsg) (s : State) : Host.Outcome State Fault Refusal := s.seal (s.svcRow qp 0x0F m)

/-- RING_HELLO (R279). -/
def execRingHello (qp : BitVec 16) (m : SvcMsg) (s : State) : Host.Outcome State Fault Refusal := s.seal (s.svcRow qp 0x20 m)

/-- STOOK (R285). -/
def execStook (qp : BitVec 16) (m : SvcMsg) (s : State) : Host.Outcome State Fault Refusal := s.seal (s.svcRow qp 0x21 m)

/-- CREDIT (R286). -/
def execCredit (qp : BitVec 16) (m : SvcMsg) (s : State) : Host.Outcome State Fault Refusal := s.seal (s.svcRow qp 0x22 m)

/-- LAP_MARK (R289). -/
def execLapMark (qp : BitVec 16) (m : SvcMsg) (s : State) : Host.Outcome State Fault Refusal := s.seal (s.svcRow qp 0x23 m)

/-- LAP_COMMIT (R289). -/
def execLapCommit (qp : BitVec 16) (m : SvcMsg) (s : State) : Host.Outcome State Fault Refusal := s.seal (s.svcRow qp 0x24 m)

/-- LAP_ABORT (R290). -/
def execLapAbort (qp : BitVec 16) (m : SvcMsg) (s : State) : Host.Outcome State Fault Refusal := s.seal (s.svcRow qp 0x25 m)

/-- RING_STOP (R292). -/
def execRingStop (qp : BitVec 16) (m : SvcMsg) (s : State) : Host.Outcome State Fault Refusal := s.seal (s.svcRow qp 0x26 m)

/-- RING_END (R292). -/
def execRingEnd (qp : BitVec 16) (m : SvcMsg) (s : State) : Host.Outcome State Fault Refusal := s.seal (s.svcRow qp 0x27 m)

/-- SHADOW_HELLO (R351). -/
def execShadowHello (qp : BitVec 16) (m : SvcMsg) (s : State) : Host.Outcome State Fault Refusal := s.seal (s.svcRow qp 0x30 m)

/-- SHADOW_CMD (R353, R354). -/
def execShadowCmd (qp : BitVec 16) (m : SvcMsg) (s : State) : Host.Outcome State Fault Refusal := s.seal (s.svcRow qp 0x31 m)

/-- SHADOW_COMMIT (R352). -/
def execShadowCommit (qp : BitVec 16) (m : SvcMsg) (s : State) : Host.Outcome State Fault Refusal := s.seal (s.svcRow qp 0x32 m)

/-- SHADOW_END (R352). -/
def execShadowEnd (qp : BitVec 16) (m : SvcMsg) (s : State) : Host.Outcome State Fault Refusal := s.seal (s.svcRow qp 0x33 m)

/-- The pulses of RING_PULSE_PERIOD (R290). -/
def execRingPulse (s : State) : Host.Outcome State Fault Refusal := s.seal s.ringPulse

/-- RING_IDLE_LIMIT passes without a message from a neighbour (R290). -/
def execRingIdleLimit (qp : BitVec 16) (s : State) : Host.Outcome State Fault Refusal := s.seal (s.ringIdle qp.toNat)

/-- A RING_JOIN's time passes (R279). -/
def execRingJoinLimit (id : Nat) (s : State) : Host.Outcome State Fault Refusal := s.seal (s.joinLimit id)

/-- A held RING_HELLO's time passes (R279). -/
def execHelloHoldExpiry (qp : BitVec 16) (s : State) : Host.Outcome State Fault Refusal := s.seal (s.helloExpiry qp.toNat)

/-- A hold release is not acknowledged in time (R225). -/
def execRemoteReleaseTimeout (node : BitVec 12) (page : BitVec 25) (s : State) : Host.Outcome State Fault Refusal :=
  s.seal (s.releaseLost node.toNat page.toNat)

/-- MOVE_FINAL is not answered in time (R272). -/
def execMoveFinalTimeout (index : BitVec 24) (s : State) : Host.Outcome State Fault Refusal := s.seal (s.moveTimeout index.toNat)

/-- The query timer of an unresolved move (R272). -/
def execMoveQueryTimer (index : BitVec 24) (s : State) : Host.Outcome State Fault Refusal := s.seal (s.moveAsk index.toNat)

end Sys2Proof.Machine
end

