-- ==== Sys2Proof/Machine/Packet.lean ====
section
/-! DEFINITION. XNT packets as the node sends them, sub-ports, the configuration and the states of a QP (R237 to R251, R256,
R261, R262, R265, R266, R315). -/

namespace Sys2Proof.Machine

/-! ## Base header fields (R242) -/

/-- OPCODE. -/
def bOp (h : BitVec 256) : Nat := fld h 8 8
/-- FIRST. -/
def bFirst (h : BitVec 256) : Bool := bit h 16
/-- LAST. -/
def bLast (h : BitVec 256) : Bool := bit h 17
/-- ACK_REQ. -/
def bAckReq (h : BitVec 256) : Bool := bit h 18
/-- SRC_NODE. -/
def bSrcNode (h : BitVec 256) : Nat := fld h 32 12
/-- DST_NODE. -/
def bDstNode (h : BitVec 256) : Nat := fld h 44 12
/-- SRC_QP. -/
def bSrcQp (h : BitVec 256) : Nat := fld h 64 16
/-- DST_QP. -/
def bDstQp (h : BitVec 256) : Nat := fld h 80 16
/-- CONN_ID. -/
def bConn (h : BitVec 256) : Nat := fld h 96 16
/-- DOMAIN. -/
def bDom (h : BitVec 256) : Nat := fld h 112 12
/-- PSN. -/
def bPsn (h : BitVec 256) : Nat := fld h 128 24
/-- MSN. -/
def bMsn (h : BitVec 256) : Nat := fld h 152 24
/-- PAYLOAD_LEN. -/
def bLen (h : BitVec 256) : Nat := fld h 176 16

/-- The base header with PATH taken as zero, then the extension headers: what the husk authenticates (R246). -/
def huskAad (h : BitVec 256) (ext : List Byte) : List Byte :=
  leBytes 32 (h &&& ~~~(BitVec.ofNat 256 (0x7F * 2 ^ 24))).toNat ++ ext

/-- The 96-bit nonce of a packet: 32 zero bits, then NONCE_CTR (R246). -/
def huskNonce (h : BitVec 256) : List Byte := leBytes 4 0 ++ leBytes 8 (fld h 192 64)

/-! ## Sub-ports (R237, R239, R276) -/

/-- SUBPORT_n in force. -/
def State.portCfg (s : State) (n : Nat) : BitVec 512 := ofBytes 512 (s.active 0x6010 n 0)

/-- The mode of a sub-port's port, read from sub-port 4p. -/
def State.portMode (s : State) (n : Nat) : Nat := fld (s.portCfg (n / 4 * 4)) 0 2

/-- A sub-port exists in the mode of its port (R237). -/
def State.portExists (s : State) (n : Nat) : Bool :=
  decide (n < 32) &&
    match s.portMode n with
    | 0 => n % 4 == 0
    | 1 => n % 2 == 0
    | 2 => true
    | _ => false

/-- Rate of a sub-port in Mb/s (R237). -/
def State.portRate (s : State) (n : Nat) : Nat := if s.portExists n then 1600000 / 2 ^ s.portMode n else 0

/-- The link of a sub-port is up. -/
def State.portUp (s : State) (n : Nat) : Bool :=
  s.portExists n && fld (s.portCfg n) 32 48 != 0 && (match aget s.xnt.subports n with | some p => p.up | none => false)

/-- A sub-port's link and counters. -/
def State.port (s : State) (n : Nat) : Subport := (aget s.xnt.subports n).getD {}

/-- A sub-port's link and counters changed. -/
def State.modPort (s : State) (n : Nat) (f : Subport → Subport) : State :=
  s.modXnt fun x => { x with subports := aput x.subports n (f (s.port n)) }

/-- Links of sub-ports that no longer exist, or have no MAC, are down (R237, R239). -/
def State.portsDown (s : State) : State :=
  (akeys s.xnt.subports).foldl (fun t n => if t.portUp n then t else t.modPort n fun p => { p with up := false }) s

/-! ## QP configuration (R248) -/

/-- A sequenced packet that left and is not known to be done (R252). -/
def TxPkt.out (p : TxPkt) : Bool := (p.sent || p.resent || p.rnr) && !p.done

/-- PATHS. -/
def Qp.paths (q : Qp) : Nat := fld q.cfg 56 8

/-- The sub-ports of SUBPORT_MASK, lowest first. -/
def Qp.ports (q : Qp) : List Nat := (List.range 32).filter fun i => bit q.cfg (256 + i)

/-- The sub-port of a path (R251). -/
def Qp.portOf (q : Qp) (path : Nat) : Nat := q.ports.getD (path % q.ports.length) 0

/-- A QP_OP finds every field of the configuration in range: reserved fields are zero, the role exists, a DATA QP's domain is
ACTIVE and has the slice in its mask, PATHS is 1 to 128, SUBPORT_MASK names a sub-port and lies within the slice's, and only
version 1 is offered (R248, R298, R306). -/
def State.qpCfgOk (s : State) (q : Qp) : Bool :=
  let c := q.cfg
  let mask := fld c 256 32
  decide (fld c 0 2 < 2) && fld c 28 4 == 0 && fld c 50 6 == 0 && fld c 74 6 == 0 && fld c 288 224 == 0
    && (if q.isMgmt then q.dom == 0 else s.domActive q.dom && (s.num 0x7120 1 q.dom).testBit q.slice)
    && decide (1 ≤ q.paths) && decide (q.paths ≤ 128)
    && mask != 0 && (mask &&& slicePorts (s.sliceReg q.slice)) == mask
    && fld c 80 8 == 1 && fld c 88 8 == 1

/-- RATE_MAX: the sum of the rates of the QP's sub-ports (R264). -/
def State.rateMax (s : State) (q : Qp) : Nat := (q.ports.map s.portRate).sum

/-! ## Husk (R246, R247) -/

/-- The fabric key of a QP: its domain's, or the fabric management key; empty where none is loaded. -/
def State.qpKey (s : State) (q : Qp) : List Byte :=
  if q.isMgmt then s.dom.mgmtKey else ((aget s.dom.doms q.dom).map Domain.fabricKey).getD []

/-- The subkey of a fabric key, a sending node and its boot. -/
def huskKey (ikm : List Byte) (node : Nat) (boot : BitVec 64) : List Byte :=
  hkdf [] ikm (ascii "XNT husk 1" ++ leBytes 2 node ++ leBytes 8 boot.toNat) 32

/-- The counter of a QP's subkey: the domain's, or 4096 for the management key. -/
def Qp.nonceKey (q : Qp) : Nat := if q.isMgmt then 4096 else q.dom

/-- Ciphertext and tag of a packet. Without a key the tag is free (log 5). -/
def State.husk (s : State) (q : Qp) (h : BitVec 256) (ext payload : List Byte) : List Byte × List Byte :=
  let k := s.qpKey q
  if k.isEmpty then
    (payload, leBytes 8 (Config.fresh s.faults.freshCtr).toNat ++ leBytes 8 (Config.fresh (s.faults.freshCtr + 1)).toNat)
  else gcmSeal (huskKey k s.nodeId s.boot.bootId) (huskNonce h) (huskAad h ext) payload

/-! ## Sending -/

/-- The frame of a packet: from the sub-port's address to its gateway and the peer (R239, R240). -/
def State.frameOf (s : State) (n : Nat) (q : Qp) (port path op : Nat) : FrameHdr :=
  let p := s.portCfg port
  let v6 := bit q.cfg 3
  { srcMac := fld p 32 48, dstMac := fld p 80 48
    vlan := if bit p 4 then some (fld p 5 3, fld p 8 12) else none
    v6 := v6
    src := if v6 then fld p 160 128 else fld p 128 32
    dst := if v6 then fld q.cfg 128 128 else fld q.cfg 96 32
    dscp := fld q.cfg 68 6
    ecn := if op < 0x10 ∨ 0x20 ≤ op then 2 else 0
    ttl := 64
    df := !v6
    flow := if v6 then (n * 128 + path) % 2 ^ 20 else 0
    sport := s.num 0x6000 4 + path
    dport := s.num 0x6000 3
    checksum := v6 }

/-- Bytes of a frame from the destination MAC to the FCS (R240, R241, R315). -/
def State.frameBytes (s : State) (q : Qp) (port ext payload : Nat) : Nat :=
  14 + (if bit (s.portCfg port) 4 then 4 else 0) + (if bit q.cfg 3 then 40 else 20) + 8 + 32 + ext + payload + 16 + 4

/-- The order in which a new packet takes paths: from the next one on (R251). -/
def Qp.pathOrder (q : Qp) : List Nat := (List.range q.paths).map fun i => (q.pathNext + i) % q.paths

/-- The path of a packet: the next unsuspended one in turn, any where all are suspended; a retransmission takes another than
its previous copy (R251). -/
def Qp.nextPath (q : Qp) (before : Option Nat) : Nat :=
  let other := q.pathOrder.filter fun p => some p ≠ before
  let open_ := other.filter fun p => !q.suspended.contains p
  (open_ ++ other ++ q.pathOrder).headD 0

/-- One packet sent on a path: it is husked with the next counter of its subkey, and leaves where its sub-port is up. -/
def State.emitPkt (s : State) (n op path : Nat) (p : TxPkt) (ackReq : Bool) (conn : Nat) : State :=
  let q := s.qp n
  let nonce := anat s.xnt.nonces q.nonceKey + 1
  let ver := if 0x20 ≤ op then 1 else q.version
  let h : BitVec 256 := BitVec.ofNat 256
    (ver + op * 2 ^ 8 + b2n p.first * 2 ^ 16 + b2n p.last * 2 ^ 17 + b2n ackReq * 2 ^ 18 + path * 2 ^ 24 + s.nodeId * 2 ^ 32
      + q.peerNode * 2 ^ 44 + n * 2 ^ 64 + q.peerQp * 2 ^ 80 + conn * 2 ^ 96 + q.dom * 2 ^ 112 + p.psn * 2 ^ 128
      + p.msn * 2 ^ 152 + p.payload.length * 2 ^ 176 + nonce * 2 ^ 192)
  let s1 := s.modXnt fun x => { x with nonces := aput x.nonces q.nonceKey nonce }
  let port := q.portOf path
  if s.portUp port then
    let (ct, tag) := s.husk q h p.ext p.payload
    (s1.emit (.packet port (s.frameOf n q port path op) h p.ext ct tag)).modPort port fun y => { y with tx := y.tx + 1 }
  else s1

/-- An unsequenced packet sent at once on the next path (R243, R251). -/
def State.sendUn (s : State) (n op : Nat) (ext : List Byte) (conn : Nat) : State :=
  let path := (s.qp n).nextPath none
  (s.emitPkt n op path { ext := ext } false conn).modQp n fun q => { q with pathNext := (path + 1) % Nat.max 1 q.paths }

/-- A CONN packet (R250). -/
def State.sendConn (s : State) (n op reason vmin vmax pmtu conn : Nat) : State :=
  let q := s.qp n
  s.sendUn n op
    (leBytes 1 vmin ++ leBytes 1 vmax ++ leBytes 1 reason ++ [0] ++ leBytes 8 s.boot.bootId.toNat ++ leBytes 2 conn
      ++ leBytes 18 (b2n q.isMgmt + pmtu * 4)) conn

/-- A CONN packet with the QP's own range and PMTU. -/
def State.sendOwn (s : State) (n op : Nat) : State :=
  let c := (s.qp n).cfg
  s.sendConn n op 0 (fld c 80 8) (fld c 88 8) (fld c 48 2) (s.qp n).connId

/-- ACK extension header and records (R245). -/
def ackExt (q : Qp) : List Byte :=
  let sack := ((List.range 128).map fun i => if q.done.contains ((q.cpsn + 1 + i) % 2 ^ 24) then 2 ^ i else 0).sum
  leBytes 3 q.cpsn ++ leBytes 1 q.refused.length ++ leBytes 16 sack ++ leBytes 2 q.ce ++ leBytes 2 q.unacked
    ++ leBytes 2 q.refuseSeq ++ leBytes 6 0
    ++ q.refused.flatMap fun r => leBytes 3 r.msn ++ leBytes 1 r.code ++ leBytes 2 r.no ++ leBytes 2 0

/-- The QP sends packets: it is in RTS or DRAINING (R249). -/
def Qp.sends (q : Qp) : Bool := q.st == .rts || q.st == .draining

/-- An ACK, or a NAK, sent at once; a QP that has entered ERROR sends none (R249, R261, R262). -/
def State.sendAck (s : State) (n : Nat) (nak : Bool) : State :=
  let q := s.qp n
  if q.sends then
    (s.sendUn n (if nak then 0x11 else 0x10) (ackExt q) q.connId).modQp n fun x =>
      { x with unacked := 0, ce := 0, ceEcho := if q.ce = 0 then x.ceEcho else some s.xnt.clock }
  else s

/-- RNR for a packet not placed (R245, R268). -/
def State.sendRnr (s : State) (n psn : Nat) : State :=
  (s.sendUn n 0x12 (leBytes 3 psn ++ [0] ++ leBytes 2 (s.num 0x6300 7) ++ leBytes 10 0) (s.qp n).connId).bump 0x6400 7

/-! ## States of a QP (R249, R250) -/

/-- The channel instance of a QP starts: its select entries are at their defaults (R393). -/
def State.clearSelects (s : State) (n : Nat) : State :=
  let mine : Chan → Bool := fun ch => ch == .mgmtQp (BitVec.ofNat 16 n) || ch == .dataQp (BitVec.ofNat 16 n)
  s.modDict fun d => { d with selects := d.selects.filter fun x => !mine x.1.ch }

/-- A QP enters RTS: both directions start at PSN 0 and MSN 0, the rate at RATE_INIT with alpha 1 (R250, R264). -/
def State.enterRts (s : State) (n version pmtu conn : Nat) (boot : BitVec 64) : State :=
  let q := s.qp n
  (s.setQp n
    { cfg := q.cfg, st := .rts, version := version, connId := conn, peerBoot := boot, guarded := q.guarded, pmtu := pmtu,
      rate := ((Nat.min (s.num 0x6300 0x11) (s.rateMax q) : Nat) : Rat), alpha := 1 }).clearSelects n

/-- Packets of a QP leave the fault buffer; each no longer counts as in flight against its key (R266, R268). -/
def State.dropStalled (s : State) (f : Stalled → Bool) : State :=
  ((s.xnt.fault.filter f).foldl (fun (t : State) p =>
      t.modXnt fun x => { x with rkeys := amod x.rkeys p.key fun r => { r with inflight := r.inflight - 1 } }) s).modXnt
    fun x => { x with fault := x.fault.filter fun p => !f p }

/-- A READ_REQ no longer executes once the last packet of its response leaves, or is given up (R266). -/
def State.readEnds (s : State) (t : TxPkt) : State :=
  if t.src ≠ 0 && t.last && !t.sent && !t.resent && !t.rnr then
    s.modXnt fun x => { x with rkeys := amod x.rkeys (t.src - 1) fun r => { r with inflight := r.inflight - 1 } }
  else s

/-- A PAGE_MIGRATE fails on its QP: ST_TIER_FAIL, CAUSE 4; past its MOVE_FINAL the sequence stays MOVING, its outcome unresolved
(R228, R256, R272). -/
def State.migrateFails (s : State) (c : Cmd) : State :=
  match c.seq, s.xnt.moves.any fun m => m.cmd == some c.id && m.final with
  | some i, true => s.moveTimeout i
  | _, _ =>
    let first := if mMove c.desc then (c.seq.map s.firstPage).getD 0 else 0
    s.endCmd c ⟨stTierFail, 4, ((c.jobs.find? fun j => !j.done).map PageJob.page).getD first, 0⟩

/-- One admitted command ends since the QP that its commit or its reads need has left RTS (R256). -/
def State.qpCmd (s : State) (n : Nat) (c : Cmd) : State :=
  match s.cmd c.id with
  | none => s
  | some c =>
    let d := c.desc
    let op := dOp d
    let cqOn := match aget s.queues.cqs c.cq with | some q => bit q.cfg 21 && fld q.cfg 32 16 == n | none => false
    let outOn := (dOut d).kind == 3 && sqQp (s.sqOf c.sq).cfg == n
    if (op = 0x20 ∨ op = 0x21) ∧ (cqOn || outOn) = true then
      if s.ring.lapCmds.contains c.id then s.detectAbort 5 none else s.endCmd c ⟨stBufAccess, 1, 0, 0⟩
    else if op = 0x42 ∧ mQp d = n ∧ !mBack d then s.migrateFails c
    else s

/-- A read that will not be answered: the command's buffer or its page fails (R256). -/
def State.qpRead (s : State) (r : ReadOut) : State :=
  match s.cmd r.cmd with
  | none => s
  | some c =>
    match r.job with
    | some p => s.tierFailed c stTierFail 4 p
    | none => if s.ring.lapCmds.contains c.id then s.detectAbort 5 none else s.endCmd c ⟨stBufAccess, 0, 0, 0⟩

/-- The PSN that leaves a QP next: of its first packet that has not left, else the one that a new message takes (R277). -/
def Qp.nextPsn (q : Qp) : Nat :=
  ((q.tx.find? fun t => !t.sent && !t.resent && !t.rnr && !t.done).map TxPkt.psn).getD q.txPsn

/-- Dictionary requests that came over a QP and have no answer yet are discarded (R410). -/
def State.dropRequests (s : State) (n : Nat) : State :=
  let mine : Chan → Bool := fun ch => ch == .mgmtQp (BitVec.ofNat 16 n) || ch == .dataQp (BitVec.ofNat 16 n)
  s.modDict fun d =>
    { d with drains := d.drains.filter fun w => !mine w.req.ch, waiting := d.waiting.filter fun r => !mine r.ch }

/-- Everything that was under way on a QP ends: its reads, the commands that need it, the hold regions it opened, and its
packets in the fault buffer (R256, R266). -/
def State.qpDrop (s : State) (n : Nat) : State :=
  let q := s.qp n
  let s0 := (q.tx.foldl State.readEnds s).setQp n
    { q with tx := [], txPsn := q.nextPsn, reads := [], acts := [], parts := [], refused := [] }
  let s1 := q.reads.foldl State.qpRead s0
  let s2 := s1.sched.cmds.foldl (fun t c => t.qpCmd n c) s1
  let s3 := (s2.xnt.landings.filter fun l => l.qp == n && l.seq.isNone).foldl (fun t l => t.closeLanding l.key) s2
  (s3.dropStalled fun p => p.qp == n).dropRequests n

/-- A QP enters ERROR with a cause (R256): one DISCONNECT goes out, its SQs go to ERROR, what used it ends, QP_ERROR is posted,
and the ring or the shadow session that ran over it notices (R290, R352). -/
def State.qpError (s : State) (n cause : Nat) : State :=
  let q := s.qp n
  let left := q.st == .rts || q.st == .draining
  let s1 := (s.sendOwn n 0x23).modQp n fun x =>
    { x with st := .error, cause := cause, guarded := x.guarded || left }
  let s2 := (s1.modQueues fun x =>
    { x with sqs := x.sqs.map fun p =>
        if sqFabric p.2.cfg && sqQp p.2.cfg == n && p.2.st == .active then (p.1, { p.2 with st := .error }) else p }).qpDrop n
  let s3 := (s2.bump 0x6400 8).note 0x0107 (if q.isMgmt then none else some q.dom) islEdge n [n, cause]
  let s4 := s3.ringLost n
  if s4.shadowOn && s4.mirroredDoms.any (fun d => s4.mirrorQp d == some n) then s4.shadowFail 6 else s4

/-- A QP goes back to RESET, its configuration and CONN_ID kept (R249, R250). -/
def State.qpToReset (s : State) (n : Nat) : State :=
  let q := s.qp n
  let left := q.st == .rts || q.st == .draining
  let s1 := if left then s.qpDrop n else s
  s1.setQp n { cfg := q.cfg, connId := q.connId, guarded := q.guarded || left }

/-- A draining QP whose own direction is done sends its DISCONNECT, or answers the peer's and leaves to RESET (R249). -/
def State.drainStep (s : State) (n : Nat) : State :=
  let q := s.qp n
  if q.st ≠ .draining ∨ ¬ q.tx.isEmpty then s
  else if q.discRecv then
    let s1 := if q.unacked = 0 then s else s.sendAck n false
    (s1.sendOwn n 0x24).qpToReset n
  else if q.discSent then s
  else (s.sendOwn n 0x23).modQp n fun x => { x with discSent := true }

/-- A CONNECT sent by a QP in CONNECTING, where no PSN_GUARD holds it back and 16 have not been sent (R249, R250). -/
def State.sendConnect (s : State) (n : Nat) : State :=
  if (s.qp n).guarded then s
  else (s.sendOwn n 0x20).modQp n fun q => { q with attempts := q.attempts + 1 }

/-! ## QP_OP (R248, R249) -/

/-- QP_OP 1: RESET to CONNECTING with the next CONN_ID. -/
def State.qpConnect (s : State) (n : Nat) : Except Fail State :=
  let q := s.qp n
  if !s.qpCfgOk q then .error ⟨stBadParam, 0xFF, 0, 0⟩
  else if q.st ≠ .reset then .error ⟨stBusy, 0, 0, 0⟩
  else .ok ((s.setQp n { q with st := .connecting, connId := (q.connId + 1) % 65536, attempts := 0 }).sendConnect n)

/-- QP_OP 2: RESET to LISTEN. -/
def State.qpListen (s : State) (n : Nat) : Except Fail State :=
  let q := s.qp n
  if !s.qpCfgOk q then .error ⟨stBadParam, 0xFF, 0, 0⟩
  else if q.st ≠ .reset then .error ⟨stBusy, 0, 0, 0⟩
  else .ok (s.setQp n { q with st := .listen })

/-- QP_OP 3: RTS to DRAINING. -/
def State.qpDisconnect (s : State) (n : Nat) : Except Fail State :=
  let q := s.qp n
  if !s.qpCfgOk q then .error ⟨stBadParam, 0xFF, 0, 0⟩
  else if q.st ≠ .rts then .error ⟨stBusy, 0, 0, 0⟩
  else .ok ((s.setQp n { q with st := .draining }).drainStep n)

/-- QP_OP 4: ERROR to RESET. -/
def State.qpResetOp (s : State) (n : Nat) : Except Fail State :=
  let q := s.qp n
  if !s.qpCfgOk q then .error ⟨stBadParam, 0xFF, 0, 0⟩
  else if q.st ≠ .error then .error ⟨stBusy, 0, 0, 0⟩
  else .ok (s.qpToReset n)

end Sys2Proof.Machine
end

