-- ==== Sys2Proof/Machine/Manage.lean ====
section
/-! DEFINITION. What the dictionary's operations do to the node: queues (R161 to R165), domains and their teardown (R195, R298,
R299), keys (R303, R304), shares and partition mode (R305 to R308), slices (R16, R17), the profile (R60 to R64), host tier and
DMA regions (R217, R366), and the entries that act (R20, R225, R229, R272, R326, R329, R345, R347, R427, R428). Each answers
a failure or the next state, after the rights and the length have been checked. -/

namespace Sys2Proof.Machine

/-- ST_BUSY, CAUSE 0. -/
def busy0 : Fail := ⟨stBusy, 0, 0, 0⟩

/-- ST_BAD_PARAM with a CAUSE. -/
def bad (cause : Nat) : Fail := ⟨stBadParam, cause, 0, 0⟩

/-- The first failure of a list of checks, or the state. -/
def guarded (l : List (Bool × Fail)) (s : State) : Except Fail State :=
  match firstFail l with
  | some f => .error f
  | none => .ok s

/-! ## Queues (R164) -/

/-- An island other than a tile failed the start-up BIST: creates fail (R426). -/
def State.createsFail (s : State) : Bool := s.boot.startupFail.any fun i => decide (72 ≤ i)

/-- Bytes of every FABRIC SQ's region (R165). -/
def State.queueMemory (s : State) : Nat := ((s.queues.sqs.filter fun p => sqFabric p.2.cfg).map fun p => sqRegion p.2.cfg).sum

/-- The place of a new region in the firmware working memory: the first gap (R165). -/
def State.regionPlace (s : State) (n : Nat) : Nat :=
  let l := (s.queues.sqs.filter fun p => sqFabric p.2.cfg).map fun p => (p.2.region, sqRegion p.2.cfg, 0)
  poolFit n 0 (sortBy (fun x => x.1) l)

/-- Every field of an SQ configuration is in range (R162). -/
def sqCfgOk (c : BitVec 256) : Bool :=
  decide (4 ≤ fld c 32 5) && decide (fld c 32 5 ≤ 16) && fld c 40 8 == 1 && fld c 137 119 == 0
    && (if sqFabric c then sqClass c != 1 && sqClass c != 3 && fld c 64 64 == 0 && decide (fld c 128 9 ≤ 256)
        else decide (sqClass c < 2) && fld c 64 64 % 4096 == 0 && fld c 128 9 == 0 && sqQp c == 0)

/-- The CQ of an SQ has its domain and home and, for FABRIC, its QP (R161). -/
def cqMatches (c : BitVec 256) (q : Cq) : Bool :=
  fld q.cfg 0 12 == sqDom c && bit q.cfg 21 == sqFabric c && (!sqFabric c || fld q.cfg 32 16 == sqQp c)

/-- QUEUE_OP 1: create SQ `n` from the configuration staged for it. -/
def State.createSq (s : State) (n : Nat) : Except Fail State :=
  let c := (aget s.queues.stagedSq n).getD 0
  let cq := match aget s.queues.cqs (fld c 0 16) with | some q => cqMatches c q | none => false
  match firstFail
    [(sqCfgOk c && s.domActive (sqDom c), bad 0xFF),
     (cq, bad 0xFF),
     (!sqFabric c || decide (s.queueMemory + sqRegion c ≤ s.num 0x4000 5), bad 0xFF),
     (!s.createsFail, ⟨stPartFail, 0, 0, 0⟩),
     ((aget s.queues.sqs n).isNone, busy0)] with
  | some f => .error f
  | none =>
    let put : State → Nat → Nat → State := fun t key place => t.modQueues fun q =>
      { q with sqs := aput q.sqs n { cfg := c, rkey := key, region := place } }
    if sqFabric c then
      match s.newKey { kind := .queue, dom := sqDom c, len := sqRegion c, place := n } with
      | some (t, k, _) => .ok (put t k (s.regionPlace (sqRegion c)))
      | none => .error busy0
    else .ok (put s 0 0)

/-- QUEUE_OP 2: delete SQ `n`: fetching stops, fetched descriptors end with ST_ABORTED, a FABRIC region is revoked (R164,
R266). -/
def State.deleteSq (s : State) (n : Nat) : Except Fail State :=
  match aget s.queues.sqs n with
  | none => .error busy0
  | some q =>
    if q.st = .deleting then .error busy0
    else
      let s1 := s.modSq n fun x => { x with st := .deleting, fetched := [] }
      let s2 := q.fetched.foldl (fun t p => t.completeDesc n (fld q.cfg 0 16) p.2 p.1 ⟨stAborted, 0, 0, 0⟩) s1
      .ok (if sqFabric q.cfg then s2.revoke q.rkey else s2)

/-- The delete of an SQ finishes once every admitted command of it has completed; its region is zeroed (R164, R302). -/
def State.sqDeleted (s : State) (n : Nat) : State :=
  match aget s.queues.sqs n with
  | some q =>
    if q.st = .deleting ∧ !(s.sched.cmds.any fun c => c.sq == n) then
      let s1 := s.modQueues fun x => { x with sqs := adel x.sqs n }
      if sqFabric q.cfg then s1.nodeClear q.region (sqRegion q.cfg) else s1
    else s
  | none => s

/-- Every field of a CQ configuration is in range (R163). -/
def cqCfgOk (c : BitVec 256) : Bool :=
  decide (4 ≤ fld c 16 5) && decide (fld c 16 5 ≤ 16) && fld c 12 4 == 0 && fld c 23 9 == 0 && fld c 59 5 == 0
    && fld c 152 104 == 0 && (if bit c 21 then fld c 64 64 % 32 == 0 else fld c 64 64 % 4096 == 0)

/-- QUEUE_OP 3: create CQ `n`. -/
def State.createCq (s : State) (n : Nat) : Except Fail State :=
  let c := (aget s.queues.stagedCq n).getD 0
  match firstFail
    [(cqCfgOk c && s.domActive (fld c 0 12), bad 0xFF),
     (!s.createsFail, ⟨stPartFail, 0, 0, 0⟩),
     ((aget s.queues.cqs n).isNone, busy0)] with
  | some f => .error f
  | none => .ok (s.modQueues fun q => { q with cqs := aput q.cqs n { cfg := c } })

/-- QUEUE_OP 4: delete CQ `n`. -/
def State.deleteCq (s : State) (n : Nat) : Except Fail State :=
  if (aget s.queues.cqs n).isNone ∨ s.queues.sqs.any (fun p => fld p.2.cfg 0 16 == n) = true then .error busy0
  else .ok (s.modQueues fun x => { x with cqs := adel x.cqs n })

/-! ## Domains (R195, R298, R299) -/

/-- The keys of a dictionary table that belong to a domain. -/
def ownEntry (d : Nat) (k : PdKey) : Bool := pdScoped k.idx && k.dom == d

/-- Every domain-scoped entry of a domain at its default (R298, R299). -/
def State.clearEntries (s : State) (d : Nat) : State :=
  s.modDict fun x =>
    { x with
        active := x.active.filter fun p => !ownEntry d p.1
        shadow := x.shadow.filter fun p => !ownEntry d p.1
        counters := x.counters.filter fun p => !ownEntry d p.1
        selects := x.selects.filter fun p => !ownEntry d p.1.key }

/-- Shares and quotas (R306). -/
def quotaEntries : List (Nat × Nat × Nat) :=
  [(0x7120, 1, 2), (0x7120, 2, 8), (0x7120, 3, 1), (0x7120, 4, 1), (0x7120, 5, 8), (0x7120, 6, 2), (0x7120, 7, 8),
   (0x7120, 8, 4), (0x7120, 9, 4), (0x7120, 0xA, 4), (0x7120, 0xB, 2), (0x7120, 0xC, 2), (0x7120, 0xD, 1),
   (0x7120, 0xE, 2), (0x7120, 0xF, 4), (0x7120, 0x10, 4), (0x7120, 0x11, 8), (0x7120, 0x12, 4), (0x7120, 0x13, 4),
   (0x3200, 1, 4), (0x3200, 2, 4), (0xA020, 1, 4)]

/-- DOMAIN_OP 1: CREATE from ABSENT; in strict mode every share and quota is 0 (R298). -/
def State.domCreate (s : State) (d : Nat) : Except Fail State :=
  if (aget s.dom.doms d).isSome then .error busy0
  else
    let s1 := (s.clearEntries d).modDom fun x => { x with doms := aput x.doms d {} }
    .ok (if s.strict then quotaEntries.foldl (fun t e => t.setActive ⟨e.1, e.2.1, d⟩ (leBytes e.2.2 0)) s1 else s1)

/-- The teardown of a domain begins (R195, R266, R298): its commands and fetched descriptors end with ST_ABORTED, every SQ of it
goes to ERROR, one under deletion too, its QPs to ERROR with cause 7, its regions are revoked, a joining ring of the domain ends. -/
def State.teardown (s : State) (d : Nat) : State :=
  let s1 := s.modDom fun x => { x with doms := amod x.doms d fun y => { y with tearing := true } }
  let s2 := (s1.sched.cmds.filter fun c => c.dom == d).foldl (fun t c =>
    match t.cmd c.id with | some c => t.endCmd c ⟨stAborted, 0, 0, 0⟩ | none => t) s1
  let mine := s2.queues.sqs.filter fun p => sqDom p.2.cfg == d
  let s3 := mine.foldl (fun t p => p.2.fetched.foldl (fun u f =>
    u.completeDesc p.1 (fld p.2.cfg 0 16) f.2 f.1 ⟨stAborted, 0, 0, 0⟩) t) s2
  let s4 := mine.foldl (fun t p => t.modSq p.1 fun q =>
    { q with fetched := [], st := .error }) s3
  let s5 := if s4.ring.st = ringJoining ∧ s4.ring.domain = d then
      s4.modRing fun r => { abortCause := r.abortCause, abortPos := r.abortPos } else s4
  let s6 := (s5.xnt.qps.filter fun p => !p.2.isMgmt && p.2.dom == d && p.2.st != .reset && p.2.st != .error).foldl
    (fun t p => t.qpError p.1 7) s5
  let s7 := (s6.xnt.landings.filter fun l => l.dom == d).foldl (fun t l => match l.seq with
    | some id => t.discardMove id
    | none => t.closeLanding l.key) s6
  let s8 := (s7.xnt.rkeys.filter fun r => r.2.dom == d).foldl (fun t r => t.revoke r.1) s7
  s8.wake.lowCheck

/-- DOMAIN_OP 2: TEARDOWN from ACTIVE. -/
def State.domTeardown (s : State) (d : Nat) : Except Fail State := if s.domActive d then .ok (s.teardown d) else .error busy0

/-- The teardown is complete: the domain is ACTIVE again, and TEARDOWN_DONE is posted (R195, R298). -/
def State.teardownDone (s : State) (d : Nat) : State :=
  match aget s.dom.doms d with
  | some x =>
    if x.tearing && !(s.sched.cmds.any fun c => c.dom == d) then
      ((s.modDom fun y => { y with doms := amod y.doms d fun z => { z with tearing := false } }).bump 0x7000 5).note 0x0111
        (some d) islSched d [d]
    else s
  | none => s

/-- A domain owns something that DELETE does not allow (R299). -/
def State.domOwns (s : State) (d : Nat) : Bool :=
  s.queues.sqs.any (fun p => sqDom p.2.cfg == d) || s.queues.cqs.any (fun p => fld p.2.cfg 0 12 == d)
    || s.xnt.qps.any (fun p => !p.2.isMgmt && p.2.dom == d && p.2.st != .reset)
    || s.seqs.table.any (fun p => p.2.dom == d && p.2.st != .free && p.2.st != .retired)
    || s.masks.objs.any (fun o => o.2.dom == d) || decide (0 < s.indexHeld d)
    || s.tier.tables.any (fun t => sidDom t.seq == d) || decide (0 < s.unitsHeld d) || s.tier.holds.any (fun h => h.dom == d)

/-- DOMAIN_OP 3: DELETE from ACTIVE of a domain that owns nothing (R299). -/
def State.domDelete (s : State) (d : Nat) : Except Fail State :=
  if !s.domActive d || s.domOwns d then .error busy0
  else .ok ((s.clearEntries d).modDom fun x => { x with doms := adel x.doms d })

/-! ## Keys (R303, R304) -/

/-- A written key as it is held: all zeros unload it. -/
def keyValue (l : List Byte) : List Byte := if l.all (· == 0) then [] else l

/-- Key check value (R304). -/
def kcv (k : List Byte) : Nat :=
  if k.isEmpty then 0
  else
    let v := leNat ((sha256 (ascii "KCV" ++ k)).take 4)
    if v = 0 then 1 else v

/-- The nonce counter of a subkey whose key changed starts anew (R246). -/
def State.clearNonce (s : State) (k : Nat) : State := s.modXnt fun x => { x with nonces := adel x.nonces k }

/-- XTS_KEY (R219, R303). -/
def State.setXts (s : State) (d : Nat) (l : List Byte) : Except Fail State :=
  let k := keyValue l
  let x := (aget s.dom.doms d).getD {}
  if !k.isEmpty && k.take 32 == k.drop 32 then .error (bad 0xFF)
  else if x.xtsKey ≠ [] ∧ k ≠ x.xtsKey ∧ 0 < s.unitsHeld d then .error busy0
  else .ok (s.modDom fun y => { y with doms := amod y.doms d fun z => { z with xtsKey := k } })

/-- FABRIC_KEY: a loaded key changes only while every QP of the domain is in RESET (R247, R303). -/
def State.setFabric (s : State) (d : Nat) (l : List Byte) : Except Fail State :=
  let k := keyValue l
  let x := (aget s.dom.doms d).getD {}
  if k = x.fabricKey then .ok s
  else if x.fabricKey ≠ [] ∧ s.xnt.qps.any (fun p => !p.2.isMgmt && p.2.dom == d && p.2.st != .reset) = true then .error busy0
  else .ok ((s.modDom fun y => { y with doms := amod y.doms d fun z => { z with fabricKey := k } }).clearNonce d)

/-- MGMT_FABRIC_KEY: a loaded key changes only while every MGMT QP is in RESET (R303). -/
def State.setMgmtKey (s : State) (l : List Byte) : Except Fail State :=
  let k := keyValue l
  if k = s.dom.mgmtKey then .ok s
  else if s.dom.mgmtKey ≠ [] ∧ s.xnt.qps.any (fun p => p.2.isMgmt && p.2.st != .reset) = true then .error busy0
  else .ok ((s.modDom fun y => { y with mgmtKey := k }).clearNonce 4096)

/-! ## Partition mode (R305) -/

/-- Masks of a list have no bit in common. -/
def disjoint : List Nat → Bool
  | [] => true
  | m :: r => (r.all fun x => x &&& m == 0) && disjoint r

/-- A domain's slices (DOMAIN_SLICES) that hold units. -/
def State.domSlices (s : State) (d : Nat) : List (BitVec 64) :=
  ((List.range 16).filter fun n => (s.num 0x7120 1 d).testBit n).map s.sliceReg |>.filter sliceUsed

/-- A domain's items may start on a logical tile: by DOMAIN_TILES and its slices. -/
def State.domOnTile (s : State) (d t : Nat) : Bool :=
  (s.num 0x7120 2 d).testBit t && (s.domSlices d).any fun v => (sliceGroups v).testBit (t / 4)

/-- The awn group of a slot: group g is awn group g mod 2 of channel g / 2 (R305). -/
def slotGroup (n : Nat) : Nat := 2 * slotChan n + slotBp n / 16

/-- Sum of a quota over the domains. -/
def State.quotaSum (s : State) (sub : Nat) : Nat := ((akeys s.dom.doms).map fun d => s.num 0x7120 sub d).sum

/-- The checks of R305 by number, with the values in force. -/
def State.partChecks (s : State) : List Bool :=
  let ds := akeys s.dom.doms
  let q : Nat → Nat → Nat := fun sub d => s.num 0x7120 sub d
  let owner : Nat → Bool := fun d => s.queues.sqs.any (fun p => sqDom p.2.cfg == d)
    || s.xnt.qps.any (fun p => !p.2.isMgmt && p.2.dom == d && p.2.st != .reset)
  let slots := ds.foldl (fun m d => m ||| q 7 d) 0
  let groups : Nat → List Nat := fun d => (List.range 64).filter fun g => (q 5 d).testBit g
  let fields : Nat → Nat → BitVec 256 := fun n d => ofBytes 256 (s.active 0x7130 n d)
  let rate : Nat → Nat → Nat := fun n d => fld (fields n d) 32 32
  let masks : Nat → List MaskObj := fun d => (s.masks.objs.filter fun o => o.2.dom == d).map Prod.snd
  [ ds.all (fun d => !owner d || s.provisioned d),
    disjoint (ds.map (q 5)) && ds.all fun d => (groups d).all fun g =>
      (s.domSlices d).any fun v => (sliceChans v).testBit (g / 16),
    disjoint (ds.map (q 7)) && decide (4 ≤ ((List.range 64).filter fun i => !slots.testBit i).length),
    (List.range 64).all fun t =>
      let on := ds.filter fun d => s.domOnTile d t
      decide ((on.map (q 3)).sum ≤ 64) && decide ((on.map (q 4)).sum ≤ 62),
    decide (s.quotaSum 6 + s.num 0xB000 4 ≤ s.num 0xB000 2),
    ds.all fun d =>
      let lost := (s.pages.use.filter fun p => p.2 == .withdrawn && (groups d).contains (slotGroup p.1)).length
      s.num 0x3200 1 d == s.num 0x3200 2 d && decide (s.num 0x3200 1 d + lost ≤ 344064 * (groups d).length)
        && s.pages.use.all fun p => s.slotDomain p.2 != some d || (groups d).contains (slotGroup p.1),
    [(8, 33554432), (9, 16777216), (0xA, 16777215), (0xB, 32768), (0xC, 16384), (0xD, 64), (0xE, 512), (0xF, 67108864),
      (0x10, 65536), (0x11, 536870912), (0x12, 65536), (0x13, 65536)].all (fun p => decide (s.quotaSum p.1 ≤ p.2))
      && decide ((ds.map fun d => ceilDiv (s.num 0xA020 1 d) 64).sum ≤ 131072),
    ds.all fun d =>
      decide (s.slotsHeld d ≤ s.num 0x3200 1 d) && decide (s.mapHeld d ≤ q 8 d) && decide (s.seqsHeld d ≤ q 9 d)
        && decide (((s.seqs.pool.filter fun p => p.2.2 == d).map fun p => p.2.1).sum ≤ q 0xA d)
        && decide ((s.tableCmds.filter fun c => c.dom == d).length ≤ q 0xB d)
        && decide ((s.sched.items.filter fun i => i.dom == d && decide (i.tag < 16384)).length ≤ q 0xC d)
        && (List.range 12).all (fun st => decide (((s.awns.undo.filter fun u => u.stack == st).filter fun u =>
            (s.cmd u.cmd).map Cmd.dom == some d).length ≤ q 0xD d))
        && decide (bufsHeld (s.sched.cmds.filter fun c => c.dom == d) ≤ q 0xE d)
        && decide (((s.xnt.fault.filter fun f => f.dom == d).map fun f => f.payload.length).sum ≤ q 0xF d)
        && decide ((masks d).length ≤ q 0x10 d)
        && decide (((masks d).map fun o => 64 + o.body.length).sum ≤ q 0x11 d)
        && decide (s.tablesHeld d ≤ q 0x12 d)
        && decide ((s.xnt.rkeys.filter fun r => r.2.dom == d).length ≤ q 0x13 d)
        && decide (s.indexHeld d ≤ s.num 0xA020 1 d),
    decide ((ds.map (rate 0)).sum ≤ ((List.range 32).map s.portRate).sum) && decide ((ds.map (rate 1)).sum ≤ 800000) ]

/-- The number of the first check of R305 that fails, 0 where none does. -/
def State.partCheck (s : State) : Nat :=
  match s.partChecks.idxOf? false with
  | some i => i + 1
  | none => 0

/-- PARTITION_ERROR left by a failed check (R305). -/
def State.setPartError (s : State) (k : Nat) : State := s.modDom fun x => { x with partError := k }

/-- PARTITION_MODE applied: the mode changes and every bucket is set anew (R305, R317). -/
def State.setPartition (s : State) (v : Nat) : State :=
  let changed := s.num 0x7000 3 != v
  let s1 := s.setActive ⟨0x7000, 3, 0⟩ (leBytes 1 v)
  if changed then (akeys s.dom.doms).foldl (fun t d => (t.resetShaper d 0).resetShaper d 1) s1 else s1

/-- A shaper entry's value is in range (R316). -/
def shaperOk (n : Nat) (v : BitVec 256) : Bool :=
  let top := if n = 0 then 12800000 else 800000
  !bit v 0 || (decide (1 ≤ fld v 32 32) && decide (fld v 32 32 ≤ fld v 64 32) && decide (fld v 64 32 ≤ top)
    && decide (16384 ≤ fld v 96 32) && decide (fld v 96 32 ≤ fld v 128 32) && decide (fld v 128 32 ≤ 268435456))

/-! ## Slices (R16, R17, log 20) -/

/-- The units of a SLICE_n value. -/
def sliceUnits (v : BitVec 64) : BitVec 64 := v &&& 0xFFFFFFFF0FFFFF00#64

/-- A slice's value once another slice has taken its units. -/
def sliceLess (v w : BitVec 64) : BitVec 64 := v &&& ~~~(sliceUnits w)

/-- A channel group holds live pages. -/
def State.chansLive (s : State) (g : Nat) : Bool :=
  s.pages.use.any fun p => slotChan p.1 / 8 == g && (match p.2 with | .page _ => true | _ => false)

/-- The write of SLICE_n is well formed: reserved bits are zero, the role exists, and no unit is left without a slice. DESIGN CHOICE:
R17 does not say what a write does that leaves a unit with no slice; here it fails with ST_BAD_PARAM (log 126). -/
def State.sliceParam (s : State) (n : Nat) (v : BitVec 64) : Option Fail :=
  let rest := ((List.range 16).filter (· ≠ n)).foldl (fun m k => m ||| sliceUnits (sliceLess (s.sliceReg k) v)) (sliceUnits v)
  firstFail
    [(v &&& ~~~(0xFFFFFFFF0FFFFF03#64) == 0, bad (if fld v 2 6 ≠ 0 then 0 else 3)),
     (fld v 0 2 != 3, bad 0),
     (rest == 0xFFFFFFFF0FFFFF00#64, bad 0xFF)]

/-- The write of SLICE_n takes a channel group with live pages out of a cache-service slice (R17). -/
def State.sliceBusy (s : State) (n : Nat) (v : BitVec 64) : Bool :=
  (List.range 4).any fun g => s.chansLive g && (List.range 16).any fun m =>
    let old := s.sliceReg m
    let new := if m = n then v else sliceLess old v
    sliceRole old == 0 && (sliceChans old).testBit g && !(sliceRole new == 0 && (sliceChans new).testBit g)

/-- SLICE_n applied: running items of a unit that changes slices are killed and requeued (R17). DESIGN CHOICE: R17 does not say how
a unit passes from one slice to another; here the units that the write names leave the other slices with it (log 126). -/
def State.setSlice (s : State) (n : Nat) (v : BitVec 64) : State :=
  let moved : Item → Bool := fun it => it.onTile && decide (it.tile < 64)
    && (sliceGroups v).testBit (it.tile / 4) != (sliceGroups (s.sliceReg n)).testBit (it.tile / 4)
  let s1 := s.requeueAll (s.sched.items.filter moved)
  ((List.range 16).filter (· ≠ n)).foldl (fun t k =>
    let w := sliceLess (t.sliceReg k) v
    if w = t.sliceReg k then t else t.setActive ⟨0x4310, k, 0⟩ (leBytes 8 w.toNat))
    (s1.setActive ⟨0x4310, n, 0⟩ (leBytes 8 v.toNat))

/-! ## Profile (R60 to R64) -/

/-- A scalar or byte-string field of the staged profile written (R60). -/
def Prof.setField (p : Prof) (sub : Nat) (l : List Byte) : Prof :=
  let v := leNat l
  match sub with
  | 1 => { p with id := v }
  | 2 => { p with name := l }
  | 3 => { p with layers := v }
  | 4 => { p with queryHeads := v }
  | 5 => { p with kvHeads := v }
  | 6 => { p with keyDim := v }
  | 7 => { p with valueDim := v }
  | 8 => { p with keyFormat := v }
  | 9 => { p with valueFormat := v }
  | 0xA => { p with sourceFormat := v }
  | 0xB => { p with keyPosition := v }
  | 0xC => { p with ropeFirst := v }
  | 0xD => { p with ropeDims := v }
  | 0xE => { p with ropePairing := v }
  | 0xF => { p with ropeFreq := l }
  | 0x10 => { p with valueFromKey := v }
  | _ => p

/-- A field of a profile as it is read (R60). -/
def Prof.field (p : Prof) (sub : Nat) : List Byte :=
  match sub with
  | 1 => leBytes 4 p.id
  | 2 => p.name
  | 3 => leBytes 2 p.layers
  | 4 => leBytes 2 p.queryHeads
  | 5 => leBytes 2 p.kvHeads
  | 6 => leBytes 2 p.keyDim
  | 7 => leBytes 2 p.valueDim
  | 8 => leBytes 1 p.keyFormat
  | 9 => leBytes 1 p.valueFormat
  | 0xA => leBytes 1 p.sourceFormat
  | 0xB => leBytes 1 p.keyPosition
  | 0xC => leBytes 2 p.ropeFirst
  | 0xD => leBytes 2 p.ropeDims
  | 0xE => leBytes 1 p.ropePairing
  | 0xF => p.ropeFreq
  | 0x10 => leBytes 1 p.valueFromKey
  | _ => []

/-- PROFILE_DIGEST (R64). -/
def Prof.digest (p : Prof) : List Byte :=
  sha256 ((((List.range 17).filter fun i => decide (3 ≤ i) && i != 0xF).flatMap p.field) ++ p.ropeFreq)

/-- A dimension is in range. -/
def dimOk (n : Nat) : Bool := decide (32 ≤ n) && decide (n ≤ 576) && n % 32 == 0

/-- The checks of R61, in order. -/
def Prof.checks (p : Prof) : List Bool :=
  [ decide (1 ≤ p.layers) && decide (p.layers ≤ 256) && decide (1 ≤ p.queryHeads) && decide (p.queryHeads ≤ 256)
      && decide (1 ≤ p.kvHeads) && decide (p.kvHeads ≤ 64) && dimOk p.keyDim && dimOk p.valueDim
      && decide (p.sourceFormat ≤ 1) && decide (p.keyPosition ≤ 1) && decide (p.ropePairing ≤ 1)
      && decide (p.valueFromKey ≤ 1) && p.queryHeads % p.kvHeads == 0,
    decide (2 * p.layers * p.kvHeads ≤ 8192),
    fmtKey p.keyFormat && (p.valueFromKey == 1 || fmtValue p.valueFormat),
    (p.keyPosition == 1 && decide (0 < p.ropeDims)) || p.ropeDims == 0,
    decide (p.ropeFirst + p.ropeDims ≤ p.keyDim) && p.ropeDims % 2 == 0 && p.ropeFreq.length == 4 * p.ropeDims,
    p.valueFromKey == 0 || (p.keyFormat == 0x01 && decide (p.valueDim ≤ p.keyDim)
      && (p.ropeDims == 0 || decide (p.valueDim ≤ p.ropeFirst))),
    decide (p.rowHandles ≤ 16384) ]

/-- The number of the first check of R61 that fails, 0 where none does. -/
def Prof.check (p : Prof) : Nat :=
  match p.checks.idxOf? false with
  | some i => i + 1
  | none => 0

/-- Live pages stand against a commit of the staged profile (R62, R63). -/
def State.profBusy (s : State) : Bool :=
  s.pages.map.any (fun e => e.2.inHbm) && !(s.prof.state == 2 && s.prof.staged.digest == s.prof.digest)

/-- PROFILE_COMMIT applied (R62). -/
def State.commitProfile (s : State) : State :=
  s.modProf fun x => { x with act := x.staged, state := 1, error := 0, digest := x.staged.digest }

/-! ## Epochs (R19 to R21, R25) -/

/-- MAP_EPOCH_CURRENT: newer than the current value. -/
def State.setEpochC (s : State) (v : BitVec 32) : Except Fail State :=
  if newer 32 v.toNat s.seqs.epochC.toNat then .ok (s.modSeqs fun q => { q with epochC := v }) else .error (bad 0)

/-- MAP_EPOCH_OLDEST_LIVE: never backwards, never beyond C; records of older epochs go. -/
def State.setEpochO (s : State) (v : BitVec 32) : Except Fail State :=
  let q := s.seqs
  if newer 32 q.epochO.toNat v.toNat || newer 32 v.toNat q.epochC.toNat then .error (bad 0)
  else .ok (s.modSeqs fun x => { x with epochO := v, redirects := x.redirects.filter fun r => !newer 32 v.toNat r.epoch })

/-! ## Host tier and DMA regions (R217, R366) -/

/-- The checks of a write to HOST_TIER_BASE (`sub` 1) or HOST_TIER_UNITS (`sub` 2), in order (R217). -/
def State.tierWrite (s : State) (sub d v : Nat) : Option Fail :=
  let base := if sub = 1 then v else s.soon 0x3510 1 d
  let units := if sub = 2 then v else s.soon 0x3510 2 d
  let total := ((akeys s.dom.doms).map fun e => if e = d then units else s.soon 0x3510 2 e).sum
  let held := 0 < s.unitsHeld d
  let top := (s.unitRuns d).foldl (fun m r => Nat.max m (r.first + r.count)) 0
  let oldBase := s.soon 0x3510 1 d
  let oldUnits := s.soon 0x3510 2 d
  firstFail
    [(sub != 1 || v % 4096 == 0, bad 0),
     (decide (total ≤ 2147483648), bad 0),
     (units == 0 || s.dmaCovers d base (4096 * units) true true, bad 0),
     (!(held && sub == 1 && oldUnits != 0 && v != oldBase), busy0),
     (!(held && sub == 2 && oldUnits != 0 && decide (v < oldUnits)), busy0),
     (!(held && sub == 2 && oldUnits == 0 && v != 0 && decide (v < top)), busy0)]

/-- The checks of a write to DMA_REGION_n (R366). -/
def State.regionWrite (s : State) (d n : Nat) (l : List Byte) : Option Fail :=
  let v : BitVec 128 := ofBytes 128 l
  let t := s.setActive ⟨0x3710, n, d⟩ l
  let covered := s.num 0x3510 2 d == 0 || t.dmaCovers d (s.num 0x3510 1 d) (4096 * s.num 0x3510 2 d) true true
  firstFail [(fld v 0 64 % 4096 == 0, bad 0), (covered || s.unitsHeld d == 0, busy0)]

/-! ## Entries that act -/

/-- HINT_FLAGS for the sequence that HINT_SEQ names (R229). -/
def State.setHints (s : State) (d : Nat) (id : BitVec 64) (v : Nat) : Except Fail State :=
  match s.seqRef id d with
  | .ok i =>
    let e := s.seq i
    .ok (s.setSeq i { e with reclaimable := v.testBit 0, prio := v / 2 % 16, preclean := v.testBit 5,
                             precleanCoded := v.testBit 6 })
  | .bad => .error ⟨stBadSeq, 0, 0, 0⟩
  | .ahead => .error ⟨stBadSeq, 0, 0, 0⟩

/-- GROUP_MEMBERS of the selected group (R203). -/
def State.setGroup (s : State) (g : Nat) (l : List Byte) : State :=
  s.modIndex fun x => { x with groups := if l.all (· == 0) then adel x.groups g else aput x.groups g l }

/-- REMOTE_HOLD_RELEASE: every hold of an origin is freed (R225, R236). -/
def State.releaseOrigin (s : State) (node : Nat) : State :=
  ((s.tier.holds.filter fun h => h.origin == node).foldl State.freeHold s).lowCheck

/-- MOVE_ABANDON: the sequence is OPEN again (R272). -/
def State.moveAbandon (s : State) (i : Nat) : Except Fail State :=
  if s.moveEnded i then .ok (s.abandonMove i).wake else .error ⟨stBadSeq, 0, 0, 0⟩

/-- ERRN_CLEAR: a latched ERR_N is released, one in its pulse at the pulse's end (R329); 3 is a pulse so cleared. -/
def State.errnClear (s : State) : State :=
  s.modFaults fun f => { f with errn := if f.errn = 2 then 0 else if f.errn = 1 then 3 else f.errn }

/-- FAULT_INJECT armed (R345). -/
def State.armInject (s : State) (l : List Byte) : Except Fail State :=
  let v : BitVec 128 := ofBytes 128 l
  match firstFail
    [(fld v 12 4 == 0, bad 1), (decide (fld v 48 4 < 4), bad 6), (fld v 58 6 == 0, bad 7), (fld v 64 16 != 0, bad 8),
     (fld v 80 48 == 0, bad 10)] with
  | some f => .error f
  | none => .ok (s.modFaults fun f => { f with inject := f.inject ++ [⟨v, fld v 64 16⟩] })

/-- SOURCE_REACTION_n (R325, R326): FORCED and CLASS are read-only. -/
def State.setReaction (s : State) (n v : Nat) : Except Fail State :=
  let w : BitVec 32 := BitVec.ofNat 32 v
  match firstFail
    [(fld w 5 3 == 0, bad 0), (fld w 13 3 == 0, bad 1), (fld w 18 14 == 0, bad (if fld w 18 6 ≠ 0 then 2 else 3)),
     (srcForced n &&& (v % 32) == srcForced n, bad 0), (!w.getLsbD 2 || srcBlock n, bad 0)] with
  | some f => .error f
  | none => .ok (s.setActive ⟨0x8100, n, 0⟩ (leBytes 4 (v % 32 + sourceDefault n / 256 * 256)))

/-- EVENT_RING_HEAD (R347). -/
def State.setRingHead (s : State) (v : Nat) : Except Fail State :=
  let depth := s.ringDepth
  if depth ≤ v then .error (bad 0)
  else
    let n := (v + depth - s.faults.ringHead) % depth
    let full := s.faults.ringCount
    let s1 := s.modFaults fun f => { f with ringMsi := true }
    .ok (if n ≤ full then (s1.modFaults fun f => { f with ringHead := v, ringCount := full - n }).ringResume else s1)

/-- The ring restarts at index 0 with PHASE 1 and head 0 (R347). -/
def State.ringRestart (s : State) : State :=
  s.modFaults fun f => { f with ringTail := 0, ringPhase := true, ringHead := 0, ringCount := 0, ringMsi := true, missed := none }

/-- MIN_SVN_RAISE (R375). -/
def State.raiseSvn (s : State) (v : Nat) : Except Fail State :=
  if s.boot.fwSvn < v ∨ 64 < v then .error (bad 0)
  else .ok (s.modBoot fun b => { b with minSvn := Nat.max b.minSvn v })

/-- An entry of the image's BIST signature table: class and pattern count (R425). -/
def State.bistEntry (s : State) (cls patterns : Nat) : Option (BitVec 128) :=
  ((chunks 16 (s.boot.bistTable.length / 16) s.boot.bistTable).map (ofBytes 128)).find? fun e =>
    fld e 0 16 == cls && fld e 32 32 == patterns

/-- LBIST_START (R427). -/
def State.lbistStart (s : State) (v : BitVec 64) : Except Fail State :=
  let t := fld v 0 7
  let expect := s.bistEntry 0 (s.num 0x5000 4)
  let active := (s.tile t).st == 0
  match firstFail
    [(decide (t ≤ 71) && !bit v 7, bad 0), (fld v 10 54 == 0, bad 1), (fld v 8 2 != 0, bad 1), (expect.isSome, bad 0xFF),
     (s.test.lbState != 1, busy0), (!active || (s.spareTile t).isSome, busy0)] with
  | some f => .error f
  | none =>
    let s1 := if active then
        (((s.requeueAll (s.itemsOn t)).dropHomed t).modTile t fun x => { x with st := 2 }).mapTile t
      else s
    .ok ((s1.modTile t fun x => { x with testing := true, st := if active then 1 else x.st }).modTest fun x =>
      { x with lbState := 1, lbTile := t, lbModes := fld v 8 2, lbFails := 0, lbSig := 0, lbRows := 0,
               lbExp := (expect.map fun e => fld e 96 32).getD 0 })

/-- An awn-stack BIST of a stack. -/
def State.asbOf (s : State) (n : Nat) : AsbInfo := (aget s.test.asb n).getD {}

/-- An awn-stack BIST changed. -/
def State.setAsb (s : State) (n : Nat) (a : AsbInfo) : State := s.modTest fun x => { x with asb := aput x.asb n a }

/-- Slots of a stack that are in use and not free: pages, reservations, landing units, slots waiting for the scrub. -/
def State.stackHeld (s : State) (n : Nat) : Nat :=
  (s.pages.use.filter fun p => slotStack p.1 == n && p.2 != .withdrawn).length

/-- ASB_OP (R428): 1 PREPARE, 2 START, 3 RELEASE. Slots of a stack that is not IN_SERVICE are not taken by R50. -/
def State.asbOp (s : State) (v : Nat) : Except Fail State :=
  let n := v % 16
  let a := s.asbOf n
  if 12 ≤ n then .error (bad 0)
  else
    match v / 16 with
    | 1 => if a.st = 0 ∨ a.st = 3 then .ok (s.setAsb n { a with st := 1 }).lowCheck else .error busy0
    | 2 => if a.st = 1 ∧ s.stackHeld n = 0 then .ok (s.setAsb n { a with st := 2 }) else .error busy0
    | 3 => if a.st = 1 then .ok ((s.setAsb n { a with st := 0 }).lowCheck) else .error busy0
    | _ => .error (bad 0)

/-! ## A firmware restart (R348 to R350) -/

/-- MGMT_STORM: the firmware is held halted (R350). -/
def State.storm (s : State) : State :=
  (s.raise 0x17 islMgmt 0 none [s.boot.coresWorking] false fun _ t => t).modBoot fun b =>
    { b with st := .halted, mgmtRestarting := false }

/-- A restart of the firmware begins: BOOT entries take their shadow copies, sessions end, failing cores are retired and the
spare is mapped; too many restarts or too few cores are a storm (R348 to R350, R397). -/
def State.restart (s : State) (failed : Nat) (imageOk : Bool) : State :=
  let boot : PdKey × List Byte → Bool := fun p => match pdRow p.1.idx p.1.sub with | some r => r.eff == 3 | none => false
  let s1 := (s.dict.shadow.filter boot).foldl (fun t p => t.setActive p.1 p.2) s
  let s2 := s1.modDict fun d => { d with shadow := d.shadow.filter fun p => !boot p }
  let back := Nat.min failed s.boot.coreSpares
  let now := s.faults.time
  let times := (s.boot.restartTimes.filter fun t => decide (now < t + 600000)) ++ [now]
  let s3 := (s2.bump 0x8300 3).modBoot fun b =>
    { b with mgmtRestarting := true, sessionsDoe := [], sessionsMctp := [], restartTimes := times
             coresWorking := b.coresWorking - failed + back, coreSpares := b.coreSpares - back }
  if !imageOk then s3.raise 0x18 islMgmt 0 none [] false fun _ t => t
  else if s3.num 0x8300 4 < times.length ∨ s3.boot.coresWorking < 2 then s3.storm
  else s3

end Sys2Proof.Machine
end

