-- ==== Sys2Proof/Machine/P256.lean ====
section
/-! DEFINITION. P-256 and ECDSA verification (FIPS 186-5, which R374 names), over natural numbers. -/

namespace Sys2Proof.Machine

/-- The prime of P-256 (FIPS 186-5). -/
def p256Prime : Nat := 2 ^ 256 - 2 ^ 224 + 2 ^ 192 + 2 ^ 96 - 1

/-- The coefficient b of P-256 (FIPS 186-5); a is -3. -/
def p256B : Nat := 0x5AC635D8AA3A93E7B3EBBD55769886BC651D06B0CC53B0F63BCE3C3E27D2604B

/-- Order of P-256. -/
def p256Order : Nat := 0xFFFFFFFF00000000FFFFFFFFFFFFFFFFBCE6FAADA7179E84F3B9CAC2FC632551

/-- The base point of P-256 (FIPS 186-5). -/
def p256Base : Nat × Nat :=
  (0x6B17D1F2E12C4247F8BCE6E563A440F277037D812DEB33A0F4A13945D898C296,
   0x4FE342E2FE1A7F9B8EE7EB4A7C0F9E162BCE33576B315ECECBB6406837BF51F5)

/-- X and Y name a point of P-256. -/
def pointOk (x y : Nat) : Bool :=
  decide (x < p256Prime) && decide (y < p256Prime)
    && y * y % p256Prime == (x * x * x + (p256Prime - 3) * x + p256B) % p256Prime

/-- `b` to the power `e` modulo `m`, over at most `fuel` bits of the exponent. -/
def powMod (m : Nat) : Nat → Nat → Nat → Nat
  | 0, _, _ => 1 % m
  | fuel + 1, b, e => if e = 0 then 1 % m else (if e % 2 = 1 then b else 1) * powMod m fuel (b * b % m) (e / 2) % m

/-- The inverse modulo a prime of 256 bits. -/
def invMod (m x : Nat) : Nat := powMod m 256 (x % m) (m - 2)

/-- The point of slope `l` through `(x, y)` and the abscissa `x2`. -/
def ecChord (l x y x2 : Nat) : Nat × Nat :=
  let p := p256Prime
  let x3 := (l * l + (p - x % p) + (p - x2 % p)) % p
  (x3, (l * (x + (p - x3)) + (p - y % p)) % p)

/-- The sum of two points of P-256; `none` is the point at infinity. -/
def ecAdd : Option (Nat × Nat) → Option (Nat × Nat) → Option (Nat × Nat)
  | none, q => q
  | q, none => q
  | some (x1, y1), some (x2, y2) =>
    let p := p256Prime
    if x1 = x2 then
      if (y1 + y2) % p = 0 then none else some (ecChord ((3 * x1 * x1 + (p - 3)) * invMod p (2 * y1) % p) x1 y1 x2)
    else some (ecChord ((y2 + (p - y1)) * invMod p (x2 + (p - x1)) % p) x1 y1 x2)

/-- `k` times a point, over at most `fuel` bits of `k`. -/
def ecMul : Nat → Nat → Option (Nat × Nat) → Option (Nat × Nat)
  | 0, _, _ => none
  | fuel + 1, k, q =>
    if k = 0 then none
    else
      let r := ecMul fuel (k / 2) (ecAdd q q)
      if k % 2 = 1 then ecAdd q r else r

/-- The public key of a scalar: X then Y, 32 bytes each, big-endian (R372, R376). -/
def publicKey (k : Nat) : List Byte :=
  match ecMul 256 k (some p256Base) with
  | some (x, y) => beBytes 32 x ++ beBytes 32 y
  | none => List.replicate 64 0

/-- ECDSA verification over P-256 (FIPS 186-5): a key as X then Y, a digest of 32 bytes, a signature as r then s; r and s lie
in 1 to n - 1. -/
def ecdsaVerify (key digest sig : List Byte) : Bool :=
  let r := beNat (sig.take 32)
  let s := beNat (sig.drop 32)
  let w := invMod p256Order s
  let u := ecMul 256 (beNat digest * w % p256Order) (some p256Base)
  let v := ecMul 256 (r * w % p256Order) (some (beNat (key.take 32), beNat (key.drop 32)))
  decide (1 ≤ r) && decide (r < p256Order) && decide (1 ≤ s) && decide (s < p256Order)
    && match ecAdd u v with
      | some (x, _) => x % p256Order == r
      | none => false

end Sys2Proof.Machine
end

