-- ==== Sys2Proof/Machine/Dict.lean ====
section
/-! DEFINITION. What a read of each dictionary entry returns: select entries, status blocks, counts over the node's tables,
identity, digests (R40, R42, R108, R109, R138, R159, R160, R196, R197, R199, R215, R233, R236, R275, R277, R295, R304, R319,
R320, R344, R346, R356, R357, R376, R380, R384 to R387, R393, R394, R408, R427, R428, R430). -/

namespace Sys2Proof.Machine

/-! ## Keys and selects (R392, R393) -/

/-- An entry as it is stored: a node-wide one has one value for all domains (R392). -/
def pdKey (idx sub dom : Nat) : PdKey := ⟨idx, sub, if pdScoped idx then dom else 0⟩

/-- A select entry of a channel instance: what the channel last wrote, or the entry's default (R393). -/
def State.sel (s : State) (ch : Chan) (idx sub : Nat) (dom : Nat := 0) : Nat :=
  let k := pdKey idx sub dom
  match s.dict.selects.find? fun p => p.1 == ⟨ch, k⟩ with
  | some p => p.2
  | none => match pdRow idx sub with | some r => r.dflt | none => 0

/-- A select entry of a channel instance written. -/
def State.setSel (s : State) (ch : Chan) (k : PdKey) (v : Nat) : State :=
  s.modDict fun d => { d with selects := (d.selects.filter fun p => p.1 ≠ ⟨ch, k⟩) ++ [(⟨ch, k⟩, v)] }

/-! ## Identity (R375, R376, R385) -/

/-- derive_scalar of R376 from a counter on. -/
def deriveFrom (secret label : List Byte) : Nat → Nat → Nat
  | 0, _ => 0
  | fuel + 1, ctr =>
    let k := beNat (hmac secret (label ++ leBytes 1 ctr))
    if 1 ≤ k ∧ k < p256Order then k else deriveFrom secret label fuel (ctr + 1)

/-- derive_scalar (R376). -/
def deriveScalar (secret label : List Byte) : Nat := deriveFrom secret label 256 0

/-- The scalar of the DeviceID key (R376). -/
def deviceScalar : Nat := deriveScalar (padTo 32 Config.uds) (ascii "DEVICEID")

/-- The CDI of an image measurement (R376). -/
def cdiOf (meas : List Byte) : List Byte :=
  hmac (padTo 32 Config.uds) (ascii "CDI" ++ padTo 32 Config.romMeasurement ++ padTo 32 meas)

/-- The DeviceID public key. -/
def deviceKey : List Byte := publicKey deviceScalar

/-- The Alias public key of a CDI. -/
def aliasKey (cdi : List Byte) : List Byte := publicKey (deriveScalar cdi (ascii "ALIAS"))

/-! ## Status blocks -/

/-- The 32 bytes of a Page Map entry (R42). -/
def PageEntry.bytes (e : PageEntry) : List Byte :=
  let st := match e.st with
    | .device => 1
    | .hostView => 2
    | .swapped => 3
    | .remote => 4
  leBytes 4 (st + b2n e.busy.isSome * 8 + e.dom * 2 ^ 8 + e.group * 2 ^ 20) ++ leBytes 4 e.refs ++ leBytes 8 e.loc
    ++ leBytes 8 (e.writer + e.writerGen * 2 ^ 24 + e.layer * 2 ^ 40 + e.head * 2 ^ 56)
    ++ leBytes 8 (e.ordinal + e.kind * 2 ^ 32 + (if e.st = .hostView then e.frame else 0) * 2 ^ 40)

/-- AWN_STATUS (R109). -/
def State.awnStatus (s : State) (u : Nat) : Nat :=
  if awnExists u then
    let a := s.awn u
    s.awnState u + b2n a.borrowed * 4 + a.servesA * 2 ^ 8 + a.servesB * 2 ^ 14 + a.detections * 2 ^ 24
  else 0

/-- TILE_STATUS (R160). -/
def State.tileStatus (s : State) (t : Nat) : Nat :=
  if t < 72 then
    let x := s.tile t
    x.st + b2n x.logical.isSome * 4 + x.logical.getD 0 * 2 ^ 8 + t / 24 * 2 ^ 14 + x.free * 2 ^ 16 + x.detections * 2 ^ 24
  else 0

/-- State number of a submission queue (R197). -/
def sqStNo : Option Sq → Nat
  | none => 0
  | some q => match q.st with | .active => 1 | .error => 2 | .deleting => 3

/-- QUEUE_STATUS (R197). -/
def State.queueStatus (s : State) (n : Nat) : List Byte :=
  let sq := aget s.queues.sqs n
  let q := sq.getD {}
  let cq := aget s.queues.cqs n
  let c := cq.getD {}
  let gen := if sqFabric q.cfg then match s.rkey q.rkey with | some r => r.gen | none => anat s.xnt.rkeyGens q.rkey else 0
  leBytes 1 (sqStNo sq + b2n cq.isSome * 4) ++ leBytes 2 (if sqFabric q.cfg then q.rkey else 0) ++ leBytes 1 gen
    ++ leBytes 2 q.head ++ leBytes 2 q.tail ++ leBytes 2 c.head ++ leBytes 2 c.tail ++ leBytes 4 0

/-- State number of a QP (R277). -/
def qpStNo : QpSt → Nat
  | .reset => 0
  | .listen => 1
  | .connecting => 2
  | .rts => 3
  | .draining => 4
  | .error => 5

/-- A rate in whole Mb/s. -/
def rateWhole (r : Rat) : Nat := r.floor.toNat

/-- QP_STATUS (R277). -/
def State.qpStatus (s : State) (n : Nat) : List Byte :=
  let q := s.qp n
  leBytes 1 (qpStNo q.st) ++ leBytes 1 q.version ++ leBytes 2 q.connId ++ leBytes 3 q.nextPsn ++ leBytes 1 q.cause
    ++ leBytes 3 q.cpsn ++ leBytes 1 0 ++ leBytes 2 (q.tx.filter TxPkt.out).length
    ++ leBytes 1 (q.paths - q.suspended.length) ++ leBytes 1 0 ++ leBytes 4 (rateWhole q.rate) ++ leBytes 4 q.srtt
    ++ leBytes 8 0

/-- SUBPORT_STATUS_n: the link and its counters (R275). -/
def State.portStatus (s : State) (n : Nat) : List Byte :=
  let p := s.port n
  leBytes 1 (b2n p.up) ++ leBytes 8 p.fecCorrected ++ leBytes 8 p.fecUncorrected ++ leBytes 8 p.rx ++ leBytes 8 p.tx

/-- Number of a kind of region (R275 gives no code; log 32). -/
def rkeyKindNo : RkeyKind → Nat
  | .queue => 0
  | .landing => 1
  | .holds => 2

/-- RKEY_ENTRY (R275). -/
def State.rkeyEntry (s : State) (n : Nat) : List Byte :=
  match s.rkey n with
  | some r =>
    leBytes 1 r.st ++ leBytes 1 (rkeyKindNo r.kind) ++ leBytes 1 r.gen ++ [0] ++ leBytes 2 r.dom ++ leBytes 2 r.inflight
      ++ leBytes 8 r.len
  | none => leBytes 2 0 ++ leBytes 1 (anat s.xnt.rkeyGens n) ++ leBytes 13 0

/-- RING_STATUS (R295). -/
def State.ringStatus (s : State) : List Byte :=
  let r := s.ring
  leBytes 1 r.st ++ leBytes 1 r.position ++ leBytes 1 r.members ++ [0] ++ leBytes 4 r.ringId ++ leBytes 4 r.lap
    ++ leBytes 1 r.abortCause ++ leBytes 1 r.abortPos ++ leBytes 2 0 ++ leBytes 8 r.seqId.toNat ++ leBytes 2 r.layer
    ++ leBytes 6 0

/-- QUEUE_SAMPLE of a queue that exists; zeros else (R319). -/
def State.queueSample (s : State) (n : Nat) : List Byte :=
  match aget s.queues.sqs n with
  | some q =>
    leBytes 4 q.depthNow ++ leBytes 4 q.depthMax ++ leBytes 4 q.delayNow ++ leBytes 4 q.delayMax ++ leBytes 4 q.delayAvg
      ++ leBytes 2 n ++ leBytes 2 (sqDom q.cfg) ++ leBytes 8 0
  | none => leBytes 32 0

/-- HIST of a unit (R344). -/
def State.histogram (s : State) (k : Nat) : List Byte :=
  ((aget s.faults.hist k).getD (List.replicate 32 0)).flatMap (leBytes 2)

/-- A record of a log by its SEQ, zeros where the log does not hold it; PHASE is 0 (R339, R346). -/
def recordOf (l : List EventRec) (seq : Nat) : List Byte :=
  match l.find? fun e => e.seq == seq with
  | some e => e.bytes false
  | none => leBytes 64 0

/-- SHADOW_STATUS (R357). -/
def State.shadowStatus (s : State) : List Byte :=
  let x := s.shadow
  leBytes 1 (x.st + b2n x.isShadow * 8 + x.startCheck * 16) ++ leBytes 1 x.failCause ++ leBytes 2 0 ++ leBytes 4 x.matched
    ++ leBytes 4 x.dropped ++ leBytes 4 x.seqs.length ++ leBytes 8 x.failSeq ++ leBytes 8 0

/-- RESET_CAUSE (R386). -/
def State.resetCauseWord (s : State) : Nat := s.boot.resetCause + s.boot.resetSource * 2 ^ 8 + b2n s.boot.hbmKept * 2 ^ 16

/-- LINK_STATUS (R387). -/
def State.linkStatus (s : State) : Nat :=
  let l := s.link
  l.width + l.speed * 2 ^ 5 + b2n (l.width == 8) * 2 ^ 7 + b2n s.linkFull * 2 ^ 8 + l.ideIo * 2 ^ 9 + l.ideCm * 2 ^ 11
    + b2n l.viral * 2 ^ 13 + b2n l.decoder.isSome * 2 ^ 14

/-- LBIST_RESULT (R427). -/
def State.lbistResult (s : State) : List Byte :=
  let t := s.test
  leBytes 1 t.lbState ++ leBytes 1 t.lbTile ++ leBytes 2 t.lbFails ++ leBytes 4 t.lbSig ++ leBytes 4 t.lbExp
    ++ leBytes 2 t.lbRows ++ leBytes 2 0

/-- STARTUP_BIST: the failure map, then the rows repaired (R430, log 20). -/
def State.startupBist (s : State) : List Byte :=
  leBytes 12 ((s.boot.startupFail.map fun i => 2 ^ i).sum) ++ leBytes 4 s.boot.startupRows ++ leBytes 16 0

/-- ASB_STATUS_n (R428). -/
def State.asbStatus (s : State) (n : Nat) : List Byte :=
  let a := s.asbOf n
  leBytes 1 a.st ++ leBytes 1 a.awns ++ leBytes 1 a.channels ++ [0] ++ leBytes 4 (s.stackHeld n) ++ leBytes 4 a.withdrawn
    ++ leBytes 4 a.restored ++ leBytes 16 0

/-- Where the model keeps the base-die sensor of a stack. -/
def baseSensor (n : Nat) : Nat := 0x300 + n
/-- Where it keeps the coolant sensors: 0 inlet, 1 outlet. -/
def coolantSensor (n : Nat) : Nat := 0x400 + n

/-- An I32. -/
def i32 (v : Int) : List Byte := leBytes 4 (toCode 32 v)

/-- TEMP_READING of an island (R430). -/
def State.tempReading (s : State) (isl : Nat) : List Byte :=
  let stack := 0x100 ≤ isl ∧ isl ≤ 0x10B
  i32 (s.islandTemp isl) ++ i32 (if stack then (aget s.therm.readings (baseSensor (isl - 0x100))).getD 0 else 0)
    ++ i32 ((aget s.therm.maxima isl).getD 0) ++ leBytes 1 (s.clockStep isl) ++ leBytes 3 0

/-- REC of a code table (R233). -/
def State.tableBytes (s : State) (t : CodeTable) : List Byte :=
  let body := leBytes 2 t.id ++ leBytes 2 t.gen ++ leBytes 1 t.bits ++ leBytes 3 t.st ++ leBytes 8 t.seq.toNat
    ++ leBytes 4 t.plane ++ leBytes 4 (s.tableRefs t.id t.gen) ++ leBytes 4 t.counted ++ leBytes 4 0
    ++ padTo 128 (pack 4 t.lengths) ++ leBytes 92 0
  body ++ leBytes 4 (crc32c body).toNat

/-! ## Digests (R380) -/

/-- The value in force of an entry for a digest. -/
def State.keyCheck (s : State) (d : Nat) (xts : Bool) : Nat :=
  let x := (aget s.dom.doms d).getD {}
  kcv (if xts then x.xtsKey else x.fabricKey)

/-- What the configuration digest takes from a domain (R380). -/
def State.domConfig (s : State) (d : Nat) : List Byte :=
  leBytes 2 d ++ leBytes 4 (s.keyCheck d true) ++ leBytes 4 (s.keyCheck d false) ++ s.active 0x3200 1 d ++ s.active 0x3200 2 d
    ++ s.active 0xA020 1 d ++ ((List.range 19).flatMap fun i => s.active 0x7120 (i + 1) d) ++ s.active 0x7130 0 d
    ++ s.active 0x7130 1 d ++ (List.range 16).flatMap fun n => s.active 0x3710 n d

/-- CONFIG_DIGEST (R380). -/
def State.configDigest (s : State) : List Byte :=
  sha256 (s.scoreDigest ++ s.active 0x7000 3 0 ++ s.active 0x6000 1 0 ++ s.active 0x3700 2 0 ++ leBytes 4 (kcv s.dom.mgmtKey)
    ++ ((List.range 28).flatMap fun n => s.active 0x8100 n 0) ++ (akeys s.dom.doms).flatMap s.domConfig
    ++ s.index.groups.flatMap fun g => if 1 ≤ g.1 then leBytes 2 g.1 ++ padTo 512 g.2 else [])

/-! ## Counts over the tables -/

/-- Slots of every domain, reservations included, in a queue of the scrub (R54). -/
def State.scrubCount (s : State) : Nat := (s.pages.use.filter fun p => match p.2 with | .scrub _ => true | _ => false).length

/-- Free slots of a stack. -/
def State.stackFree (s : State) (st : Nat) : Nat := if s.stackOut st then 0 else 1835008 - s.stackUsed st

/-- A logical tile is served by a working tile (R159). -/
def State.tilesMapped (s : State) : Nat := (s.tiles.groupMap.filter fun t => t != 255 && (s.tile t).st == 0).length

/-- Indices neither FREE nor RETIRED, and RETIRED ones. -/
def State.seqsIn (s : State) (f : SeqSt → Bool) : Nat := (s.seqs.table.filter fun p => f p.2.st).length

/-- A sequence or queue of another domain reads as zeros to a DOMAIN caller (R392). -/
def State.hidden (s : State) (ch : Chan) (d : Nat) : Bool :=
  match ch with
  | .dataQp q => (s.qp q.toNat).dom != d
  | _ => false

/-- A U8, U16, U32 or U64 entry's bytes, saturated to its length. -/
def satBytes (n v : Nat) : List Byte := leBytes n (Nat.min v (256 ^ n - 1))

/-! ## Reads -/

/-- Entries of 0x1000 (R385, R408). -/
def State.readId (s : State) (ch : Chan) (sub : Nat) : Option (List Byte) :=
  match sub with
  | 1 => some (ascii "TZ-EP4-768")
  | 3 => some (Config.serial.take 16)
  | 4 => some (leBytes 4 s.boot.fwVersion)
  | 5 => some (leBytes 2 s.boot.fwSvn)
  | 6 => some (leBytes 2 s.boot.minSvn)
  | 8 => some (padTo 32 s.boot.fwMeas)
  | 9 => some s.configDigest
  | 0xA => some (leBytes 4 s.resetCauseWord)
  | 0xB => some deviceKey
  | 0xC => some (aliasKey s.boot.cdi)
  | 0xD => some (leBytes 8 s.boot.priorBootId.toNat)
  | 0xF => some (recordOf s.faults.priorLog (s.sel ch 0x1000 0xE))
  | 0x12 => some (leBytes 1 s.boot.fwAbi)
  | 0x14 => some (leBytes 8 (s.counter 0x1000 0x14))
  | 0x15 => some (leBytes 8 (s.counter 0x1000 0x15))
  | 0x16 => some (leBytes 2 s.dict.drains.length)
  | _ => none

/-- Entries of 0x2000 to 0x2106 (R59, R60, R138). -/
def State.readProfile (s : State) (idx sub : Nat) : Option (List Byte) :=
  if idx = 0x2001 then some (Prof.field s.prof.staged sub)
  else if idx = 0x2106 then if sub = 1 then some s.scoreDigest else none
  else if sub ≤ 0x10 then some (Prof.field s.prof.act sub)
  else
    match sub with
    | 0x11 => some (leBytes 2 s.pr.group)
    | 0x12 => some (leBytes 1 s.prof.state)
    | 0x13 => some (padTo 32 s.prof.digest)
    | 0x14 => some (leBytes 2 s.prof.error)
    | _ => none

/-- The hints of the sequence that HINT_SEQ names (R229). -/
def hintBits (e : SeqEntry) : Nat :=
  b2n e.reclaimable + e.prio * 2 + b2n e.preclean * 32 + b2n e.precleanCoded * 64

/-- Entries of 0x3000 to 0x3710 (R25, R59, R108, R138, R236, R385). DESIGN CHOICE: a FREE index belongs to no domain, and R59 does not
say which caller reads it; here SEQ_ENTRY shows it to domain 0, and to others zeros (log 129). -/
def State.readMemory (s : State) (ch : Chan) (idx sub d : Nat) : Option (List Byte) :=
  let n4 : Nat → Option (List Byte) := fun v => some (satBytes 4 v)
  match idx, sub with
  | 0x3000, 2 => n4 s.freeSlots
  | 0x3000, 3 => n4 s.scrubCount
  | 0x3000, 4 => n4 (33554432 - s.pages.map.length - s.pages.reservedIdx.length)
  | 0x3000, 5 => n4 (16777215 - (s.seqs.pool.map fun p => p.2.1).sum)
  | 0x3000, 6 => n4 (16777216 - (s.seqsIn (fun x => x != .free) + s.seqs.reserved.length))
  | 0x3000, 7 => n4 (s.seqsIn fun x => x == .retired)
  | 0x3001, n => n4 (s.stackFree n)
  | 0x3100, 2 => some (match s.page (s.sel ch 0x3100 1) with | some e => PageEntry.bytes e | none => leBytes 32 0)
  | 0x3110, 2 =>
    let i := s.sel ch 0x3110 1
    some (if s.hidden ch (s.seq i).dom then leBytes 64 0 else padTo 64 (SeqEntry.bytes s.pr i (s.seq i)))
  | 0x3200, 3 => n4 (s.slotsHeld d)
  | 0x3200, 4 => n4 (s.seqs.table.filter fun p => p.2.dom == d && p.2.st == .stalled).length
  | 0x3300, 2 => n4 s.win.frames.length
  | 0x3400, 1 => n4 s.masks.objs.length
  | 0x3400, 2 => some (leBytes 8 ((s.masks.objs.map fun o => 64 + o.2.body.length).sum))
  | 0x3410, 1 => n4 (s.masks.objs.filter fun o => o.2.dom == d).length
  | 0x3500, 2 => n4 (((akeys s.dom.doms).map fun x => s.num 0x3510 2 x).sum)
  | 0x3500, 3 => n4 (((akeys s.dom.doms).map s.unitsHeld).sum)
  | 0x3500, 0xB => n4 s.tier.holds.length
  | 0x3510, 3 => n4 (s.unitsHeld d)
  | 0x3520, 2 => n4 (hintBits (s.seq (sidIndex (BitVec.ofNat 64 (s.sel ch 0x3520 1 d)))))
  | 0x3700, 1 => n4 s.linkStatus
  | _, _ => none

/-- Entries of 0x4000 to 0x5210 (R25, R196, R430). -/
def State.readQueues (s : State) (ch : Chan) (idx sub d : Nat) : Option (List Byte) :=
  let n4 : Nat → Option (List Byte) := fun v => some (satBytes 4 v)
  let n := s.sel ch 0x4100 1
  match idx, sub with
  | 0x4000, 2 => n4 s.tableCmds.length
  | 0x4000, 4 => n4 (s.sched.items.filter fun it => decide (it.tag < 16384)).length
  | 0x4000, 6 => some (leBytes 8 s.queueMemory)
  | 0x4100, 2 => some (leBytes 32 (((aget s.queues.sqs n).map fun q => q.cfg.toNat).getD 0))
  | 0x4100, 3 => some (leBytes 32 (((aget s.queues.cqs n).map fun q => q.cfg.toNat).getD 0))
  | 0x4100, 5 => some (s.queueStatus n)
  | 0x4210, 2 => n4 (s.queues.sqs.filter fun p => sqDom p.2.cfg == d).length
  | 0x4300, 1 => n4 s.seqs.epochC.toNat
  | 0x4300, 2 => n4 s.seqs.epochO.toNat
  | 0x4300, 3 => n4 s.seqs.redirects.length
  | 0x4300, 5 => n4 (if s.prof.state = 0 then 0 else s.pr.align)
  | 0x5000, 2 => some s.lbistResult
  | 0x5000, 3 => some s.startupBist
  | 0x5100, 1 => n4 s.test.rowsRepaired
  | 0x5100, 2 => n4 s.test.sparesFree
  | 0x5210, k => some (s.asbStatus k)
  | _, _ => none

/-- Entries of 0x6000 to 0x7300 (R275, R294, R320). -/
def State.readFabric (s : State) (ch : Chan) (idx sub d : Nat) : Option (List Byte) :=
  let n4 : Nat → Option (List Byte) := fun v => some (satBytes 4 v)
  match idx, sub with
  | 0x6000, 5 => some (leBytes 8 s.boot.bootId.toNat)
  | 0x6020, n => some (s.portStatus n)
  | 0x6100, 2 => some (leBytes 64 (s.qp (s.sel ch 0x6100 1)).cfg.toNat)
  | 0x6100, 4 => some (s.qpStatus (s.sel ch 0x6100 1))
  | 0x6200, 2 => some (s.rkeyEntry (s.sel ch 0x6200 1))
  | 0x6200, 3 => n4 (s.xnt.rkeys.filter fun r => r.2.st == 1).length
  | 0x6400, 9 => n4 ((s.xnt.fault.map fun f => f.payload.length).sum)
  | 0x6600, 7 => some s.ringStatus
  | 0x7000, 2 => some (leBytes 2 (s.dom.doms.filter fun p => !p.2.tearing).length)
  | 0x7000, 4 => some (leBytes 2 s.dom.partError)
  | 0x7010, 2 => n4 (kcv s.dom.mgmtKey)
  | 0x7100, 1 => some (leBytes 1 (match aget s.dom.doms d with | some x => if x.tearing then 2 else 1 | none => 0))
  | 0x7110, 3 => n4 (s.keyCheck d true)
  | 0x7110, 4 => n4 (s.keyCheck d false)
  | 0x7300, 3 =>
    let n := s.sel ch 0x7300 2
    some (if s.hidden ch (sqDom (s.sqOf n).cfg) then leBytes 32 0 else s.queueSample n)
  | _, _ => none

/-- Entries of 0x8000 to 0xB120 (R108, R159, R215, R236, R356, R430). -/
def State.readUnits (s : State) (ch : Chan) (idx sub d : Nat) : Option (List Byte) :=
  let n4 : Nat → Option (List Byte) := fun v => some (satBytes 4 v)
  match idx, sub with
  | 0x8000, 5 => some (leBytes 1 (if s.faults.errn = 3 then 1 else s.faults.errn))
  | 0x8120, 2 => some (s.histogram (s.sel ch 0x8120 1))
  | 0x8200, 4 => n4 s.faults.ringHead
  | 0x8200, 9 => some (recordOf s.faults.log (s.sel ch 0x8200 8))
  | 0x8200, 0xA => some (leBytes 8 s.faults.seq)
  | 0x8300, 5 => some (leBytes 1 s.boot.coresWorking)
  | 0x8400, 5 => some s.shadowStatus
  | 0x9000, 0x20 => some (leBytes 4 s.power.vinMv ++ leBytes 4 s.therm.iinMa ++ leBytes 4 s.therm.powerAvg ++ leBytes 4 s.therm.powerPeak)
  | 0x9000, 0x21 => some (i32 ((aget s.therm.readings (coolantSensor 0)).getD 0) ++ i32 ((aget s.therm.readings (coolantSensor 1)).getD 0))
  | 0x9000, n => some (leBytes 16 (((aget s.therm.rails n).map BitVec.toNat).getD 0))
  | 0x9100, 2 => some (s.tempReading (s.sel ch 0x9100 1))
  | 0x9200, 1 => some (leBytes 1 s.therm.step)
  | 0x9200, 2 => some (leBytes 1 s.therm.cause)
  | 0x9200, 7 => some (leBytes 2 (thermTokens s.therm.step))
  | 0xA000, 2 => n4 (s.index.entries.filter fun e => e.2.st != 2 && e.2.gone.isNone).length
  | 0xA000, 3 => n4 s.holesMin
  | 0xA010, 2 => some (padTo 128 (match aget s.index.entries (s.sel ch 0xA010 1) with
      | some e => if e.gone.isNone then IdxEntry.bytes e else []
      | none => []))
  | 0xA020, 2 => n4 (s.indexHeld d)
  | 0xA030, 2 => some (padTo 512 ((aget s.index.groups (s.sel ch 0xA030 1)).getD []))
  | 0xA100, 1 => n4 s.tier.tables.length
  | 0xA100, 3 =>
    let v := s.sel ch 0xA100 2
    some (match s.tableOf (v % 65536) (v / 65536) with | some t => s.tableBytes t | none => leBytes 256 0)
  | 0xB000, 3 => some ((List.range 12).flatMap fun _ => leBytes 2 s.tokens)
  | 0xB000, 0xA => n4 s.pages.lost.length
  | 0xB010, n => some ((List.range 32).flatMap fun l => leBytes 1 (s.physChan n l))
  | 0xB020, 2 => n4 (s.awnStatus (s.sel ch 0xB020 1))
  | 0xB100, 2 => some (leBytes 1 s.tilesMapped)
  | 0xB100, 3 => some (leBytes 1 (s.tiles.status.filter fun t => t.st == 1).length)
  | 0xB110, n => some ((List.range 4).flatMap fun i => leBytes 1 (s.tiles.groupMap.getD (4 * n + i) 255))
  | 0xB120, 2 => n4 (s.tileStatus (s.sel ch 0xB120 1))
  | _, _ => none

/-- The entries whose value is computed from other state. -/
def State.readComputed (s : State) (ch : Chan) (idx sub d : Nat) : Option (List Byte) :=
  if idx = 0x1000 then s.readId ch sub
  else if idx < 0x3000 then if idx < 0x2100 ∨ idx = 0x2106 then s.readProfile idx sub else none
  else if idx < 0x4000 then s.readMemory ch idx sub d
  else if idx < 0x6000 then s.readQueues ch idx sub d
  else if idx < 0x8000 then s.readFabric ch idx sub d
  else s.readUnits ch idx sub d

/-- No class may write an entry: it holds a constant or a counter. -/
def PdRow.readOnly (r : PdRow) : Bool := decide (r.ha < 2) && decide (r.fm < 2) && decide (r.sb < 2) && decide (r.dm < 2)

/-- The value that a READ of an entry returns (R393, R394). -/
def State.pdValue (s : State) (ch : Chan) (r : PdRow) (k : PdKey) : List Byte :=
  if pdSelect k.idx k.sub then leBytes r.len (s.sel ch k.idx k.sub k.dom)
  else
    match s.readComputed ch k.idx k.sub k.dom with
    | some l => l
    | none =>
      if r.readOnly && decide (r.ty < 8) then leBytes r.len (r.dflt + s.counter k.idx k.sub k.dom)
      else s.active k.idx k.sub k.dom

/-- The value that a READ_SHADOW returns: the shadow copy of a CMD or BOOT entry, else the value in force (R394, R410). -/
def State.pdShadow (s : State) (ch : Chan) (r : PdRow) (k : PdKey) : List Byte :=
  match s.dict.shadow.find? fun p => p.1 == k with
  | some p => p.2
  | none => s.pdValue ch r k

/-- A READ of HINT_FLAGS fails where HINT_SEQ names no live sequence of the domain (R229). -/
def State.readFail (s : State) (ch : Chan) (k : PdKey) : Option Fail :=
  if k.idx = 0x3520 ∧ k.sub = 2 then
    match s.seqRef (BitVec.ofNat 64 (s.sel ch 0x3520 1 k.dom)) k.dom with
    | .ok _ => none
    | _ => some ⟨stBadSeq, 0, 0, 0⟩
  else none

/-- The default of a scalar: FW_VERSION, FW_SVN and FW_ABI have their image's value (R385, R408). -/
def State.scalarDefault (s : State) (r : PdRow) (k : PdKey) : Nat :=
  if k.idx = 0x1000 ∧ (k.sub = 4 ∨ k.sub = 5 ∨ k.sub = 0x12) then leNat (s.pdValue .mailbox r k)
  else if r.ty < 8 then r.dflt else 0

/-- The descriptor of DESCRIBE (R401). -/
def State.describe (s : State) (r : PdRow) (k : PdKey) : List Byte :=
  leBytes 4 (r.ty + r.eff * 2 ^ 8 + b2n (pdScoped k.idx) * 2 ^ 12 + b2n (pdSelect k.idx k.sub) * 2 ^ 13 + r.ha * 2 ^ 16
      + r.fm * 2 ^ 18 + r.sb * 2 ^ 20 + r.dm * 2 ^ 22)
    ++ leBytes 4 r.len ++ leBytes 8 (s.scalarDefault r k) ++ leBytes 16 0

end Sys2Proof.Machine
end

