-- ==== Sys2Proof/Machine/Pd.lean ====
section
/-! DEFINITION. Dictionary access: the order of checks (R437), rights (R390 to R392), types and ranges (R389), effect points
(R394 to R397), requests, responses and their channels (R398 to R402, R409, R410), and the commands that are one write of one
entry. -/

namespace Sys2Proof.Machine

/-! ## Rights (R390 to R392, R437 step 2) -/

/-- The caller class of a channel: 0 HOST_ADMIN, 1 FABRIC_MGR, 2 SIDEBAND, 3 DOMAIN (R390). -/
def chanClass : Chan → Nat
  | .mailbox => 0
  | .mgmtQp _ => 1
  | .i3c => 2
  | .dataQp _ => 3

/-- The rights that a row grants a class: bit 0 read, bit 1 write (R391). -/
def PdRow.rights (r : PdRow) (cls : Nat) : Nat :=
  match cls with
  | 0 => r.ha
  | 1 => r.fm
  | 2 => r.sb
  | _ => r.dm

/-- A write lacks a right that the entry's rule limits to some values, classes or channel states (R161, R298, R303, R375). -/
def State.writeDenied (s : State) (ch : Chan) (k : PdKey) (l : List Byte) : Bool :=
  let fm := chanClass ch == 1
  let v := if l.length = 1 then leNat l else 0
  let n := s.sel ch 0x4100 1
  if k.idx = 0x7100 then fm && (v == 1 || v == 3)
  else if k.idx = 0x4100 ∧ k.sub = 4 then
    fm && ((v == 1 && !sqFabric ((aget s.queues.stagedSq n).getD 0)) || (v == 3 && !bit ((aget s.queues.stagedCq n).getD 0) 21))
  else if (k.idx = 0x7110 ∨ k.idx = 0x7010) ∨ (k.idx = 0x1000 ∧ k.sub = 7) then !s.ideActive || s.rekeying
  else false

/-- Steps 1 to 3 of R437 for an operation, and the row of its entry. -/
def State.accessFail (s : State) (ch : Chan) (write : Bool) (k : PdKey) (l : List Byte) : Except Fail PdRow :=
  match pdRow k.idx k.sub with
  | none => .error (bad 0xFE)
  | some r =>
    if !(r.rights (chanClass ch)).testBit (if write then 1 else 0) || (write && s.writeDenied ch k l) then
      .error ⟨stDenied, 0, 0, 0⟩
    else if pdScoped k.idx && k.idx != 0x7100 && (aget s.dom.doms k.dom).isNone then .error busy0
    else .ok r

/-! ## Values (R389, R437 steps 4 and 5) -/

/-- The length of a write fits the entry (R389). -/
def lenOk (r : PdRow) (l : List Byte) : Bool :=
  if r.idx = 0x2100 then decide (4 ≤ l.length) && decide (l.length ≤ 128) && l.length % 4 == 0
  else if r.fixed then l.length == r.len
  else decide (l.length ≤ r.len) && (r.ty != 9 || l.length % 8 == 0)

/-- The bits that an entry names, where it names only some (R389). -/
def namedBits (idx sub : Nat) : Option Nat :=
  match idx, sub with
  | 0x4100, 1 => some 0xFFFF
  | 0x4100, 2 => some (2 ^ 137 - 1)
  | 0x4100, 3 => some (2 ^ 152 - 1 - (0xF000 + (2 ^ 32 - 2 ^ 23) + (2 ^ 64 - 2 ^ 59)))
  | 0x3500, 0xD => some 0xFFF
  | 0x3520, 2 => some 0x7F
  | 0x8400, 2 => some 0xFFF
  | 0xB020, 1 => some 0x3F3F0F
  | 0xB120, 1 => some 0x7F
  | 0x8120, 1 => some 0xFFFFFFFF0FFF
  | 0x8200, 6 => some 0xF
  | 0x6100, 2 => some (2 ^ 288 - 1 - (2 ^ 32 - 2 ^ 28) - (2 ^ 56 - 2 ^ 50) - (2 ^ 80 - 2 ^ 74))
  | 0x6010, _ => some (2 ^ 288 - 1 - (2 ^ 32 - 2 ^ 20))
  | 0x3710, _ => some (2 ^ 106 - 1)
  | 0x7130, _ => some (2 ^ 160 - 1 - (2 ^ 32 - 4))
  | _, _ => none

/-- The byte offset of the lowest bit of a value outside a mask. -/
def strayByte (mask : Nat) (l : List Byte) : Option Nat :=
  (List.range l.length).find? fun i => (l.getD i 0).toNat &&& (255 - mask / 256 ^ i % 256) != 0

/-- The offset of the first FP32 element that is a NaN or an infinity (R389). -/
def nanAt (l : List Byte) : Option Nat :=
  ((chunks 4 l.length l).findIdx? fun e => leNat e / 2 ^ 23 % 256 == 255).map (4 * ·)

/-- A word of a score program that R116 accepts. -/
def progWordOk (w : Nat) : Bool :=
  let op := w % 32
  let a := w / 2 ^ 8 % 16
  let k := w / 2 ^ 12 % 16
  let imm := w / 2 ^ 16
  let free := fun (ua uk ui : Bool) => (ua || a == 0) && (uk || k == 0) && (ui || imm == 0)
  decide (op ≤ 9) && w / 32 % 8 == 0 &&
    (if op = 0 ∨ op = 6 then free false false false
     else if op ≤ 4 then free true false false
     else if op = 5 then free false false true
     else if op = 7 then decide (a < 4) && free true false false
     else if op = 8 then decide (a < 8) && free true false true
     else decide (a < 4) && free true true false)

/-- The first of a list of offsets whose condition fails. -/
def firstBad (l : List (Bool × Nat)) : Option Nat := (l.find? fun p => !p.1).map Prod.snd

/-- A SUBPORT_n value names a mode and a PHY that exist (R276). -/
def subportOk (v : BitVec 512) : Bool := fld v 0 2 != 3 && fld v 2 2 != 3

/-- The offset of the first field of a value that breaks the entry's own rule, where one field is at fault. -/
def State.valueBad (s : State) (k : PdKey) (l : List Byte) : Option Nat :=
  let v := leNat l
  let at0 : Bool → Option Nat := fun ok => if ok then none else some 0
  match k.idx, k.sub with
  | 0x2000, n | 0x2001, n =>
    if n = 6 ∨ n = 7 then at0 (v % 32 == 0) else if n = 0xD then at0 (v % 2 == 0)
    else if n = 8 ∨ n = 9 then at0 (v == 0 || fmtKnown v) else none
  | 0x2100, _ => ((chunks 4 l.length l).findIdx? fun w => !progWordOk (leNat w)).map (4 * ·)
  | 0x2101, _ => l.findIdx? fun b => decide (7 < b.toNat)
  | 0x2102, _ => nanAt l
  | 0x2103, _ => nanAt l
  | 0x2104, _ => nanAt l
  | 0x2105, _ => nanAt l
  | 0x3200, 2 => at0 (decide (v ≤ s.soon 0x3200 1 k.dom)
      && decide (((akeys s.dom.doms).map fun e => if e = k.dom then v else s.soon 0x3200 2 e).sum ≤ 22020096))
  | 0xB000, 4 => at0 (decide (v ≤ s.soon 0xB000 2 0))
  | 0xB020, 1 => if 33 < v / 2 ^ 16 then some 2 else none
  | 0xB100, 5 => at0 ([1, 2, 4, 8, 16].contains v)
  | 0x6600, 2 => at0 (v % 1048576 == 0 && decide (v * s.soon 0x6600 3 0 ≤ 536870912))
  | 0x6600, 3 => at0 (decide (v * s.soon 0x6600 2 0 ≤ 536870912))
  | 0x6600, 6 => at0 (decide (4 * s.soon 0x6600 5 0 ≤ v))
  | 0x6300, 5 => at0 (decide (s.soon 0x6300 4 0 ≤ v))
  | 0x6000, 4 => at0 (v % 128 == 0)
  | 0x8200, 1 => at0 (v % 4096 == 0)
  | 0x6010, _ => at0 (subportOk (ofBytes 512 l))
  | 0x7130, n =>
    let top := if n = 0 then 12800000 else 800000
    let w : BitVec 256 := ofBytes 256 l
    if !bit w 0 then none
    else firstBad
      [(decide (1 ≤ fld w 32 32) && decide (fld w 32 32 ≤ top), 4), (decide (fld w 32 32 ≤ fld w 64 32) && decide (fld w 64 32 ≤ top), 8),
       (decide (16384 ≤ fld w 96 32) && decide (fld w 96 32 ≤ 268435456), 12),
       (decide (fld w 96 32 ≤ fld w 128 32) && decide (fld w 128 32 ≤ 268435456), 16)]
  | _, _ => none

/-- The offset of the byte of a STR outside 0x20 to 0x7E (R389). -/
def strBad (l : List Byte) : Option Nat := l.findIdx? fun b => decide (b.toNat < 0x20) || decide (0x7E < b.toNat)

/-! ## Strict partition mode (R305) -/

/-- The entries that the checks of R305 name. -/
def inPartChecks (k : PdKey) : Bool :=
  k.idx == 0x7120 || (k.idx == 0x3200 && decide (k.sub ≤ 2)) || (k.idx == 0xA020 && k.sub == 1)
    || (k.idx == 0x7130 && decide (k.sub ≤ 1)) || k.idx == 0x4310 || k.idx == 0x6010
    || (k.idx == 0xB000 && (k.sub == 2 || k.sub == 4))

/-- The node as it will be once every shadow copy has become active. -/
def State.applied (s : State) : State := s.dict.shadow.foldl (fun t p => t.setActive p.1 p.2) s

/-- The first check of R305 that a write breaks in STRICT mode, 0 where none does; for a write of STRICT, the first that
fails. -/
def State.partBroken (s : State) (k : PdKey) (l : List Byte) : Nat :=
  let t := s.applied
  if k.idx = 0x7000 then if leNat l = 1 then t.partCheck else 0
  else if s.strict && inPartChecks k then
    let u := if k.idx = 0x4310 then t.setSlice k.sub (ofBytes 64 l) else t.setActive k l
    match (List.zipWith (fun a b => !a || b) t.partChecks u.partChecks).idxOf? false with
    | some i => i + 1
    | none => 0
  else 0

/-! ## Steps 4 to 6 of a write -/

/-- Steps 4 and 5 as far as every entry shares them, then the value's own rule and strict partition mode. -/
def State.valueFail (s : State) (r : PdRow) (k : PdKey) (l : List Byte) : Option Fail :=
  let v := leNat l
  if !lenOk r l then some (bad 0xFF)
  else
    match (namedBits k.idx k.sub).bind fun m => strayByte m l with
    | some i => some (bad i)
    | none =>
      match if r.ty = 8 then strBad l else none with
      | some i => some (bad i)
      | none =>
        if r.ty < 8 ∧ (v < r.mn ∨ r.mx < v) then some (bad 0)
        else
          match s.valueBad k l with
          | some i => some (bad i)
          | none => if s.partBroken k l ≠ 0 then some (bad 0xFF) else none

/-- QPs outside RESET that use a sub-port, or any where none is named (R275). -/
def State.qpsUse (s : State) (ports : Option (List Nat)) : Bool :=
  s.xnt.qps.any fun q => q.2.st != .reset && match ports with | some l => q.2.ports.any l.contains | none => true

/-- The sub-ports that a write of SUBPORT_n affects: n, and all of its port where it changes the mode (R276). -/
def State.portsOf (s : State) (n : Nat) (l : List Byte) : List Nat :=
  if n % 4 = 0 ∧ fld (ofBytes 512 l : BitVec 512) 0 2 ≠ s.portMode n then (List.range 4).map (n + ·) else [n]

/-- What a DRAIN write checks beside its value, at its arrival and again when it applies (R17, R61, R62, R275,
R293, R366, R396). -/
def State.drainFail (s : State) (k : PdKey) (l : List Byte) : Option Fail :=
  if k.idx = 0x4310 then
    match s.sliceParam k.sub (ofBytes 64 l) with
    | some f => some f
    | none =>
      let ring := s.ringSlice == some k.sub && s.ring.st != ringNone
      if ring || s.sliceBusy k.sub (ofBytes 64 l) then some busy0 else none
  else if k.idx = 0x2000 then
    if Prof.check s.prof.staged ≠ 0 then some (bad 0xFF) else if s.profBusy then some busy0 else none
  else if k.idx = 0x6000 then if s.qpsUse none then some busy0 else none
  else if k.idx = 0x6010 then if s.qpsUse (some (s.portsOf k.sub l)) then some busy0 else none
  else if k.idx = 0x3710 then s.regionWrite k.dom k.sub l
  else none

/-- A failed check of R61 or R305 leaves its number (R61, R305). -/
def State.markFail (s : State) (k : PdKey) (l : List Byte) (f : Fail) : State :=
  let fits := match pdRow k.idx k.sub with | some r => lenOk r l | none => false
  if f.st ≠ stBadParam ∨ f.cause ≠ 0xFF ∨ !fits then s
  else if k.idx = 0x2000 ∧ k.sub = 0x15 then
    match Prof.check s.prof.staged with
    | 0 => s
    | n => s.modProf fun p => { p with error := n }
  else
    match s.partBroken k l with
    | 0 => s
    | n => s.setPartError n

/-- A DRAIN write applied (R17, R62, R117, R275, R305, R366). -/
def State.drainApply (s : State) (k : PdKey) (l : List Byte) : State :=
  if k.idx = 0x4310 then s.setSlice k.sub (ofBytes 64 l)
  else if k.idx = 0x2000 then s.commitProfile
  else if k.idx = 0x7000 then s.setPartition (leNat l)
  else if k.idx = 0x2100 then s.setActive k (padTo 128 l)
  else if k.idx = 0x6010 then (s.setActive k l).portsDown
  else s.setActive k l

/-! ## Writes -/

/-- SAMPLE_CLEAR of the selected queue; of another domain's queue nothing (R320, R392). -/
def State.sampleClear (s : State) (ch : Chan) : State :=
  let n := s.sel ch 0x7300 2
  if s.hidden ch (sqDom (s.sqOf n).cfg) then s else s.modSq n fun q => { q with depthMax := 0, delayMax := 0 }

/-- QUEUE_OP (R164). -/
def State.queueOp (s : State) (n v : Nat) : Except Fail State :=
  match v with
  | 1 => s.createSq n
  | 2 => (s.deleteSq n).map fun t => t.sqDeleted n
  | 3 => s.createCq n
  | _ => s.deleteCq n

/-- DOMAIN_OP (R298). -/
def State.domainOp (s : State) (d v : Nat) : Except Fail State :=
  match v with
  | 1 => s.domCreate d
  | 2 => (s.domTeardown d).map fun t => t.teardownDone d
  | _ => s.domDelete d

/-- QP_OP (R249). Creates fail after a failed start-up BIST (R426). -/
def State.qpOp (s : State) (n v : Nat) : Except Fail State :=
  match v with
  | 1 => if s.qpCfgOk (s.qp n) && s.createsFail then .error ⟨stPartFail, 0, 0, 0⟩ else s.qpConnect n
  | 2 => if s.qpCfgOk (s.qp n) && s.createsFail then .error ⟨stPartFail, 0, 0, 0⟩ else s.qpListen n
  | 3 => s.qpDisconnect n
  | _ => s.qpResetOp n

/-- SHADOW_OP (R351, R352). A failed START names its check in SHADOW_STATUS. -/
def State.shadowOp (s : State) (v : Nat) : Except Fail State :=
  match v with
  | 1 => s.shadowStart
  | 2 => s.shadowTakeover
  | 3 => s.shadowAbandon
  | _ => s.shadowReset

/-- A configuration staged for a queue that does not exist (R164, R196). -/
def State.stageQueue (s : State) (n : Nat) (sq : Bool) (l : List Byte) : Except Fail State :=
  let c : BitVec 256 := ofBytes 256 l
  if (if sq then (aget s.queues.sqs n).isSome else (aget s.queues.cqs n).isSome) then .error busy0
  else .ok (s.modQueues fun q =>
    if sq then { q with stagedSq := aput q.stagedSq n c } else { q with stagedCq := aput q.stagedCq n c })

/-- QP_CONFIG written while the QP is in RESET (R248). -/
def State.stageQp (s : State) (n : Nat) (l : List Byte) : Except Fail State :=
  if (s.qp n).st = .reset then .ok (s.modQp n fun q => { q with cfg := ofBytes 512 l }) else .error busy0

/-- THERM_N follows the throttling step and a pending THERMAL_CRIT (R423). -/
def State.thermPin (s : State) : State :=
  s.modPower fun p => { p with thermN := decide (s.num 0x9200 5 ≤ s.therm.step) || s.therm.crit }

/-- Steps 5 and 6 of the entry's own rule and the effect of an IMM write (R394). -/
def State.immWrite (s : State) (ch : Chan) (k : PdKey) (l : List Byte) : Except Fail State :=
  let v := leNat l
  match k.idx, k.sub with
  | 0x4300, 1 => s.setEpochC (BitVec.ofNat 32 v)
  | 0x4300, 2 => s.setEpochO (BitVec.ofNat 32 v)
  | 0x2000, n => .ok (s.modProf fun p => { p with staged := Prof.setField p.staged n l })
  | 0x2001, n => .ok (s.modProf fun p => { p with staged := Prof.setField p.staged n l })
  | 0x4100, 2 => s.stageQueue (s.sel ch 0x4100 1) true l
  | 0x4100, 3 => s.stageQueue (s.sel ch 0x4100 1) false l
  | 0x4100, 4 => s.queueOp (s.sel ch 0x4100 1) v
  | 0x6100, 2 => s.stageQp (s.sel ch 0x6100 1) l
  | 0x6100, 3 => s.qpOp (s.sel ch 0x6100 1) v
  | 0xA030, 2 => .ok (s.setGroup (s.sel ch 0xA030 1) l)
  | 0x3500, 0xD => .ok (s.releaseOrigin v)
  | 0x3520, 2 => s.setHints k.dom (BitVec.ofNat 64 (s.sel ch 0x3520 1 k.dom)) v
  | 0x6500, 1 => s.moveAbandon v
  | 0x7010, 1 => s.setMgmtKey l
  | 0x7100, 2 => s.domainOp k.dom v
  | 0x7110, 1 => s.setXts k.dom l
  | 0x7110, 2 => s.setFabric k.dom l
  | 0x7300, 4 => .ok (s.sampleClear ch)
  | 0x8000, 4 => .ok s.errnClear
  | 0x8100, n => s.setReaction n v
  | 0x8130, 1 => s.armInject l
  | 0x8200, 4 => s.setRingHead v
  | 0x8400, 1 => s.shadowOp v
  | 0x1000, 7 => s.raiseSvn v
  | 0x3700, 2 => .ok (s.setActive k l).dmaBack
  | 0x5000, 1 => s.lbistStart (ofBytes 64 l)
  | 0x5200, 1 => s.asbOp v
  | 0x8300, 6 => .ok s
  | 0x9200, 5 => .ok (s.setActive k l).thermPin
  | _, _ => .ok (s.setActive k l)

/-- A value placed in the shadow copy of a CMD or BOOT entry (R394). -/
def State.setShadow (s : State) (k : PdKey) (l : List Byte) : State :=
  s.modDict fun d => { d with shadow := pdPut d.shadow k l }

/-- Steps 4 to 6 of a write that is not a DRAIN write, and its effect (R394, R437). -/
def State.writeEntry (s : State) (ch : Chan) (r : PdRow) (k : PdKey) (l : List Byte) : Except Fail State :=
  match s.valueFail r k l with
  | some f => .error f
  | none =>
    if pdSelect k.idx k.sub then .ok (s.setSel ch k (leNat l))
    else if r.eff = 0 then s.immWrite ch k l
    else
      match if k.idx = 0x3510 then s.tierWrite k.sub k.dom (leNat l) else none with
      | some f => .error f
      | none => .ok (s.setShadow k l)

/-! ## Responses (R399, R402) -/

/-- A result header with its value (R399). -/
def pdResult (idx sub st cause : Nat) (value : List Byte) : List Byte :=
  leBytes 1 st ++ leBytes 1 sub ++ leBytes 2 idx ++ leBytes 4 (cause % 256) ++ leBytes 4 value.length ++ leBytes 4 0
    ++ padTo (8 * ceilDiv value.length 8) value

/-- A response to a request (R399). -/
def pdResponse (q : PdReq) (st cause : Nat) (results : List (List Byte)) : List Byte :=
  let body := results.flatten
  leBytes 1 q.layout ++ leBytes 1 results.length ++ leBytes 1 st ++ leBytes 1 (cause % 256) ++ leBytes 2 q.tag ++ leBytes 2 0
    ++ leBytes 4 (16 + body.length) ++ leBytes 4 0 ++ body

/-- A response on its channel (R368, R402). -/
def State.respond (s : State) (q : PdReq) (st cause : Nat) (results : List (List Byte)) : State :=
  let body := pdResponse q st cause results
  let s1 := s.bump 0x1000 0x14
  match q.ch with
  | .mailbox => s1.emit (.mailbox 0 (leBytes 1 st ++ leBytes 7 0 ++ body))
  | .i3c => s1.emit (.pdResponse .i3c 0 (leBytes 8 0x81 ++ body))
  | .mgmtQp n => s1.sendMgmt n.toNat (leBytes 8 2 ++ body)
  | .dataQp n => s1.sendSvc n.toNat (svcHdr 0x41 0 q.svcTag 0 0 0 0) body

/-! ## Operations (R401, R437) -/

/-- What an operation came to: a value, or a DRAIN write that now waits. -/
inductive OpDone where
  | value (l : List Byte)
  | drain
deriving DecidableEq, Repr

/-- One operation of a request. -/
def State.pdOp (s : State) (q : PdReq) (o : PdOp) : Except Fail (State × OpDone) :=
  let k := pdKey o.idx o.sub q.dom
  if o.op = 4 then
    match pdRow k.idx k.sub with
    | some r => .ok (s, .value (s.describe r k))
    | none => .error (bad 0xFE)
  else
    match s.accessFail q.ch (o.op == 2) k o.value with
    | .error f => .error f
    | .ok r =>
      if o.op = 2 then
        if r.eff = 2 then
          match (s.valueFail r k o.value).or (s.drainFail k o.value) with
          | some f => .error f
          | none => .ok (s, .drain)
        else (s.writeEntry q.ch r k o.value).map fun t => (t, .value [])
      else
        match s.readFail q.ch k with
        | some f => .error f
        | none =>
          let l := if o.op = 3 then s.pdShadow q.ch r k else s.pdValue q.ch r k
          if o.len < l.length then .error (bad 0xFF) else .ok (s, .value l)

/-- A waiting DRAIN write ends: its result completes its request. -/
def State.endDrain (s : State) (w : DrainWrite) (st cause : Nat) : State :=
  (s.modDict fun d => { d with drains := d.drains.erase w }).respond w.req 0 0
    (w.results ++ [pdResult w.key.idx w.key.sub st cause []])

/-- A restart of the firmware answers every request that has no answer: DRAIN writes that wait fail, and requests that wait in
their channels are refused as a whole (R349, R400, R410). -/
def State.dropPending (s : State) : State :=
  let t := s.dict.drains.foldl (fun u w => u.endDrain w stBusy 2) s
  (t.dict.waiting.foldl (fun u q => u.respond q stBusy 2 []) t).modDict fun d => { d with waiting := [] }

/-- A restart of the firmware, the requests without an answer included (R348, R349); the commands that a DRAIN write held are
admitted again (R410). -/
def State.restartAll (s : State) (failed : Nat) (imageOk : Bool) : State := (s.dropPending.restart failed imageOk).wake

/-- The operation writes MGMT_RESTART (R397). -/
def PdOp.restarts (o : PdOp) : Bool := o.op == 2 && o.idx == 0x8300 && o.sub == 6

/-- A failed operation's marks: PROFILE_ERROR, PARTITION_ERROR, the check of a failed START, DICT_DENIALS (R61, R305, R357,
R408). -/
def State.opFailed (s : State) (q : PdReq) (o : PdOp) (f : Fail) : State :=
  let k := pdKey o.idx o.sub q.dom
  let s1 := if o.op = 2 ∧ pdSelect k.idx k.sub = false then s.markFail k o.value f else s
  let s2 := if k.idx = 0x8400 ∧ k.sub = 1 ∧ f.r1 ≠ 0 then s1.shadowStartFailed f.r1 else s1
  if f.st = stDenied then s2.bump 0x1000 0x15 else s2

/-- The operations of a request in order, to the first that fails (R401). A DRAIN write joins the writes that wait; the
restart of an MGMT_RESTART follows the response (R409). -/
def State.runOps (s : State) (q : PdReq) (results : List (List Byte)) (restart_ : Bool) : List PdOp → State
  | [] =>
    let s1 := s.respond q 0 0 results
    if restart_ then s1.restartAll 0 true else s1
  | o :: r =>
    match s.pdOp q o with
    | .error f =>
      let s1 := (s.opFailed q o f).respond q 0 0 (results ++ [pdResult o.idx o.sub f.st f.cause []])
      if restart_ then s1.restartAll 0 true else s1
    | .ok (t, .value l) => t.runOps q (results ++ [pdResult o.idx o.sub 0 0 l]) (restart_ || o.restarts) r
    | .ok (t, .drain) =>
      t.modDict fun d => { d with drains := d.drains ++ [⟨q, pdKey o.idx o.sub q.dom, o.value, results⟩] }

/-- One request executed: refused as a whole (R349, R350, R400), or its operations run. -/
def State.runRequest (s : State) (q : PdReq) : State :=
  if !s.mgmtUp then s.respond q stBusy 2 []
  else
    match q.bad with
    | some (st, cause) => s.respond q st cause []
    | none => s.runOps q [] false q.ops

/-! ## DRAIN writes that wait (R396) -/

/-- No admitted command is held by a DRAIN write any more. -/
def State.quiesced (s : State) (k : PdKey) : Bool := !(s.sched.cmds.any fun c => s.drainHolds k c.sq c.dom c.desc)

/-- The first waiting DRAIN write applied: its state conditions are looked at again (R62), and it fails where they no longer
hold. -/
def State.applyDrain (s : State) (w : DrainWrite) : State :=
  let part := if w.key.idx = 0x7000 ∧ s.partBroken w.key w.value ≠ 0 then some (bad 0xFF) else none
  match part.or (s.drainFail w.key w.value) with
  | some f => (s.markFail w.key w.value f).endDrain w f.st f.cause
  | none => ((s.drainApply w.key w.value).endDrain w 0 0).wake

/-- DRAIN writes applied in order while the first is quiesced. -/
def State.drainStepAll (s : State) : Nat → State
  | 0 => s
  | fuel + 1 =>
    match s.dict.drains with
    | w :: _ => if s.quiesced w.key then (s.applyDrain w).drainStepAll fuel else s
    | [] => s

/-- Largest number of requests in flight on a channel (R402). -/
def chanLimit : Chan → Nat
  | .mailbox => 1
  | .i3c => 1
  | .mgmtQp _ => 16
  | .dataQp _ => 4

/-- Requests of a channel that have no answer yet. -/
def State.inFlight (s : State) (ch : Chan) : Nat := (s.dict.drains.filter fun w => w.req.ch == ch).length

/-- Requests that waited in their channels, run in order where their channel has room (R402). -/
def State.serveWaiting (s : State) : List PdReq → State
  | [] => s
  | q :: r =>
    if s.inFlight q.ch < chanLimit q.ch then
      (((s.modDict fun d => { d with waiting := d.waiting.erase q }).runRequest q).drainStepAll 64).serveWaiting r
    else s.serveWaiting r

/-- DRAIN writes that can apply do, and requests that waited for room run. -/
def State.settle (s : State) : State :=
  let t := s.drainStepAll (s.dict.drains.length + 1)
  t.serveWaiting t.dict.waiting

/-- A channel carries requests: the mailbox while the link is up, I3C while the node is powered and out of reset, a QP of the
role the channel names while it is in RTS or DRAINING (R360, R369, R390, R402). -/
def State.chanOpen (s : State) : Chan → Bool
  | .mailbox => s.linkUp
  | .i3c => s.romUp
  | .mgmtQp n => let q := s.qp n.toNat; q.isMgmt && (q.st == .rts || q.st == .draining)
  | .dataQp n => let q := s.qp n.toNat; !q.isMgmt && (q.st == .rts || q.st == .draining)

/-- A request arrives: it runs, or waits in its channel (R401, R402). A channel that is not open carries none. -/
def State.request (s : State) (q : PdReq) : State :=
  if !s.chanOpen q.ch then s
  else if chanLimit q.ch ≤ s.inFlight q.ch ∨ s.dict.waiting.any (fun w => w.ch == q.ch) = true then
    s.modDict fun d => { d with waiting := d.waiting ++ [q] }
  else (s.runRequest q).settle

/-- DRAIN_WAIT_LIMIT: the first waiting write fails (R396). -/
def State.drainLimit (s : State) : State :=
  match s.dict.drains with
  | w :: _ => (s.endDrain w stBusy 1).settle
  | [] => s

/-! ## Framing (R398, R400) -/

/-- Largest request or response of a channel, in bytes (R402). -/
def chanBytes : Chan → Nat
  | .mailbox => 1048568
  | .i3c => 8192
  | _ => 65536

/-- The operations of a request from an offset on, or the offset at which its layout is wrong. -/
def parseOps (l : List Byte) : Nat → Nat → Except Nat (List PdOp)
  | at_, 0 => if at_ = l.length then .ok [] else .error at_
  | at_, n + 1 =>
    if l.length < at_ + 16 then .error at_
    else
      let h : BitVec 128 := ofBytes 128 (slice l at_ 16)
      let op := fld h 0 8
      let len := fld h 32 32
      let data := if op = 2 then 8 * ceilDiv len 8 else 0
      if op = 0 ∨ 4 < op then .error at_
      else if op = 4 ∧ len ≠ 0 then .error (at_ + 4)
      else if fld h 64 64 ≠ 0 then .error (at_ + 8)
      else if l.length < at_ + 16 + data then .error (at_ + 4)
      else if op = 2 ∧ (slice l (at_ + 16 + len) (data - len)).any (· ≠ 0) = true then .error (at_ + 16 + len)
      else
        match parseOps l (at_ + 16 + data) n with
        | .ok r => .ok (⟨op, fld h 16 16, fld h 8 8, len, if op = 2 then slice l (at_ + 16) len else []⟩ :: r)
        | .error e => .error e

/-- Byte offsets of the operations of a request, in order. -/
def opOffsets (at_ : Nat) : List PdOp → List Nat
  | [] => []
  | o :: r => at_ :: opOffsets (at_ + 16 + 8 * ceilDiv o.value.length 8) r

/-- A write whose effect is DRAIN or BOOT stands only in the last operation (R400). -/
def drainsLast : List PdOp → List Nat → Option Nat
  | o :: o2 :: r, a :: as =>
    let late := o.op == 2 && match pdRow o.idx o.sub with | some w => decide (2 ≤ w.eff) | none => false
    if late then some a else drainsLast (o2 :: r) as
  | _, _ => none

/-- A request as its bytes spell it (R398, R400). -/
def parseRequest (ch : Chan) (svcTag dom : Nat) (l : List Byte) : PdReq :=
  let h : BitVec 128 := ofBytes 128 (slice l 0 16)
  let q : PdReq := { ch := ch, svcTag := svcTag, tag := fld h 32 16, layout := fld h 0 8,
                     dom := if chanClass ch = 3 then dom else fld h 16 12 }
  let n := fld h 8 5
  let head := firstBad
    [(decide (16 ≤ l.length), 0), (decide (1 ≤ n) && decide (n ≤ 16) && fld h 13 3 == 0, 1), (fld h 28 4 == 0, 3),
     (fld h 48 16 == 0, if fld h 48 8 ≠ 0 then 6 else 7), (fld h 64 32 == l.length, 8), (fld h 96 32 == 0, 12)]
  match head with
  | some e => { q with bad := some (stMalformed, e) }
  | none =>
    match parseOps l 16 n with
    | .error e => { q with bad := some (stMalformed, e) }
    | .ok ops =>
      if q.layout ≠ 1 then { q with bad := some (stMalformed, 0) }
      else
        match drainsLast ops (opOffsets 16 ops) with
        | some e => { q with bad := some (stMalformed, e) }
        | none => if chanBytes ch < l.length then { q with bad := some (stMalformed, 8) } else { q with ops := ops }

/-- The bytes of a request that arrives on a channel (R402). A DOMAIN caller addresses its QP's domain (R390). -/
def State.arrive (s : State) (ch : Chan) (svcTag : Nat) (l : List Byte) : State :=
  let dom := match ch with | .dataQp n => (s.qp n.toNat).dom | _ => 0
  s.request (parseRequest ch svcTag dom l)

/-- A request of one WRITE, as the commands that are one write of one entry send it. -/
def State.oneWrite (s : State) (ch : Chan) (dom idx sub : Nat) (value : List Byte) : State :=
  let d := match ch with | .dataQp n => (s.qp n.toNat).dom | _ => dom
  s.request { ch := ch, dom := d, ops := [{ op := 2, idx := idx, sub := sub, len := value.length, value := value }] }

end Sys2Proof.Machine
end

