-- ==== Sys2Proof/Machine/Access.lean ====
section
/-! DEFINITION. The commands over the dictionary: whole requests, boundaries and waiting writes (R395, R396, R400), and the
commands that are one write of one entry. Each goes through the same checks and effects as a request. -/

namespace Sys2Proof.Machine

/-! ## Boundaries (R395, R347) -/

/-- A CMD entry's shadow copy becomes its active copy at the consuming block's boundary, with what follows: a shaper's bucket is
set anew (R317), the event ring restarts (R347), a low-water mark is compared (R58, R213). The entries of a RING_JOIN apply at one
alone (R294). -/
def State.cmdEffect (s : State) (k : PdKey) : State :=
  match s.dict.shadow.find? (fun p => p.1 == k), pdRow k.idx k.sub with
  | some p, some r =>
    if r.eff ≠ 1 ∨ governsRing k then s
    else
      let s1 := (s.setActive k p.2).modDict fun d => { d with shadow := d.shadow.filter fun q => q.1 ≠ k }
      let s2 :=
        if k.idx = 0x7130 ∧ k.sub ≤ 1 then s1.resetShaper k.dom k.sub
        else if k.idx = 0x8200 ∧ (k.sub = 1 ∨ k.sub = 2) then s1.ringRestart
        else if k.idx = 0x3000 then s1.lowCheck
        else if k.idx = 0xA000 then s1.indexCheck
        else s1
      s2.wake
  | _, _ => s

/-- The event ring's new place and depth together (R347). -/
def State.ringReconfig (s : State) : State := (s.cmdEffect ⟨0x8200, 1, 0⟩).cmdEffect ⟨0x8200, 2, 0⟩

/-- A request of a mailbox command (R368). -/
def State.pdAccess (s : State) (req : List Byte) : State := s.arrive .mailbox 0 req

/-- PD_REQUEST (R400). -/
def execPdRequest (ch : Chan) (req : List Byte) (s : State) : Host.Outcome State Fault Refusal := s.seal (s.arrive ch 0 req)

/-- PD_ACCESS: a request through the mailbox (R368, R402). -/
def execPdAccess (req : List Byte) (s : State) : Host.Outcome State Fault Refusal := s.seal (s.pdAccess req)

/-- CMD_EFFECT (R395). -/
def execCmdEffect (k : PdKey) (s : State) : Host.Outcome State Fault Refusal := s.seal (s.cmdEffect k)

/-- DRAIN_APPLY (R396). -/
def execDrainApply (s : State) : Host.Outcome State Fault Refusal := s.seal s.settle

/-- DRAIN_WAIT_LIMIT (R396). -/
def execDrainWaitLimit (s : State) : Host.Outcome State Fault Refusal := s.seal s.drainLimit

/-- EVENT_RING_RECONFIG (R347). -/
def execEventRingReconfig (s : State) : Host.Outcome State Fault Refusal := s.seal s.ringReconfig

/-- DELETE_SQ_DONE (R164). -/
def execDeleteSqDone (sq : BitVec 16) (s : State) : Host.Outcome State Fault Refusal := s.seal (s.sqDeleted sq.toNat)

/-- TEARDOWN_DONE (R195, R298). -/
def execTeardownDone (dom : BitVec 12) (s : State) : Host.Outcome State Fault Refusal := s.seal (s.teardownDone dom.toNat)

/-- MGMT_KICK (R348): the watchdog's time starts again; the watchdog itself is an event (MGMT_HANG). -/
def execMgmtKick (s : State) : Host.Outcome State Fault Refusal := s.seal s

/-! ## One write of one entry -/

/-- The address of an entry of the score-program state (R138). -/
def scoreEntry : ScoreEntry → Nat × Nat
  | .program n => (0x2100, n.toNat)
  | .layerProgram => (0x2101, 1)
  | .const => (0x2102, 1)
  | .headTable n => (0x2103, n.toNat)
  | .biasTable n => (0x2104, n.toNat)
  | .capTable n => (0x2105, n.toNat)

/-- CREATE_SQ (R164). -/
def execCreateSq (ch : Chan) (s : State) : Host.Outcome State Fault Refusal := s.seal (s.oneWrite ch 0 0x4100 4 [1])

/-- DELETE_SQ (R164). -/
def execDeleteSq (ch : Chan) (s : State) : Host.Outcome State Fault Refusal := s.seal (s.oneWrite ch 0 0x4100 4 [2])

/-- CREATE_CQ (R164). -/
def execCreateCq (ch : Chan) (s : State) : Host.Outcome State Fault Refusal := s.seal (s.oneWrite ch 0 0x4100 4 [3])

/-- DELETE_CQ (R164). -/
def execDeleteCq (ch : Chan) (s : State) : Host.Outcome State Fault Refusal := s.seal (s.oneWrite ch 0 0x4100 4 [4])

/-- QP_CONNECT (R249). -/
def execQpConnect (ch : Chan) (s : State) : Host.Outcome State Fault Refusal := s.seal (s.oneWrite ch 0 0x6100 3 [1])

/-- QP_LISTEN (R249). -/
def execQpListen (ch : Chan) (s : State) : Host.Outcome State Fault Refusal := s.seal (s.oneWrite ch 0 0x6100 3 [2])

/-- QP_DISCONNECT (R249). -/
def execQpDisconnect (ch : Chan) (s : State) : Host.Outcome State Fault Refusal := s.seal (s.oneWrite ch 0 0x6100 3 [3])

/-- QP_RESET (R249). -/
def execQpReset (ch : Chan) (s : State) : Host.Outcome State Fault Refusal := s.seal (s.oneWrite ch 0 0x6100 3 [4])

/-- DOMAIN_CREATE (R298). -/
def execDomainCreate (ch : Chan) (dom : BitVec 12) (s : State) : Host.Outcome State Fault Refusal :=
  s.seal (s.oneWrite ch dom.toNat 0x7100 2 [1])

/-- DOMAIN_TEARDOWN (R298). -/
def execDomainTeardown (ch : Chan) (dom : BitVec 12) (s : State) : Host.Outcome State Fault Refusal :=
  s.seal (s.oneWrite ch dom.toNat 0x7100 2 [2])

/-- DOMAIN_DELETE (R298). -/
def execDomainDelete (ch : Chan) (dom : BitVec 12) (s : State) : Host.Outcome State Fault Refusal :=
  s.seal (s.oneWrite ch dom.toNat 0x7100 2 [3])

/-- PROFILE_COMMIT (R62). -/
def execProfileCommit (ch : Chan) (s : State) : Host.Outcome State Fault Refusal := s.seal (s.oneWrite ch 0 0x2000 0x15 [1])

/-- SCORE_PROGRAM (R117). -/
def execScoreProgram (ch : Chan) (entry : ScoreEntry) (value : List Byte) (s : State) : Host.Outcome State Fault Refusal :=
  s.seal (s.oneWrite ch 0 (scoreEntry entry).1 (scoreEntry entry).2 value)

/-- SLICE (R17). -/
def execSlice (ch : Chan) (n : BitVec 4) (value : List Byte) (s : State) : Host.Outcome State Fault Refusal :=
  s.seal (s.oneWrite ch 0 0x4310 n.toNat value)

/-- MAP_EPOCH_CURRENT (R25). -/
def execMapEpochCurrent (ch : Chan) (v : BitVec 32) (s : State) : Host.Outcome State Fault Refusal :=
  s.seal (s.oneWrite ch 0 0x4300 1 (leBytes 4 v.toNat))

/-- MAP_EPOCH_OLDEST_LIVE (R20). -/
def execMapEpochOldestLive (ch : Chan) (v : BitVec 32) (s : State) : Host.Outcome State Fault Refusal :=
  s.seal (s.oneWrite ch 0 0x4300 2 (leBytes 4 v.toNat))

/-- PARTITION_MODE (R305). -/
def execPartitionMode (ch : Chan) (v : Byte) (s : State) : Host.Outcome State Fault Refusal :=
  s.seal (s.oneWrite ch 0 0x7000 3 [v])

/-- DMA_REGION (R366). -/
def execDmaRegion (ch : Chan) (dom : BitVec 12) (n : BitVec 4) (v : BitVec 128) (s : State) :
    Host.Outcome State Fault Refusal :=
  s.seal (s.oneWrite ch dom.toNat 0x3710 n.toNat (leBytes 16 v.toNat))

/-- SHAPER_FABRIC (R317). -/
def execShaperFabric (ch : Chan) (dom : BitVec 12) (v : BitVec 256) (s : State) : Host.Outcome State Fault Refusal :=
  s.seal (s.oneWrite ch dom.toNat 0x7130 0 (leBytes 32 v.toNat))

/-- SHAPER_TIER (R317). -/
def execShaperTier (ch : Chan) (dom : BitVec 12) (v : BitVec 256) (s : State) : Host.Outcome State Fault Refusal :=
  s.seal (s.oneWrite ch dom.toNat 0x7130 1 (leBytes 32 v.toNat))

/-- XTS_KEY (R303). -/
def execXtsKey (ch : Chan) (dom : BitVec 12) (key : List Byte) (s : State) : Host.Outcome State Fault Refusal :=
  s.seal (s.oneWrite ch dom.toNat 0x7110 1 key)

/-- FABRIC_KEY (R303). -/
def execFabricKey (ch : Chan) (dom : BitVec 12) (key : List Byte) (s : State) : Host.Outcome State Fault Refusal :=
  s.seal (s.oneWrite ch dom.toNat 0x7110 2 key)

/-- MGMT_FABRIC_KEY (R303). -/
def execMgmtFabricKey (ch : Chan) (key : List Byte) (s : State) : Host.Outcome State Fault Refusal :=
  s.seal (s.oneWrite ch 0 0x7010 1 key)

/-- HOST_TIER_BASE (R217). -/
def execHostTierBase (ch : Chan) (dom : BitVec 12) (v : BitVec 64) (s : State) : Host.Outcome State Fault Refusal :=
  s.seal (s.oneWrite ch dom.toNat 0x3510 1 (leBytes 8 v.toNat))

/-- HOST_TIER_UNITS (R217). -/
def execHostTierUnits (ch : Chan) (dom : BitVec 12) (v : BitVec 32) (s : State) : Host.Outcome State Fault Refusal :=
  s.seal (s.oneWrite ch dom.toNat 0x3510 2 (leBytes 4 v.toNat))

/-- HINT_FLAGS (R229). -/
def execHintFlags (ch : Chan) (dom : BitVec 12) (v : BitVec 32) (s : State) : Host.Outcome State Fault Refusal :=
  s.seal (s.oneWrite ch dom.toNat 0x3520 2 (leBytes 4 v.toNat))

/-- GROUP_MEMBERS (R203). -/
def execGroupMembers (ch : Chan) (members : List Byte) (s : State) : Host.Outcome State Fault Refusal :=
  s.seal (s.oneWrite ch 0 0xA030 2 members)

/-- REMOTE_HOLD_RELEASE (R225). -/
def execRemoteHoldRelease (ch : Chan) (v : BitVec 16) (s : State) : Host.Outcome State Fault Refusal :=
  s.seal (s.oneWrite ch 0 0x3500 0xD (leBytes 2 v.toNat))

/-- MOVE_ABANDON (R272). -/
def execMoveAbandon (ch : Chan) (v : BitVec 32) (s : State) : Host.Outcome State Fault Refusal :=
  s.seal (s.oneWrite ch 0 0x6500 1 (leBytes 4 v.toNat))

/-- SHADOW_START (R351). -/
def execShadowStart (ch : Chan) (s : State) : Host.Outcome State Fault Refusal := s.seal (s.oneWrite ch 0 0x8400 1 [1])

/-- SHADOW_TAKEOVER (R352). -/
def execShadowTakeover (ch : Chan) (s : State) : Host.Outcome State Fault Refusal := s.seal (s.oneWrite ch 0 0x8400 1 [2])

/-- SHADOW_ABANDON (R352). -/
def execShadowAbandon (ch : Chan) (s : State) : Host.Outcome State Fault Refusal := s.seal (s.oneWrite ch 0 0x8400 1 [3])

/-- SHADOW_RESET (R352). -/
def execShadowReset (ch : Chan) (s : State) : Host.Outcome State Fault Refusal := s.seal (s.oneWrite ch 0 0x8400 1 [4])

/-- ERRN_CLEAR (R329). -/
def execErrnClear (ch : Chan) (s : State) : Host.Outcome State Fault Refusal := s.seal (s.oneWrite ch 0 0x8000 4 [1])

/-- FAULT_INJECT (R345). -/
def execFaultInject (ch : Chan) (v : BitVec 128) (s : State) : Host.Outcome State Fault Refusal :=
  s.seal (s.oneWrite ch 0 0x8130 1 (leBytes 16 v.toNat))

/-- SOURCE_REACTION (R326). -/
def execSourceReaction (ch : Chan) (n : BitVec 8) (v : BitVec 32) (s : State) : Host.Outcome State Fault Refusal :=
  s.seal (s.oneWrite ch 0 0x8100 n.toNat (leBytes 4 v.toNat))

/-- LBIST_START (R427). -/
def execLbistStart (ch : Chan) (v : BitVec 64) (s : State) : Host.Outcome State Fault Refusal :=
  s.seal (s.oneWrite ch 0 0x5000 1 (leBytes 8 v.toNat))

/-- ASB_PREPARE (R428). -/
def execAsbPrepare (ch : Chan) (stack : BitVec 4) (s : State) : Host.Outcome State Fault Refusal :=
  s.seal (s.oneWrite ch 0 0x5200 1 (leBytes 1 (stack.toNat + 1 * 16)))

/-- ASB_START (R428). -/
def execAsbStart (ch : Chan) (stack : BitVec 4) (s : State) : Host.Outcome State Fault Refusal :=
  s.seal (s.oneWrite ch 0 0x5200 1 (leBytes 1 (stack.toNat + 2 * 16)))

/-- ASB_RELEASE (R428). -/
def execAsbRelease (ch : Chan) (stack : BitVec 4) (s : State) : Host.Outcome State Fault Refusal :=
  s.seal (s.oneWrite ch 0 0x5200 1 (leBytes 1 (stack.toNat + 3 * 16)))

/-- MGMT_RESTART (R397). -/
def execMgmtRestart (ch : Chan) (s : State) : Host.Outcome State Fault Refusal := s.seal (s.oneWrite ch 0 0x8300 6 [1])

/-- MIN_SVN_RAISE (R375). -/
def execMinSvnRaise (ch : Chan) (v : BitVec 16) (s : State) : Host.Outcome State Fault Refusal :=
  s.seal (s.oneWrite ch 0 0x1000 7 (leBytes 2 v.toNat))

/-- SAMPLE_CLEAR (R320). -/
def execSampleClear (ch : Chan) (s : State) : Host.Outcome State Fault Refusal := s.seal (s.oneWrite ch 0 0x7300 4 [1])

/-- EVENT_RING_HEAD (R347). -/
def execEventRingHead (ch : Chan) (v : BitVec 32) (s : State) : Host.Outcome State Fault Refusal :=
  s.seal (s.oneWrite ch 0 0x8200 4 (leBytes 4 v.toNat))

end Sys2Proof.Machine
end

