-- ==== Sys2Proof/Machine/Commands.lean ====
section
/-! DEFINITION. The meaning of the command opcodes, each run whole from its submission (log 4), and of the steps of a
command's life: doorbells, fetch, admission, wait limit and commit (R164 to R178). -/

namespace Sys2Proof.Machine

/-! ## Queues -/

/-- An SQ goes to ERROR, with its QUEUE_ERROR event (R168). -/
def State.queueError (s : State) (n : Nat) : State :=
  match aget s.queues.sqs n with
  | some q =>
    if q.st = .active then
      (s.modSq n fun x => { x with st := .error }).note 0x0106 (some (sqDom q.cfg)) islSched n [n]
    else s
  | none => s

/-- A doorbell from the host counts: the link carries it, and nothing makes the node discard it (R360, R364, R365). -/
def State.doorbellOpen (s : State) (fabric : Bool) : Bool := s.linkFull && !s.link.viral && (fabric || s.ideMet)

/-- An SQ tail value taken, refused with ERROR, or ignored (R168). -/
def State.tailDoorbell (s : State) (n v : Nat) : State :=
  match aget s.queues.sqs n with
  | none => s.bump 0x4000 8
  | some q =>
    if q.st ≠ .active then s.bump 0x4000 8
    else if sqDepth q.cfg ≤ v then s.queueError n
    else s.modSq n fun x => { x with tail := v }

/-- A CQ head value taken or ignored (R168); the interrupt is armed again (R176). -/
def State.headDoorbell (s : State) (n v : Nat) : State :=
  match aget s.queues.cqs n with
  | none => s.bump 0x4000 8
  | some q =>
    let depth := cqDepth q.cfg
    let v1 := v % depth
    let s1 := s.modCq n fun x => { x with msi := true }
    if (v1 + depth - q.head) % depth ≤ (q.tail + depth - q.head) % depth then
      (s1.modCq n fun x => { x with head := v1 }).flushCq n
    else s1.bump 0x4000 8

/-- A tail doorbell of the doorbell region (R166). -/
def State.hostTail (s : State) (n v : Nat) : State :=
  if s.doorbellOpen (match aget s.queues.sqs n with | some q => sqFabric q.cfg | none => false) then s.tailDoorbell n v else s

/-- A head doorbell of the doorbell region (R166). -/
def State.hostHead (s : State) (n v : Nat) : State :=
  if s.doorbellOpen (match aget s.queues.cqs n with | some q => bit q.cfg 21 | none => false) then s.headDoorbell n v else s

/-! ## Wait limit -/

/-- Commands admitted before still read a page, or a sequence, that a command would change (R45). -/
def State.readersFirst (s : State) (c : Cmd) : Bool :=
  let pages := s.alters c ++ if [0x40, 0x41, 0x42, 0x43, 0x44].contains (dOp c.desc) then c.jobs.map PageJob.page else []
  s.sched.cmds.any fun x => decide (x.id < c.id)
    && (pages.any (s.willRead x) || ((isAppend c.desc || dOp c.desc == 0x03) && s.unreadOf x c.seq))

/-- An item waits for its scoreboard entry, its granules or its lane sets, or a stripe of it for a token (R174). -/
def State.itemWaits (s : State) (it : Item) : Bool :=
  it.st == .waiting || (it.issues && it.stripes.any fun n =>
    match it.slots[n]? with
    | some x => !s.stripeIssued (slotStack x.slot) (stripeTag it n) && !s.tokenFor (slotStack x.slot) it
    | none => false)

/-- A command waits for something that counts towards its limit: granules, lane sets, tokens, undo areas, scoreboard entries, or
readers; never for a lower tier (R174). -/
def State.waitCounts (s : State) (c : Cmd) : Bool :=
  c.jobs.all PageJob.done
    && ((s.sched.items.any fun it => it.cmd == c.id && s.itemWaits it)
      || (c.stage == .planned && (s.readersFirst c || (isAppend c.desc && !c.issued && s.waitsOver c))))

/-- COMMAND_WAIT_LIMIT has passed for a command (R174); a ring ATTEND killed by it has failed in execution, which aborts its lap
(R290). -/
def State.waitLimit (s : State) (id : Nat) : State :=
  match s.cmd id with
  | some c =>
    if !s.waitCounts c then s
    else (if s.ringed id then s.detectAbort 5 none else s.endCmd c ⟨stBusy, 1, 0, 0⟩).wake.lowCheck
  | none => s

/-! ## Rows -/

/-- The bits of PAGE_MIGRATE's MOVE. -/
def moveBit : BitVec 1024 := onesAt 477 1

/-- The bits of PAGE_MIGRATE's DIRECTION. -/
def backBit : BitVec 1024 := onesAt 478 1

/-- The bits of MASK_PUT's OP. -/
def maskOpBits : BitVec 1024 := onesAt 384 8

/-- NOP submitted to a queue (R178). -/
def execNop (sq : BitVec 16) (d : Desc) (s : State) : Host.Outcome State Fault Refusal :=
  s.seal (s.runOp sq.toNat (rowDesc 0x00 0 0 d))

/-- SEQ_OPEN submitted to a queue (R38, R179). -/
def execSeqOpen (sq : BitVec 16) (d : Desc) (s : State) : Host.Outcome State Fault Refusal :=
  s.seal (s.runOp sq.toNat (rowDesc 0x01 0 0 d))

/-- SEQ_FORK submitted to a queue (R47, R179). -/
def execSeqFork (sq : BitVec 16) (d : Desc) (s : State) : Host.Outcome State Fault Refusal :=
  s.seal (s.runOp sq.toNat (rowDesc 0x02 0 0 d))

/-- SEQ_TRIM submitted to a queue (R55). -/
def execSeqTrim (sq : BitVec 16) (d : Desc) (s : State) : Host.Outcome State Fault Refusal :=
  s.seal (s.runOp sq.toNat (rowDesc 0x03 0 0 d))

/-- SEQ_CLOSE submitted to a queue (R56). -/
def execSeqClose (sq : BitVec 16) (d : Desc) (s : State) : Host.Outcome State Fault Refusal :=
  s.seal (s.runOp sq.toNat (rowDesc 0x04 0 0 d))

/-- KV_APPEND submitted to a queue (R34, R49, R180). -/
def execKvAppend (sq : BitVec 16) (d : Desc) (s : State) : Host.Outcome State Fault Refusal :=
  s.seal (s.runOp sq.toNat (rowDesc 0x10 0 0 d))

/-- KV_APPEND_LAYER submitted to a queue (R180). -/
def execKvAppendLayer (sq : BitVec 16) (d : Desc) (s : State) : Host.Outcome State Fault Refusal :=
  s.seal (s.runOp sq.toNat (rowDesc 0x11 0 0 d))

/-- ATTEND submitted to a queue (R130, R181; R281 on the ring SQ). -/
def execAttend (sq : BitVec 16) (d : Desc) (s : State) : Host.Outcome State Fault Refusal :=
  s.seal (s.runOp sq.toNat (rowDesc 0x20 0 0 d))

/-- WINNOW submitted to a queue (R182). -/
def execWinnow (sq : BitVec 16) (d : Desc) (s : State) : Host.Outcome State Fault Refusal :=
  s.seal (s.runOp sq.toNat (rowDesc 0x21 0 0 d))

/-- PREFIX_FIND submitted to a queue (R206, R183). -/
def execPrefixFind (sq : BitVec 16) (d : Desc) (s : State) : Host.Outcome State Fault Refusal :=
  s.seal (s.runOp sq.toNat (rowDesc 0x30 0 0 d))

/-- PREFIX_ADD submitted to a queue (R205, R183). -/
def execPrefixAdd (sq : BitVec 16) (d : Desc) (s : State) : Host.Outcome State Fault Refusal :=
  s.seal (s.runOp sq.toNat (rowDesc 0x31 0 0 d))

/-- PREFIX_DROP submitted to a queue (R210, R183). -/
def execPrefixDrop (sq : BitVec 16) (d : Desc) (s : State) : Host.Outcome State Fault Refusal :=
  s.seal (s.runOp sq.toNat (rowDesc 0x32 0 0 d))

/-- PAGE_SWAP_OUT submitted to a queue (R221, R184). -/
def execPageSwapOut (sq : BitVec 16) (d : Desc) (s : State) : Host.Outcome State Fault Refusal :=
  s.seal (s.runOp sq.toNat (rowDesc 0x40 0 0 d))

/-- PAGE_SWAP_IN submitted to a queue (R222, R184). -/
def execPageSwapIn (sq : BitVec 16) (d : Desc) (s : State) : Host.Outcome State Fault Refusal :=
  s.seal (s.runOp sq.toNat (rowDesc 0x41 0 0 d))

/-- PAGE_MIGRATE with DIRECTION 0 and MOVE 0 submitted to a queue (R224, R184). -/
def execPageMigrateOut (sq : BitVec 16) (d : Desc) (s : State) : Host.Outcome State Fault Refusal :=
  s.seal (s.runOp sq.toNat (rowDesc 0x42 0 (moveBit ||| backBit) d))

/-- PAGE_MIGRATE with DIRECTION 1 and MOVE 0 submitted to a queue (R225, R184). -/
def execPageMigrateIn (sq : BitVec 16) (d : Desc) (s : State) : Host.Outcome State Fault Refusal :=
  s.seal (s.runOp sq.toNat (rowDesc 0x42 backBit moveBit d))

/-- PAGE_MIGRATE with MOVE 1 submitted to a queue (R22, R272). -/
def execPageMigrateMove (sq : BitVec 16) (d : Desc) (s : State) : Host.Outcome State Fault Refusal :=
  s.seal (s.runOp sq.toNat (rowDesc 0x42 moveBit 0 d))

/-- PAGE_VIEW submitted to a queue (R99). -/
def execPageView (sq : BitVec 16) (d : Desc) (s : State) : Host.Outcome State Fault Refusal :=
  s.seal (s.runOp sq.toNat (rowDesc 0x43 0 0 d))

/-- PAGE_UNVIEW submitted to a queue (R103). -/
def execPageUnview (sq : BitVec 16) (d : Desc) (s : State) : Host.Outcome State Fault Refusal :=
  s.seal (s.runOp sq.toNat (rowDesc 0x44 0 0 d))

/-- MASK_PUT with OP 0 submitted to a queue (R121, R185). -/
def execMaskPut (sq : BitVec 16) (d : Desc) (s : State) : Host.Outcome State Fault Refusal :=
  s.seal (s.runOp sq.toNat (rowDesc 0x50 0 maskOpBits d))

/-- MASK_PUT with OP 1 submitted to a queue (R123, R185). -/
def execMaskDrop (sq : BitVec 16) (d : Desc) (s : State) : Host.Outcome State Fault Refusal :=
  s.seal (s.runOp sq.toNat (rowDesc 0x50 (onesAt 384 1) maskOpBits d))

/-- TABLE_BUILD submitted to a queue (R234). -/
def execTableBuild (sq : BitVec 16) (d : Desc) (s : State) : Host.Outcome State Fault Refusal :=
  s.seal (s.runOp sq.toNat (rowDesc 0x51 0 0 d))

/-- RING_JOIN submitted to a queue (R278, R279). -/
def execRingJoin (sq : BitVec 16) (d : Desc) (s : State) : Host.Outcome State Fault Refusal :=
  s.seal (s.runOp sq.toNat (rowDesc 0x60 0 0 d))

/-- RING_LEAVE submitted to a queue (R292). -/
def execRingLeave (sq : BitVec 16) (d : Desc) (s : State) : Host.Outcome State Fault Refusal :=
  s.seal (s.runOp sq.toNat (rowDesc 0x61 0 0 d))

/-- FENCE submitted to a queue (R187, R281). -/
def execFence (sq : BitVec 16) (d : Desc) (s : State) : Host.Outcome State Fault Refusal :=
  s.seal (s.runOp sq.toNat (rowDesc 0x70 0 0 d))

/-- A tail doorbell of the host (R168). -/
def execSqTailDoorbell (sq : BitVec 16) (tail : BitVec 16) (s : State) : Host.Outcome State Fault Refusal :=
  s.seal (s.hostTail sq.toNat tail.toNat)

/-- A head doorbell of the host (R168). -/
def execCqHeadDoorbell (cq : BitVec 16) (head : BitVec 16) (s : State) : Host.Outcome State Fault Refusal :=
  s.seal (s.hostHead cq.toNat head.toNat)

/-- One descriptor fetched (R172). -/
def execDescriptorFetch (sq : BitVec 16) (s : State) : Host.Outcome State Fault Refusal := s.seal (s.fetch sq.toNat)

/-- The next fetched descriptor of a queue admitted (R173). -/
def execCommandAdmit (sq : BitVec 16) (s : State) : Host.Outcome State Fault Refusal := s.seal (s.admitFront sq.toNat)

/-- A command's wait limit passes (R174). -/
def execCommandWaitLimit (id : Nat) (s : State) : Host.Outcome State Fault Refusal := s.seal (s.waitLimit id)

/-- A command commits once its work is done and its waits are over (R178). -/
def execCommandCommit (id : Nat) (s : State) : Host.Outcome State Fault Refusal := s.seal (s.tryCommit id)

end Sys2Proof.Machine
end

