-- ==== Sys2Proof/Machine/Xnt.lean ====
section
/-! DEFINITION. The receiver of XNT packets: the checks of an arriving packet, placement, refusals, the actions in PSN order,
acknowledgements, the connection handshake, and what a packet does to the sender (R237 to R263, R265 to R269, R273). -/

namespace Sys2Proof.Machine

/-! ## Opcodes (R243, R249) -/

/-- Sequenced opcodes. -/
def seqOp (op : Nat) : Bool := decide (1 ≤ op) && decide (op ≤ 6)

/-- Opcodes that a CONN header follows. -/
def connOp (op : Nat) : Bool := decide (0x20 ≤ op) && decide (op ≤ 0x24)

/-- Defined opcodes. -/
def knownOp (op : Nat) : Bool := seqOp op || (decide (0x10 ≤ op) && decide (op ≤ 0x13)) || connOp op

/-- A QP in a state accepts an opcode (R249). -/
def acceptsOp (st : QpSt) (op : Nat) : Bool :=
  match st with
  | .reset => false
  | .listen => op == 0x20
  | .connecting => op == 0x20 || op == 0x21 || op == 0x22
  | .rts => true
  | .draining => op != 0x21 && op != 0x22
  | .error => false

/-- A QP accepts a packet: its state takes the opcode, and a draining one only packets of messages begun before, that is, of no later
one than the last that a packet came of (R249). -/
def Qp.accepts (q : Qp) (h : BitVec 256) : Bool :=
  acceptsOp q.st (bOp h) && (q.st != .draining || !seqOp (bOp h) || newer 24 q.rxMsn (bMsn h))

/-! ## Conditions on a packet (R257 steps 2 to 5) -/

/-- VERSION and DST_NODE (step 2). -/
def State.rxVersion (s : State) (q : Qp) (h : BitVec 256) : Bool :=
  fld h 0 4 == (if connOp (bOp h) then 1 else q.version) && bDstNode h == s.nodeId

/-- SRC_NODE, SRC_QP, CONN_ID and DOMAIN match the QP; a CONNECT brings the CONN_ID of a new connection (step 4). -/
def rxFrom (q : Qp) (h : BitVec 256) : Bool :=
  bSrcNode h == q.peerNode && bSrcQp h == q.peerQp && (bConn h == q.connId || bOp h == 0x20) && bDom h == q.dom

/-- BOOT_ID of a CONN header (R250). -/
def connBoot (ext : List Byte) : BitVec 64 := BitVec.ofNat 64 (leNat (slice ext 4 8))

/-- The plaintext of a packet whose husk tag holds (step 5). The packets of the handshake carry the sender's BOOT_ID. -/
def State.rxOpen (s : State) (q : Qp) (p : RxPacket) : Option (List Byte) :=
  let h := p.base
  let k := s.qpKey q
  let boot := if 0x20 ≤ bOp h ∧ bOp h ≤ 0x22 then connBoot p.ext else q.peerBoot
  if k.isEmpty then none else gcmOpen (huskKey k (bSrcNode h) boot) (huskNonce h) (huskAad h p.ext) p.payload p.tag

/-! ## Acknowledgement (R261, R262) -/

/-- An ACK, where ACK_EVERY PSNs are newly done or the packet asks for one at once. -/
def State.ackNow (s : State) (n : Nat) (atOnce : Bool) : State :=
  if atOnce || decide (s.num 0x6300 2 ≤ (s.qp n).unacked) then s.sendAck n false else s

/-- A refusal recorded: the next REFUSE_SEQ number, REFUSALS; a ninth pending one is an error of the QP (R261). -/
def State.recordRefusal (s : State) (n msn code : Nat) : State :=
  let q := s.qp n
  if 8 ≤ q.refused.length then s.qpError n 3
  else
    let no := (q.refuseSeq + 1) % 65536
    (s.modQp n fun x => { x with refused := x.refused ++ [⟨msn, code, no⟩], refuseSeq := no }).bump 0x6400 6

/-! ## Actions in PSN order (R260) -/

/-- A packet is acknowledged at once: it asks for it, or its CE mark comes when none has been echoed for 1 µs (R262). -/
def State.ackSoon (s : State) (n : Nat) (p : RxPacket) : Bool :=
  bAckReq p.base || (p.ce && match (s.qp n).ceEcho with | some t => decide (t + 1000 ≤ s.xnt.clock) | none => true)

/-- A READ_REQ acted on: its key is looked at again, and the region's bytes are answered as they stand; it executes, in flight
against the key, until the response has left (R263, R266, R267). -/
def State.actRead (s : State) (n msn key off len : Nat) : State :=
  let refuse := fun code => (s.recordRefusal n msn code).sendAck n true
  match s.rkey key with
  | none => refuse 1
  | some r =>
    if r.st ≠ 1 then refuse 2
    else
      let page := off / unitBytes
      match s.tier.holds.find? (fun h => h.origin == r.place && h.dom == r.dom && h.page == page), s.hbmPage page with
      | some _, some d =>
        if (s.qp n).st ≠ .rts then s
        else
          (s.send n 4 (fun o _ => respExt msn o len) (slice (pageUnit s.pr d) 0 len) 0 (key + 1)).modXnt fun x =>
            { x with rkeys := amod x.rkeys key fun r => { r with inflight := r.inflight + 1 } }
      | _, _ => refuse 1

/-- The read whose last response packet has just been passed is complete (R263). -/
def State.actResp (s : State) (n psn : Nat) : State :=
  match (s.qp n).reads.find? fun r => r.lastPsn == some psn with
  | none => s
  | some r =>
    let s1 := s.modQp n fun q => { q with reads := q.reads.filter fun x => x.msn ≠ r.msn }
    let bytes := Memory.readBytes r.data 0 r.len
    match r.job with
    | some p => s1.holdRead r.cmd p bytes
    | none => s1.inputArrived r.cmd bytes

/-- An immediate delivered: the new tail of its FABRIC SQ and the new head of the bound CQ (R167, R260). -/
def State.actImm (s : State) (sq : Nat) (v : BitVec 32) : State :=
  let s1 := s.tailDoorbell sq (fld v 0 16)
  match aget s.queues.sqs sq with
  | some q => s1.headDoorbell (fld q.cfg 0 16) (fld v 16 16)
  | none => s1

/-- A SERVICE message acted on: a dictionary request, or a message of the node's engines (R270, R402). -/
def State.actService (s : State) (n : Nat) (h : BitVec 256) (payload : List Byte) : State :=
  if !s.svcQp n then s
  else if hSvc h = 0x40 then s.arrive (.dataQp (BitVec.ofNat 16 n)) (hTag h) payload
  else s.onService n h payload

/-- A management frame acted on: FRAME 1 is a dictionary request; others are dropped (R273, R402). -/
def State.actMgmt (s : State) (n : Nat) (l : List Byte) : State :=
  if leNat (l.take 1) = 1 then s.arrive (.mgmtQp (BitVec.ofNat 16 n)) 0 (l.drop 8) else s

/-- The payload of a message from its packets in PSN order. -/
def State.messageBytes (s : State) (n msn : Nat) : List Byte :=
  let q := s.qp n
  let mine := q.parts.filter fun p => p.2.1 == msn
  (sortBy (fun p => (p.1 + 2 ^ 24 - (q.cpsn + 2 ^ 23) % 2 ^ 24) % 2 ^ 24) mine).flatMap fun p => p.2.2

/-- What a message does as CPSN passes its last packet (R260). -/
def State.runAct (s : State) (n psn msn : Nat) (a : RxAct) : State :=
  let body := s.messageBytes n msn
  let s1 := s.modQp n fun q => { q with parts := q.parts.filter fun p => p.2.1 ≠ msn }
  match a with
  | .plain => s1
  | .imm sq v => s1.actImm sq v
  | .read key off len => s1.actRead n msn key off len
  | .resp => s1.actResp n psn
  | .service h => (s1.actService n h body).wake.lowCheck
  | .mgmt => s1.actMgmt n body

/-- CPSN moves past every PSN that is done, and each message it passes is acted on unless a packet of it was refused
(R260). -/
def State.advance (s : State) (n : Nat) : Nat → State
  | 0 => s
  | fuel + 1 =>
    let q := s.qp n
    if (q.st = .rts ∨ q.st = .draining) ∧ q.done.contains q.cpsn = true then
      let c := q.cpsn
      let s1 := s.modQp n fun x =>
        { x with cpsn := (c + 1) % 2 ^ 24, done := x.done.filter (· ≠ c), acts := x.acts.filter fun a => a.1 ≠ c }
      let s2 :=
        match q.acts.find? fun a => a.1 == c with
        | some (_, msn, a) =>
          if q.bad.contains msn then
            s1.modQp n fun x =>
              { x with bad := x.bad.filter (· ≠ msn), parts := x.parts.filter fun p => p.2.1 ≠ msn }
          else s1.runAct n c msn a
        | none => s1
      s2.advance n fuel
    else s

/-- What CPSN will do when it passes a packet noted for its PSN. -/
def Qp.noteAct (q : Qp) (psn msn : Nat) (a : RxAct) : Qp :=
  { q with acts := (q.acts.filter fun x => x.1 ≠ psn) ++ [(psn, msn, a)] }

/-- A PSN is done (R245). -/
def State.markDone (s : State) (n psn : Nat) : State :=
  (s.modQp n fun q => { q with done := q.done ++ [psn], unacked := q.unacked + 1 }).advance n 1024

/-- A packet refused: its message is refused whole, the packet is done, and a NAK goes out at once (R261). -/
def State.refusePkt (s : State) (n : Nat) (h : BitVec 256) (code : Nat) : State :=
  let s1 := s.recordRefusal n (bMsn h) code
  if (s1.qp n).st = .error then s1
  else
    let s2 := s1.modQp n fun q =>
      let q1 := { q with bad := q.bad.filter (· ≠ bMsn h) ++ [bMsn h] }
      if bLast h then q1.noteAct (bPsn h) (bMsn h) .plain else q1
    (s2.markDone n (bPsn h)).sendAck n true

/-! ## Step 9: opcode and lengths -/

/-- The opcode is allowed on the QP's role, and the header lengths agree with it (R243, R248). -/
def roleOk (q : Qp) (p : RxPacket) : Bool :=
  let h := p.base
  let op := bOp h
  let ext := match op with
    | 1 => 16
    | 2 => if bLast h then 24 else 16
    | 3 => 16
    | 4 => 16
    | 5 => 32
    | _ => 0
  (if q.isMgmt then op == 6 else op != 6) && p.ext.length == ext && bLen h == p.payload.length
    && decide (p.payload.length ≤ q.mtu) && (op != 3 || (p.payload.isEmpty && bFirst h && bLast h))

/-! ## Step 10: ADDR (R244, R265 to R267, R271) -/

/-- RKEY_INDEX. -/
def aKey (ext : List Byte) : Nat := leNat (slice ext 0 2)
/-- RKEY_GEN. -/
def aGen (ext : List Byte) : Nat := leNat (slice ext 2 1)
/-- OFFSET. -/
def aOff (ext : List Byte) : Nat := leNat (slice ext 4 8)
/-- MSG_LEN. -/
def aLen (ext : List Byte) : Nat := leNat (slice ext 12 4)

/-- The refusal that the address check gives: 1 ACCESS_DENIED, 2 ACCESS_REVOKED. A hold is read whole, and only by its origin
for its domain (R271). -/
def State.addrCheck (s : State) (q : Qp) (op : Nat) (ext : List Byte) (bytes : Nat) : Option Nat :=
  match s.rkey (aKey ext) with
  | none => some 1
  | some r =>
    let n := if op = 3 then aLen ext else bytes
    if r.st ≠ 1 then some 2
    else if newer 8 (aGen ext) r.gen then some 1
    else if aGen ext ≠ r.gen then some 2
    else if r.dom ≠ q.dom ∨ r.len < aOff ext + n then some 1
    else if op = 3 then
      let page := aOff ext / unitBytes
      if r.readable && aOff ext % unitBytes == 0 && aLen ext == unitBytes && r.place == q.peerNode
          && s.tier.holds.any (fun h => h.origin == r.place && h.dom == r.dom && h.page == page) then none
      else some 1
    else if r.writable then none else some 1

/-! ## Step 11: residency (R268) -/

/-- Units of a landing region that a range touches. -/
def unitsOf (off len : Nat) : List Nat :=
  if len = 0 then [] else (List.range ((off + len - 1) / unitBytes - off / unitBytes + 1)).map (off / unitBytes + ·)

/-- A unit bound to a reserved Page Map entry and slot, where a reservation can be granted at once (R50, R51, R268). -/
def State.bindUnit (s : State) (key slice unit : Nat) : Option State :=
  match s.landingOf key with
  | none => none
  | some l =>
    if l.binds.any fun b => b.1 == unit then some s
    else if s.num 0x7120 8 l.dom ≤ s.mapHeld l.dom ∨ s.grantOk l.dom = false then none
    else
      match s.nextPage, s.findSlot slice l.dom unit 0 with
      | some p, some n =>
        some (((s.picked.modPages fun q => { q with reservedIdx := q.reservedIdx ++ [p] }).setUse n (.landing key)).modXnt fun x =>
          { x with landings := x.landings.map fun y =>
              if y.key = key then { y with binds := y.binds ++ [(unit, p, n)] } else y })
      | _, _ => none

/-- Every unit of a list bound, or none of them. -/
def State.bindUnits (s : State) (key slice : Nat) : List Nat → Option State
  | [] => some s
  | u :: r =>
    match s.bindUnit key slice u with
    | some t => t.bindUnits key slice r
    | none => none

/-- Bytes that a domain's packets hold in the fault buffer. -/
def State.faultHeld (s : State) (d : Nat) : Nat := ((s.xnt.fault.filter fun f => f.dom == d).map fun f => f.payload.length).sum

/-- The fault buffer and the domain's share of it take a packet (R268, R306). -/
def State.faultRoom (s : State) (d n : Nat) : Bool :=
  decide ((s.xnt.fault.map fun f => f.payload.length).sum + n ≤ 67108864) && decide (s.faultHeld d + n ≤ s.num 0x7120 0xF d)
    && s.num 0x6300 9 != 0

/-- A packet waits in the fault buffer for a slot; it counts as in flight against its key (R266, R268). -/
def State.stallPkt (s : State) (n : Nat) (h : BitVec 256) (ext payload : List Byte) : State :=
  let q := s.qp n
  let s1 := s.modXnt fun x =>
    { x with
        fault := x.fault ++ [{ qp := n, psn := bPsn h, dom := q.dom, key := aKey ext, off := aOff ext, payload := payload }]
        rkeys := amod x.rkeys (aKey ext) fun r => { r with inflight := r.inflight + 1 } }
  if bLast h then s1.modQp n fun x => x.noteAct (bPsn h) (bMsn h) .plain else s1

/-! ## Step 12: placement (R258, R260) -/

/-- Payload bytes written to their region. -/
def State.placeBytes (s : State) (key off : Nat) (payload : List Byte) : State :=
  match s.rkey key with
  | none => s
  | some r =>
    match r.kind with
    | .queue => s.nodeWrite ((s.sqOf r.place).region + off) payload
    | .landing =>
      s.modXnt fun x => { x with landings := x.landings.map fun l =>
        if l.key = key then { l with bytes := Memory.writeBytes l.bytes off payload } else l }
    | .holds => s

/-- What a placed WRITE or WRITE_IMM does as CPSN passes its last packet. -/
def State.writeAct (s : State) (h : BitVec 256) (ext : List Byte) : RxAct :=
  match s.rkey (aKey ext) with
  | some r => if bOp h = 2 ∧ r.kind = .queue then .imm r.place (BitVec.ofNat 32 (leNat (slice ext 16 4))) else .plain
  | none => .plain

/-- A write placed: its PSN is done. -/
def State.placeWrite (s : State) (n : Nat) (h : BitVec 256) (ext payload : List Byte) : State :=
  let s1 := s.placeBytes (aKey ext) (aOff ext) payload
  let s2 := if bLast h then s1.modQp n fun q => q.noteAct (bPsn h) (bMsn h) (s1.writeAct h ext) else s1
  s2.markDone n (bPsn h)

/-- A response packet placed in the buffer of its read (R263). -/
def State.placeResp (s : State) (n : Nat) (h : BitVec 256) (ext payload : List Byte) : State :=
  let m := leNat (slice ext 0 3)
  let off := leNat (slice ext 4 4)
  let fits := off + payload.length
  let s1 := s.modQp n fun q =>
    { q with reads := q.reads.map fun r =>
        if r.msn = m ∧ fits ≤ r.len then
          { r with data := Memory.writeBytes r.data off payload, lastPsn := if bLast h then some (bPsn h) else r.lastPsn }
        else r }
  let s2 := if bLast h then s1.modQp n fun q => q.noteAct (bPsn h) (bMsn h) .resp else s1
  s2.markDone n (bPsn h)

/-- A packet of a SERVICE or MGMT message kept until its message is acted on. -/
def State.placePart (s : State) (n : Nat) (h : BitVec 256) (ext payload : List Byte) : State :=
  let a : RxAct := if bOp h = 5 then .service (ofBytes 256 ext) else .mgmt
  (s.modQp n fun q =>
    let q1 := { q with parts := q.parts ++ [(bPsn h, bMsn h, payload)] }
    if bLast h then q1.noteAct (bPsn h) (bMsn h) a else q1).markDone n (bPsn h)

/-- READ_REQs that a QP executes: accepted and not acted on, or with a response that has not left (R263). -/
def readsRunning (q : Qp) : Nat :=
  (q.acts.filter fun a => match a.2.2 with | .read _ _ _ => true | _ => false).length
    + (q.tx.filter fun t => t.op == 4 && t.last && !t.sent && !t.resent && !t.rnr).length

/-- Steps 9 to 12 for a sequenced packet that is new; whether it was done without a refusal. -/
def State.rxNew (s : State) (n : Nat) (p : RxPacket) (payload : List Byte) : State :=
  let q := s.qp n
  let h := p.base
  let op := bOp h
  let quick := s.ackSoon n p
  if !roleOk q p then s.refusePkt n h 4
  else if op ≤ 3 then
    match s.addrCheck q op p.ext payload.length with
    | some code => s.refusePkt n h code
    | none =>
      if op = 3 then
        if 16 ≤ readsRunning q then s.sendRnr n (bPsn h)
        else ((s.modQp n fun x => x.noteAct (bPsn h) (bMsn h) (.read (aKey p.ext) (aOff p.ext) (aLen p.ext))).markDone n
          (bPsn h)).ackNow n quick
      else if (s.landingOf (aKey p.ext)).isNone then (s.placeWrite n h p.ext payload).ackNow n quick
      else
        match s.bindUnits (aKey p.ext) q.slice (unitsOf (aOff p.ext) payload.length) with
        | some t => ((t.placeWrite n h p.ext payload).ackNow n quick).lowCheck
        | none =>
          if s.xnt.fault.any fun f => f.qp == n && f.psn == bPsn h then s
          else if s.scrubCount = 0 then s.refusePkt n h 3
          else if s.faultRoom q.dom payload.length then s.stallPkt n h p.ext payload
          else s.sendRnr n (bPsn h)
  else if op = 4 then (s.placeResp n h p.ext payload).ackNow n quick
  else (s.placePart n h p.ext payload).ackNow n quick

/-- The message of a packet has begun on a QP (R249). -/
def Qp.begin (q : Qp) (msn : Nat) : Qp := if newer 24 q.rxMsn msn then q else { q with rxMsn := (msn + 1) % 2 ^ 24 }

/-- Steps 6 to 12 for a sequenced packet (R257, R259, R262). -/
def State.rxSeq (s : State) (n : Nat) (p : RxPacket) (payload : List Byte) : State :=
  let h := p.base
  let s0 := if p.ce then s.modQp n fun q => { q with ce := q.ce + 1 } else s
  let q := s0.qp n
  if newer 24 q.cpsn (bPsn h) || q.done.contains (bPsn h) then (s0.bump 0x6400 3).sendAck n false
  else if 1024 ≤ (bPsn h + 2 ^ 24 - q.cpsn) % 2 ^ 24 then s0.bump 0x6400 4
  else
    let s1 := s0.modQp n fun x => x.begin (bMsn h)
    if q.refused.any fun r => r.msn == bMsn h then
      ((if bLast h then s1.modQp n fun x => x.noteAct (bPsn h) (bMsn h) .plain else s1).markDone n (bPsn h)).ackNow n
        (s1.ackSoon n p)
    else s1.rxNew n p payload

/-! ## What an acknowledgement does to the sender (R254, R261) -/

/-- Smoothed times after one sample, in ns (RFC 6298). -/
def Qp.sampleRtt (q : Qp) (r : Nat) : Qp :=
  if q.srtt = 0 then { q with srtt := r, rttvar := r / 2 }
  else
    let dev := Nat.max r q.srtt - Nat.min r q.srtt
    { q with rttvar := (3 * q.rttvar + dev) / 4, srtt := (7 * q.srtt + r) / 8 }

/-- An ACK reports a packet as done. -/
def ackCovers (ext : List Byte) (psn : Nat) : Bool :=
  let c := leNat (slice ext 0 3)
  let d := (psn + 2 ^ 24 - (c + 1)) % 2 ^ 24
  newer 24 c psn || (decide (d < 128) && (leNat (slice ext 4 16)).testBit d)

/-- A packet is declared lost: it is retransmitted with the same PSN (R254, R255). -/
def TxPkt.lose (t : TxPkt) : TxPkt := { t with sent := false, resent := true, retries := t.retries + 1 }

/-- The reads whose requests a list of records names end failed (R261, R263). -/
def State.failReads (s : State) (n : Nat) (msns : List Nat) : State :=
  let gone := (s.qp n).reads.filter fun r => msns.contains r.msn
  gone.foldl State.qpRead (s.modQp n fun q => { q with reads := q.reads.filter fun r => !msns.contains r.msn })

/-- The message of a command ends failed (R228, R261). -/
def State.ownFails (s : State) (own : Nat) : State :=
  match s.cmd (own - 1) with
  | some c => if own = 0 then s else s.migrateFails c
  | none => s

/-- ACK or NAK: packets done, round-trip samples, losses by reordering, CE marks, and refusals (R254, R261, R264). -/
def State.onAck (s : State) (n : Nat) (ext : List Byte) : State :=
  let records := leNat (slice ext 3 1)
  if ext.length ≠ 32 + 8 * records ∨ 8 < records then s
  else
    let q := s.qp n
    let new := q.tx.filter fun t => t.out && ackCovers ext t.psn
    let latest := new.foldl (fun m t => Nat.max m t.sentAt) 0
    let lost : TxPkt → Bool := fun t =>
      t.sent && !t.done && !t.held && !ackCovers ext t.psn && !new.isEmpty && decide (t.sentAt + 1000 * s.num 0x6300 3 ≤ latest)
    let q1 := (new.filter fun t => !t.resent && !t.rnr).foldl (fun a t => a.sampleRtt (s.xnt.clock - t.sentAt)) q
    let msns := (List.range records).map fun i => leNat (slice ext (32 + 8 * i) 3)
    let owners := ((q.tx.filter fun t => msns.contains t.msn && t.own != 0).map TxPkt.own).eraseDups
    let tx := (q.tx.map fun t => if msns.contains t.msn then { t with own := 0 } else t).map fun t =>
      if t.out && ackCovers ext t.psn then { t with done := true } else if lost t then t.lose else t
    let s1 := s.setQp n
      { q1 with
          tx := tx.dropWhile TxPkt.done
          marked := q.marked + leNat (slice ext 20 2)
          acked := q.acked + leNat (slice ext 22 2)
          pathTimeouts := q.pathTimeouts.filter fun t => !(new.map TxPkt.path).contains t.1 }
    let s2 := if records = 0 then s1
      else (owners.foldl State.ownFails (s1.failReads n msns)).sendUn n 0x13 (slice ext 24 2 ++ leBytes 6 0) q.connId
    (s2.drainStep n).wake

/-- REFUSAL_ACK: records at or before its number go (R261). -/
def State.onRefusalAck (s : State) (n : Nat) (ext : List Byte) : State :=
  if ext.length ≠ 8 then s
  else s.modQp n fun q => { q with refused := q.refused.filter fun r => newer 16 r.no (leNat (slice ext 0 2)) }

/-- RNR: the packet waits for RETRY_AFTER (R269). -/
def State.onRnr (s : State) (n : Nat) (ext : List Byte) : State :=
  if ext.length ≠ 16 then s
  else s.modQp n fun q =>
    { q with tx := q.tx.map fun t =>
        if t.psn = leNat (slice ext 0 3) ∧ t.sent ∧ !t.done then { t with held := true, rnr := true } else t }

/-! ## The handshake (R249, R250) -/

/-- CONNECT_REFUSE with a reason, for the CONN_ID of the CONNECT. -/
def State.refuseConn (s : State) (n reason conn : Nat) : State :=
  let c := (s.qp n).cfg
  s.sendConn n 0x22 reason (fld c 80 8) (fld c 88 8) (fld c 48 2) conn

/-- A QP answers a CONNECT as a listener. -/
def State.answerConnect (s : State) (n : Nat) (conn : Nat) (c : BitVec 256) : State :=
  let q := s.qp n
  let pmtu := Nat.min (fld c 114 2) (fld q.cfg 48 2)
  if fld c 112 2 ≠ b2n q.isMgmt ∨ fld c 96 16 ≠ conn ∨ (s.strict && !q.isMgmt && !s.provisioned q.dom) then s.refuseConn n 3 conn
  else if fld c 8 8 < 1 ∨ 1 < fld c 0 8 then s.refuseConn n 1 conn
  else (s.enterRts n 1 pmtu conn (c.extractLsb' 32 64)).sendConn n 0x21 0 1 1 pmtu conn

/-- A QP whose peer has restarted: LISTEN with RELISTEN, else ERROR with cause 6 (R250). -/
def State.peerRestart (s : State) (n : Nat) : State :=
  let q := s.qp n
  if bit q.cfg 2 then ((s.qpDrop n).setQp n { cfg := q.cfg, connId := q.connId, st := .listen, guarded := true }).ringLost n
  else s.qpError n 6

/-- CONNECT (R250). -/
def State.onConnect (s : State) (n conn : Nat) (ext : List Byte) : State :=
  let q := s.qp n
  let c : BitVec 256 := ofBytes 256 ext
  let boot : BitVec 64 := c.extractLsb' 32 64
  if q.guarded || ext.length != 32 then s
  else
    match q.st with
    | .listen => s.answerConnect n conn c
    | .connecting =>
      let lower := s.nodeId < q.peerNode ∨ (s.nodeId = q.peerNode ∧ n < q.peerQp)
      if lower then s else s.answerConnect n conn c
    | .rts =>
      if boot ≠ q.peerBoot then s.peerRestart n
      else if conn = q.connId then s.sendConn n 0x21 0 1 1 q.pmtu conn
      else s
    | .draining => if boot ≠ q.peerBoot then s.peerRestart n else s
    | .reset => s
    | .error => s

/-- CONNECT_REPLY (R250). -/
def State.onReply (s : State) (n conn : Nat) (ext : List Byte) : State :=
  let q := s.qp n
  let c : BitVec 256 := ofBytes 256 ext
  if q.st ≠ .connecting ∨ ext.length ≠ 32 ∨ fld c 0 8 ≠ 1 ∨ fld c 8 8 ≠ 1 ∨ fld c 112 2 ≠ b2n q.isMgmt then s
  else s.enterRts n 1 (fld c 114 2) conn (c.extractLsb' 32 64)

/-- CONNECT_REFUSE (R249). -/
def State.onRefused (s : State) (n : Nat) (ext : List Byte) : State :=
  if (s.qp n).st = .connecting ∧ ext.length = 32 then s.qpError n 4 else s

/-- DISCONNECT (R249). -/
def State.onDisconnect (s : State) (n : Nat) : State :=
  let q := s.qp n
  if q.st = .rts ∨ q.st = .draining then (s.modQp n fun x => { x with st := .draining, discRecv := true }).drainStep n else s

/-- DISCONNECT_ACK (R249). -/
def State.onDisconnectAck (s : State) (n : Nat) : State :=
  let q := s.qp n
  if q.st = .draining ∧ q.discSent then s.qpToReset n else s

/-! ## Receiving (R257) -/

/-- An unsequenced packet whose husk holds. -/
def State.rxUn (s : State) (n : Nat) (p : RxPacket) : State :=
  let h := p.base
  match bOp h with
  | 0x10 => s.onAck n p.ext
  | 0x11 => s.onAck n p.ext
  | 0x12 => s.onRnr n p.ext
  | 0x13 => s.onRefusalAck n p.ext
  | 0x20 => s.onConnect n (bConn h) p.ext
  | 0x21 => s.onReply n (bConn h) p.ext
  | 0x22 => s.onRefused n p.ext
  | 0x23 => s.onDisconnect n
  | 0x24 => s.onDisconnectAck n
  | _ => s

/-- A packet as a sub-port receives it (R257), with the codewords that FEC saw since the packet before (R275, log 131). -/
def State.receive (s : State) (p : RxPacket) : State :=
  let port := p.subport.toNat
  let h := p.base
  let n := bDstQp h
  let q := s.qp n
  if !s.portUp port then s
  else
    let s0 := s.modPort port fun x =>
      { x with rx := x.rx + 1, fecCorrected := x.fecCorrected + p.fecCorrected.toNat
               fecUncorrected := x.fecUncorrected + p.fecUncorrected.toNat }
    if !p.frameOk then s0.bump 0x6400 1
    else if !knownOp (bOp h) || !s.rxVersion q h || !q.accepts h || !rxFrom q h then s0
    else if bOp h = 0x20 ∧ (s.qpKey q).isEmpty then if q.guarded then s0 else s0.refuseConn n 2 (bConn h)
    else
      match s.rxOpen q p with
      | none => s0.bump 0x6400 2
      | some payload =>
        if seqOp (bOp h) then (s0.rxSeq n p payload).drainStep n else s0.rxUn n p

/-- The packet of a row: one with another opcode is not that row's, and changes nothing; one whose frame, IP or UDP is not
valid has no opcode (R257 step 1). -/
def State.rxRow (s : State) (ok : Nat → Bool) (p : RxPacket) : State := if !p.frameOk || ok (bOp p.base) then s.receive p else s

/-- XNT_WRITE: WRITE, and the SERVICE and MGMT packets that are received and placed the same way; also packets with a reserved
opcode, which are dropped (R243, R258). -/
def execXntWrite (p : RxPacket) (s : State) : Host.Outcome State Fault Refusal :=
  s.seal (s.rxRow (fun op => op == 1 || op == 5 || op == 6 || !knownOp op) p)

/-- WRITE_IMM (R260). -/
def execXntWriteImm (p : RxPacket) (s : State) : Host.Outcome State Fault Refusal := s.seal (s.rxRow (· == 2) p)

/-- READ_REQ (R263). -/
def execReadReq (p : RxPacket) (s : State) : Host.Outcome State Fault Refusal := s.seal (s.rxRow (· == 3) p)

/-- READ_RESP (R263). -/
def execReadResp (p : RxPacket) (s : State) : Host.Outcome State Fault Refusal := s.seal (s.rxRow (· == 4) p)

/-- ACK (R261). -/
def execXntAck (p : RxPacket) (s : State) : Host.Outcome State Fault Refusal := s.seal (s.rxRow (· == 0x10) p)

/-- NAK (R261). -/
def execXntNak (p : RxPacket) (s : State) : Host.Outcome State Fault Refusal := s.seal (s.rxRow (· == 0x11) p)

/-- RNR (R269). -/
def execRnr (p : RxPacket) (s : State) : Host.Outcome State Fault Refusal := s.seal (s.rxRow (· == 0x12) p)

/-- REFUSAL_ACK (R261). -/
def execRefusalAck (p : RxPacket) (s : State) : Host.Outcome State Fault Refusal := s.seal (s.rxRow (· == 0x13) p)

/-- CONNECT (R250). -/
def execConnect (p : RxPacket) (s : State) : Host.Outcome State Fault Refusal := s.seal (s.rxRow (· == 0x20) p)

/-- CONNECT_REPLY (R250). -/
def execConnectReply (p : RxPacket) (s : State) : Host.Outcome State Fault Refusal := s.seal (s.rxRow (· == 0x21) p)

/-- CONNECT_REFUSE (R249). -/
def execConnectRefuse (p : RxPacket) (s : State) : Host.Outcome State Fault Refusal := s.seal (s.rxRow (· == 0x22) p)

/-- DISCONNECT (R249). -/
def execDisconnect (p : RxPacket) (s : State) : Host.Outcome State Fault Refusal := s.seal (s.rxRow (· == 0x23) p)

/-- DISCONNECT_ACK (R249). -/
def execDisconnectAck (p : RxPacket) (s : State) : Host.Outcome State Fault Refusal := s.seal (s.rxRow (· == 0x24) p)

end Sys2Proof.Machine
end

