-- ==== Sys2Proof/Machine/Sender.lean ====
section
/-! DEFINITION. The sender's side of the transport: packets leaving under rate and shaper, timers, rate control, on-demand
binding, revocation, and what a sub-port answers to its neighbours (R237, R239, R249 to R256, R262, R264, R266, R268, R269,
R315). -/

namespace Sys2Proof.Machine

/-! ## Packets leave (R251, R252, R264, R315) -/

/-- The packet that leaves a QP next: the first that has not left or is to leave again, within the window counted from the
oldest not known to be done (R252). -/
def Qp.front (q : Qp) : Option TxPkt :=
  let oldest := (q.tx.head?.map TxPkt.psn).getD 0
  q.tx.find? fun t => !t.sent && !t.done && !t.held && decide ((t.psn + 2 ^ 24 - oldest) % 2 ^ 24 < 1024)

/-- A packet's first copy: its PSN is new (R253). -/
def TxPkt.fresh (t : TxPkt) : Bool := !t.resent && !t.rnr

/-- New PSNs that a QP issued within PSN_GUARD of a time, by the time they left (R253). -/
def State.issuedNow (s : State) (q : Qp) : List (Nat × Nat) :=
  q.issued.filter fun x => decide (s.xnt.clock < x.1 + 1000 * s.num 0x6000 6)

/-- The packet has left: its path, its time, and what the QP counts. -/
def Qp.left (q : Qp) (t : TxPkt) (issued : List (Nat × Nat)) (path clock bytes : Nat) : Qp :=
  { q with
      issued := if t.fresh then abump issued clock 1 else issued
      tx := q.tx.map fun x => if x.psn = t.psn then { x with sent := true, path := path, sentAt := clock } else x
      pathNext := (path + 1) % Nat.max 1 q.paths
      credit := q.credit - (bytes : Rat)
      sent := true }

/-- The next packet of a QP leaves, where its rate and its domain's shaper allow, and where it is new no more than 2^22 of them
within PSN_GUARD; excess traffic only where it may (R253, R264, R315). -/
def State.sendFront (s : State) (n : Nat) (excess : Bool) : Option State :=
  let q := s.qp n
  match q.front with
  | none => none
  | some t =>
    let path := q.nextPath (if t.resent then some t.path else none)
    let bytes := s.frameBytes q (q.portOf path) t.ext.length t.payload.length
    let how := if q.isMgmt then Leave.committed else s.eligible q.dom 0 bytes
    let issued := s.issuedNow q
    if q.credit < (bytes : Rat) ∨ (t.fresh = true ∧ 2 ^ 22 ≤ (issued.map Prod.snd).sum) ∨ how = .wait ∨ (how = .excess ∧ excess = false) then none
    else
      let s1 := if q.isMgmt then s else s.leave q.dom 0 bytes how
      let s2 := if t.resent || t.rnr then s1.bump 0x6400 5 else s1
      some (((s2.readEnds t).emitPkt n t.op path t t.last q.connId).modQp n fun x => x.left t issued path s.xnt.clock bytes)

/-- A QP sends while it may. -/
def State.sendQp (s : State) (n : Nat) (excess : Bool) : Nat → State
  | 0 => s
  | fuel + 1 =>
    match s.sendFront n excess with
    | some t => t.sendQp n excess fuel
    | none => s

/-- Every QP sends while it may. -/
def State.sendAll (s : State) (excess : Bool) : State :=
  (s.xnt.qps.filter fun p => p.2.sends).foldl (fun t p => t.sendQp p.1 excess p.2.tx.length) s

/-- What a QP's rate grants in `dt` ns; unused credit is kept up to one longest frame (R240, R264). -/
def Qp.grant (q : Qp) (dt : Nat) : Qp :=
  let gain := q.rate * (dt : Rat) / 8000
  let c := q.credit + gain
  let top := gain + 8334
  { q with credit := if c ≤ top then c else top }

/-- A tick of length `dt` ns of the edge island: time passes, the buckets fill, and packets leave, committed traffic before
excess (R315). -/
def State.tick (s : State) (dt : Nat) : State :=
  let now := s.xnt.clock + dt
  let s1 := s.modXnt fun x =>
    { x with
        clock := now
        echoes := if now / 1000000000 = x.clock / 1000000000 then x.echoes else []
        qps := x.qps.map fun p => if p.2.sends then (p.1, p.2.grant dt) else p }
  let s2 := (akeys s1.dom.doms).foldl (fun t d => (t.refill d 0 dt).refill d 1 dt) s1
  let s3 := s2.sendAll false
  if s3.strict then s3 else s3.sendAll true

/-! ## Timers (R249 to R256, R262, R264, R269) -/

/-- A rate halved, not below RATE_MIN (R254, R264). -/
def State.halfRate (s : State) (r : Rat) : Rat :=
  let low : Rat := ((s.num 0x6300 0x12 : Nat) : Rat)
  if r / 2 < low then low else r / 2

/-- A timeout on a path counted; after two in a row the path is suspended (R251). -/
def Qp.pathTimeout (q : Qp) (path : Nat) : Qp :=
  if anat q.pathTimeouts path = 0 then { q with pathTimeouts := aput q.pathTimeouts path 1 }
  else { q with pathTimeouts := adel q.pathTimeouts path, suspended := q.suspended.filter (· ≠ path) ++ [path] }

/-- The retransmission timer of a packet expires; after its RETRY_MAXth retransmission, whatever declared it lost, the QP is in ERROR
(R254, R255). -/
def State.timeout (s : State) (n psn : Nat) : State :=
  let q := s.qp n
  match q.tx.find? fun t => t.psn == psn && t.sent && !t.done && !t.held with
  | none => s
  | some t =>
    if !q.sends then s
    else if s.num 0x6300 6 ≤ t.retries then s.qpError n 1
    else
      s.modQp n fun x =>
        { (x.pathTimeout t.path) with
            rate := s.halfRate x.rate
            tx := x.tx.map fun y => if y.psn = psn then y.lose else y }

/-- ACK_DELAY after the first PSN not yet acknowledged (R262). -/
def State.ackDelay (s : State) (n : Nat) : State :=
  if (s.qp n).sends && (s.qp n).unacked != 0 then s.sendAck n false else s

/-- The end of a rate period (R264). -/
def State.ratePeriod (s : State) (n : Nat) : State :=
  let q := s.qp n
  if !q.sends || !q.sent then s
  else
    let low : Rat := ((s.num 0x6300 0x12 : Nat) : Rat)
    let top : Rat := ((s.rateMax q : Nat) : Rat)
    let frac : Rat := (q.marked : Rat) / ((Nat.max q.acked 1 : Nat) : Rat)
    let alpha := q.alpha * 15 / 16 + frac / 16
    let steps := if 0 < q.marked then 0 else q.steps + 1
    let add : Rat := ((if steps ≤ 5 then s.num 0x6300 0x13 else s.num 0x6300 0x14 : Nat) : Rat)
    let cut := q.rate * (1 - alpha / 2)
    let rate := if 0 < q.marked then (if cut < low then low else cut) else if top < q.rate + add then top else q.rate + add
    s.modQp n fun x => { x with alpha := alpha, rate := rate, steps := steps, marked := 0, acked := 0, sent := false }

/-- PATH_HOLDDOWN has passed: the path is used again (R251). -/
def State.pathBack (s : State) (n path : Nat) : State :=
  s.modQp n fun q => { q with suspended := q.suspended.filter (· ≠ path) }

/-- CONNECT_RETRY: another CONNECT, or ERROR after sixteen (R249). -/
def State.connectRetry (s : State) (n : Nat) : State :=
  let q := s.qp n
  if q.st ≠ .connecting then s else if 16 ≤ q.attempts then s.qpError n 4 else s.sendConnect n

/-- DRAIN_LIMIT: a QP that is still draining goes to ERROR (R249). -/
def State.drainTimeout (s : State) (n : Nat) : State := if (s.qp n).st = .draining then s.qpError n 5 else s

/-- PSN_GUARD has passed since the QP left RTS (R250). -/
def State.guardEnd (s : State) (n : Nat) : State := s.modQp n fun q => { q with guarded := false }

/-- RETRY_AFTER of an RNR has passed: the packet leaves again (R269). -/
def State.rnrResend (s : State) (n psn : Nat) : State :=
  s.modQp n fun q =>
    { q with tx := q.tx.map fun t => if t.psn = psn ∧ t.held then { t with held := false, sent := false } else t }

/-- RNR_LIMIT after a packet's first RNR: ERROR if it is still not done (R269). -/
def State.rnrLimit (s : State) (n psn : Nat) : State :=
  let q := s.qp n
  if q.sends && q.tx.any fun t => t.psn == psn && t.rnr && !t.done then s.qpError n 2 else s

/-! ## On-demand placement (R268) and revocation (R266) -/

/-- The packet that the fault buffer holds for a QP and PSN. -/
def State.stalled (s : State) (n psn : Nat) : Option Stalled := s.xnt.fault.find? fun f => f.qp == n && f.psn == psn

/-- A held packet dropped with RNR (R268). -/
def State.dropRnr (s : State) (n psn : Nat) : State := (s.dropStalled fun f => f.qp == n && f.psn == psn).sendRnr n psn

/-- A held packet is placed once its unit is bound; one whose region has ended is dropped with RNR (R267, R268). -/
def State.odpBind (s : State) (n psn : Nat) : State :=
  match s.stalled n psn with
  | none => s
  | some f =>
    if (s.landingOf f.key).isNone then s.dropRnr n psn
    else
      match s.bindUnits f.key (s.qp n).slice (unitsOf f.off f.payload.length) with
      | none => s
      | some t =>
        let last := (s.qp n).acts.any fun a => a.1 == psn
        ((((t.placeBytes f.key f.off f.payload).dropStalled fun x => x.qp == n && x.psn == psn).markDone n psn).ackNow n
          last).lowCheck

/-- ODP_STALL_LIMIT: a packet still held is dropped with RNR (R268). -/
def State.odpLimit (s : State) (n psn : Nat) : State := if (s.stalled n psn).isSome then s.dropRnr n psn else s

/-- A revocation completes once nothing is in flight: QUIET, with the next generation (R266). -/
def State.revoked (s : State) (k : Nat) : State :=
  match s.rkey k with
  | some r =>
    if r.st = 2 ∧ r.inflight = 0 then
      let g := (r.gen + 1) % 256
      s.modXnt fun x => { x with rkeys := aput x.rkeys k { r with st := 3, gen := g }, rkeyGens := aput x.rkeyGens k g }
    else s
  | none => s

/-- A QUIET index is FREE after 2 × PSN_GUARD (R266). -/
def State.freeKey (s : State) (k : Nat) : State :=
  match s.rkey k with
  | some r => if r.st = 3 then s.modXnt fun x => { x with rkeys := adel x.rkeys k } else s
  | none => s

/-! ## Neighbours and links (R237, R239) -/

/-- An address is the sub-port's own. -/
def State.ownAddr (s : State) (n : Nat) (v6 : Bool) (target : BitVec 128) : Bool :=
  let a := if v6 then fld (s.portCfg n) 160 128 else fld (s.portCfg n) 128 32
  a != 0 && target.toNat == a

/-- A frame's VLAN tag is the sub-port's. -/
def State.ownVlan (s : State) (n : Nat) (vlan : Option (BitVec 12)) : Bool :=
  let p := s.portCfg n
  vlan.map BitVec.toNat == if bit p 4 then some (fld p 8 12) else none

/-- A frame received, and one sent in answer. -/
def State.answered (s : State) (n : Nat) (o : Option Output) : State :=
  let s1 := s.modPort n fun p => { p with rx := p.rx + 1 }
  match o with
  | some x => (s1.emit x).modPort n fun p => { p with tx := p.tx + 1 }
  | none => s1

/-- The addresses of an answer: from the sub-port to its gateway MAC and the asker (R239). -/
def State.answerHdr (s : State) (n : Nat) (v6 : Bool) (own asker : BitVec 128) : LinkHdr :=
  let p := s.portCfg n
  { srcMac := fld p 32 48, dstMac := fld p 80 48, vlan := if bit p 4 then some (fld p 5 3, fld p 8 12) else none
    v6 := v6, src := own.toNat, dst := asker.toNat }

/-- ARP or a neighbour solicitation: answered for the sub-port's own address, through the gateway MAC as every frame is (R239). -/
def State.arp (s : State) (n : Nat) (v6 : Bool) (target asker : BitVec 128) (vlan : Option (BitVec 12)) : State :=
  if !s.portUp n then s
  else s.answered n (if s.ownAddr n v6 target && s.ownVlan n vlan then
    some (.arp n (s.answerHdr n v6 target asker) target (fld (s.portCfg n) 32 48)) else none)

/-- An echo request: answered at up to 1,000 a second on each sub-port (R239). -/
def State.echo (s : State) (n : Nat) (v6 : Bool) (target asker : BitVec 128) (vlan : Option (BitVec 12)) (data : List Byte) : State :=
  if !s.portUp n then s
  else if s.ownAddr n v6 target && s.ownVlan n vlan && decide (anat s.xnt.echoes n < 1000) then
    (s.answered n (some (.echo n (s.answerHdr n v6 target asker) data))).modXnt fun x => { x with echoes := abump x.echoes n 1 }
  else s.answered n none

/-- A sub-port's link comes up or goes down; it stays down where the sub-port does not exist or has no MAC (R237, R239). -/
def State.linkChange (s : State) (n : Nat) (up : Bool) : State :=
  s.modPort n fun p => { p with up := up && s.portExists n && fld (s.portCfg n) 32 48 != 0 }

/-! ## The commands -/

/-- RETRANSMIT_TIMEOUT (R254). -/
def execRetransmitTimeout (qp : BitVec 16) (psn : BitVec 24) (s : State) : Host.Outcome State Fault Refusal :=
  s.seal ((s.timeout qp.toNat psn.toNat).wake)

/-- ACK_DELAY (R262). -/
def execAckDelay (qp : BitVec 16) (s : State) : Host.Outcome State Fault Refusal := s.seal (s.ackDelay qp.toNat)

/-- RATE_PERIOD (R264). -/
def execRatePeriod (qp : BitVec 16) (s : State) : Host.Outcome State Fault Refusal := s.seal (s.ratePeriod qp.toNat)

/-- PATH_HOLDDOWN (R251). -/
def execPathHolddown (qp : BitVec 16) (path : BitVec 7) (s : State) : Host.Outcome State Fault Refusal :=
  s.seal (s.pathBack qp.toNat path.toNat)

/-- CONNECT_RETRY (R249). -/
def execConnectRetry (qp : BitVec 16) (s : State) : Host.Outcome State Fault Refusal := s.seal (s.connectRetry qp.toNat)

/-- DRAIN_LIMIT (R249). -/
def execDrainLimit (qp : BitVec 16) (s : State) : Host.Outcome State Fault Refusal := s.seal (s.drainTimeout qp.toNat)

/-- PSN_GUARD (R250). -/
def execPsnGuard (qp : BitVec 16) (s : State) : Host.Outcome State Fault Refusal := s.seal (s.guardEnd qp.toNat)

/-- RNR_RESEND (R269). -/
def execRnrResend (qp : BitVec 16) (psn : BitVec 24) (s : State) : Host.Outcome State Fault Refusal :=
  s.seal (s.rnrResend qp.toNat psn.toNat)

/-- RNR_LIMIT (R269). -/
def execRnrLimit (qp : BitVec 16) (psn : BitVec 24) (s : State) : Host.Outcome State Fault Refusal :=
  s.seal ((s.rnrLimit qp.toNat psn.toNat).wake)

/-- ODP_BIND (R268). -/
def execOdpBind (qp : BitVec 16) (psn : BitVec 24) (s : State) : Host.Outcome State Fault Refusal :=
  s.seal (s.odpBind qp.toNat psn.toNat)

/-- ODP_STALL_LIMIT (R268). -/
def execOdpStallLimit (qp : BitVec 16) (psn : BitVec 24) (s : State) : Host.Outcome State Fault Refusal :=
  s.seal (s.odpLimit qp.toNat psn.toNat)

/-- REVOCATION_COMPLETE (R266). -/
def execRevocationComplete (rkey : BitVec 16) (s : State) : Host.Outcome State Fault Refusal := s.seal (s.revoked rkey.toNat)

/-- RKEY_FREE (R266). -/
def execRkeyFree (rkey : BitVec 16) (s : State) : Host.Outcome State Fault Refusal := s.seal (s.freeKey rkey.toNat)

/-- ARP_REQUEST (R239). -/
def execArpRequest (subport : BitVec 5) (v6 : Bool) (addrs : AddrPair) (vlan : Option (BitVec 12)) (s : State) :
    Host.Outcome State Fault Refusal :=
  s.seal (s.arp subport.toNat v6 addrs.target addrs.sender vlan)

/-- ICMP_ECHO (R239). -/
def execIcmpEcho (subport : BitVec 5) (v6 : Bool) (addrs : AddrPair) (data : EchoIn) (s : State) : Host.Outcome State Fault Refusal :=
  s.seal (s.echo subport.toNat v6 addrs.target addrs.sender data.vlan data.data)

/-- SHAPER_TICK (R315). -/
def execShaperTick (dtNs : BitVec 32) (s : State) : Host.Outcome State Fault Refusal := s.seal (s.tick dtNs.toNat)

/-- SUBPORT_LINK_CHANGE (R237). -/
def execSubportLinkChange (n : BitVec 5) (up : Bool) (s : State) : Host.Outcome State Fault Refusal :=
  s.seal (s.linkChange n.toNat up)

end Sys2Proof.Machine
end

