-- ==== Sys2Proof/Machine/Link.lean ====
section
/-! DEFINITION. The CXL link, its HDM decoder and IDE streams (R358 to R365, R387), DOE, CDAT and SPDM (R367, R378, R379) and
MCTP control on I3C (R369). Formats of DMTF and PCI-SIG standards that the manual only names are the model's (log 33). -/

namespace Sys2Proof.Machine

/-! ## Link, decoder, snoops (R360 to R364) -/

/-- A raised HOST_LINK: the host-tier transfers in flight fail (R322, R223). -/
def State.hostLinkFault (s : State) (injected : Bool) : State := s.raise 0x15 islHost 0 none [] injected fun _ t => t.failHost

/-- TIER_SHAPER_HALVED when the link runs at x8 under a running firmware (R317). -/
def State.halvedNote (s : State) : State :=
  if s.alive && s.linkFull && s.link.width == 8 then s.note 0x010C none islHost 0 [8] else s

/-- LINK_TRAINED: width and speed of the link (R360, R387). A node whose PERST_N is low trains no link (R417), so the pin has
been released. -/
def State.trained (s : State) (width : Nat) (full : Bool) : State :=
  if !s.romUp || width == 0 then s
  else
    let s1 := (s.modLink fun l => { l with width := width, speed := if full then 2 else 1 }).modPower fun p =>
      { p with perstN := true }
    (if s.link.width = s1.link.width ∧ s.link.speed = s1.link.speed then s1 else s1.halvedNote).dmaBack.wake

/-- H2D snoop: answered with RspIHitI where CXL.cache is enabled (R360, R363). -/
def State.snoop (s : State) : State := if s.linkUp && s.linkFull then s.emit .snoopMiss else s

/-- HDM_DECODER_COMMIT: 64 GiB and one-way interleave only (R362). A commit that fails leaves the decoder as it was. -/
def State.commitDecoder (s : State) (base size ways : Nat) : State :=
  if !s.linkUp then s
  else if size = 2 ^ 36 ∧ ways = 1 then s.modLink fun l => { l with decoder := some base, decoderErr := false }
  else (s.modLink fun l => { l with decoderErr := true }).emit .decoderError

/-- VIRAL from the host: DMA and queue doorbells stop until the next warm reset, tier transfers fail, HOST_LINK is raised
(R364). -/
def State.viralIn (s : State) : State :=
  if !s.linkUp then s else (s.modLink fun l => { l with viral := true }).hostLinkFault false

/-! ## IDE (R365) -/

/-- State of a stream: 0 off, 1 keyed but not Secure, 2 Secure (R387). -/
def State.ideSt (s : State) : IdeStream → Nat
  | .io => s.link.ideIo
  | .cachemem => s.link.ideCm

/-- A stream must be keyed again: 0 no, 1 yes, 2 a key has been programmed since. -/
def State.rekeySt (s : State) : IdeStream → Nat
  | .io => s.link.rekeyIo
  | .cachemem => s.link.rekeyCm

/-- State of a stream set. -/
def State.setIde (s : State) (x : IdeStream) (st rekey : Nat) : State :=
  s.modLink fun l =>
    match x with
    | .io => { l with ideIo := st, rekeyIo := rekey }
    | .cachemem => { l with ideCm := st, rekeyCm := rekey }

/-- An integrity failure of a Secure stream: it leaves Secure, both streams wait for new keys, HOST_LINK is raised (R365). -/
def State.ideFails (s : State) (x : IdeStream) : State :=
  if s.ideSt x ≠ 2 then s
  else
    let s1 := ((s.setIde x 1 1).modLink fun l => { l with rekeyIo := 1, rekeyCm := 1 }).bump 0x3700 3
    s1.hostLinkFault false

/-- IDE key management for one stream, inside a DOE session (R365, R378): a key programmed, K_SET_GO, K_SET_STOP. -/
def State.ideKm (s : State) (session : Nat) (x : IdeStream) (m : IdeKm) : State :=
  if !s.linkUp then s
  else if !s.mgmtUp then s.emit (.spdm .doe (.error 3))
  else if !s.boot.sessionsDoe.contains session then s.emit (.spdm .doe (.error 0xB))
  else
    let st := s.ideSt x
    let r := s.rekeySt x
    match m with
    | .keyProg => (s.setIde x (Nat.max st 1) (if r = 1 then 2 else r)).emit (.spdm .doe (.ideKm true))
    | .kSetGo =>
      if st = 0 ∨ r = 1 then s.emit (.spdm .doe (.ideKm false))
      else ((s.setIde x 2 0).emit (.spdm .doe (.ideKm true))).dmaBack.wake
    | .kSetStop =>
      if st = 0 then s.emit (.spdm .doe (.ideKm false)) else (s.setIde x 1 r).emit (.spdm .doe (.ideKm true))

/-! ## DOE discovery and CDAT (R367) -/

/-- The protocols of the DOE instance, vendor and type: discovery, table access, CMA/SPDM, secured CMA/SPDM (R358, R367). -/
def doeProtocols : List (Nat × Nat) := [(1, 0), (0x1E98, 2), (1, 1), (1, 2)]

/-- DOE discovery: the protocol at an index and the next index, 0 after the last (R367). -/
def State.doeDiscovery (s : State) (i : Nat) : State :=
  if !s.linkUp then s
  else
    match doeProtocols[i]? with
    | some (v, p) => s.emit (.doe i v p (if i + 1 < doeProtocols.length then i + 1 else 0))
    | none => s.emit (.doe i 0xFFFF 0xFF 0)

/-- CDAT read of one entry (R362, R367). -/
def State.cdatRead (s : State) (handle : Nat) : State := if s.linkUp then s.emit (.cdat (Config.cdat handle)) else s

/-! ## SPDM (R378, R379) -/

/-- SPDM answers on a transport: DOE while the link is up, MCTP while the firmware runs (R367, R369). -/
def State.spdmCarries (s : State) : SpdmTransport → Bool
  | .doe => s.linkUp
  | .mctp => s.romUp && s.mgmtUp

/-- Sessions of a transport. -/
def State.sessions (s : State) : SpdmTransport → List Nat
  | .doe => s.boot.sessionsDoe
  | .mctp => s.boot.sessionsMctp

/-- Sessions of a transport replaced. -/
def State.setSessions (s : State) (t : SpdmTransport) (l : List Nat) : State :=
  s.modBoot fun b =>
    match t with
    | .doe => { b with sessionsDoe := l }
    | .mctp => { b with sessionsMctp := l }

/-- Sessions that a transport allows (R378). -/
def sessionLimit : SpdmTransport → Nat
  | .doe => 4
  | .mctp => 2

/-- The certificate chain of slot 0, offered while CERT_STATE is valid (R377, R378). -/
def State.chain (s : State) : Option (List Byte) :=
  if s.boot.certState = 1 then some (s.boot.certs ++ Config.aliasCert s.boot.cdi) else none

/-- A request that names a session that exists. -/
def State.inSession (s : State) (t : SpdmTransport) (id : Nat) (r : SpdmRsp) : State :=
  s.emit (.spdm t (if (s.sessions t).contains id then r else .error 2))

/-- One SPDM request under a running firmware (R378). -/
def State.spdmServe (s : State) (t : SpdmTransport) : SpdmReq → State
  | .getVersion => s.emit (.spdm t (.version [0x12, 0x13]))
  | .getCapabilities => s.emit (.spdm t .capabilities)
  | .negotiateAlgorithms => s.emit (.spdm t .algorithms)
  | .getDigests => s.emit (.spdm t (.digests (s.chain.toList.map sha256)))
  | .getCertificate slot =>
    match s.chain with
    | some c => s.emit (.spdm t (if slot = 0 then .certificate c else .error 1))
    | none => s.emit (.spdm t (.error 1))
  | .challenge slot nonce =>
    s.emit (.spdm t (if s.chain.isSome && slot == 0 then .challengeAuth (Config.aliasSign nonce) else .error 1))
  | .keyExchange =>
    if s.chain.isNone then s.emit (.spdm t (.error 1))
    else if sessionLimit t ≤ (s.sessions t).length then s.emit (.spdm t (.error 0xA))
    else
      let id := leastFree (s.sessions t) 1 (sessionLimit t)
      (s.setSessions t (s.sessions t ++ [id])).emit (.spdm t (.keyExchange id))
  | .finish id => s.inSession t id .finish
  | .heartbeat id => s.inSession t id .heartbeat
  | .keyUpdate id => s.inSession t id .keyUpdate
  | .endSession id => (s.inSession t id .ended).setSessions t ((s.sessions t).filter (· ≠ id))
  | .absent _ => s.emit (.spdm t (.error 7))

/-- SPDM_REQUEST: before RUNNING, and while the firmware is down, DOE answers Busy (R367, R378). -/
def State.spdm (s : State) (t : SpdmTransport) (r : SpdmReq) : State :=
  if !s.spdmCarries t then s else if s.mgmtUp then s.spdmServe t r else s.emit (.spdm t (.error 3))

/-- The measurement blocks: index, DMTF value type, value (R379). -/
def State.measurements (s : State) : List (Nat × Nat × List Byte) :=
  [(1, 0, padTo 32 Config.romMeasurement), (2, 1, s.boot.fwMeas),
   (3, 6, leBytes 4 s.boot.fwVersion ++ leBytes 2 s.boot.fwSvn ++ leBytes 2 s.boot.minSvn), (4, 3, s.prof.digest),
   (5, 3, s.configDigest)]

/-- The blocks that an index asks for: 0 the number of blocks, 0xFF all. -/
def State.measured (s : State) (i : Nat) : List (Nat × Nat × List Byte) :=
  if i = 0 then [(0, 0, [5])] else if i = 255 then s.measurements else s.measurements.filter fun m => m.1 == i

/-- GET_MEASUREMENTS: each block formed now (MEAS_FRESH); a signed answer needs the certificate slot (R377, R379). -/
def State.getMeasurements (s : State) (t : SpdmTransport) (i : Nat) (signed : Bool) (nonce : List Byte) : State :=
  let l := s.measured i
  let sig := Config.aliasSign (nonce ++ l.flatMap fun m => leBytes 1 m.1 ++ leBytes 1 m.2.1 ++ m.2.2)
  if !s.spdmCarries t then s
  else if !s.mgmtUp then s.emit (.spdm t (.error 3))
  else if l.isEmpty || (signed && s.chain.isNone) then s.emit (.spdm t (.error 1))
  else s.emit (.spdm t (.measurements l (if signed then some sig else none)))

/-! ## MCTP control on I3C (R369) -/

/-- The message types of the endpoint: control always, SPDM and secured SPDM from RUNNING, vendor-defined PCI (R369). -/
def State.mctpTypes (s : State) : List Byte := if s.mgmtUp then [0x00, 0x05, 0x06, 0x7E] else [0x00, 0x7E]

/-- A control message answered: completion code, then the body (R369, log 33). -/
def State.mctpControl (s : State) (m : MctpCtl) : State :=
  if !s.romUp then s
  else
    match m with
    | .setEndpointId e =>
      if e = 0 ∨ e = 0xFF then s.emit (.mctp s.boot.mctpEid 2 [])
      else (s.modBoot fun b => { b with mctpEid := e.toNat }).emit (.mctp e.toNat 0 [0, e, 0])
    | .getEndpointId => s.emit (.mctp s.boot.mctpEid 0 [BitVec.ofNat 8 s.boot.mctpEid, 0, 0])
    | .getVersion => s.emit (.mctp s.boot.mctpEid 0 [1, 0xF1, 0xF3, 0xF1, 0])
    | .getMessageTypes => s.emit (.mctp s.boot.mctpEid 0 (BitVec.ofNat 8 s.mctpTypes.length :: s.mctpTypes))
    | .other _ => s.emit (.mctp s.boot.mctpEid 5 [])

/-! ## Meanings -/

/-- H2D_SNOOP (R363). -/
def execH2dSnoop (_addr : BitVec 64) (s : State) : Host.Outcome State Fault Refusal := s.seal s.snoop

/-- HDM_DECODER_COMMIT (R362). -/
def execHdmDecoderCommit (base size : BitVec 64) (ways : BitVec 8) (s : State) : Host.Outcome State Fault Refusal :=
  s.seal (s.commitDecoder base.toNat size.toNat ways.toNat)

/-- VIRAL (R364). -/
def execViral (s : State) : Host.Outcome State Fault Refusal := s.seal s.viralIn

/-- IDE_INTEGRITY_FAILURE (R365). -/
def execIdeIntegrityFailure (stream : IdeStream) (s : State) : Host.Outcome State Fault Refusal := s.seal (s.ideFails stream)

/-- LINK_TRAINED (R360). -/
def execLinkTrained (width : BitVec 5) (fullSpeed : Bool) (s : State) : Host.Outcome State Fault Refusal :=
  s.seal (s.trained width.toNat fullSpeed)

/-- SPDM_REQUEST (R378). -/
def execSpdmRequest (t : SpdmTransport) (r : SpdmReq) (s : State) : Host.Outcome State Fault Refusal := s.seal (s.spdm t r)

/-- GET_MEASUREMENTS (R379). -/
def execGetMeasurements (t : SpdmTransport) (index : BitVec 8) (signed : Bool) (nonce : List Byte) (s : State) :
    Host.Outcome State Fault Refusal := s.seal (s.getMeasurements t index.toNat signed nonce)

/-- CXL_IDE_KM (R365). -/
def execCxlIdeKm (session : Nat) (stream : IdeStream) (m : IdeKm) (s : State) : Host.Outcome State Fault Refusal :=
  s.seal (s.ideKm session stream m)

/-- DOE_DISCOVERY (R367). -/
def execDoeDiscovery (index : BitVec 8) (s : State) : Host.Outcome State Fault Refusal := s.seal (s.doeDiscovery index.toNat)

/-- CDAT_READ (R367). -/
def execCdatRead (handle : BitVec 16) (s : State) : Host.Outcome State Fault Refusal := s.seal (s.cdatRead handle.toNat)

/-- MCTP_CONTROL (R369). -/
def execMctpControl (m : MctpCtl) (s : State) : Host.Outcome State Fault Refusal := s.seal (s.mctpControl m)

end Sys2Proof.Machine
end

