-- ==== Sys2Proof/Machine/Boot.lean ====
section
/-! DEFINITION. The boot ROM: image load, verification and start (R368 to R377), and the start of the firmware, cold or warm,
with what it finds and repairs after a warm reset (R39, R63, R382 to R384, R426). -/

namespace Sys2Proof.Machine

/-! ## The ROM's mailbox commands (R368, R373) -/

/-- A mailbox command's answer: its ST_ status in byte 0 of the output (R368). -/
def State.mboxAnswer (s : State) (st : Nat) : State := s.emit (.mailbox 0 (leBytes 1 st))

/-- A range joined to byte ranges that lie apart and rise. -/
def rangeAdd (a b : Nat) : List (Nat × Nat) → List (Nat × Nat)
  | [] => [(a, b)]
  | (c, d) :: r =>
    if b < c then (a, b) :: (c, d) :: r
    else if d < a then (c, d) :: rangeAdd a b r
    else rangeAdd (Nat.min a c) (Nat.max b d) r

/-- LOADED_BYTES: the written prefix of the image (R371). -/
def State.loadedBytes (s : State) : Nat :=
  match s.boot.loaded with
  | (0, b) :: _ => b
  | _ => 0

/-- Size of the image SRAM (R373). -/
def imageMax : Nat := 67108864

/-- A ROM command refused by the state: ST_DENIED from RUNNING on (R368), ST_BUSY from FW_START until the firmware runs
(R373, log 34). -/
def State.romRefuses (s : State) : Option Nat :=
  match s.boot.st with
  | .running => some stDenied
  | .halted => some stDenied
  | .verifying => some stBusy
  | .starting => some stBusy
  | .awaitImage => none
  | .loading => none

/-- A ROM command: refused by the state, or run; nothing while the link is down (R360). -/
def State.romCmd (s : State) (f : State → Nat × State) : State :=
  if !s.linkUp then s
  else
    match s.romRefuses with
    | some st => s.mboxAnswer st
    | none => let r := f s; r.2.mboxAnswer r.1

/-- Image bytes written at an offset; the state is LOADING (R371, R373). -/
def State.loadBytes (s : State) (off : Nat) (l : List Byte) : State :=
  s.modBoot fun b =>
    { b with st := .loading, image := Memory.writeBytes b.image off l,
             loaded := if l.isEmpty then b.loaded else rangeAdd off (off + l.length) b.loaded }

/-- FW_LOAD_CHUNK (R368, R373). -/
def State.loadChunk (s : State) (off len reserved : Nat) (l : List Byte) : Nat × State :=
  if reserved ≠ 0 ∨ l.length ≠ len then (stMalformed, s)
  else if len % 4096 ≠ 0 ∨ 1044480 < len ∨ imageMax < off + len then (stBadParam, s)
  else (stOk, s.loadBytes off l)

/-- FW_LOAD_DMA: host memory read without a region check (R368); ST_BUF_ACCESS while the link allows no DMA (R360, log 34). -/
def State.loadDma (s : State) (addr len off : Nat) : Nat × State :=
  if imageMax < off + len then (stBadParam, s)
  else if !s.dmaOk then (stBufAccess, s)
  else (stOk, s.loadBytes off (Memory.readBytes s.hostMem addr len))

/-- FW_START (R373). -/
def State.fwStart (s : State) (len : Nat) : Nat × State :=
  (stOk, s.modBoot fun b => { b with st := .verifying, startLen := len })

/-- FW_ABORT (R368). -/
def State.fwAbort (s : State) : Nat × State :=
  (stOk, s.modBoot fun b => { b with st := .awaitImage, image := [], loaded := [], certs := [] })

/-- CERT_LOAD (R368, R377). -/
def State.certLoad (s : State) (len : Nat) (l : List Byte) : Nat × State :=
  if l.length ≠ len then (stMalformed, s)
  else if 16384 < len then (stBadParam, s)
  else (stOk, s.modBoot fun b => { b with certs := l })

/-- STATE of BOOT_STATUS (R371). -/
def bootStNo : BootSt → Nat
  | .awaitImage => 1
  | .loading => 2
  | .verifying => 3
  | .starting => 4
  | .running => 5
  | .halted => 6

/-- BOOT_STATUS (R371). -/
def State.bootWord (s : State) : Nat :=
  let b := s.boot
  bootStNo b.st + b.lastError * 2 ^ 4 + b.certState * 2 ^ 12 + b2n s.ideActive * 2 ^ 14 + b.resetCause * 2 ^ 16
    + b.attempts * 2 ^ 24 + s.loadedBytes * 2 ^ 32

/-- BOOT_STATUS read over the mailbox or I3C (R368, R369). -/
def State.readBoot (s : State) (i3c : Bool) : State :=
  if if i3c then s.romUp else s.linkUp then s.emit (.bootStatus i3c (BitVec.ofNat 64 s.bootWord)) else s

/-! ## Verification (R372, R374) -/

/-- The image's header (R372). -/
def State.header (s : State) : List Byte := Memory.readBytes s.boot.image 0 4096

/-- A little-endian field of the header, by byte offset and length. -/
def hdrNum (h : List Byte) (off n : Nat) : Nat := leNat (slice h off n)

/-- Entry `i` of the segment table: OFFSET and LENGTH. -/
def segment (h : List Byte) (i : Nat) : Nat × Nat := (hdrNum h (128 + 16 * i) 4, hdrNum h (132 + 16 * i) 4)

/-- Ranges of a list do not overlap. -/
def apart : List (Nat × Nat) → Bool
  | [] => true
  | a :: r => r.all (fun b => decide (a.1 + a.2 ≤ b.1) || decide (b.1 + b.2 ≤ a.1)) && apart r

/-- Check 9: the segments lie in the image, apart, and fit their targets (log 19). -/
def segmentsOk (h : List Byte) (len : Nat) : Bool :=
  let n := hdrNum h 23 1
  let l := (List.range n).map (segment h)
  decide (1 ≤ n) && decide (n ≤ 16) && l.all (fun x => decide (x.1 + x.2 ≤ len)) && apart l && Config.segmentsFit (slice h 128 256)

/-- The digest that is signed (R372). -/
def State.signedDigest (s : State) (len : Nat) : List Byte :=
  sha256 (s.header.take 4032 ++ Memory.readBytes s.boot.image 4096 (len - 4096))

/-- The image measurement (R372). -/
def State.measurement (s : State) (len : Nat) : List Byte := sha256 (Memory.readBytes s.boot.image 0 len)

/-- The checks of R374, in order. -/
def State.bootChecks (s : State) (coresOk : Bool) : List Bool :=
  let h := s.header
  let len := s.boot.startLen
  let slot := hdrNum h 22 1
  let key := slice h 64 64
  let sig := slice h 4032 64
  [ len % 4096 == 0 && decide (len ≤ imageMax) && hdrNum h 8 4 == len,
    decide (len ≤ s.loadedBytes),
    hdrNum h 0 4 == 0x5A544550 && hdrNum h 4 2 == 1,
    decide (slot ≤ 3) && !Config.keySlotRevoked slot,
    sha256 key == padTo 32 (Config.keySlotHash slot) && pointOk (beNat (key.take 32)) (beNat (key.drop 32)),
    ecdsaVerify key (s.signedDigest len) sig,
    decide (s.boot.minSvn ≤ hdrNum h 16 2),
    hdrNum h 18 1 == 1 && hdrNum h 19 1 == 1,
    segmentsOk h len,
    coresOk ]

/-- CERT_STATE as the firmware finds it at STARTING: 0 absent, 1 valid, 2 invalid (R377, log 18). -/
def certCheck (certs : List Byte) : Nat := if certs.isEmpty then 0 else if Config.certChainValid certs then 1 else 2

/-- FW_VERIFY_DONE: the first failed check ends the start (R373, R374); a passed image leaves its values, the ROM derives the
keys and locks UDS (R376), and the state is STARTING. -/
def State.verified (s : State) (coresOk : Bool) : State :=
  if s.boot.st ≠ .verifying then s
  else
    let h := s.header
    match (s.bootChecks coresOk).idxOf? false with
    | some i => s.modBoot fun b => { b with st := .awaitImage, lastError := i + 1, attempts := Nat.min 255 (b.attempts + 1) }
    | none =>
      let meas := s.measurement s.boot.startLen
      s.modBoot fun b =>
        { b with
            st := .starting, lastError := 0, fwMeas := meas, fwVersion := hdrNum h 12 4, fwSvn := hdrNum h 16 2,
            fwAbi := hdrNum h 18 1, bistTable := Memory.readBytes b.image (hdrNum h 28 4) (hdrNum h 32 4),
            cdi := cdiOf meas, udsLocked := true, certState := certCheck b.certs }

/-! ## What a firmware start finds after a warm reset (R382, R383, R428) -/

/-- A page in HOST_VIEW becomes DEVICE, or FREE with its slot queued for the scrub where nothing refers to it. -/
def State.unviewed (s : State) (p : Nat) (e : PageEntry) : State :=
  if e.st ≠ .hostView then s
  else if e.refs = 0 then s.freePage p { e with st := .device }
  else s.setPage p { e with st := .device, frame := 0 }

/-- What a slot is used for, once no command and no landing region is left: their slots are scrubbed (R383). -/
def SlotUse.orphaned : SlotUse → SlotUse
  | .page p => .page p
  | .reserved _ => .scrub []
  | .landing _ => .scrub []
  | .scrub _ => .scrub []
  | .withdrawn => .withdrawn

/-- A sequence found INCOMING, SHADOWED or CLOSING: the first two are gone, the last completes its close (R352, R383). -/
def State.settleSeq (s : State) (i : Nat) : State :=
  match (s.seq i).st with
  | .incoming => (s.setSeq i { gen := (s.seq i).gen }).modSeqs fun q => { q with freed := q.freed.filter (· ≠ i) ++ [i] }
  | .closing => s.closeSeq i
  | .shadowed => s.closeSeq i
  | _ => s

/-- First units of the cold images that the pages of a domain name: those that a commit left (R216, R218). -/
def State.namedUnits (s : State) (d : Nat) : List Nat :=
  s.pages.map.filterMap fun p =>
    let e := p.2
    if e.dom ≠ d then none
    else if e.st = .swapped then some (locUnit e.loc)
    else if e.inHbm && (s.slotData e.loc).tier == 1 then some (locUnit (s.slotData e.loc).cold)
    else none

/-- Units reserved by commands that never committed are released; committed images stay held (R383). -/
def State.dropUnits (s : State) : State :=
  (akeys s.tier.units).foldl (fun t d =>
    let keep := t.namedUnits d
    ((t.unitRuns d).filter fun r => !keep.contains r.first).foldl (fun u r => u.freeUnits d r.first) t) s

/-- Granules that a sequence's records name (R41). -/
def SeqEntry.grains (e : SeqEntry) : List Nat := e.lenPtr :: (e.rows.map Prod.snd ++ e.indexPtrs)

/-- Granules reserved by commands that never committed are released. -/
def State.dropGrains (s : State) : State :=
  let named := s.seqs.table.flatMap fun p => p.2.grains
  s.modSeqs fun q => { q with pool := q.pool.filter fun r => named.contains r.1 }

/-- PENDING entries removed from the Prefix Index with their references, and those already removed that a FIND still saw (R211,
R382). -/
def State.dropPendingIndex (s : State) : State :=
  let pend := s.index.entries.filter fun e => e.2.st == 2
  (s.makeHoles fun e => e.st == 2 || e.gone.isSome).dropRefs (pend.map fun e => e.2.anchor)

/-- The pages of moved sequences that an ATTEND still read lose that reference (R22, R383). -/
def State.dropLingering (s : State) : State :=
  (s.modSeqs fun q => { q with lingering := [] }).dropRefs (s.seqs.lingering.map Prod.fst)

/-- R383: what the firmware does at its first start after a warm reset. -/
def State.recover (s : State) : State :=
  let s1 := s.modPages fun p =>
    { p with
        map := p.map.map fun e => (e.1, { e.2 with busy := none })
        use := p.use.map fun u => (u.1, u.2.orphaned)
        reservedIdx := [] }
  let s2 := s1.pages.map.foldl (fun t e => t.unviewed e.1 e.2) (s1.modWin fun w => { w with frames := [] })
  let s3 := (akeys s2.seqs.table).foldl State.settleSeq s2.dropPendingIndex.dropLingering
  s3.dropUnits.dropGrains

/-- After TABLE_UE the tables are cleared as at a cold start, and every slot is scrubbed (R328, R381, R382, log 35). -/
def State.clearTables (s : State) : State :=
  { s with
      pages := { picks := s.pages.picks }, seqs := {}, index := {}, tier := {}, win := {} }

/-- An awn-stack BIST that a reset ended: the firmware start scrubs the stack's slots and returns it to service (R428). -/
def State.asbReturned (s : State) : State :=
  let out := (s.test.asb.filter fun a => a.2.st == 2).map Prod.fst
  (s.modTest fun x => { x with asb := [] }).modPages fun p =>
    { p with
        use := p.use.filter fun u => !(out.contains (slotStack u.1) && (match u.2 with | .scrub _ => true | _ => false))
        slots := p.slots.filter fun u => !(out.contains (slotStack u.1)) || (aget p.use u.1).isSome }

/-! ## The start of the firmware (R370, R384, R426) -/

/-- Position of an island in STARTUP_BIST: tiles, stack controllers, islands 0x200 to 0x207 (R430). -/
def bistPos (isl : Nat) : Option Nat :=
  if isl < 72 then some isl
  else if 0x100 ≤ isl ∧ isl < 0x10C then some (72 + (isl - 0x100))
  else if 0x200 ≤ isl ∧ isl ≤ 0x207 then some (84 + (isl - 0x200))
  else none

/-- The start-up BIST's outcome: failing tiles are retired and replaced, rows repaired (R426). -/
def State.startupBistDone (s : State) (b : BistOutcome) : State :=
  let fails := (b.failing.map BitVec.toNat).filterMap bistPos
  let s1 := s.modBoot fun x => { x with startupFail := fails, startupRows := b.rowsRepaired }
  let s2 := s1.modTest fun x =>
    { x with rowsRepaired := b.rowsRepaired, sparesFree := x.sparesFree - b.rowsRepaired }
  (fails.filter fun t => decide (t < 72)).foldl (fun t k => (t.retireTile k).mapTile k) s2

/-- The new boot: BOOT_ID drawn, the log of the boot before kept after a warm reset, SEQ, counters and histograms begin anew
(R246, R344, R382, R384). -/
def State.newBoot (s : State) : State :=
  let log := s.faults.log
  let s1 := s.modBoot fun b =>
    { b with
        priorBootId := if b.warm then b.bootId else 0, bootId := Config.fresh s.faults.freshCtr
        mgmtRestarting := false, restartTimes := [], sessionsDoe := [], sessionsMctp := [] }
  (s1.modFaults fun f =>
    { f with
        priorLog := if s.boot.warm then log.drop (log.length - 256) else [], log := [], seq := 0, freshCtr := f.freshCtr + 1,
        hist := [], detects := [], ceUnits := [], ceLogged := [] }).modDict fun d => { d with counters := [] }

/-- The firmware reaches RUNNING: after a warm reset it repairs what it finds, and it runs the start-up BIST (R370, R383, R384,
R426). -/
def State.startFirmware (s : State) (b : BistOutcome) : State :=
  if s.boot.st ≠ .starting then s
  else
    let s1 := s.newBoot
    let s2 := if s.boot.clearTables then s1.clearTables else if s.boot.warm then s1.recover else s1
    let s3 := (s2.asbReturned.modBoot fun x =>
      { x with st := .running, clearTables := false, warm := false }).modTherm fun x => { x with maxima := [], powerPeak := 0 }
    (s3.startupBistDone b).halvedNote.lowCheck

/-! ## Meanings -/

/-- FW_LOAD_CHUNK (R368). -/
def execFwLoadChunk (offset length : BitVec 32) (reserved : BitVec 64) (data : List Byte) (s : State) :
    Host.Outcome State Fault Refusal := s.seal (s.romCmd fun t => t.loadChunk offset.toNat length.toNat reserved.toNat data)

/-- FW_LOAD_DMA (R368). -/
def execFwLoadDma (addr : BitVec 64) (length offset : BitVec 32) (s : State) : Host.Outcome State Fault Refusal :=
  s.seal (s.romCmd fun t => t.loadDma addr.toNat length.toNat offset.toNat)

/-- FW_START (R373). -/
def execFwStart (length : BitVec 32) (s : State) : Host.Outcome State Fault Refusal :=
  s.seal (s.romCmd fun t => t.fwStart length.toNat)

/-- FW_VERIFY_DONE (R374). -/
def execFwVerifyDone (coresOk : Bool) (s : State) : Host.Outcome State Fault Refusal := s.seal (s.verified coresOk)

/-- FW_ABORT (R368). -/
def execFwAbort (s : State) : Host.Outcome State Fault Refusal := s.seal (s.romCmd State.fwAbort)

/-- CERT_LOAD (R377). -/
def execCertLoad (length : BitVec 32) (bundle : List Byte) (s : State) : Host.Outcome State Fault Refusal :=
  s.seal (s.romCmd fun t => t.certLoad length.toNat bundle)

/-- BOOT_STATUS (R371). -/
def execBootStatus (viaI3c : Bool) (s : State) : Host.Outcome State Fault Refusal := s.seal (s.readBoot viaI3c)

/-- FIRMWARE_RUNNING (R370). -/
def execFirmwareRunning (b : BistOutcome) (s : State) : Host.Outcome State Fault Refusal := s.seal (s.startFirmware b)

/-- FIRMWARE_START_AFTER_RESET (R383): the first start after a warm reset. -/
def execFirmwareStartAfterReset (b : BistOutcome) (s : State) : Host.Outcome State Fault Refusal :=
  s.seal (if s.boot.warm then s.startFirmware b else s)

end Sys2Proof.Machine
end

