-- ==== Sys2Proof/Machine/Power.lean ====
section
/-! DEFINITION. Power, pins and resets (R381, R382, R411 to R417), and sensors, throttling and tile frequencies (R421 to R424).
-/

namespace Sys2Proof.Machine

/-! ## Cold and warm (R381, R382) -/

/-- The node after power loss: everything at its reset, but for the fuses, the pins, and what lies outside it (R382). -/
def State.cold (s : State) (supply : Supply) : State :=
  { State.reset with
      pending := s.pending, hostMem := s.hostMem, out := s.out
      power := { supply := supply, pwrEn := s.power.pwrEn, rstN := s.power.rstN, perstN := s.power.perstN,
                 vinMv := s.power.vinMv, latchedOff := s.power.latchedOff }
      boot := { minSvn := s.boot.minSvn }
      pages := { picks := s.pages.picks }
      faults := { freshCtr := s.faults.freshCtr } }

/-- The rails go off (R413, R415). -/
def State.powerOff (s : State) : State := if s.power.supply = .off then s else s.cold .off

/-- What a warm reset keeps of a tile: its state and logical number (R382). -/
def TileInfo.kept (t : TileInfo) : TileInfo := { st := t.st, logical := t.logical }

/-- The node on entry to a warm reset with a cause: undo areas are written back, so that no uncommitted command leaves a trace,
no completion is posted, and the stacks go to self-refresh; firmware, dictionary, domains, keys, queues, QPs and link are lost;
pages, tables, index, masks, code tables, host-tier map, the spares' maps and the log stay (R382, R383). A shadow scrubs what it
built (R354). -/
def State.warmEntry (s : State) (cause source : Nat) : State :=
  let t := if s.shadowOn && s.shadow.isShadow then s.shadowScrub else s
  { State.reset with
      pending := s.pending, hostMem := s.hostMem, out := s.out
      power := { t.power with resetEntry := true, brownOut := false, inputLow := false, vinOk := 0, thermN := false }
      boot := { minSvn := t.boot.minSvn, bootId := t.boot.bootId, resetCause := cause, resetSource := source,
                hbmKept := !t.boot.clearTables, clearTables := t.boot.clearTables, warm := true }
      prof := { state := if t.prof.state = 0 then 0 else 2, act := t.prof.act, digest := t.prof.digest }
      pages := { t.pages with suspects := [], lowArmed := true }
      seqs := { table := t.seqs.table, freed := t.seqs.freed, pool := t.seqs.pool, redirects := t.seqs.redirects
                lingering := t.seqs.lingering }
      awns := { chanMap := t.awns.chanMap, chanCopies := t.awns.chanCopies, chanDead := t.awns.chanDead, awns := t.awns.awns }
      tiles := { groupMap := t.tiles.groupMap, status := t.tiles.status.map TileInfo.kept }
      index := { entries := t.index.entries }
      tier := { units := t.tier.units, cursor := t.tier.cursor, holds := t.tier.holds, tables := t.tier.tables,
                tableGens := t.tier.tableGens, coded := t.tier.coded }
      masks := t.masks
      xnt := { clock := t.xnt.clock }
      faults := { seq := t.faults.seq, log := t.faults.log, priorLog := t.faults.priorLog, errn := t.faults.errn,
                  time := t.faults.time, freshCtr := t.faults.freshCtr }
      therm := { readings := t.therm.readings, rails := t.therm.rails }
      test := { asb := t.test.asb.filter fun a => a.2.st == 2 } }

/-- A warm reset begins, unless one is being entered or there is no power (R381, R417). -/
def State.warmReset (s : State) (cause source : Nat) : State :=
  if s.power.supply ≠ .good ∨ s.power.resetEntry = true then s else s.warmEntry cause source

/-- WARM_RESET_ENTRY: the entry is complete; the ROM restarts once RST_N is high (R383, R417). -/
def State.entryDone (s : State) : State := s.modPower fun p => { p with resetEntry := false }

/-- RST_N low: a warm reset while powered; at power-up it holds the ROM (R417). -/
def State.rstLow (s : State) : State :=
  if s.power.rstN then (s.modPower fun p => { p with rstN := false }).warmReset 1 0 else s

/-- PERST_N low: the link goes down, which is a warm reset (R417). -/
def State.perstLow (s : State) : State := (s.modPower fun p => { p with perstN := false }).warmReset 3 0

/-- CHIP_RESET: the pending chip reset begins, with its source; 5 after TABLE_UE (R327, R328, R386). -/
def State.chipResets (s : State) : State :=
  if s.boot.chipReset then s.warmReset (if s.boot.clearTables then 5 else 4) s.boot.chipSource else s

/-! ## Supply (R413 to R415) -/

/-- PWR_EN high: the hot-swap controller charges the bulk capacitance when VIN is at least 40 V and it is not latched off
(R413, R415). -/
def State.pwrHigh (s : State) (vin : Nat) : State :=
  s.modPower fun p =>
    { p with pwrEn := true, vinMv := vin,
             supply := if p.supply == .off && !p.latchedOff && decide (40000 ≤ vin) then .charging else p.supply }

/-- PWR_GOOD: the last rail is in regulation; the node is as after a cold reset (R370, R413). -/
def State.pwrGoodNow (s : State) : State := if s.power.supply = .charging then s.cold .good else s

/-- PWR_EN low: the rails go off, and a latched hot-swap controller is released (R415). -/
def State.pwrLow (s : State) : State := s.powerOff.modPower fun p => { p with pwrEn := false, latchedOff := false }

/-- POWER_FAULT raised (R322, R414, R415). -/
def State.powerFault (s : State) (unit : Nat) : State :=
  if s.romUp then s.raise 0x1A islReg unit none [] false fun _ t => t else s

/-- A tile BIST under way is abandoned (R429). -/
def State.lbistAbandon (s : State) : State :=
  if s.test.lbState = 1 then
    (s.modTile s.test.lbTile fun t => { t with testing := false }).modTest fun x => { x with lbState := 0 }
  else s

/-- BROWN_OUT: no token is granted, no item starts, a tile BIST is abandoned, POWER_FAULT is raised (R414, R429). -/
def State.brownOutNow (s : State) : State :=
  if s.power.supply ≠ .good then s
  else ((s.modPower fun p => { p with brownOut := true }).lbistAbandon).powerFault 0

/-- Unit of a rail in POWER_FAULT (log 36). -/
def railNo : Rail → Nat
  | .vbus => 1
  | .vaux => 2
  | .vsram => 3
  | .vcore => 4
  | .vstkPp => 5
  | .vstkDd => 6
  | .vstkQ => 7
  | .vser => 8

/-- A rail whose fault powers the module off: VBUS, VAUX and the VSTK rails (R415). -/
def railKills : Rail → Bool
  | .vbus => true
  | .vaux => true
  | .vsram => false
  | .vcore => false
  | .vstkPp => true
  | .vstkDd => true
  | .vstkQ => true
  | .vser => false

/-- RAIL_FAULT (R415). -/
def State.railFails (s : State) (r : Rail) : State :=
  if s.power.supply ≠ .good then s else if railKills r then s.powerOff else s.powerFault (railNo r)

/-! ## Throttling (R421 to R423) -/

/-- Tile frequency of a throttling step, in MHz (R422). -/
def stepMhz (n : Nat) : Nat := [2000, 2000, 1800, 1600, 1400, 1200, 1000, 800].getD n 800

/-- A tile takes a higher frequency at once and waits for its items before a lower one (R423). -/
def TileInfo.toMhz (t : TileInfo) (f : Nat) : TileInfo :=
  if t.mhz ≤ f then { t with mhz := f, want := none } else { t with want := some f }

/-- A throttling step taken: token limit and tile frequencies follow it, THERM_N is set, an I3C interrupt goes out, and the
change is counted (R422, R423). -/
def State.setStep (s : State) (n : Nat) : State :=
  if n = s.therm.step then s.thermPin
  else
    let s1 := (s.modTherm fun x => { x with step := n }).modTiles fun q =>
      { q with status := q.status.map fun t => t.toMhz (stepMhz n) }
    ((s1.bump 0x9200 6).emit (.i3cInterrupt 0xA1)).thermPin

/-- TILE_FREQUENCY_STEP_DOWN: the tile's items have ended, and it switches (R423). -/
def State.stepDown (s : State) (t : Nat) : State :=
  match (s.tile t).want with
  | some f => if (s.itemsOn t).isEmpty then s.modTile t fun x => { x with mhz := f, want := none } else s
  | none => s

/-- The sensor groups of R421 by key: T0 and the critical limit in 1/16 °C. -/
def sensorLimits (k : Nat) : Option (Int × Int) :=
  if k < 72 ∨ (0x200 ≤ k ∧ k ≤ 0x207) then some (1600, 1840)
  else if 0x100 ≤ k ∧ k < 0x10C then some (1440, 1680)
  else if baseSensor 0 ≤ k ∧ k < baseSensor 12 then some (1600, 1840)
  else if k = coolantSensor 1 then some (960, 1120)
  else none

/-- The readings of one poll by sensor key: islands, hottest core die and base die of each stack, coolant (R421). -/
def sensorReadings (r : Readings) : List (Nat × Int) :=
  (r.islands.filterMap fun p =>
      let k := p.1.toNat
      if k < 72 ∨ (0x200 ≤ k ∧ k ≤ 0x207) then some (k, p.2) else none)
    ++ r.cores.map (fun p => (0x100 + p.1.toNat, p.2)) ++ r.bases.map (fun p => (baseSensor p.1.toNat, p.2))
    ++ [(coolantSensor 0, r.inlet), (coolantSensor 1, r.outlet)]

/-- The thermal target of the last readings (R422). -/
def State.thermalTarget (s : State) : Nat :=
  let x := s.therm.readings.foldl (fun m p => match sensorLimits p.1 with | some l => max m (p.2 - l.1) | none => m) 0
  Nat.min 7 (ceilDiv x.toNat 32)

/-- The floor of R422. -/
def State.stepFloor (s : State) : Nat := if s.power.inputLow then 3 else s.num 0x9200 4

/-- The wanted step (R422). -/
def State.wantedStep (s : State) : Nat := Nat.max (Nat.max s.thermalTarget s.therm.powerTarget) s.stepFloor

/-- THROTTLE_CAUSE: the values that make the wanted step (R430, log 37). -/
def State.throttleCause (s : State) : Nat :=
  let w := s.wantedStep
  b2n (w != 0 && s.thermalTarget == w) + b2n (w != 0 && s.therm.powerTarget == w) * 2
    + b2n (w != 0 && s.power.inputLow && w == 3) * 4 + b2n (w != 0 && !s.power.inputLow && s.stepFloor == w) * 8

/-- A higher wanted step applies at once; a lower one lowers the step by one for each 1 ms below it (R422). -/
def State.throttle (s : State) : State :=
  let w := s.wantedStep
  let s1 := s.modTherm fun x => { x with cause := s.throttleCause, below := if w < x.step then x.below + 1 else 0 }
  if s.therm.step < w then s1.setStep w
  else if s1.therm.below < 10 then s1.thermPin
  else (s1.modTherm fun x => { x with below := 0 }).setStep (s.therm.step - 1)

/-- One sensor read: kept with its maximum, and counted while it stays critical; the third critical reading in a row raises
THERMAL_CRIT (R421, R423). -/
def State.readSensor (s : State) (k : Nat) (v : Int) : State :=
  let s1 := s.modTherm fun x =>
    { x with readings := aput x.readings k v,
             maxima := aput x.maxima k (match aget x.maxima k with | some m => max m v | none => v) }
  match sensorLimits k with
  | none => s1
  | some l =>
    let n := if l.2 ≤ v then Nat.min 4 (anat s1.therm.critCount k + 1) else 0
    let s2 := s1.modTherm fun x => { x with critCount := aput x.critCount k n }
    if n = 3 then
      let isl := if k < 0x300 then k else if k < 0x400 then 0x100 + (k - 0x300) else islReg
      s2.raise 0x19 isl 0 none [] false fun _ t => t.modTherm fun x => { x with crit := true }
    else s2

/-- Input power: averages over 1 ms and 10 ms move the power target (R422). -/
def State.readPower (s : State) (mw : Nat) : State :=
  let limit := 1000 * s.num 0x9200 3
  let l1 := mw :: s.therm.acc1
  let l10 := mw :: s.therm.acc10
  let up := l1.length = 10 ∧ 10 * limit < l1.sum
  let down := l10.length = 100 ∧ l10.sum < 100 * (limit - 50000)
  let t1 := if up then Nat.min 7 (s.therm.powerTarget + 1) else s.therm.powerTarget
  s.modTherm fun x =>
    { x with
        powerTarget := if down then t1 - 1 else t1
        acc1 := if l1.length = 10 then [] else l1, acc10 := if l10.length = 100 then [] else l10
        powerAvg := if l1.length = 10 then l1.sum / 10 else x.powerAvg, powerPeak := Nat.max x.powerPeak mw }

/-- VIN: at 40.5 V or more for 10 ms the input-low condition ends (R415). -/
def State.readVin (s : State) (mv : Nat) : State :=
  s.modPower fun p =>
    let n := if 40500 ≤ mv then Nat.min 100 (p.vinOk + 1) else 0
    { p with vinMv := mv, vinOk := n, inputLow := p.inputLow && decide (n < 100) }

/-- TEMP_READING: one poll of the regulator monitor, and the throttling step that follows (R421 to R424). -/
def State.poll (s : State) (r : Readings) : State :=
  if !s.romUp then s
  else
    let s1 := (sensorReadings r).foldl (fun t p => t.readSensor p.1 p.2) s
    let s2 := (s1.readPower r.pinMw.toNat).readVin r.vinMv.toNat
    let s3 := s2.modTherm fun x =>
      { x with iinMa := r.iinMa.toNat, rails := r.rails.foldl (fun l p => if p.1 < 30 then aput l p.1 p.2 else l) x.rails }
    s3.throttle

/-- VIN_LOW: the step is held at 3 or above (R415). -/
def State.inputLow (s : State) : State :=
  if !s.romUp then s
  else
    let s1 := s.modPower fun p => { p with inputLow := true, vinOk := 0 }
    let s2 := s1.modTherm fun x => { x with cause := s1.throttleCause }
    if s2.therm.step < s2.wantedStep then s2.setStep s2.wantedStep else s2

/-! ## Meanings -/

/-- TEMP_READING (R421, R422). -/
def execTempReading (r : Readings) (s : State) : Host.Outcome State Fault Refusal := s.seal (s.poll r)

/-- TILE_FREQUENCY_STEP_DOWN (R423). -/
def execTileFrequencyStepDown (tile : BitVec 7) (s : State) : Host.Outcome State Fault Refusal := s.seal (s.stepDown tile.toNat)

/-- PWR_EN_HIGH (R413). -/
def execPwrEnHigh (vinMv : BitVec 32) (s : State) : Host.Outcome State Fault Refusal := s.seal (s.pwrHigh vinMv.toNat)

/-- PWR_GOOD (R413). -/
def execPwrGood (s : State) : Host.Outcome State Fault Refusal := s.seal s.pwrGoodNow

/-- PWR_EN_LOW (R415). -/
def execPwrEnLow (s : State) : Host.Outcome State Fault Refusal := s.seal s.pwrLow

/-- BROWN_OUT (R414). -/
def execBrownOut (s : State) : Host.Outcome State Fault Refusal := s.seal s.brownOutNow

/-- VIN_LOW (R415). -/
def execVinLow (s : State) : Host.Outcome State Fault Refusal := s.seal s.inputLow

/-- VIN_OVER (R415): the hot-swap controller turns off at once. -/
def execVinOver (s : State) : Host.Outcome State Fault Refusal := s.seal s.powerOff

/-- INPUT_OVER_CURRENT (R415): off, and latched off until PWR_EN is cycled. -/
def execInputOverCurrent (s : State) : Host.Outcome State Fault Refusal :=
  s.seal (if s.power.supply = .off then s else s.powerOff.modPower fun p => { p with latchedOff := true })

/-- RAIL_FAULT (R415). -/
def execRailFault (rail : Rail) (s : State) : Host.Outcome State Fault Refusal := s.seal (s.railFails rail)

/-- VIN_DROPOUT (R414): VIN stayed low until the regulators dropped out. -/
def execVinDropout (s : State) : Host.Outcome State Fault Refusal := s.seal s.powerOff

/-- RST_N_LOW (R417). -/
def execRstNLow (s : State) : Host.Outcome State Fault Refusal := s.seal s.rstLow

/-- RST_N_RELEASE (R417). -/
def execRstNRelease (s : State) : Host.Outcome State Fault Refusal := s.seal (s.modPower fun p => { p with rstN := true })

/-- PERST_N (R417). -/
def execPerstN (s : State) : Host.Outcome State Fault Refusal := s.seal s.perstLow

/-- CXL_RESET (R381). -/
def execCxlReset (s : State) : Host.Outcome State Fault Refusal := s.seal (s.warmReset 2 0)

/-- LINK_DOWN (R381). -/
def execLinkDown (s : State) : Host.Outcome State Fault Refusal := s.seal (s.warmReset 3 0)

/-- CHIP_RESET (R328). -/
def execChipReset (s : State) : Host.Outcome State Fault Refusal := s.seal s.chipResets

/-- WARM_RESET_ENTRY (R383). -/
def execWarmResetEntry (s : State) : Host.Outcome State Fault Refusal := s.seal s.entryDone

end Sys2Proof.Machine
end

