-- ==== Sys2Proof/Machine/Faults.lean ====
section
/-! DEFINITION. Faults that islands report, with the containment of each source (R321 to R332, R338), clocks and island links
(R418 to R420), ERR_N (R329), the management island's watchdog (R348 to R350), event frames (R403) and queue samples (R318). -/

namespace Sys2Proof.Machine

/-! ## Clocks and island links (R322, R419, R420) -/

/-- An island number that R340 names. -/
def islandOk (k : Nat) : Bool :=
  decide (k < 72) || (decide (0x100 ≤ k) && decide (k < 0x10C)) || (decide (0x200 ≤ k) && decide (k ≤ 0x207))

/-- Every slot of a stack is lost: its pages under R97, its free slots withdrawn (R322, R338). -/
def State.loseStack (s : State) (st : Nat) : State :=
  (s.loseRange (st * 1835008) 1835008).lowCheck

/-- CLOCK_ISLAND's containment: a tile is retired, a stack is lost, and of any other island the commands that need it fail until
a reset (R322, R420). -/
def State.clockLost (s : State) (k : Nat) : State :=
  let s1 := s.modFaults fun f => { f with deadIslands := f.deadIslands ++ [k] }
  if k < 72 then s1.retireTile k else if k < 0x200 then s1.loseStack (k - 0x100) else s1

/-- CLOCK_ISLAND raised against an island, unless its clock has failed already (R419, R420). -/
def State.clockFault (s : State) (k : Nat) (injected : Bool) : State :=
  if !islandOk k || s.faults.deadIslands.contains k then s else s.raise 0x14 k 0 none [] injected fun _ t => t.clockLost k

/-- CLOCK_CHECK: 100 microseconds of collector time have passed; the islands that deviate are reported (R420). The limit on
logged corrected records starts anew each second (R324). -/
def State.clockCheck (s : State) (l : List Nat) : State :=
  if !s.romUp then s
  else
    let s1 := s.modFaults fun f =>
      { f with time := f.time + 1, ceLogged := if (f.time + 1) % 10000 = 0 then [] else f.ceLogged }
    l.foldl (fun t k => t.clockFault k false) s1

/-! ## Sources (R322) -/

/-- An item that a fault names: on a tile, or ended with its row set still open. -/
def State.itemNamed (s : State) (f : FaultIn) : Option Item :=
  f.tag.bind fun t => s.sched.items.find? fun it => it.tag == t.toNat && (it.onTile || it.st == .ended)

/-- An item that a fault names, on a tile. -/
def State.itemOf (s : State) (f : FaultIn) : Option Item :=
  f.tag.bind fun t => s.sched.items.find? fun it => it.tag == t.toNat && it.onTile

/-- DETAIL of a reported fault: the page, else the item tag, and the sequence where it is known (R343). -/
def State.faultDetail (s : State) (f : FaultIn) : List Nat :=
  match f.page, f.tag with
  | some p, _ => s.pageDetail (some p.toNat)
  | none, some t => [t.toNat, ((s.itemNamed f).map s.itemSeq).getD 0]
  | none, none => [0, 0]

/-- A source raised as the island reported it. -/
def State.raiseIn (s : State) (f : FaultIn) (contain : BitVec 32 → State → State) : State :=
  s.raise (srcId f.source) f.island.toNat f.unit.toNat (f.dom.map BitVec.toNat) (s.faultDetail f) f.injected contain

/-- An SRAM row replaced by a spare row (R153, R338). -/
def State.repairRow (s : State) : State :=
  s.modTest fun x => { x with rowsRepaired := x.rowsRepaired + 1, sparesFree := x.sparesFree - 1 }

/-- A corrected SRAM error: the second of a row repairs it (R153, R338). The unit names the row (log 36). -/
def State.sramCe (s : State) (f : FaultIn) : State :=
  let isl := f.island.toNat
  let u := f.unit.toNat
  let again := s.faults.detects.any fun d => d.source == 0x08 && d.island == isl && d.unit == u
  (if isl < 72 then s.bump 0xB100 9 else s).raiseIn f fun l t =>
    let t1 := t.detect 0x08 isl u l f.injected
    if again && !f.injected then
      (t1.modFaults fun q => { q with detects := q.detects.filter fun d => ¬ (d.source = 0x08 ∧ d.island = isl ∧ d.unit = u) }).repairRow
    else t1

/-- The collections that an SRAM fault of a tile hits: that of the named item where the tile is its home and not its own; all homed
there where the island names no item (R153, log 36). -/
def State.collectsHit (s : State) (f : FaultIn) : List Collect :=
  let here := s.sched.collects.filter fun c => s.physTile c.tile == f.island.toNat
  match f.tag with
  | none => here
  | some _ => match s.itemNamed f with
    | some it => if it.onTile && s.physTile it.tile == f.island.toNat then [] else here.filter fun c => c.holds it
    | none => []

/-- An uncorrected SRAM error: the items whose reservation holds the word are killed and run once more, a FANNED collection with its
row set, the row is replaced, and the tile has a detection. No item reserves the constant store, which the node repairs from its
own copy (R153, R156). -/
def State.sramUe (s : State) (f : FaultIn) : State :=
  let isl := f.island.toNat
  let hit := if f.constStore then [] else match f.tag with
    | some _ => ((s.itemOf f).filter fun it => s.physTile it.tile == isl).toList
    | none => if isl < 72 then s.itemsOn isl else []
  let sets := if f.constStore ∨ 72 ≤ isl then [] else s.collectsHit f
  (if isl < 72 then s.bump 0xB100 0xA else s).raiseIn f fun l t =>
    let t1 := sets.foldl (fun u c => u.collectFails c) (hit.foldl State.failsOnTile t)
    if isl < 72 then t1.repairRow.detectTile isl l f.injected else t1.repairRow

/-- A failed awn check: a detection against the awn, and the stripe of the named item on it runs once more (R86). -/
def State.awnFault (s : State) (f : FaultIn) : State :=
  let u := f.unit.toNat
  let mine : Stripe → Bool := fun x => some (stripeItem x.tag) == f.tag.map BitVec.toNat && x.awn == u
  match s.awns.stripes.find? mine with
  | some x =>
    let s1 := s.modAwns fun a => { a with stripes := a.stripes.filter fun y => y.tag ≠ x.tag }
    (((s1.stripeFails x true true f.injected).freeTag x.tag).boundary x.stack x.ch x.bp).pump x.stack
  | none => if awnExists u then s.raiseIn f fun l t => t.detectAwn u l f.injected else s.raiseIn f fun _ t => t

/-- A check that failed on a tile (R154, R156): the named item is run once more; where the tile is the home of its row set and not
its own, the check met the merged partial, and the row set runs once more (R127). -/
def State.tileFault (s : State) (f : FaultIn) : State :=
  let isl := f.island.toNat
  match s.itemOf f, s.collectsHit f with
  | some it, [] => s.tileFails (srcId f.source) it f.injected
  | _, sets => s.raiseIn f fun l t =>
    let t1 := if f.tag.isSome then sets.foldl (fun u c => u.collectFails c) t else t
    if isl < 72 then t1.detectTile isl l f.injected else t1

/-- A page whose identity does not match: its slot and the pages that the named item reads are queued for the patrol, and the
commands that use it fail. It is a fault of the page, detected against no unit (R148, R222, R300, R331). -/
def State.identityFault (s : State) (f : FaultIn) : State :=
  let page := f.page.map BitVec.toNat
  let slot := page.bind fun p => (s.page p).bind fun e => if e.inHbm then some e.loc else none
  let owner := s.itemOf f
  s.raiseIn f fun _ t =>
    let t1 := match slot with | some n => t.modPages fun p => { p with suspects := p.suspects ++ [(n, noUnit)] } | none => t
    let t2 := match owner with | some it => (t1.suspectPages it [noUnit]).failPart it.cmd | none => t1
    match page with
    | some p =>
      ((t2.sched.cmds.filter fun c => t2.needsPage c p).map fun c => c.id).foldl (fun u id =>
        match u.cmd id with
        | some c => if c.jobs.any fun j => j.page == p && !j.done then u.tierFailed c stTierFail 3 p else u.failPart id
        | none => u) t2 |>.wake
    | none => t2.wake

/-- A coverage mismatch: the row set is killed and re-run; a second mismatch fails its command (R14, R332). -/
def State.coverageFault (s : State) (f : FaultIn) : State :=
  let hit := s.itemNamed f
  s.raiseIn f fun _ t => match hit with | some it => t.setFails it it.tile [] | none => t

/-- A link error that a retry did not remove: the items with data on the link are killed and requeued (R322, R330). -/
def State.linkFault (s : State) (f : FaultIn) : State :=
  let isl := f.island.toNat
  let hit := match f.tag with
    | some _ => (s.itemOf f).toList
    | none => if isl < 72 then s.itemsOn isl else if 0x100 ≤ isl ∧ isl < 0x10C then s.itemsOnStack (isl - 0x100) else []
  s.raiseIn f fun _ t => t.requeueAll hit

/-- Damaged state of one domain: the domain is torn down, and a damaged key is unloaded: unit 0 the XTS pair, any other the
fabric key (R323, log 36). -/
def State.domainFault (s : State) (f : FaultIn) : State :=
  s.raiseIn f fun _ t =>
    match f.dom with
    | none => t
    | some d =>
      let d := d.toNat
      let t1 := if t.domActive d then (t.teardown d).teardownDone d else t
      if !f.keyWord then t1
      else if f.unit = 0 then t1.modDom fun y => { y with doms := amod y.doms d fun z => { z with xtsKey := [] } }
      else (t1.modDom fun y => { y with doms := amod y.doms d fun z => { z with fabricKey := [] } }).clearNonce d

/-- The logical channel that a unit names, by its physical channel (R108). -/
def State.faultChan (s : State) (f : FaultIn) : Option (Nat × Nat) :=
  let u := f.unit.toNat
  (s.logChan (uStack u) (uChan u)).map fun l => (uStack u, l)

/-- CHECKER_LATE of the unit that an island names (R334). -/
def State.lateFault (s : State) (f : FaultIn) : State :=
  let isl := f.island.toNat
  let u := f.unit.toNat
  (s.bump 0x8000 0x10).raiseIn f fun _ t =>
    if isl < 72 then t.retireTile isl
    else if isl < 0x200 then t.retireAwn u
    else t.modFaults fun q => { q with late := if q.late.contains u then q.late else q.late ++ [u] }

/-- FAULT_EVENT: an event reaches the collector (R327), with the containment of its source (R322). -/
def State.faultEvent (s : State) (f : FaultIn) : State :=
  let isl := f.island.toNat
  let u := f.unit.toNat
  if !s.romUp then s
  else
    match f.source with
    | .arrayCe => match f.slot with | some n => s.arrayCe n.toNat f.injected | none => s.raiseIn f fun _ t => t
    | .arrayUe => match f.slot with | some n => s.arrayUe n.toNat f.injected | none => s.raiseIn f fun _ t => t
    | .channelPredict =>
      let c := s.faultChan f
      s.raiseIn f fun _ t => match c with | some x => t.predictChan x.1 x.2 | none => t
    | .channelLoss =>
      let c := s.faultChan f
      s.raiseIn f fun _ t => match c with | some x => (t.loseChan x.1 x.2).lowCheck | none => t
    | .awnCheck => s.awnFault f
    | .awnSweep => s.raiseIn f fun l t => if awnExists u then t.sweptAwn u l f.injected else t
    | .tileCheck => s.tileFault f
    | .tileSweep => s.raiseIn f fun l t => if isl < 72 then t.sweptTile isl l f.injected else t
    | .sramCe => s.sramCe f
    | .sramUe => s.sramUe f
    | .pageCrc => match f.slot with | some n => s.pageCrc n.toNat f.injected | none => s.raiseIn f fun _ t => t
    | .identity => s.identityFault f
    | .coverage => s.coverageFault f
    | .outputCrc => s.tileFault f
    | .linkCe => s.raiseIn f fun _ t => t
    | .linkUe => s.linkFault f
    | .indexDigest => match aget s.index.entries u with | some _ => s.quarantine u f.injected | none => s.raiseIn f fun _ t => t
    | .domainStateUe => s.domainFault f
    | .tableUe => s.raiseIn f fun _ t => t
    | .checkerLate => s.lateFault f
    | .clockIsland => s.clockFault isl f.injected
    | .hostLink => s.hostLinkFault f.injected
    | .mgmtHang => if s.mgmtUp then (s.raiseIn f fun _ t => t).restartAll 0 true else s.raiseIn f fun _ t => t
    | .mgmtStorm => if s.boot.st = .running then s.storm else s.raiseIn f fun _ t => t
    | .mgmtImage => s.raiseIn f fun _ t => t
    | .thermalCrit => (s.raiseIn f fun _ t => t.modTherm fun x => { x with crit := true }).thermPin
    | .powerFault => s.raiseIn f fun _ t => t
    | .collector => s.raiseIn f fun _ t => t

/-! ## ERR_N (R329) -/

/-- The pulse on ERR_N ends: latched, or released where ERRN_LATCH is 0 or ERRN_CLEAR came during the pulse. -/
def State.pulseEnd (s : State) : State :=
  s.modFaults fun f =>
    { f with errn := if f.errn = 1 then (if s.num 0x8000 3 = 1 then 2 else 0) else if f.errn = 3 then 0 else f.errn }

/-! ## The management island (R348, R349) -/

/-- MGMT_HANG: the watchdog expired; the firmware restarts (R348). While it restarts, or is held, no watchdog runs. -/
def State.mgmtHangs (s : State) (r : RestartOutcome) : State :=
  if !s.mgmtUp then s
  else (s.raise 0x16 islMgmt 0 none [] false fun _ t => t).restartAll r.failedCores r.imageOk

/-- MGMT_RESTARTED: the restart ends (R349). -/
def State.mgmtBack (s : State) : State :=
  if s.boot.st = .running ∧ s.boot.mgmtRestarting = true then
    (s.modBoot fun b => { b with mgmtRestarting := false }).note 0x0110 none islMgmt 0
      [s.counter 0x8300 3, s.boot.coresWorking]
  else s

/-! ## Event frames (R347, R403) -/

/-- EVENT_FRAME: the gathered records, at most 64, go out in one frame; without a QP in RTS the frame is dropped and
counted. -/
def State.eventFrame (s : State) : State :=
  let l := s.faults.gather.take 64
  if l.isEmpty then s
  else
    let n := s.num 0x8200 5
    let q := s.qp n
    let s1 := s.modFaults fun f => { f with gather := f.gather.drop 64 }
    if q.isMgmt && q.st == .rts then
      s1.sendMgmt n (leBytes 8 3 ++ leBytes 2 l.length ++ leBytes 6 0 ++ l.flatMap fun e => e.bytes false)
    else s1.bump 0x8200 7

/-! ## Queue samples (R318, R319) -/

/-- One sample of a queue: depth, delay of its oldest admitted command, maxima and average. -/
def sampled (q : Sq) (cmds delay : Nat) : Sq :=
  let depth := (q.tail + sqDepth q.cfg - q.head) % sqDepth q.cfg + cmds
  let avg : Int := q.delayAvg + Int.tdiv ((delay : Int) - q.delayAvg) 8
  { q with depthNow := depth, depthMax := Nat.max q.depthMax depth, delayNow := delay, delayMax := Nat.max q.delayMax delay,
           delayAvg := avg.toNat }

/-- A queue sampled, and QUEUE_DELAY posted when its delay first exceeds its domain's alarm (R318). -/
def State.sampleSq (s : State) (delays : List QueueDelay) (n : Nat) : State :=
  match aget s.queues.sqs n with
  | none => s
  | some q =>
    if q.st ≠ .active ∧ q.st ≠ .error then s
    else
      let mine := (s.sched.cmds.filter fun c => c.sq == n).length
      let delay := if mine = 0 then 0
        else ((delays.find? fun x => x.sq.toNat == n).map fun x => x.delayNs.toNat).getD 0
      let d := sqDom q.cfg
      let alarm := 1000 * s.num 0x7140 1 d
      let over_ := alarm != 0 && decide (alarm < delay)
      let s1 := s.modSq n fun _ =>
        { sampled q mine delay with alarmed := over_ || (q.alarmed && decide (alarm ≤ 2 * delay) && alarm != 0) }
      if over_ && !q.alarmed then s1.note 0x010B (some d) islSched n [n, delay] else s1

/-- QUEUE_SAMPLE: every queue sampled (R318). -/
def State.sampleQueues (s : State) (delays : List QueueDelay) : State :=
  if s.alive then (akeys s.queues.sqs).foldl (fun t n => t.sampleSq delays n) s else s

/-! ## Meanings -/

/-- FAULT_EVENT (R327). -/
def execFaultEvent (f : FaultIn) (s : State) : Host.Outcome State Fault Refusal := s.seal (s.faultEvent f)

/-- ERRN_PULSE_END (R329). -/
def execErrnPulseEnd (s : State) : Host.Outcome State Fault Refusal := s.seal s.pulseEnd

/-- ISLAND_LINK_TIMEOUT (R419). -/
def execIslandLinkTimeout (receiver : BitVec 12) (s : State) : Host.Outcome State Fault Refusal :=
  s.seal (if s.romUp then s.clockFault receiver.toNat false else s)

/-- CLOCK_CHECK (R420). -/
def execClockCheck (deviating : List (BitVec 12)) (s : State) : Host.Outcome State Fault Refusal :=
  s.seal (s.clockCheck (deviating.map BitVec.toNat))

/-- MGMT_HANG (R348). -/
def execMgmtHang (r : RestartOutcome) (s : State) : Host.Outcome State Fault Refusal := s.seal (s.mgmtHangs r)

/-- MGMT_RESTARTED (R349). -/
def execMgmtRestarted (s : State) : Host.Outcome State Fault Refusal := s.seal s.mgmtBack

/-- EVENT_FRAME (R403). -/
def execEventFrame (s : State) : Host.Outcome State Fault Refusal := s.seal s.eventFrame

/-- QUEUE_SAMPLE (R318). -/
def execQueueSample (delays : List QueueDelay) (s : State) : Host.Outcome State Fault Refusal := s.seal (s.sampleQueues delays)

end Sys2Proof.Machine
end

