-- ==== Sys2Proof/Machine/Test.lean ====
section
/-! DEFINITION. The ends of the self-tests that run on request: tile BIST and awn-stack BIST (R425 to R429). -/

namespace Sys2Proof.Machine

/-- LBIST_DONE: the signature decides the logic test, the memory test its own; a passing tile is idle, a failing one retired
(R427). -/
def State.lbistEnd (s : State) (r : LbistOutcome) : State :=
  if s.test.lbState ≠ 1 then s
  else
    let x := s.test
    let logic := x.lbModes.testBit 0 && r.signature.toNat != x.lbExp
    let mem := x.lbModes.testBit 1 && r.memoryFail
    let s1 := (s.modTest fun y =>
      { y with lbState := if logic || mem then 3 else 2, lbFails := b2n logic + 2 * b2n mem, lbSig := r.signature.toNat
               lbRows := r.rows, rowsRepaired := y.rowsRepaired + r.rows, sparesFree := y.sparesFree - r.rows }).modTile x.lbTile
        fun t => { t with testing := false }
    if logic || mem then s1.retireTile x.lbTile else s1.modTile x.lbTile fun t => { t with st := 1 }

/-- A physical channel that failed its test is retired: the logical one that it serves takes a spare, or its slots are withdrawn
(R106, R428). -/
def State.asbChan (s : State) (stack p : Nat) : State :=
  match s.logChan stack p with
  | some l => s.loseChan stack l
  | none =>
    if s.chanGone stack p then s
    else (s.modAwns fun a => { a with chanDead := a.chanDead ++ [(stack, p)] }).chanEvent stack p none

/-- Withdrawn slots of a stack. -/
def State.stackWithdrawn (s : State) (stack : Nat) : Nat :=
  (s.pages.use.filter fun u => slotStack u.1 == stack && u.2 == .withdrawn).length

/-- ASB_DONE: failing awns and channels are retired with their spares mapped; withdrawn slots that now pass return, failing ones
are withdrawn; every slot is scrubbed, and the stack is in service (R97, R428). -/
def State.asbEnd (s : State) (stack : Nat) (r : AsbOutcome) : State :=
  if (s.asbOf stack).st ≠ 2 ∨ s.power.brownOut = true then s
  else
    let before := s.stackWithdrawn stack
    let awns := (r.awns.map BitVec.toNat).filter fun u => (s.awn u).st != 2
    let chans := (r.channels.map BitVec.toNat).filter fun p => !s.chanGone stack p
    let s1 := awns.foldl (fun t u => (t.retireAwn u).mapAwn u) s
    let s2 := chans.foldl (fun t p => t.asbChan stack p) s1
    let fails := r.slots.map BitVec.toNat
    let s3 := s2.modPages fun p =>
      { p with
          use := p.use.filter fun u => slotStack u.1 != stack || (u.2 == .withdrawn && (!s2.slotWorks u.1 || fails.contains u.1))
          slots := p.slots.filter fun u => slotStack u.1 != stack, lost := p.lost.filter fun n => slotStack n != stack }
    let s4 := fails.foldl (fun t n => t.setUse n .withdrawn) s3
    let after := s4.stackWithdrawn stack
    (s4.setAsb stack { st := 3, awns := awns.length, channels := chans.length, withdrawn := after,
                       restored := before - after }).lowCheck

/-- LBIST_DONE (R427). -/
def execLbistDone (r : LbistOutcome) (s : State) : Host.Outcome State Fault Refusal := s.seal (s.lbistEnd r)

/-- ASB_DONE (R428). -/
def execAsbDone (stack : BitVec 4) (r : AsbOutcome) (s : State) : Host.Outcome State Fault Refusal :=
  s.seal (s.asbEnd stack.toNat r)

end Sys2Proof.Machine
end

