-- ==== Sys2Proof/Machine/Dispatch.lean ====
section
/-! DEFINITION. The meaning of every command: one arm per constructor, each a direct call of one meaning. -/

namespace Sys2Proof.Machine

/-- The effect of a command on everything but the queue. -/
def exec (i : Instr) (s : State) : Host.Outcome State Fault Refusal :=
  match i with
  | .nop sq d => Sys2Proof.Machine.execNop sq d s
  | .seqOpen sq d => Sys2Proof.Machine.execSeqOpen sq d s
  | .seqFork sq d => Sys2Proof.Machine.execSeqFork sq d s
  | .seqTrim sq d => Sys2Proof.Machine.execSeqTrim sq d s
  | .seqClose sq d => Sys2Proof.Machine.execSeqClose sq d s
  | .kvAppend sq d => Sys2Proof.Machine.execKvAppend sq d s
  | .kvAppendLayer sq d => Sys2Proof.Machine.execKvAppendLayer sq d s
  | .attend sq d => Sys2Proof.Machine.execAttend sq d s
  | .winnow sq d => Sys2Proof.Machine.execWinnow sq d s
  | .prefixFind sq d => Sys2Proof.Machine.execPrefixFind sq d s
  | .prefixAdd sq d => Sys2Proof.Machine.execPrefixAdd sq d s
  | .prefixDrop sq d => Sys2Proof.Machine.execPrefixDrop sq d s
  | .pageSwapOut sq d => Sys2Proof.Machine.execPageSwapOut sq d s
  | .pageSwapIn sq d => Sys2Proof.Machine.execPageSwapIn sq d s
  | .pageMigrateOut sq d => Sys2Proof.Machine.execPageMigrateOut sq d s
  | .pageMigrateIn sq d => Sys2Proof.Machine.execPageMigrateIn sq d s
  | .pageMigrateMove sq d => Sys2Proof.Machine.execPageMigrateMove sq d s
  | .pageView sq d => Sys2Proof.Machine.execPageView sq d s
  | .pageUnview sq d => Sys2Proof.Machine.execPageUnview sq d s
  | .maskPut sq d => Sys2Proof.Machine.execMaskPut sq d s
  | .maskDrop sq d => Sys2Proof.Machine.execMaskDrop sq d s
  | .tableBuild sq d => Sys2Proof.Machine.execTableBuild sq d s
  | .ringJoin sq d => Sys2Proof.Machine.execRingJoin sq d s
  | .ringLeave sq d => Sys2Proof.Machine.execRingLeave sq d s
  | .fence sq d => Sys2Proof.Machine.execFence sq d s
  | .sqTailDoorbell sq tail => Sys2Proof.Machine.execSqTailDoorbell sq tail s
  | .cqHeadDoorbell cq head => Sys2Proof.Machine.execCqHeadDoorbell cq head s
  | .descriptorFetch sq => Sys2Proof.Machine.execDescriptorFetch sq s
  | .commandAdmit sq => Sys2Proof.Machine.execCommandAdmit sq s
  | .commandWaitLimit id => Sys2Proof.Machine.execCommandWaitLimit id s
  | .commandCommit id => Sys2Proof.Machine.execCommandCommit id s
  | .sheafBuild slice => Sys2Proof.Machine.execSheafBuild slice s
  | .turnEnd tile overrunNs => Sys2Proof.Machine.execTurnEnd tile overrunNs s
  | .itemStart tag => Sys2Proof.Machine.execItemStart tag s
  | .itemOverrun tag => Sys2Proof.Machine.execItemOverrun tag s
  | .itemEnd tag => Sys2Proof.Machine.execItemEnd tag s
  | .preemptWait tag => Sys2Proof.Machine.execPreemptWait tag s
  | .stripeEnd stripeTag r => Sys2Proof.Machine.execStripeEnd stripeTag r s
  | .refreshDue bp => Sys2Proof.Machine.execRefreshDue bp s
  | .refreshManagement bp => Sys2Proof.Machine.execRefreshManagement bp s
  | .sweep awn r => Sys2Proof.Machine.execSweep awn r s
  | .tileSweep tile r => Sys2Proof.Machine.execTileSweep tile r s
  | .checkerSweep chk r => Sys2Proof.Machine.execCheckerSweep chk r s
  | .checkerLate u => Sys2Proof.Machine.execCheckerLate u s
  | .scrub slot uncorrected => Sys2Proof.Machine.execScrub slot uncorrected s
  | .patrol slot r => Sys2Proof.Machine.execPatrol slot r s
  | .patrolSuspectVerify slot r => Sys2Proof.Machine.execPatrolSuspectVerify slot r s
  | .indexRebalance bank => Sys2Proof.Machine.execIndexRebalance bank s
  | .indexSweep => Sys2Proof.Machine.execIndexSweep s
  | .preclean page => Sys2Proof.Machine.execPreclean page s
  | .tierFlushReadDone id => Sys2Proof.Machine.execTierFlushReadDone id s
  | .tierTransferDone id page dmaOk => Sys2Proof.Machine.execTierTransferDone id page dmaOk s
  | .tierLate id page limit => Sys2Proof.Machine.execTierLate id page limit s
  | .remoteReleaseTimeout node page => Sys2Proof.Machine.execRemoteReleaseTimeout node page s
  | .moveFinalTimeout index => Sys2Proof.Machine.execMoveFinalTimeout index s
  | .moveQueryTimer index => Sys2Proof.Machine.execMoveQueryTimer index s
  | .cxlMemRead addr uncorrected => Sys2Proof.Machine.execCxlMemRead addr uncorrected s
  | .cxlMemWrite addr data => Sys2Proof.Machine.execCxlMemWrite addr data s
  | .h2dSnoop addr => Sys2Proof.Machine.execH2dSnoop addr s
  | .hdmDecoderCommit base size ways => Sys2Proof.Machine.execHdmDecoderCommit base size ways s
  | .viral => Sys2Proof.Machine.execViral s
  | .ideIntegrityFailure stream => Sys2Proof.Machine.execIdeIntegrityFailure stream s
  | .linkTrained width fullSpeed => Sys2Proof.Machine.execLinkTrained width fullSpeed s
  | .fwLoadChunk offset length reserved data => Sys2Proof.Machine.execFwLoadChunk offset length reserved data s
  | .fwLoadDma addr length offset => Sys2Proof.Machine.execFwLoadDma addr length offset s
  | .fwStart length => Sys2Proof.Machine.execFwStart length s
  | .fwVerifyDone coresOk => Sys2Proof.Machine.execFwVerifyDone coresOk s
  | .fwAbort => Sys2Proof.Machine.execFwAbort s
  | .certLoad length bundle => Sys2Proof.Machine.execCertLoad length bundle s
  | .bootStatus viaI3c => Sys2Proof.Machine.execBootStatus viaI3c s
  | .pdAccess req => Sys2Proof.Machine.execPdAccess req s
  | .firmwareRunning b => Sys2Proof.Machine.execFirmwareRunning b s
  | .spdmRequest t r => Sys2Proof.Machine.execSpdmRequest t r s
  | .getMeasurements t index signed nonce => Sys2Proof.Machine.execGetMeasurements t index signed nonce s
  | .cxlIdeKm session stream m => Sys2Proof.Machine.execCxlIdeKm session stream m s
  | .doeDiscovery index => Sys2Proof.Machine.execDoeDiscovery index s
  | .cdatRead handle => Sys2Proof.Machine.execCdatRead handle s
  | .mctpControl m => Sys2Proof.Machine.execMctpControl m s
  | .pdRequest ch req => Sys2Proof.Machine.execPdRequest ch req s
  | .cmdEffect k => Sys2Proof.Machine.execCmdEffect k s
  | .drainApply => Sys2Proof.Machine.execDrainApply s
  | .drainWaitLimit => Sys2Proof.Machine.execDrainWaitLimit s
  | .createSq ch => Sys2Proof.Machine.execCreateSq ch s
  | .deleteSq ch => Sys2Proof.Machine.execDeleteSq ch s
  | .deleteSqDone sq => Sys2Proof.Machine.execDeleteSqDone sq s
  | .createCq ch => Sys2Proof.Machine.execCreateCq ch s
  | .deleteCq ch => Sys2Proof.Machine.execDeleteCq ch s
  | .qpConnect ch => Sys2Proof.Machine.execQpConnect ch s
  | .qpListen ch => Sys2Proof.Machine.execQpListen ch s
  | .qpDisconnect ch => Sys2Proof.Machine.execQpDisconnect ch s
  | .qpReset ch => Sys2Proof.Machine.execQpReset ch s
  | .domainCreate ch dom => Sys2Proof.Machine.execDomainCreate ch dom s
  | .domainTeardown ch dom => Sys2Proof.Machine.execDomainTeardown ch dom s
  | .teardownDone dom => Sys2Proof.Machine.execTeardownDone dom s
  | .domainDelete ch dom => Sys2Proof.Machine.execDomainDelete ch dom s
  | .profileCommit ch => Sys2Proof.Machine.execProfileCommit ch s
  | .scoreProgram ch entry value => Sys2Proof.Machine.execScoreProgram ch entry value s
  | .slice ch n value => Sys2Proof.Machine.execSlice ch n value s
  | .mapEpochCurrent ch v => Sys2Proof.Machine.execMapEpochCurrent ch v s
  | .mapEpochOldestLive ch v => Sys2Proof.Machine.execMapEpochOldestLive ch v s
  | .partitionMode ch v => Sys2Proof.Machine.execPartitionMode ch v s
  | .dmaRegion ch dom n v => Sys2Proof.Machine.execDmaRegion ch dom n v s
  | .shaperFabric ch dom v => Sys2Proof.Machine.execShaperFabric ch dom v s
  | .shaperTier ch dom v => Sys2Proof.Machine.execShaperTier ch dom v s
  | .xtsKey ch dom key => Sys2Proof.Machine.execXtsKey ch dom key s
  | .fabricKey ch dom key => Sys2Proof.Machine.execFabricKey ch dom key s
  | .mgmtFabricKey ch key => Sys2Proof.Machine.execMgmtFabricKey ch key s
  | .hostTierBase ch dom v => Sys2Proof.Machine.execHostTierBase ch dom v s
  | .hostTierUnits ch dom v => Sys2Proof.Machine.execHostTierUnits ch dom v s
  | .hintFlags ch dom v => Sys2Proof.Machine.execHintFlags ch dom v s
  | .groupMembers ch members => Sys2Proof.Machine.execGroupMembers ch members s
  | .remoteHoldRelease ch v => Sys2Proof.Machine.execRemoteHoldRelease ch v s
  | .moveAbandon ch v => Sys2Proof.Machine.execMoveAbandon ch v s
  | .shadowStart ch => Sys2Proof.Machine.execShadowStart ch s
  | .shadowTakeover ch => Sys2Proof.Machine.execShadowTakeover ch s
  | .shadowAbandon ch => Sys2Proof.Machine.execShadowAbandon ch s
  | .shadowReset ch => Sys2Proof.Machine.execShadowReset ch s
  | .errnClear ch => Sys2Proof.Machine.execErrnClear ch s
  | .faultInject ch v => Sys2Proof.Machine.execFaultInject ch v s
  | .sourceReaction ch n v => Sys2Proof.Machine.execSourceReaction ch n v s
  | .lbistStart ch v => Sys2Proof.Machine.execLbistStart ch v s
  | .lbistDone r => Sys2Proof.Machine.execLbistDone r s
  | .asbPrepare ch stack => Sys2Proof.Machine.execAsbPrepare ch stack s
  | .asbStart ch stack => Sys2Proof.Machine.execAsbStart ch stack s
  | .asbDone stack r => Sys2Proof.Machine.execAsbDone stack r s
  | .asbRelease ch stack => Sys2Proof.Machine.execAsbRelease ch stack s
  | .mgmtRestart ch => Sys2Proof.Machine.execMgmtRestart ch s
  | .mgmtKick => Sys2Proof.Machine.execMgmtKick s
  | .minSvnRaise ch v => Sys2Proof.Machine.execMinSvnRaise ch v s
  | .sampleClear ch => Sys2Proof.Machine.execSampleClear ch s
  | .eventRingHead ch v => Sys2Proof.Machine.execEventRingHead ch v s
  | .eventRingReconfig => Sys2Proof.Machine.execEventRingReconfig s
  | .eventFrame => Sys2Proof.Machine.execEventFrame s
  | .queueSample delays => Sys2Proof.Machine.execQueueSample delays s
  | .faultEvent f => Sys2Proof.Machine.execFaultEvent f s
  | .spareMap u => Sys2Proof.Machine.execSpareMap u s
  | .channelCopySwitch stack ch => Sys2Proof.Machine.execChannelCopySwitch stack ch s
  | .chipReset => Sys2Proof.Machine.execChipReset s
  | .errnPulseEnd => Sys2Proof.Machine.execErrnPulseEnd s
  | .islandLinkTimeout receiver => Sys2Proof.Machine.execIslandLinkTimeout receiver s
  | .clockCheck deviating => Sys2Proof.Machine.execClockCheck deviating s
  | .mgmtHang r => Sys2Proof.Machine.execMgmtHang r s
  | .mgmtRestarted => Sys2Proof.Machine.execMgmtRestarted s
  | .tempReading r => Sys2Proof.Machine.execTempReading r s
  | .tileFrequencyStepDown tile => Sys2Proof.Machine.execTileFrequencyStepDown tile s
  | .pwrEnHigh vinMv => Sys2Proof.Machine.execPwrEnHigh vinMv s
  | .pwrGood => Sys2Proof.Machine.execPwrGood s
  | .pwrEnLow => Sys2Proof.Machine.execPwrEnLow s
  | .brownOut => Sys2Proof.Machine.execBrownOut s
  | .vinLow => Sys2Proof.Machine.execVinLow s
  | .vinOver => Sys2Proof.Machine.execVinOver s
  | .inputOverCurrent => Sys2Proof.Machine.execInputOverCurrent s
  | .railFault rail => Sys2Proof.Machine.execRailFault rail s
  | .rstNLow => Sys2Proof.Machine.execRstNLow s
  | .rstNRelease => Sys2Proof.Machine.execRstNRelease s
  | .perstN => Sys2Proof.Machine.execPerstN s
  | .cxlReset => Sys2Proof.Machine.execCxlReset s
  | .linkDown => Sys2Proof.Machine.execLinkDown s
  | .warmResetEntry => Sys2Proof.Machine.execWarmResetEntry s
  | .firmwareStartAfterReset b => Sys2Proof.Machine.execFirmwareStartAfterReset b s
  | .xntWrite p => Sys2Proof.Machine.execXntWrite p s
  | .xntWriteImm p => Sys2Proof.Machine.execXntWriteImm p s
  | .readReq p => Sys2Proof.Machine.execReadReq p s
  | .readResp p => Sys2Proof.Machine.execReadResp p s
  | .xntAck p => Sys2Proof.Machine.execXntAck p s
  | .xntNak p => Sys2Proof.Machine.execXntNak p s
  | .rnr p => Sys2Proof.Machine.execRnr p s
  | .refusalAck p => Sys2Proof.Machine.execRefusalAck p s
  | .connect p => Sys2Proof.Machine.execConnect p s
  | .connectReply p => Sys2Proof.Machine.execConnectReply p s
  | .connectRefuse p => Sys2Proof.Machine.execConnectRefuse p s
  | .disconnect p => Sys2Proof.Machine.execDisconnect p s
  | .disconnectAck p => Sys2Proof.Machine.execDisconnectAck p s
  | .retransmitTimeout qp psn => Sys2Proof.Machine.execRetransmitTimeout qp psn s
  | .ackDelay qp => Sys2Proof.Machine.execAckDelay qp s
  | .ratePeriod qp => Sys2Proof.Machine.execRatePeriod qp s
  | .pathHolddown qp path => Sys2Proof.Machine.execPathHolddown qp path s
  | .connectRetry qp => Sys2Proof.Machine.execConnectRetry qp s
  | .drainLimit qp => Sys2Proof.Machine.execDrainLimit qp s
  | .psnGuard qp => Sys2Proof.Machine.execPsnGuard qp s
  | .rnrResend qp psn => Sys2Proof.Machine.execRnrResend qp psn s
  | .rnrLimit qp psn => Sys2Proof.Machine.execRnrLimit qp psn s
  | .odpBind qp psn => Sys2Proof.Machine.execOdpBind qp psn s
  | .odpStallLimit qp psn => Sys2Proof.Machine.execOdpStallLimit qp psn s
  | .revocationComplete rkey => Sys2Proof.Machine.execRevocationComplete rkey s
  | .rkeyFree rkey => Sys2Proof.Machine.execRkeyFree rkey s
  | .arpRequest subport v6 addrs vlan => Sys2Proof.Machine.execArpRequest subport v6 addrs vlan s
  | .icmpEcho subport v6 addrs data => Sys2Proof.Machine.execIcmpEcho subport v6 addrs data s
  | .holdOffer qp m => Sys2Proof.Machine.execHoldOffer qp m s
  | .holdReady qp m => Sys2Proof.Machine.execHoldReady qp m s
  | .holdCommit qp m => Sys2Proof.Machine.execHoldCommit qp m s
  | .holdDone qp m => Sys2Proof.Machine.execHoldDone qp m s
  | .holdRelease qp m => Sys2Proof.Machine.execHoldRelease qp m s
  | .released qp m => Sys2Proof.Machine.execReleased qp m s
  | .moveBegin qp m => Sys2Proof.Machine.execMoveBegin qp m s
  | .moveReady qp m => Sys2Proof.Machine.execMoveReady qp m s
  | .moveFinal qp m => Sys2Proof.Machine.execMoveFinal qp m s
  | .moveDone qp m => Sys2Proof.Machine.execMoveDone qp m s
  | .moveQuery qp m => Sys2Proof.Machine.execMoveQuery qp m s
  | .refuse qp m => Sys2Proof.Machine.execRefuse qp m s
  | .ringHello qp m => Sys2Proof.Machine.execRingHello qp m s
  | .stook qp m => Sys2Proof.Machine.execStook qp m s
  | .credit qp m => Sys2Proof.Machine.execCredit qp m s
  | .lapMark qp m => Sys2Proof.Machine.execLapMark qp m s
  | .lapCommit qp m => Sys2Proof.Machine.execLapCommit qp m s
  | .lapAbort qp m => Sys2Proof.Machine.execLapAbort qp m s
  | .ringStop qp m => Sys2Proof.Machine.execRingStop qp m s
  | .ringEnd qp m => Sys2Proof.Machine.execRingEnd qp m s
  | .ringPulse => Sys2Proof.Machine.execRingPulse s
  | .ringIdleLimit qp => Sys2Proof.Machine.execRingIdleLimit qp s
  | .ringJoinLimit id => Sys2Proof.Machine.execRingJoinLimit id s
  | .shadowHello qp m => Sys2Proof.Machine.execShadowHello qp m s
  | .shadowCmd qp m => Sys2Proof.Machine.execShadowCmd qp m s
  | .shadowCommit qp m => Sys2Proof.Machine.execShadowCommit qp m s
  | .shadowEnd qp m => Sys2Proof.Machine.execShadowEnd qp m s
  | .recodeNarrow dom seq plane ordinal => Sys2Proof.Machine.execRecodeNarrow dom seq plane ordinal s
  | .shaperTick dtNs => Sys2Proof.Machine.execShaperTick dtNs s
  | .interfaceSlot stack k => Sys2Proof.Machine.execInterfaceSlot stack k s
  | .granuleZeroFillDone tile => Sys2Proof.Machine.execGranuleZeroFillDone tile s
  | .refreshDone bp => Sys2Proof.Machine.execRefreshDone bp s
  | .subportLinkChange n up => Sys2Proof.Machine.execSubportLinkChange n up s
  | .vinDropout => Sys2Proof.Machine.execVinDropout s
  | .helloHoldExpiry qp => Sys2Proof.Machine.execHelloHoldExpiry qp s

end Sys2Proof.Machine
end

