-- ==== Sys2Proof/WellFormed.lean ====
section
/-! DEFINITION. Which commands name units that exist: stacks, awns, tiles, slots, and byte strings of a fixed size. A
command that is not well formed stands for no event of the node. -/

namespace Sys2Proof

/-- Awn stacks are numbered 0 to 11 (R27). -/
def stackOk (n : BitVec 4) : Bool := decide (n.toNat < 12)

/-- Page slots are numbered 0 to 22,020,095 (R27). -/
def slotOk (n : BitVec 25) : Bool := decide (n.toNat < 22020096)

/-- Physical tiles are numbered 0 to 71 (R139). -/
def tileOk (n : BitVec 7) : Bool := decide (n.toNat < 72)

/-- An awn is named as AWN_SELECT names it: stack in [3:0], physical channel in [13:8], awn in [21:16] (R108). -/
def awnOk (u : BitVec 32) : Bool :=
  decide ((u.extractLsb' 0 4).toNat < 12) && decide ((u.extractLsb' 8 6).toNat < 34)
    && decide ((u.extractLsb' 16 6).toNat < 34)
    && u.extractLsb' 4 4 == 0 && u.extractLsb' 14 2 == 0 && u.extractLsb' 22 10 == 0

/-- A bank pair lies in one of the 12 stacks (R26). -/
def bankPairOk (b : BankPair) : Bool := stackOk b.stack

/-- The husk tag of a packet is 16 bytes (R246). -/
def rxOk (p : RxPacket) : Bool := p.tag.length == 16

/-- An SPDM nonce is 32 bytes (R378). -/
def nonceOk (n : List Byte) : Bool := n.length == 32

/-- A unit that a spare may replace (R107, R157). -/
def spareOk : SpareUnit → Bool
  | .awn u => awnOk u
  | .tile t => tileOk t

/-- A unit whose sweep may be late (R334). -/
def lateOk : LateUnit → Bool
  | .awn u => awnOk u
  | .tile t => tileOk t
  | .shared _ => true

/-- An SPDM request carries nonces of 32 bytes (R378). -/
def spdmOk : SpdmReq → Bool
  | .challenge _ n => nonceOk n
  | _ => true

/-- Outcomes of a stack test name units of that stack (R428). -/
def asbOk (stack : BitVec 4) (r : AsbOutcome) : Bool :=
  stackOk stack && r.awns.all (fun u => awnOk u && u.extractLsb' 0 4 == stack)
    && r.channels.all (fun c => decide (c.toNat < 34))
    && r.slots.all (fun n => slotOk n && n.toNat / 1835008 == stack.toNat)

/-- Readings name stacks that exist (R421). -/
def readingsOk (r : Readings) : Bool :=
  r.cores.all (fun p => stackOk p.1) && r.bases.all (fun p => stackOk p.1)

/-- The command names units that exist. -/
def Instr.wellFormed : Instr → Bool
  | .nop _ _ => true
  | .seqOpen _ _ => true
  | .seqFork _ _ => true
  | .seqTrim _ _ => true
  | .seqClose _ _ => true
  | .kvAppend _ _ => true
  | .kvAppendLayer _ _ => true
  | .attend _ _ => true
  | .winnow _ _ => true
  | .prefixFind _ _ => true
  | .prefixAdd _ _ => true
  | .prefixDrop _ _ => true
  | .pageSwapOut _ _ => true
  | .pageSwapIn _ _ => true
  | .pageMigrateOut _ _ => true
  | .pageMigrateIn _ _ => true
  | .pageMigrateMove _ _ => true
  | .pageView _ _ => true
  | .pageUnview _ _ => true
  | .maskPut _ _ => true
  | .maskDrop _ _ => true
  | .tableBuild _ _ => true
  | .ringJoin _ _ => true
  | .ringLeave _ _ => true
  | .fence _ _ => true
  | .sqTailDoorbell _ _ => true
  | .cqHeadDoorbell _ _ => true
  | .descriptorFetch _ => true
  | .commandAdmit _ => true
  | .commandWaitLimit _ => true
  | .commandCommit _ => true
  | .sheafBuild _ => true
  | .turnEnd _ _ => true
  | .itemStart _ => true
  | .itemOverrun _ => true
  | .itemEnd _ => true
  | .preemptWait _ => true
  | .stripeEnd _ _ => true
  | .refreshDue bp => bankPairOk bp
  | .refreshManagement bp => bankPairOk bp
  | .sweep awn _ => awnOk awn
  | .tileSweep tile _ => tileOk tile
  | .checkerSweep _ _ => true
  | .checkerLate u => lateOk u
  | .scrub slot _ => slotOk slot
  | .patrol slot _ => slotOk slot
  | .patrolSuspectVerify slot _ => slotOk slot
  | .indexRebalance _ => true
  | .indexSweep => true
  | .preclean _ => true
  | .tierFlushReadDone _ => true
  | .tierTransferDone _ _ _ => true
  | .tierLate _ _ _ => true
  | .remoteReleaseTimeout _ _ => true
  | .moveFinalTimeout _ => true
  | .moveQueryTimer _ => true
  | .cxlMemRead _ _ => true
  | .cxlMemWrite _ _ => true
  | .h2dSnoop _ => true
  | .hdmDecoderCommit _ _ _ => true
  | .viral => true
  | .ideIntegrityFailure _ => true
  | .linkTrained _ _ => true
  | .fwLoadChunk _ _ _ _ => true
  | .fwLoadDma _ _ _ => true
  | .fwStart _ => true
  | .fwVerifyDone _ => true
  | .fwAbort => true
  | .certLoad _ _ => true
  | .bootStatus _ => true
  | .pdAccess _ => true
  | .firmwareRunning _ => true
  | .spdmRequest _ r => spdmOk r
  | .getMeasurements _ _ _ nonce => nonceOk nonce
  | .cxlIdeKm _ _ _ => true
  | .doeDiscovery _ => true
  | .cdatRead _ => true
  | .mctpControl _ => true
  | .pdRequest _ _ => true
  | .cmdEffect _ => true
  | .drainApply => true
  | .drainWaitLimit => true
  | .createSq _ => true
  | .deleteSq _ => true
  | .deleteSqDone _ => true
  | .createCq _ => true
  | .deleteCq _ => true
  | .qpConnect _ => true
  | .qpListen _ => true
  | .qpDisconnect _ => true
  | .qpReset _ => true
  | .domainCreate _ _ => true
  | .domainTeardown _ _ => true
  | .teardownDone _ => true
  | .domainDelete _ _ => true
  | .profileCommit _ => true
  | .scoreProgram _ _ _ => true
  | .slice _ _ _ => true
  | .mapEpochCurrent _ _ => true
  | .mapEpochOldestLive _ _ => true
  | .partitionMode _ _ => true
  | .dmaRegion _ _ _ _ => true
  | .shaperFabric _ _ _ => true
  | .shaperTier _ _ _ => true
  | .xtsKey _ _ _ => true
  | .fabricKey _ _ _ => true
  | .mgmtFabricKey _ _ => true
  | .hostTierBase _ _ _ => true
  | .hostTierUnits _ _ _ => true
  | .hintFlags _ _ _ => true
  | .groupMembers _ _ => true
  | .remoteHoldRelease _ _ => true
  | .moveAbandon _ _ => true
  | .shadowStart _ => true
  | .shadowTakeover _ => true
  | .shadowAbandon _ => true
  | .shadowReset _ => true
  | .errnClear _ => true
  | .faultInject _ _ => true
  | .sourceReaction _ _ _ => true
  | .lbistStart _ _ => true
  | .lbistDone _ => true
  | .asbPrepare _ stack => stackOk stack
  | .asbStart _ stack => stackOk stack
  | .asbDone stack r => asbOk stack r
  | .asbRelease _ stack => stackOk stack
  | .mgmtRestart _ => true
  | .mgmtKick => true
  | .minSvnRaise _ _ => true
  | .sampleClear _ => true
  | .eventRingHead _ _ => true
  | .eventRingReconfig => true
  | .eventFrame => true
  | .queueSample _ => true
  | .faultEvent _ => true
  | .spareMap u => spareOk u
  | .channelCopySwitch stack _ => stackOk stack
  | .chipReset => true
  | .errnPulseEnd => true
  | .islandLinkTimeout _ => true
  | .clockCheck _ => true
  | .mgmtHang _ => true
  | .mgmtRestarted => true
  | .tempReading r => readingsOk r
  | .tileFrequencyStepDown tile => tileOk tile
  | .pwrEnHigh _ => true
  | .pwrGood => true
  | .pwrEnLow => true
  | .brownOut => true
  | .vinLow => true
  | .vinOver => true
  | .inputOverCurrent => true
  | .railFault _ => true
  | .rstNLow => true
  | .rstNRelease => true
  | .perstN => true
  | .cxlReset => true
  | .linkDown => true
  | .warmResetEntry => true
  | .firmwareStartAfterReset _ => true
  | .xntWrite p => rxOk p
  | .xntWriteImm p => rxOk p
  | .readReq p => rxOk p
  | .readResp p => rxOk p
  | .xntAck p => rxOk p
  | .xntNak p => rxOk p
  | .rnr p => rxOk p
  | .refusalAck p => rxOk p
  | .connect p => rxOk p
  | .connectReply p => rxOk p
  | .connectRefuse p => rxOk p
  | .disconnect p => rxOk p
  | .disconnectAck p => rxOk p
  | .retransmitTimeout _ _ => true
  | .ackDelay _ => true
  | .ratePeriod _ => true
  | .pathHolddown _ _ => true
  | .connectRetry _ => true
  | .drainLimit _ => true
  | .psnGuard _ => true
  | .rnrResend _ _ => true
  | .rnrLimit _ _ => true
  | .odpBind _ _ => true
  | .odpStallLimit _ _ => true
  | .revocationComplete _ => true
  | .rkeyFree _ => true
  | .arpRequest _ _ _ _ => true
  | .icmpEcho _ _ _ _ => true
  | .holdOffer _ _ => true
  | .holdReady _ _ => true
  | .holdCommit _ _ => true
  | .holdDone _ _ => true
  | .holdRelease _ _ => true
  | .released _ _ => true
  | .moveBegin _ _ => true
  | .moveReady _ _ => true
  | .moveFinal _ _ => true
  | .moveDone _ _ => true
  | .moveQuery _ _ => true
  | .refuse _ _ => true
  | .ringHello _ _ => true
  | .stook _ _ => true
  | .credit _ _ => true
  | .lapMark _ _ => true
  | .lapCommit _ _ => true
  | .lapAbort _ _ => true
  | .ringStop _ _ => true
  | .ringEnd _ _ => true
  | .ringPulse => true
  | .ringIdleLimit _ => true
  | .ringJoinLimit _ => true
  | .shadowHello _ _ => true
  | .shadowCmd _ _ => true
  | .shadowCommit _ _ => true
  | .shadowEnd _ _ => true
  | .recodeNarrow _ _ _ _ => true
  | .shaperTick _ => true
  | .interfaceSlot stack _ => stackOk stack
  | .granuleZeroFillDone tile => tileOk tile
  | .refreshDone bp => bankPairOk bp
  | .subportLinkChange _ _ => true
  | .vinDropout => true
  | .helloHoldExpiry _ => true

end Sys2Proof
end

