-- ==== Sys2Proof/Safety.lean ====
section
/-! DEFINITION. What a safe state is, and the words in which claims about commands are stated: which commands submit a
descriptor, write one dictionary entry, carry a SERVICE message or a packet, and when a channel serves a request. -/

namespace Sys2Proof.Machine

/-! ## Safe states -/

/-- A safe state: every memory is in canonical form, so that equal memories are equal data, and every waiting command names
units that exist. -/
def State.Inv (s : State) : Prop :=
  Memory.wf s.hostMem = true ∧ Memory.wf s.nodeMem = true ∧ Memory.wf s.boot.image = true
    ∧ ∀ c ∈ s.pending, c.wellFormed = true

/-- The state after `n` steps, where each of them answers a next state. -/
def State.run (s : State) : Nat → Option State
  | 0 => some s
  | n + 1 =>
    match step s with
    | .next t => t.run n
    | _ => none

/-- Nothing a reader of the two memories sees differs between two states. -/
def State.SameMemory (s t : State) : Prop :=
  ∀ a, Memory.read t.hostMem a = Memory.read s.hostMem a ∧ Memory.read t.nodeMem a = Memory.read s.nodeMem a

/-! ## Commands by kind -/

/-- The queue and the descriptor of a command that submits one (R178). -/
def submitted : Instr → Option (Nat × Desc)
  | .nop q d => some (q.toNat, rowDesc 0x00 0 0 d)
  | .seqOpen q d => some (q.toNat, rowDesc 0x01 0 0 d)
  | .seqFork q d => some (q.toNat, rowDesc 0x02 0 0 d)
  | .seqTrim q d => some (q.toNat, rowDesc 0x03 0 0 d)
  | .seqClose q d => some (q.toNat, rowDesc 0x04 0 0 d)
  | .kvAppend q d => some (q.toNat, rowDesc 0x10 0 0 d)
  | .kvAppendLayer q d => some (q.toNat, rowDesc 0x11 0 0 d)
  | .attend q d => some (q.toNat, rowDesc 0x20 0 0 d)
  | .winnow q d => some (q.toNat, rowDesc 0x21 0 0 d)
  | .prefixFind q d => some (q.toNat, rowDesc 0x30 0 0 d)
  | .prefixAdd q d => some (q.toNat, rowDesc 0x31 0 0 d)
  | .prefixDrop q d => some (q.toNat, rowDesc 0x32 0 0 d)
  | .pageSwapOut q d => some (q.toNat, rowDesc 0x40 0 0 d)
  | .pageSwapIn q d => some (q.toNat, rowDesc 0x41 0 0 d)
  | .pageMigrateOut q d => some (q.toNat, rowDesc 0x42 0 (moveBit ||| backBit) d)
  | .pageMigrateIn q d => some (q.toNat, rowDesc 0x42 backBit moveBit d)
  | .pageMigrateMove q d => some (q.toNat, rowDesc 0x42 moveBit 0 d)
  | .pageView q d => some (q.toNat, rowDesc 0x43 0 0 d)
  | .pageUnview q d => some (q.toNat, rowDesc 0x44 0 0 d)
  | .maskPut q d => some (q.toNat, rowDesc 0x50 0 maskOpBits d)
  | .maskDrop q d => some (q.toNat, rowDesc 0x50 (onesAt 384 1) maskOpBits d)
  | .tableBuild q d => some (q.toNat, rowDesc 0x51 0 0 d)
  | .ringJoin q d => some (q.toNat, rowDesc 0x60 0 0 d)
  | .ringLeave q d => some (q.toNat, rowDesc 0x61 0 0 d)
  | .fence q d => some (q.toNat, rowDesc 0x70 0 0 d)
  | _ => none

/-- One write of one entry: channel, domain named, index, subindex, value. -/
structure EntryWrite where
  ch : Chan
  dom : Nat
  idx : Nat
  sub : Nat
  value : List Byte
deriving DecidableEq, Repr

/-- The write that a command is (R394). -/
def entryWrite : Instr → Option EntryWrite
  | .createSq ch => some ⟨ch, 0, 0x4100, 4, [1]⟩
  | .deleteSq ch => some ⟨ch, 0, 0x4100, 4, [2]⟩
  | .createCq ch => some ⟨ch, 0, 0x4100, 4, [3]⟩
  | .deleteCq ch => some ⟨ch, 0, 0x4100, 4, [4]⟩
  | .qpConnect ch => some ⟨ch, 0, 0x6100, 3, [1]⟩
  | .qpListen ch => some ⟨ch, 0, 0x6100, 3, [2]⟩
  | .qpDisconnect ch => some ⟨ch, 0, 0x6100, 3, [3]⟩
  | .qpReset ch => some ⟨ch, 0, 0x6100, 3, [4]⟩
  | .domainCreate ch d => some ⟨ch, d.toNat, 0x7100, 2, [1]⟩
  | .domainTeardown ch d => some ⟨ch, d.toNat, 0x7100, 2, [2]⟩
  | .domainDelete ch d => some ⟨ch, d.toNat, 0x7100, 2, [3]⟩
  | .profileCommit ch => some ⟨ch, 0, 0x2000, 0x15, [1]⟩
  | .scoreProgram ch e v => some ⟨ch, 0, (scoreEntry e).1, (scoreEntry e).2, v⟩
  | .slice ch n v => some ⟨ch, 0, 0x4310, n.toNat, v⟩
  | .mapEpochCurrent ch v => some ⟨ch, 0, 0x4300, 1, leBytes 4 v.toNat⟩
  | .mapEpochOldestLive ch v => some ⟨ch, 0, 0x4300, 2, leBytes 4 v.toNat⟩
  | .partitionMode ch v => some ⟨ch, 0, 0x7000, 3, [v]⟩
  | .dmaRegion ch d n v => some ⟨ch, d.toNat, 0x3710, n.toNat, leBytes 16 v.toNat⟩
  | .shaperFabric ch d v => some ⟨ch, d.toNat, 0x7130, 0, leBytes 32 v.toNat⟩
  | .shaperTier ch d v => some ⟨ch, d.toNat, 0x7130, 1, leBytes 32 v.toNat⟩
  | .xtsKey ch d k => some ⟨ch, d.toNat, 0x7110, 1, k⟩
  | .fabricKey ch d k => some ⟨ch, d.toNat, 0x7110, 2, k⟩
  | .mgmtFabricKey ch k => some ⟨ch, 0, 0x7010, 1, k⟩
  | .hostTierBase ch d v => some ⟨ch, d.toNat, 0x3510, 1, leBytes 8 v.toNat⟩
  | .hostTierUnits ch d v => some ⟨ch, d.toNat, 0x3510, 2, leBytes 4 v.toNat⟩
  | .hintFlags ch d v => some ⟨ch, d.toNat, 0x3520, 2, leBytes 4 v.toNat⟩
  | .groupMembers ch m => some ⟨ch, 0, 0xA030, 2, m⟩
  | .remoteHoldRelease ch v => some ⟨ch, 0, 0x3500, 0xD, leBytes 2 v.toNat⟩
  | .moveAbandon ch v => some ⟨ch, 0, 0x6500, 1, leBytes 4 v.toNat⟩
  | .shadowStart ch => some ⟨ch, 0, 0x8400, 1, [1]⟩
  | .shadowTakeover ch => some ⟨ch, 0, 0x8400, 1, [2]⟩
  | .shadowAbandon ch => some ⟨ch, 0, 0x8400, 1, [3]⟩
  | .shadowReset ch => some ⟨ch, 0, 0x8400, 1, [4]⟩
  | .errnClear ch => some ⟨ch, 0, 0x8000, 4, [1]⟩
  | .faultInject ch v => some ⟨ch, 0, 0x8130, 1, leBytes 16 v.toNat⟩
  | .sourceReaction ch n v => some ⟨ch, 0, 0x8100, n.toNat, leBytes 4 v.toNat⟩
  | .lbistStart ch v => some ⟨ch, 0, 0x5000, 1, leBytes 8 v.toNat⟩
  | .asbPrepare ch n => some ⟨ch, 0, 0x5200, 1, leBytes 1 (n.toNat + 1 * 16)⟩
  | .asbStart ch n => some ⟨ch, 0, 0x5200, 1, leBytes 1 (n.toNat + 2 * 16)⟩
  | .asbRelease ch n => some ⟨ch, 0, 0x5200, 1, leBytes 1 (n.toNat + 3 * 16)⟩
  | .mgmtRestart ch => some ⟨ch, 0, 0x8300, 6, [1]⟩
  | .minSvnRaise ch v => some ⟨ch, 0, 0x1000, 7, leBytes 2 v.toNat⟩
  | .sampleClear ch => some ⟨ch, 0, 0x7300, 4, [1]⟩
  | .eventRingHead ch v => some ⟨ch, 0, 0x8200, 4, leBytes 4 v.toNat⟩
  | _ => none

/-- The packet of a command that is one, and the opcodes of its row (R243). -/
def packetRow : Instr → Option (RxPacket × (Nat → Bool))
  | .xntWrite p => some (p, fun op => op == 1 || op == 5 || op == 6 || !knownOp op)
  | .xntWriteImm p => some (p, (· == 2))
  | .readReq p => some (p, (· == 3))
  | .readResp p => some (p, (· == 4))
  | .xntAck p => some (p, (· == 0x10))
  | .xntNak p => some (p, (· == 0x11))
  | .rnr p => some (p, (· == 0x12))
  | .refusalAck p => some (p, (· == 0x13))
  | .connect p => some (p, (· == 0x20))
  | .connectReply p => some (p, (· == 0x21))
  | .connectRefuse p => some (p, (· == 0x22))
  | .disconnect p => some (p, (· == 0x23))
  | .disconnectAck p => some (p, (· == 0x24))
  | _ => none

/-- A packet passes the steps of R257 before the husk is opened and the opening itself (steps 1 to 5), and brings this
plaintext. -/
def State.Receives (s : State) (p : RxPacket) (payload : List Byte) : Prop :=
  s.portUp p.subport.toNat = true ∧ p.frameOk = true ∧ knownOp (bOp p.base) = true
    ∧ s.rxVersion (s.qp (bDstQp p.base)) p.base = true ∧ (s.qp (bDstQp p.base)).accepts p.base = true
    ∧ rxFrom (s.qp (bDstQp p.base)) p.base = true ∧ s.rxOpen (s.qp (bDstQp p.base)) p = some payload

/-- The state with the packet's frame counted by its sub-port, and the codewords that its FEC corrected and did not (R275). -/
def State.received (s : State) (p : RxPacket) : State :=
  s.modPort p.subport.toNat fun x =>
    { x with rx := x.rx + 1, fecCorrected := x.fecCorrected + p.fecCorrected.toNat
             fecUncorrected := x.fecUncorrected + p.fecUncorrected.toNat }

/-- The SERVICE row of a command: the QP it came by, the row's code, the message (R270). -/
def serviceRow : Instr → Option (Nat × Nat × SvcMsg)
  | .holdOffer q m => some (q.toNat, 0x01, m)
  | .holdReady q m => some (q.toNat, 0x02, m)
  | .holdDone q m => some (q.toNat, 0x03, m)
  | .holdCommit q m => some (q.toNat, 0x04, m)
  | .holdRelease q m => some (q.toNat, 0x05, m)
  | .released q m => some (q.toNat, 0x06, m)
  | .moveBegin q m => some (q.toNat, 0x08, m)
  | .moveReady q m => some (q.toNat, 0x09, m)
  | .moveFinal q m => some (q.toNat, 0x0A, m)
  | .moveDone q m => some (q.toNat, 0x0B, m)
  | .moveQuery q m => some (q.toNat, 0x0C, m)
  | .refuse q m => some (q.toNat, 0x0F, m)
  | .ringHello q m => some (q.toNat, 0x20, m)
  | .stook q m => some (q.toNat, 0x21, m)
  | .credit q m => some (q.toNat, 0x22, m)
  | .lapMark q m => some (q.toNat, 0x23, m)
  | .lapCommit q m => some (q.toNat, 0x24, m)
  | .lapAbort q m => some (q.toNat, 0x25, m)
  | .ringStop q m => some (q.toNat, 0x26, m)
  | .ringEnd q m => some (q.toNat, 0x27, m)
  | .shadowHello q m => some (q.toNat, 0x30, m)
  | .shadowCmd q m => some (q.toNat, 0x31, m)
  | .shadowCommit q m => some (q.toNat, 0x32, m)
  | .shadowEnd q m => some (q.toNat, 0x33, m)
  | _ => none

/-- Commands that store nothing in either memory, and post nothing: timers of the transport that only change a QP, ends of
item inputs, writes of the window, neighbours, and the like. -/
def quiet : Instr → Bool
  | .pathHolddown _ _ => true
  | .psnGuard _ => true
  | .rnrResend _ _ => true
  | .ratePeriod _ => true
  | .ackDelay _ => true
  | .revocationComplete _ => true
  | .rkeyFree _ => true
  | .arpRequest _ _ _ _ => true
  | .icmpEcho _ _ _ _ => true
  | .subportLinkChange _ _ => true
  | .shaperTick _ => true
  | .errnPulseEnd => true
  | .helloHoldExpiry _ => true
  | .ringPulse => true
  | .itemStart _ => true
  | .granuleZeroFillDone _ => true
  | .cxlMemWrite _ _ => true
  | .tileFrequencyStepDown _ => true
  | .descriptorFetch _ => true
  | _ => false

/-- The SVC header of a row: the message's header with the row's code (R270). -/
def rowHdr (svc : Nat) (m : SvcMsg) : BitVec 256 := (m.hdr &&& ~~~(0xFF#256)) ||| BitVec.ofNat 256 svc

/-! ## Requests -/

/-- The domain that a channel addresses: its own for a DATA QP, else the one named (R390). -/
def State.callerDom (s : State) (ch : Chan) (dom : Nat) : Nat :=
  match ch with
  | .dataQp n => (s.qp n.toNat).dom
  | _ => dom

/-- A request on the channel runs at once: the channel is open, the firmware serves, and no earlier request of the channel
waits (R349, R402). -/
def State.Serves (s : State) (ch : Chan) : Prop :=
  s.chanOpen ch = true ∧ s.mgmtUp = true ∧ s.inFlight ch < chanLimit ch ∧ (∀ w ∈ s.dict.waiting, w.ch ≠ ch)

/-- The request that one write is. -/
def State.writeReq (s : State) (w : EntryWrite) : PdReq :=
  { ch := w.ch, dom := s.callerDom w.ch w.dom,
    ops := [{ op := 2, idx := w.idx, sub := w.sub, len := w.value.length, value := w.value }] }

/-- The entry that a write names for its caller. -/
def State.writeKey (s : State) (w : EntryWrite) : PdKey := pdKey w.idx w.sub (s.callerDom w.ch w.dom)

/-- The answer to one write: its result with a status, and then whatever had waited for room (R399, R402). -/
def State.answer (t s : State) (w : EntryWrite) (st cause : Nat) : State :=
  (t.respond (s.writeReq w) 0 0 [pdResult w.idx w.sub st cause []]).settle

/-- A write passes the steps before its value is looked at (R437, steps 1 to 3): the channel serves it, the entry exists, the
caller has the right, and the entry's domain exists. -/
def State.MayWrite (s : State) (w : EntryWrite) : Prop :=
  s.Serves w.ch ∧ ∃ r, s.accessFail w.ch true (s.writeKey w) w.value = .ok r

end Sys2Proof.Machine
end

