-- ==== Sys2Proof/Certificates/Slice0/Obligations.lean ====
section
/-! DEFINITION. The statements about the model that are to be proved. -/

open Sys2Proof Sys2Proof.Machine

/-! ## The block and its queue -/

/-- A step takes the command at the front and applies its effect to the rest (log 1). With no command waiting the node idles:
that is the model's choice (log 1). -/
def Obligations.StepRunsFrontCommand : Prop :=
  (∀ (c : Instr) (rest : List Instr) (s : State), s.pending = c :: rest →
    step s = Sys2Proof.Machine.exec c { s with pending := rest })
  ∧ (∀ s : State, s.pending = [] → step s = .next s)

/-- Every command answers a next state, whatever the state is, and leaves the queue as it finds it. -/
def Obligations.EveryCommandAnswers : Prop :=
  ∀ (c : Instr) (s : State), ∃ t, Sys2Proof.Machine.exec c s = .next t ∧ t.pending = s.pending

/-- The state after reset is safe, and what reset leaves (R371, R387): the ROM awaits an image, nothing is loaded, the link is
down, no IDE stream is on. -/
def Obligations.ResetIsSafe : Prop :=
  State.reset.Inv
    ∧ (State.reset.boot.st = .awaitImage ∧ State.reset.bootWord = 1 ∧ State.reset.linkStatus = 0
      ∧ State.reset.resetCauseWord = 0 ∧ State.reset.alive = false ∧ State.reset.dmaOk = false
      ∧ State.reset.queues.sqs = [] ∧ State.reset.seqs.table = [] ∧ State.reset.pages.map = [] ∧ State.reset.dom.doms = [])

/-- Every step keeps a safe state safe; every step of a safe state answers a next state and takes the front command off; and
so a safe state works off its whole queue, whatever waits in it, and ends safe. -/
def Obligations.EveryStepKeepsSafety : Prop :=
  (∀ s t : State, s.Inv → step s = .next t → t.Inv)
  ∧ (∀ s : State, s.Inv → ∃ t, step s = .next t ∧ t.pending = s.pending.tail)
  ∧ (∀ s : State, s.Inv → ∃ t, s.run s.pending.length = some t ∧ t.Inv ∧ t.pending = [])

/-! ## Memory -/

/-- Bytes written read back in order, and no other byte changes; what a command leaves is what its effect wrote. A number's
little-endian bytes hold it again (R2). Two memories in canonical form that read the same everywhere are the same data. -/
def Obligations.WrittenBytesReadBack : Prop :=
  ((∀ (m : List Host.Cell) (l : List Byte) (a : Nat), Memory.readBytes (Memory.writeBytes m a l) a l.length = l)
  ∧ (∀ (m : List Host.Cell) (l : List Byte) (a x : Nat), x < a ∨ a + l.length ≤ x →
      Memory.read (Memory.writeBytes m a l) x = Memory.read m x)
  ∧ (∀ (m : List Host.Cell) (a n x : Nat), Memory.wf m = true →
      Memory.read (Memory.clear m a n) x = if a ≤ x ∧ x < a + n then 0 else Memory.read m x)
  ∧ (∀ (s t : State) (a : Nat), Memory.read (s.sealed t).hostMem a = Memory.read t.hostMem a
      ∧ Memory.read (s.sealed t).nodeMem a = Memory.read t.nodeMem a
      ∧ Memory.read (s.sealed t).boot.image a = Memory.read t.boot.image a))
  ∧ ((∀ n v : Nat, v < 256 ^ n → leNat (leBytes n v) = v) ∧ ∀ l : List Byte, leBytes l.length (leNat l) = l)
  ∧ (∀ m n : List Host.Cell, Memory.wf m = true → Memory.wf n = true → (∀ a, Memory.read m a = Memory.read n a) → m = n)

/-! ## Numbers and identifiers -/

/-- R4: serial comparison of numbers of n bits. -/
def Obligations.SerialComparison : Prop :=
  (∀ n a b : Nat, 0 < n → a < 2 ^ n → b < 2 ^ n →
    (newer n a b = true ↔ 1 ≤ ((a : Int) - b) % 2 ^ n ∧ ((a : Int) - b) % 2 ^ n ≤ 2 ^ (n - 1) - 1))
  ∧ (∀ n a : Nat, newer n a a = false)
  ∧ (∀ n a b : Nat, 0 < n → a < 2 ^ n → b < 2 ^ n → ((a : Int) - b) % 2 ^ n = 2 ^ (n - 1) → newer n a b = false)

/-- R36: the fields of a Sequence ID. -/
def Obligations.SequenceIdFields : Prop :=
  ∀ (i : Nat) (e : SeqEntry), i < 16777216 → e.gen < 65536 → e.dom < 4096 →
    fld (seqIdOf i e) 0 16 = e.gen ∧ fld (seqIdOf i e) 16 24 = i ∧ fld (seqIdOf i e) 40 8 = 0
      ∧ fld (seqIdOf i e) 48 12 = e.dom ∧ fld (seqIdOf i e) 60 4 = 0
      ∧ sidGen (seqIdOf i e) = e.gen ∧ sidIndex (seqIdOf i e) = i ∧ sidDom (seqIdOf i e) = e.dom

/-- R69: `rshift_rne` divides by a power of two and rounds to nearest, ties to even, for shifts up to 40; a longer shift
gives 0. -/
def Obligations.ShiftsRoundToNearestEven : Prop :=
  (∀ (v : Int) (s : Nat), s ≤ 40 → 2 * |v - rshiftRne v s * 2 ^ s| ≤ 2 ^ s)
  ∧ (∀ (v : Int) (s : Nat), s ≤ 40 → 2 * |v - rshiftRne v s * 2 ^ s| = 2 ^ s → rshiftRne v s % 2 = 0)
  ∧ (∀ (v : Int) (s : Nat), 40 < s → rshiftRne v s = 0)

/-- The merge of one row's partials does not depend on the order in which they arrive (R129): partials with different
FIRST_PAGE values merge to the same partial in every order, and one partial alone is its own merge. -/
def Obligations.PartialsMergeInAnyOrder : Prop :=
  (∀ l m : List Partial, l.Perm m → (l.map Partial.first).Nodup → treeMerge l = treeMerge m)
  ∧ (∀ p : Partial, treeMerge [p] = some p)

/-! ## Descriptors, doorbells, admission, commit -/

/-- The descriptor that each opcode row submits: the row's opcode in its low byte, the option bits that make it that row, and
every other bit as the submitter wrote it (R178, R184, R185). -/
def Obligations.RowDescriptorsSayTheirOpcode : Prop :=
  (∀ (op : Nat) (d : Desc) (k : Nat), op < 256 →
    dOp (rowDesc op 0 0 d) = op ∧ (8 ≤ k → (rowDesc op 0 0 d).getLsbD k = d.getLsbD k))
  ∧ (∀ d : Desc, dOp (rowDesc 0x42 0 (moveBit ||| backBit) d) = 0x42
      ∧ mMove (rowDesc 0x42 0 (moveBit ||| backBit) d) = false ∧ mBack (rowDesc 0x42 0 (moveBit ||| backBit) d) = false)
  ∧ (∀ d : Desc, dOp (rowDesc 0x42 backBit moveBit d) = 0x42
      ∧ mMove (rowDesc 0x42 backBit moveBit d) = false ∧ mBack (rowDesc 0x42 backBit moveBit d) = true)
  ∧ (∀ d : Desc, dOp (rowDesc 0x42 moveBit 0 d) = 0x42 ∧ mMove (rowDesc 0x42 moveBit 0 d) = true)
  ∧ (∀ d : Desc, dOp (rowDesc 0x50 0 maskOpBits d) = 0x50 ∧ maskOp (rowDesc 0x50 0 maskOpBits d) = 0)
  ∧ (∀ d : Desc, dOp (rowDesc 0x50 (onesAt 384 1) maskOpBits d) = 0x50
      ∧ maskOp (rowDesc 0x50 (onesAt 384 1) maskOpBits d) = 1)

/-- Every command that submits a descriptor (NOP, SEQ_OPEN, SEQ_FORK, SEQ_TRIM, SEQ_CLOSE, KV_APPEND, KV_APPEND_LAYER, ATTEND,
WINNOW, PREFIX_FIND, PREFIX_ADD, PREFIX_DROP, PAGE_SWAP_OUT, PAGE_SWAP_IN, the three PAGE_MIGRATE rows, PAGE_VIEW, PAGE_UNVIEW,
MASK_PUT, MASK_DROP, TABLE_BUILD, RING_JOIN, RING_LEAVE, FENCE), on a queue with nothing fetched. Admitted: on an ACTIVE queue with
an empty ring, where the front may be admitted and passes its checks, the CMD entries that govern it take their waiting values, it
is admitted with its reservations, starts, and runs as far as it can (R172, R173, R395; log 4, log 57). Refused: where a check
fails, the descriptor completes with its failure, and nothing else of the command remains (R173). Kept: where the front may not be
admitted yet, it waits fetched (R172). Not taken: an absent queue, or one that is not ACTIVE, counts it in DOORBELL_IGNORED (R168);
a HOST queue that the link gives no DMA is as it was. Behind others: what the ring holds is fetched first, and what is fetched is
admitted in ring order, each run before the next, up to the first that may not be admitted (R172). -/
def Obligations.SubmittedCommandIsAdmittedOrRefused : Prop :=
  (∀ (i : Instr) (s t : State) (n : Nat) (d : Desc) (q : Sq) (c : Cmd), submitted i = some (n, d) →
    aget s.queues.sqs n = some q → q.st = .active → (sqFabric q.cfg = true ∨ s.dmaOk = true) → q.fetched = [] → q.waiting = 0 →
    (s.submit n d).canAdmit n d = true →
    (((s.submit n d).modSq n fun x => { x with fetched := [] }).takeEntries (sqDom q.cfg)).admission
        ((((s.submit n d).modSq n fun x => { x with fetched := [] }).takeEntries (sqDom q.cfg)).newCmd n d
          ((q.head + 1) % sqDepth q.cfg))
        (sqFabric q.cfg) = .ok (t, c) →
    Sys2Proof.Machine.exec i s = .next (s.sealed (((t.startCmd c).lowCheck).runCmd s.sched.nextId)))
  ∧ (∀ (i : Instr) (s : State) (n : Nat) (d : Desc) (q : Sq) (f : Fail), submitted i = some (n, d) →
    aget s.queues.sqs n = some q → q.st = .active → (sqFabric q.cfg = true ∨ s.dmaOk = true) → q.fetched = [] → q.waiting = 0 →
    (s.submit n d).canAdmit n d = true →
    (((s.submit n d).modSq n fun x => { x with fetched := [] }).takeEntries (sqDom q.cfg)).admission
        ((((s.submit n d).modSq n fun x => { x with fetched := [] }).takeEntries (sqDom q.cfg)).newCmd n d
          ((q.head + 1) % sqDepth q.cfg))
        (sqFabric q.cfg) = .error f →
    Sys2Proof.Machine.exec i s = .next (s.sealed ((((((s.submit n d).modSq n fun x => { x with fetched := [] }).takeEntries
      (sqDom q.cfg)).failAdmission n (fld q.cfg 0 16) ((q.head + 1) % sqDepth q.cfg) d f).lowCheck).runCmd s.sched.nextId)))
  ∧ (∀ (i : Instr) (s : State) (n : Nat) (d : Desc) (q : Sq), submitted i = some (n, d) →
    aget s.queues.sqs n = some q → q.st = .active → (sqFabric q.cfg = true ∨ s.dmaOk = true) → q.fetched = [] → q.waiting = 0 →
    (s.submit n d).canAdmit n d = false →
    Sys2Proof.Machine.exec i s = .next (s.sealed (s.modSq n fun x =>
      { x with head := (q.head + 1) % sqDepth q.cfg, tail := (q.tail + 1) % sqDepth q.cfg,
               fetched := [(d, (q.head + 1) % sqDepth q.cfg)] })))
  ∧ (∀ (i : Instr) (s : State) (n : Nat) (d : Desc), submitted i = some (n, d) → aget s.queues.sqs n = none →
    Sys2Proof.Machine.exec i s = .next (s.sealed (s.bump 0x4000 8)))
  ∧ (∀ (i : Instr) (s : State) (n : Nat) (d : Desc) (q : Sq), submitted i = some (n, d) → aget s.queues.sqs n = some q →
    q.fetched = [] → (sqFabric q.cfg = true ∨ s.dmaOk = true) → q.st ≠ .active →
    Sys2Proof.Machine.exec i s = .next (s.sealed (s.bump 0x4000 8)))
  ∧ (∀ (i : Instr) (s : State) (n : Nat) (d : Desc) (q : Sq), submitted i = some (n, d) → aget s.queues.sqs n = some q →
    q.fetched = [] → sqFabric q.cfg = false → s.dmaOk = false →
    Sys2Proof.Machine.exec i s = .next (s.sealed s))
  ∧ (∀ (i : Instr) (s u : State) (n k : Nat) (d : Desc) (q : Sq), submitted i = some (n, d) → aget s.queues.sqs n = some q →
    q.st = .active → (sqFabric q.cfg = true ∨ s.dmaOk = true) → u = s.submit n d → k = (u.sqOf n).fetched.length →
    u = ((s.fetchAll n q.waiting).modSq n fun x =>
      { x with head := (x.head + 1) % sqDepth x.cfg, tail := (x.tail + 1) % sqDepth x.cfg,
               fetched := x.fetched ++ [(d, (x.head + 1) % sqDepth x.cfg)] })
    ∧ Sys2Proof.Machine.exec i s = .next (s.sealed (u.admitRun n k)))
  ∧ (∀ (s : State) (n k h : Nat) (d : Desc) (r : List (Desc × Nat)), (s.sqOf n).fetched = (d, h) :: r →
    (s.canAdmit n d = true → s.admitRun n (k + 1) =
      (((s.modSq n fun x => { x with fetched := r }).admitDesc n d h).runCmd s.sched.nextId).admitRun n k)
    ∧ (s.canAdmit n d = false → s.admitRun n (k + 1) = s))

/-- A command submitted to an ACTIVE queue with nothing before it, which is admitted and, its transfers, stripes and items run, is
ready to commit, commits: the effect of its opcode, then the commands that waited for it look again (R178). Of RING_JOIN and of
RING_LEAVE in a running ring the commit comes with a neighbour's message.

The effect that commits for each opcode (R178): SEQ_OPEN issues its sequence, SEQ_FORK its branch, SEQ_TRIM and SEQ_CLOSE
release, the appends write their tokens, ATTEND and WINNOW place their output, and so on. -/
def Obligations.SubmittedCommandCommitsItsEffect : Prop :=
  (∀ (i : Instr) (s u : State) (n : Nat) (d : Desc) (q : Sq) (c : Cmd), submitted i = some (n, d) →
    aget s.queues.sqs n = some q → q.st = .active → (sqFabric q.cfg = true ∨ s.dmaOk = true) → q.fetched = [] → q.waiting = 0 →
    (s.submit n d).canAdmit n d = true →
    u = ((((s.submit n d).admitFront n).runTransfers s.sched.nextId).runStripes s.sched.nextId).runItems s.sched.nextId →
    u.cmd s.sched.nextId = some c → c.stage = .planned → u.heldEnded c = false → u.commitReady c = true →
    u.unitFails c = false → u.seqGone c = none →
    Sys2Proof.Machine.exec i s = .next (s.sealed ((u.opCommit c).wake.lowCheck)))
  ∧ (∀ (s : State) (c : Cmd) (d : Desc),
    (c.desc = rowDesc 0x00 0 0 d → s.opCommit c = s.endOk c 0 0 0)
    ∧ (c.desc = rowDesc 0x01 0 0 d → s.opCommit c = s.commitOpen c)
    ∧ (c.desc = rowDesc 0x02 0 0 d → s.opCommit c = s.commitFork c)
    ∧ (c.desc = rowDesc 0x03 0 0 d → s.opCommit c = s.commitTrim c)
    ∧ (c.desc = rowDesc 0x04 0 0 d → s.opCommit c = s.commitClose c)
    ∧ (c.desc = rowDesc 0x10 0 0 d → s.opCommit c = s.commitAppend c)
    ∧ (c.desc = rowDesc 0x11 0 0 d → s.opCommit c = s.commitAppend c)
    ∧ (c.desc = rowDesc 0x20 0 0 d → s.opCommit c = s.commitOut c)
    ∧ (c.desc = rowDesc 0x21 0 0 d → s.opCommit c = s.commitOut c)
    ∧ (c.desc = rowDesc 0x30 0 0 d → s.opCommit c = s.commitFind c)
    ∧ (c.desc = rowDesc 0x31 0 0 d → s.opCommit c = s.commitAdd c)
    ∧ (c.desc = rowDesc 0x32 0 0 d → s.opCommit c = s.commitDrop c)
    ∧ (c.desc = rowDesc 0x40 0 0 d → s.opCommit c = s.commitSwapOut c)
    ∧ (c.desc = rowDesc 0x41 0 0 d → s.opCommit c = s.commitSwapIn c)
    ∧ (c.desc = rowDesc 0x42 0 (moveBit ||| backBit) d → s.opCommit c =
        (c.jobs.foldl (fun t j => t.leavePage c j) s).endOk { c with jobs := [] } c.jobs.length 0 0)
    ∧ (c.desc = rowDesc 0x42 backBit moveBit d → s.opCommit c =
        (c.jobs.foldl (fun t j => t.landPage 2 j) s).endOk c c.jobs.length 0 0)
    ∧ (c.desc = rowDesc 0x42 moveBit 0 d → ∀ m, (s.xnt.moves.find? fun x => x.cmd == some c.id) = some m →
        s.opCommit c = (s.moveOut m).endOk { c with jobs := [] } (s.seq m.seq).handles.length 0 0)
    ∧ (c.desc = rowDesc 0x43 0 0 d → s.opCommit c = s.commitView c)
    ∧ (c.desc = rowDesc 0x44 0 0 d → s.opCommit c = s.commitUnview c)
    ∧ (c.desc = rowDesc 0x50 0 maskOpBits d → s.opCommit c = s.commitMask c)
    ∧ (c.desc = rowDesc 0x50 (onesAt 384 1) maskOpBits d → s.opCommit c = s.commitMask c)
    ∧ (c.desc = rowDesc 0x51 0 0 d → s.opCommit c = s.commitTable c)
    ∧ (c.desc = rowDesc 0x61 0 0 d → s.opCommit c = s.ringLeft)
    ∧ (c.desc = rowDesc 0x70 0 0 d → s.opCommit c = s.endOk c 0 0 0))

/-- The doorbells of the host, in every case (R166, R168). A tail doorbell (sqTailDoorbell): below the depth it becomes the tail of
an ACTIVE queue; one that is not below puts the queue into ERROR with its QUEUE_ERROR event; for an absent queue, or one that is not
ACTIVE, it only counts in DOORBELL_IGNORED. A head doorbell (cqHeadDoorbell): a head, taken modulo the depth, within the entries
posted becomes the head, arms the interrupt, and lets completions that waited for room be written (R172, R176); one beyond them only
arms the interrupt and counts; for an absent queue it only counts. While the link carries no doorbell of the queue's kind, either
changes nothing (R360, R364, R365). -/
def Obligations.DoorbellsMoveTheQueue : Prop :=
  (∀ (s : State) (n v : BitVec 16) (q : Sq), aget s.queues.sqs n.toNat = some q → s.doorbellOpen (sqFabric q.cfg) = true →
    (q.st = .active → v.toNat < sqDepth q.cfg → Sys2Proof.Machine.exec (.sqTailDoorbell n v) s =
      .next (s.sealed (s.modSq n.toNat fun x => { x with tail := v.toNat })))
    ∧ (q.st = .active → sqDepth q.cfg ≤ v.toNat → Sys2Proof.Machine.exec (.sqTailDoorbell n v) s =
      .next (s.sealed ((s.modSq n.toNat fun x => { x with st := .error }).note 0x0106 (some (sqDom q.cfg)) islSched n.toNat
        [n.toNat])))
    ∧ (q.st ≠ .active → Sys2Proof.Machine.exec (.sqTailDoorbell n v) s = .next (s.sealed (s.bump 0x4000 8))))
  ∧ (∀ (s : State) (n v : BitVec 16), aget s.queues.sqs n.toNat = none → s.doorbellOpen false = true →
    Sys2Proof.Machine.exec (.sqTailDoorbell n v) s = .next (s.sealed (s.bump 0x4000 8)))
  ∧ (∀ (s : State) (n v : BitVec 16),
    s.doorbellOpen (((aget s.queues.sqs n.toNat).map fun q => sqFabric q.cfg).getD false) = false →
    Sys2Proof.Machine.exec (.sqTailDoorbell n v) s = .next (s.sealed s))
  ∧ (∀ (s : State) (n v : BitVec 16) (q : Cq), aget s.queues.cqs n.toNat = some q → s.doorbellOpen (bit q.cfg 21) = true →
    ((v.toNat % cqDepth q.cfg + cqDepth q.cfg - q.head) % cqDepth q.cfg ≤ (q.tail + cqDepth q.cfg - q.head) % cqDepth q.cfg →
      Sys2Proof.Machine.exec (.cqHeadDoorbell n v) s =
        .next (s.sealed (((s.modCq n.toNat fun x => { x with msi := true }).modCq n.toNat fun x =>
          { x with head := v.toNat % cqDepth q.cfg }).flushCq n.toNat)))
    ∧ ((q.tail + cqDepth q.cfg - q.head) % cqDepth q.cfg < (v.toNat % cqDepth q.cfg + cqDepth q.cfg - q.head) % cqDepth q.cfg →
      Sys2Proof.Machine.exec (.cqHeadDoorbell n v) s =
        .next (s.sealed ((s.modCq n.toNat fun x => { x with msi := true }).bump 0x4000 8))))
  ∧ (∀ (s : State) (n v : BitVec 16), aget s.queues.cqs n.toNat = none → s.doorbellOpen false = true →
    Sys2Proof.Machine.exec (.cqHeadDoorbell n v) s = .next (s.sealed (s.bump 0x4000 8)))
  ∧ (∀ (s : State) (n v : BitVec 16),
    s.doorbellOpen (((aget s.queues.cqs n.toNat).map fun q => bit q.cfg 21).getD false) = false →
    Sys2Proof.Machine.exec (.cqHeadDoorbell n v) s = .next (s.sealed s))

/-- The steps of a command's life as events, in every case. A fetch (descriptorFetch) takes the descriptor at the head of the ring of
an ACTIVE queue that the node may read, and else nothing (R172). An admission (commandAdmit) takes the front descriptor where it may be
admitted, and else none (R173). The wait limit (commandWaitLimit) ends a command that waits for what counts with ST_BUSY, CAUSE 1, and
a ring ATTEND with its lap; it does nothing to one that is gone or does not wait (R174, R290). A commit (commandCommit) gives a
command that is ready its effect; one that failed in its work ends with its failure, one that lost a unit with ST_PART_FAIL, one whose sequence
is gone with ST_REDIRECT or ST_BAD_SEQ, a held append of a sequence whose move ended with ST_BUSY; one that is not ready stays (R18,
R178, R272).

The end of a queue's deletion (deleteSqDone) and of a domain's teardown (teardownDone) (R164, R298, R302): once no command of it is
left, the queue goes and a FABRIC region is zeroed; the domain is ACTIVE again and TEARDOWN_DONE is posted; before, and where there is
no such queue or domain, nothing. -/
def Obligations.CommandLifeEventsAndDeletions : Prop :=
  ((∀ (s : State) (n : BitVec 16) (q : Sq), aget s.queues.sqs n.toNat = some q →
    ((s.alive = true ∧ q.st = .active ∧ q.head ≠ q.tail ∧ (sqFabric q.cfg = true ∨ s.dmaOk = true)) →
      Sys2Proof.Machine.exec (.descriptorFetch n) s = .next (s.sealed (s.modSq n.toNat fun x =>
        { x with head := (q.head + 1) % sqDepth q.cfg
                 fetched := x.fetched ++ [(s.ringDesc q, (q.head + 1) % sqDepth q.cfg)] })))
    ∧ (¬ (s.alive = true ∧ q.st = .active ∧ q.head ≠ q.tail ∧ (sqFabric q.cfg = true ∨ s.dmaOk = true)) →
      Sys2Proof.Machine.exec (.descriptorFetch n) s = .next (s.sealed s)))
  ∧ (∀ (s : State) (n : BitVec 16), aget s.queues.sqs n.toNat = none →
    Sys2Proof.Machine.exec (.descriptorFetch n) s = .next (s.sealed s))
  ∧ (∀ (s : State) (n : BitVec 16) (d : Desc) (h : Nat) (r : List (Desc × Nat)), (s.sqOf n.toNat).fetched = (d, h) :: r →
    (s.canAdmit n.toNat d = true → Sys2Proof.Machine.exec (.commandAdmit n) s =
      .next (s.sealed ((s.modSq n.toNat fun x => { x with fetched := r }).admitDesc n.toNat d h)))
    ∧ (s.canAdmit n.toNat d = false → Sys2Proof.Machine.exec (.commandAdmit n) s = .next (s.sealed s)))
  ∧ (∀ (s : State) (n : BitVec 16), (s.sqOf n.toNat).fetched = [] →
    Sys2Proof.Machine.exec (.commandAdmit n) s = .next (s.sealed s))
  ∧ (∀ (s : State) (id : Nat) (c : Cmd), s.cmd id = some c →
    (s.waitCounts c = true → s.ringed id = false →
      Sys2Proof.Machine.exec (.commandWaitLimit id) s = .next (s.sealed ((s.endCmd c ⟨stBusy, 1, 0, 0⟩).wake.lowCheck)))
    ∧ (s.waitCounts c = true → s.ringed id = true →
      Sys2Proof.Machine.exec (.commandWaitLimit id) s = .next (s.sealed ((s.detectAbort 5 none).wake.lowCheck)))
    ∧ (s.waitCounts c = false → Sys2Proof.Machine.exec (.commandWaitLimit id) s = .next (s.sealed s)))
  ∧ (∀ (s : State) (id : Nat) (c : Cmd), s.cmd id = some c →
    (s.heldEnded c = true → Sys2Proof.Machine.exec (.commandCommit id) s = .next (s.sealed (s.endCmd c ⟨stBusy, 0, 0, 0⟩).wake))
    ∧ (s.heldEnded c = false →
      (∀ st cause r0 r1, c.stage = .failed st cause r0 r1 →
        Sys2Proof.Machine.exec (.commandCommit id) s = .next (s.sealed (s.endCmd c ⟨st, cause, r0, r1⟩).wake))
      ∧ (s.commitReady c = true →
        (s.unitFails c = true →
          Sys2Proof.Machine.exec (.commandCommit id) s = .next (s.sealed ((s.endCmd c ⟨stPartFail, 0, 0, 0⟩).wake.lowCheck)))
        ∧ (∀ f, s.unitFails c = false → s.seqGone c = some f →
          Sys2Proof.Machine.exec (.commandCommit id) s = .next (s.sealed ((s.endCmd c f).wake.lowCheck)))
        ∧ (s.unitFails c = false → s.seqGone c = none →
          Sys2Proof.Machine.exec (.commandCommit id) s = .next (s.sealed ((s.opCommit c).wake.lowCheck))))
      ∧ ((∀ st cause r0 r1, c.stage ≠ .failed st cause r0 r1) → s.commitReady c = false →
        Sys2Proof.Machine.exec (.commandCommit id) s = .next (s.sealed s))))
  ∧ (∀ (s : State) (id : Nat), s.cmd id = none → Sys2Proof.Machine.exec (.commandWaitLimit id) s = .next (s.sealed s)
      ∧ Sys2Proof.Machine.exec (.commandCommit id) s = .next (s.sealed s)))
  ∧ ((∀ (s : State) (n : BitVec 16) (q : Sq), aget s.queues.sqs n.toNat = some q →
    ((q.st = .deleting ∧ ∀ c ∈ s.sched.cmds, c.sq ≠ n.toNat) →
      Sys2Proof.Machine.exec (.deleteSqDone n) s = .next (s.sealed (
        if sqFabric q.cfg then (s.modQueues fun x => { x with sqs := adel x.sqs n.toNat }).nodeClear q.region (sqRegion q.cfg)
        else s.modQueues fun x => { x with sqs := adel x.sqs n.toNat })))
    ∧ (¬ (q.st = .deleting ∧ ∀ c ∈ s.sched.cmds, c.sq ≠ n.toNat) →
      Sys2Proof.Machine.exec (.deleteSqDone n) s = .next (s.sealed s)))
  ∧ (∀ (s : State) (n : BitVec 16), aget s.queues.sqs n.toNat = none →
    Sys2Proof.Machine.exec (.deleteSqDone n) s = .next (s.sealed s))
  ∧ (∀ (s : State) (d : BitVec 12) (x : Domain), aget s.dom.doms d.toNat = some x →
    ((x.tearing = true ∧ ∀ c ∈ s.sched.cmds, c.dom ≠ d.toNat) →
      Sys2Proof.Machine.exec (.teardownDone d) s = .next (s.sealed (
        (((s.modDom fun y => { y with doms := amod y.doms d.toNat fun z => { z with tearing := false } }).bump 0x7000 5).note
          0x0111 (some d.toNat) islSched d.toNat [d.toNat]))))
    ∧ (¬ (x.tearing = true ∧ ∀ c ∈ s.sched.cmds, c.dom ≠ d.toNat) →
      Sys2Proof.Machine.exec (.teardownDone d) s = .next (s.sealed s)))
  ∧ (∀ (s : State) (d : BitVec 12), aget s.dom.doms d.toNat = none →
    Sys2Proof.Machine.exec (.teardownDone d) s = .next (s.sealed s)))

/-! ## Sequences and the pool -/

/-- Sequence IDs (R37, R38): an ID names a sequence exactly when its reserved bits are zero, generation and domain are the
entry's, and the entry is OPEN, STALLED or MOVING; an INCOMING one answers that it is ahead, every other one is refused the
same. An index that may be issued is FREE and unreserved. A closed sequence's generation rises by one, and after 65,535 its
index is RETIRED. -/
def Obligations.SequenceIdsAreUsedOnce : Prop :=
  (∀ (s : State) (id : BitVec 64) (d i : Nat), s.seqRef id d = .ok i ↔ i = sidIndex id ∧ fld id 40 8 = 0 ∧ fld id 60 4 = 0
    ∧ (s.seq i).gen = sidGen id ∧ (s.seq i).dom = sidDom id ∧ (s.seq i).dom = d
    ∧ ((s.seq i).st = .open_ ∨ (s.seq i).st = .stalled ∨ (s.seq i).st = .moving))
  ∧ (∀ (s : State) (id : BitVec 64) (d : Nat), s.seqRef id d = .ahead ↔ fld id 40 8 = 0 ∧ fld id 60 4 = 0
    ∧ (s.seq (sidIndex id)).gen = sidGen id ∧ (s.seq (sidIndex id)).dom = sidDom id ∧ (s.seq (sidIndex id)).dom = d
    ∧ (s.seq (sidIndex id)).st = .incoming)
  ∧ (∀ (s : State) (i : Nat), s.nextSeqIndex = some i → (s.seq i).st = .free ∧ ∀ r ∈ s.seqs.reserved, r.1 ≠ i)
  ∧ (∀ (s : State) (i : Nat),
    ((s.seq i).gen < 65535 → ((s.closeSeq i).seq i).st = .free ∧ ((s.closeSeq i).seq i).gen = (s.seq i).gen + 1)
    ∧ ((s.seq i).gen = 65535 → ((s.closeSeq i).seq i).st = .retired)
    ∧ ∀ j, j ≠ i → (s.closeSeq i).seq j = s.seq j)

/-- Runs of granules that were disjoint and within the pool stay so when one more is allocated, wherever the free choice puts
it, and the domain stays within its quota (R41, R306). -/
def Obligations.GranuleRunsStayDisjoint : Prop :=
  ∀ (s t : State) (n d a : Nat), 0 < n → s.allocGrains n d = some (t, a) →
    (s.seqs.pool.Pairwise fun x y => x.1 + x.2.1 ≤ y.1) → (∀ x ∈ s.seqs.pool, 1 ≤ x.1 ∧ x.1 + x.2.1 ≤ 16777216) →
    (t.seqs.pool.Pairwise fun x y => x.1 + x.2.1 ≤ y.1) ∧ (∀ x ∈ t.seqs.pool, 1 ≤ x.1 ∧ x.1 + x.2.1 ≤ 16777216)
      ∧ (∀ x, x ∈ t.seqs.pool ↔ x = (a, n, d) ∨ x ∈ s.seqs.pool)
      ∧ ((s.seqs.pool.filter fun p => p.2.2 == d).map fun p => p.2.1).sum + n ≤ s.num 0x7120 0xA d

/-! ## Writes of dictionary entries -/

/-- Every command that is one write of one entry (R394, R437): where the steps before the value pass, and the entry's own rule
gives the state `t`, the write has its effect, and the response reports success.

A write that is turned away (R437): nothing but the counters, the error numbers of R61, R305 and R351, and the response. -/
def Obligations.EntryWriteIsAnswered : Prop :=
  (∀ (i : Instr) (w : EntryWrite) (s t : State) (r : PdRow), entryWrite i = some w → s.Serves w.ch →
    s.accessFail w.ch true (s.writeKey w) w.value = .ok r → r.eff ≠ 2 → (w.idx = 0x8300 → w.sub ≠ 6) →
    s.writeEntry w.ch r (s.writeKey w) w.value = .ok t →
    Sys2Proof.Machine.exec i s = .next (s.sealed (t.answer s w 0 0)))
  ∧ (∀ (i : Instr) (w : EntryWrite) (s : State) (f : Fail), entryWrite i = some w → s.Serves w.ch →
    (s.accessFail w.ch true (s.writeKey w) w.value = .error f
      ∨ ∃ r, s.accessFail w.ch true (s.writeKey w) w.value = .ok r ∧ r.eff ≠ 2
          ∧ s.writeEntry w.ch r (s.writeKey w) w.value = .error f) →
    Sys2Proof.Machine.exec i s = .next (s.sealed
      ((s.opFailed (s.writeReq w) ⟨2, w.idx, w.sub, w.value.length, w.value⟩ f).answer s w f.st f.cause)))

/-- Rights (R391): a DOMAIN caller writes none of these entries but SAMPLE_CLEAR; FABRIC_MGR none that only HOST_ADMIN may
write; SIDEBAND none but ERRN_CLEAR. Each such write is answered ST_DENIED and counted, and changes nothing else. -/
def Obligations.WritesNeedRights : Prop :=
  ∀ (i : Instr) (w : EntryWrite) (s : State), entryWrite i = some w → s.Serves w.ch → pdRow w.idx w.sub ≠ none →
    ((∃ n, w.ch = .dataQp n) ∧ (∀ c, i ≠ .sampleClear c)
      ∨ w.ch = .i3c ∧ (∀ c, i ≠ .errnClear c)
      ∨ (∃ n, w.ch = .mgmtQp n) ∧ ((∃ c, i = .profileCommit c) ∨ (∃ c e v, i = .scoreProgram c e v)
          ∨ (∃ c v, i = .partitionMode c v) ∨ (∃ c d n v, i = .dmaRegion c d n v) ∨ (∃ c d k, i = .xtsKey c d k)
          ∨ (∃ c d k, i = .fabricKey c d k) ∨ (∃ c k, i = .mgmtFabricKey c k) ∨ (∃ c d v, i = .hostTierBase c d v)
          ∨ (∃ c d v, i = .hostTierUnits c d v) ∨ (∃ c, i = .errnClear c) ∨ (∃ c v, i = .faultInject c v)
          ∨ (∃ c n v, i = .sourceReaction c n v) ∨ (∃ c v, i = .lbistStart c v) ∨ (∃ c, i = .mgmtRestart c)
          ∨ (∃ c v, i = .minSvnRaise c v) ∨ (∃ c v, i = .eventRingHead c v) ∨ (∃ c d, i = .domainCreate c d)
          ∨ (∃ c d, i = .domainDelete c d))) →
    Sys2Proof.Machine.exec i s = .next (s.sealed ((s.bump 0x1000 0x15).answer s w stDenied 0))

/-- CREATE_SQ, CREATE_CQ, DELETE_SQ and DELETE_CQ (createSq, createCq, deleteSq, deleteCq; R164), where the write passes the steps of
R437 before its value: what a queue holds once it exists, and what goes with it. A FABRIC SQ takes a region key and the first gap of the
working memory that fits (R165). A queue that exists is not created again, and one that is absent, is being deleted, or serves an SQ is
not deleted: each is answered ST_BUSY and changes nothing. -/
def Obligations.QueuesAreCreatedAndDeleted : Prop :=
  (∀ (s : State) (ch : Chan), s.MayWrite ⟨ch, 0, 0x4100, 4, [1]⟩ →
    ∀ n c q, n = s.sel ch 0x4100 1 → c = (aget s.queues.stagedSq n).getD 0 → aget s.queues.cqs (fld c 0 16) = some q →
    sqCfgOk c = true → s.domActive (sqDom c) = true → cqMatches c q = true → sqFabric c = false → s.createsFail = false →
    aget s.queues.sqs n = none →
    Sys2Proof.Machine.exec (.createSq ch) s = .next (s.sealed
      ((s.modQueues fun x => { x with sqs := aput x.sqs n { cfg := c, rkey := 0, region := 0 } }).answer s
        ⟨ch, 0, 0x4100, 4, [1]⟩ 0 0)))
  ∧ (∀ (s : State) (ch : Chan), s.MayWrite ⟨ch, 0, 0x4100, 4, [1]⟩ →
    ∀ n c q t k g, n = s.sel ch 0x4100 1 → c = (aget s.queues.stagedSq n).getD 0 → aget s.queues.cqs (fld c 0 16) = some q →
    sqCfgOk c = true → s.domActive (sqDom c) = true → cqMatches c q = true → sqFabric c = true →
    s.queueMemory + sqRegion c ≤ s.num 0x4000 5 → s.createsFail = false → aget s.queues.sqs n = none →
    s.newKey { kind := .queue, dom := sqDom c, len := sqRegion c, place := n } = some (t, k, g) →
    Sys2Proof.Machine.exec (.createSq ch) s = .next (s.sealed
      ((t.modQueues fun x => { x with sqs := aput x.sqs n { cfg := c, rkey := k, region := s.regionPlace (sqRegion c) } }).answer
        s ⟨ch, 0, 0x4100, 4, [1]⟩ 0 0)))
  ∧ (∀ (s : State) (ch : Chan), s.MayWrite ⟨ch, 0, 0x4100, 4, [3]⟩ →
    ∀ n c, n = s.sel ch 0x4100 1 → c = (aget s.queues.stagedCq n).getD 0 → cqCfgOk c = true →
    s.domActive (fld c 0 12) = true → s.createsFail = false → aget s.queues.cqs n = none →
    Sys2Proof.Machine.exec (.createCq ch) s = .next (s.sealed
      ((s.modQueues fun x => { x with cqs := aput x.cqs n { cfg := c } }).answer s ⟨ch, 0, 0x4100, 4, [3]⟩ 0 0)))
  ∧ (∀ (s : State) (ch : Chan), s.MayWrite ⟨ch, 0, 0x4100, 4, [4]⟩ →
    ∀ n q, n = s.sel ch 0x4100 1 → aget s.queues.cqs n = some q → (∀ p ∈ s.queues.sqs, fld p.2.cfg 0 16 ≠ n) →
    Sys2Proof.Machine.exec (.deleteCq ch) s = .next (s.sealed
      ((s.modQueues fun x => { x with cqs := adel x.cqs n }).answer s
        ⟨ch, 0, 0x4100, 4, [4]⟩ 0 0)))
  ∧ (∀ (s : State) (ch : Chan), s.MayWrite ⟨ch, 0, 0x4100, 4, [2]⟩ →
    ∀ n q, n = s.sel ch 0x4100 1 → aget s.queues.sqs n = some q → q.st ≠ .deleting →
    Sys2Proof.Machine.exec (.deleteSq ch) s = .next (s.sealed
      ((((if sqFabric q.cfg then
          (q.fetched.foldl (fun t p => t.completeDesc n (fld q.cfg 0 16) p.2 p.1 ⟨stAborted, 0, 0, 0⟩)
            (s.modSq n fun x => { x with st := .deleting, fetched := [] })).revoke q.rkey
        else q.fetched.foldl (fun t p => t.completeDesc n (fld q.cfg 0 16) p.2 p.1 ⟨stAborted, 0, 0, 0⟩)
            (s.modSq n fun x => { x with st := .deleting, fetched := [] })).sqDeleted n).answer s ⟨ch, 0, 0x4100, 4, [2]⟩ 0 0))))
  ∧ (∀ (s : State) (ch : Chan) (n : Nat), n = s.sel ch 0x4100 1 →
    (∀ c q, s.MayWrite ⟨ch, 0, 0x4100, 4, [1]⟩ → c = (aget s.queues.stagedSq n).getD 0 → aget s.queues.cqs (fld c 0 16) = some q →
      sqCfgOk c = true → s.domActive (sqDom c) = true → cqMatches c q = true →
      (sqFabric c = false ∨ s.queueMemory + sqRegion c ≤ s.num 0x4000 5) → s.createsFail = false → aget s.queues.sqs n ≠ none →
      Sys2Proof.Machine.exec (.createSq ch) s = .next (s.sealed (s.answer s ⟨ch, 0, 0x4100, 4, [1]⟩ stBusy 0)))
    ∧ (∀ c, s.MayWrite ⟨ch, 0, 0x4100, 4, [3]⟩ → c = (aget s.queues.stagedCq n).getD 0 → cqCfgOk c = true →
      s.domActive (fld c 0 12) = true → s.createsFail = false → aget s.queues.cqs n ≠ none →
      Sys2Proof.Machine.exec (.createCq ch) s = .next (s.sealed (s.answer s ⟨ch, 0, 0x4100, 4, [3]⟩ stBusy 0)))
    ∧ (s.MayWrite ⟨ch, 0, 0x4100, 4, [2]⟩ → (∀ q, aget s.queues.sqs n = some q → q.st = .deleting) →
      Sys2Proof.Machine.exec (.deleteSq ch) s = .next (s.sealed (s.answer s ⟨ch, 0, 0x4100, 4, [2]⟩ stBusy 0)))
    ∧ (s.MayWrite ⟨ch, 0, 0x4100, 4, [4]⟩ → (aget s.queues.cqs n = none ∨ ∃ p ∈ s.queues.sqs, fld p.2.cfg 0 16 = n) →
      Sys2Proof.Machine.exec (.deleteCq ch) s = .next (s.sealed (s.answer s ⟨ch, 0, 0x4100, 4, [4]⟩ stBusy 0))))

/-- DOMAIN_CREATE, DOMAIN_TEARDOWN and DOMAIN_DELETE (domainCreate, domainTeardown, domainDelete; R298, R299), where the write passes
the steps of R437 before its value: from the state that the operation asks for it takes effect, and from another, or while the domain
owns something that DELETE does not allow, it is answered ST_BUSY and changes nothing.

XTS_KEY, FABRIC_KEY and MGMT_FABRIC_KEY (xtsKey, fabricKey, mgmtFabricKey; R219, R247, R303), where the write passes those steps: a key
of zeros unloads; a fabric key that changes starts its nonces anew (R246); the identical key succeeds; a loaded key in use does not
change but answers ST_BUSY; an XTS pair of equal halves is refused with ST_BAD_PARAM. -/
def Obligations.DomainsAndTheirKeys : Prop :=
  ((∀ (s : State) (ch : Chan) (d : BitVec 12), s.MayWrite ⟨ch, d.toNat, 0x7100, 2, [1]⟩ → aget s.dom.doms d.toNat = none →
    s.strict = false →
    Sys2Proof.Machine.exec (.domainCreate ch d) s = .next (s.sealed
      (((s.clearEntries d.toNat).modDom fun x => { x with doms := aput x.doms d.toNat {} }).answer s
        ⟨ch, d.toNat, 0x7100, 2, [1]⟩ 0 0)))
  ∧ (∀ (s : State) (ch : Chan) (d : BitVec 12), s.MayWrite ⟨ch, d.toNat, 0x7100, 2, [1]⟩ → aget s.dom.doms d.toNat = none →
    s.strict = true →
    Sys2Proof.Machine.exec (.domainCreate ch d) s = .next (s.sealed
      ((quotaEntries.foldl (fun t e => t.setActive ⟨e.1, e.2.1, d.toNat⟩ (leBytes e.2.2 0))
        ((s.clearEntries d.toNat).modDom fun x => { x with doms := aput x.doms d.toNat {} })).answer s
        ⟨ch, d.toNat, 0x7100, 2, [1]⟩ 0 0)))
  ∧ (∀ (s : State) (ch : Chan) (d : BitVec 12), s.MayWrite ⟨ch, d.toNat, 0x7100, 2, [2]⟩ →
    s.domActive d.toNat = true →
    Sys2Proof.Machine.exec (.domainTeardown ch d) s = .next (s.sealed
      (((s.teardown d.toNat).teardownDone d.toNat).answer s ⟨ch, d.toNat, 0x7100, 2, [2]⟩ 0 0)))
  ∧ (∀ (s : State) (ch : Chan) (d : BitVec 12), s.MayWrite ⟨ch, d.toNat, 0x7100, 2, [3]⟩ → s.domActive d.toNat = true →
    s.domOwns d.toNat = false →
    Sys2Proof.Machine.exec (.domainDelete ch d) s = .next (s.sealed
      (((s.clearEntries d.toNat).modDom fun x => { x with doms := adel x.doms d.toNat }).answer s
        ⟨ch, d.toNat, 0x7100, 2, [3]⟩ 0 0)))
  ∧ (∀ (s : State) (ch : Chan) (d : BitVec 12),
    (s.MayWrite ⟨ch, d.toNat, 0x7100, 2, [1]⟩ → aget s.dom.doms d.toNat ≠ none →
      Sys2Proof.Machine.exec (.domainCreate ch d) s = .next (s.sealed (s.answer s ⟨ch, d.toNat, 0x7100, 2, [1]⟩ stBusy 0)))
    ∧ (s.MayWrite ⟨ch, d.toNat, 0x7100, 2, [2]⟩ → s.domActive d.toNat = false →
      Sys2Proof.Machine.exec (.domainTeardown ch d) s = .next (s.sealed (s.answer s ⟨ch, d.toNat, 0x7100, 2, [2]⟩ stBusy 0)))
    ∧ (s.MayWrite ⟨ch, d.toNat, 0x7100, 2, [3]⟩ → s.domActive d.toNat = false ∨ s.domOwns d.toNat = true →
      Sys2Proof.Machine.exec (.domainDelete ch d) s = .next (s.sealed (s.answer s ⟨ch, d.toNat, 0x7100, 2, [3]⟩ stBusy 0)))))
  ∧ ((∀ (s : State) (ch : Chan) (d : BitVec 12) (k : List Byte), s.MayWrite ⟨ch, d.toNat, 0x7110, 1, k⟩ → k.length = 64 →
    ((keyValue k).isEmpty = true ∨ k.take 32 ≠ k.drop 32) →
    (((aget s.dom.doms d.toNat).getD {}).xtsKey = [] ∨ keyValue k = ((aget s.dom.doms d.toNat).getD {}).xtsKey
      ∨ s.unitsHeld d.toNat = 0) →
    Sys2Proof.Machine.exec (.xtsKey ch d k) s = .next (s.sealed
      ((s.modDom fun y => { y with doms := amod y.doms d.toNat fun z => { z with xtsKey := keyValue k } }).answer s
        ⟨ch, d.toNat, 0x7110, 1, k⟩ 0 0)))
  ∧ (∀ (s : State) (ch : Chan) (d : BitVec 12) (k : List Byte), s.MayWrite ⟨ch, d.toNat, 0x7110, 1, k⟩ → k.length = 64 →
    ((keyValue k).isEmpty = false → k.take 32 = k.drop 32 →
      Sys2Proof.Machine.exec (.xtsKey ch d k) s = .next (s.sealed (s.answer s ⟨ch, d.toNat, 0x7110, 1, k⟩ stBadParam 0xFF)))
    ∧ (((keyValue k).isEmpty = true ∨ k.take 32 ≠ k.drop 32) → ((aget s.dom.doms d.toNat).getD {}).xtsKey ≠ [] →
      keyValue k ≠ ((aget s.dom.doms d.toNat).getD {}).xtsKey → 0 < s.unitsHeld d.toNat →
      Sys2Proof.Machine.exec (.xtsKey ch d k) s = .next (s.sealed (s.answer s ⟨ch, d.toNat, 0x7110, 1, k⟩ stBusy 0))))
  ∧ (∀ (s : State) (ch : Chan) (d : BitVec 12) (k : List Byte), s.MayWrite ⟨ch, d.toNat, 0x7110, 2, k⟩ → k.length = 32 →
    (keyValue k = ((aget s.dom.doms d.toNat).getD {}).fabricKey →
      Sys2Proof.Machine.exec (.fabricKey ch d k) s = .next (s.sealed (s.answer s ⟨ch, d.toNat, 0x7110, 2, k⟩ 0 0)))
    ∧ (keyValue k ≠ ((aget s.dom.doms d.toNat).getD {}).fabricKey →
      (((aget s.dom.doms d.toNat).getD {}).fabricKey = []
        ∨ ∀ p ∈ s.xnt.qps, p.2.isMgmt = true ∨ p.2.dom ≠ d.toNat ∨ p.2.st = .reset) →
      Sys2Proof.Machine.exec (.fabricKey ch d k) s = .next (s.sealed
        (((s.modDom fun y => { y with doms := amod y.doms d.toNat fun z => { z with fabricKey := keyValue k } }).clearNonce
          d.toNat).answer s ⟨ch, d.toNat, 0x7110, 2, k⟩ 0 0)))
    ∧ (keyValue k ≠ ((aget s.dom.doms d.toNat).getD {}).fabricKey → ((aget s.dom.doms d.toNat).getD {}).fabricKey ≠ [] →
      (∃ p ∈ s.xnt.qps, p.2.isMgmt = false ∧ p.2.dom = d.toNat ∧ p.2.st ≠ .reset) →
      Sys2Proof.Machine.exec (.fabricKey ch d k) s = .next (s.sealed (s.answer s ⟨ch, d.toNat, 0x7110, 2, k⟩ stBusy 0))))
  ∧ (∀ (s : State) (ch : Chan) (k : List Byte), s.MayWrite ⟨ch, 0, 0x7010, 1, k⟩ → k.length = 32 →
    (keyValue k = s.dom.mgmtKey →
      Sys2Proof.Machine.exec (.mgmtFabricKey ch k) s = .next (s.sealed (s.answer s ⟨ch, 0, 0x7010, 1, k⟩ 0 0)))
    ∧ (keyValue k ≠ s.dom.mgmtKey → (s.dom.mgmtKey = [] ∨ ∀ p ∈ s.xnt.qps, p.2.isMgmt = false ∨ p.2.st = .reset) →
      Sys2Proof.Machine.exec (.mgmtFabricKey ch k) s = .next (s.sealed
        (((s.modDom fun y => { y with mgmtKey := keyValue k }).clearNonce 4096).answer s ⟨ch, 0, 0x7010, 1, k⟩ 0 0)))
    ∧ (keyValue k ≠ s.dom.mgmtKey → s.dom.mgmtKey ≠ [] → (∃ p ∈ s.xnt.qps, p.2.isMgmt = true ∧ p.2.st ≠ .reset) →
      Sys2Proof.Machine.exec (.mgmtFabricKey ch k) s = .next (s.sealed (s.answer s ⟨ch, 0, 0x7010, 1, k⟩ stBusy 0)))))

/-- QP_CONNECT, QP_LISTEN, QP_DISCONNECT and QP_RESET (qpConnect, qpListen, qpDisconnect, qpReset) on the selected QP (R249), where the
write passes the steps of R437 before its value: from its state the operation takes effect, from another it answers ST_BUSY; a QP whose
configuration is out of range answers ST_BAD_PARAM; and while creates fail (R426) CONNECT and LISTEN answer ST_PART_FAIL. -/
def Obligations.QpOperations : Prop :=
  (∀ (s : State) (ch : Chan), s.MayWrite ⟨ch, 0, 0x6100, 3, [1]⟩ → ∀ n, n = s.sel ch 0x6100 1 → s.qpCfgOk (s.qp n) = true →
    s.createsFail = false → (s.qp n).st = .reset →
    Sys2Proof.Machine.exec (.qpConnect ch) s = .next (s.sealed
      (((s.setQp n { s.qp n with st := .connecting, connId := ((s.qp n).connId + 1) % 65536, attempts := 0 }).sendConnect n).answer
        s ⟨ch, 0, 0x6100, 3, [1]⟩ 0 0)))
  ∧ (∀ (s : State) (ch : Chan), s.MayWrite ⟨ch, 0, 0x6100, 3, [2]⟩ → ∀ n, n = s.sel ch 0x6100 1 → s.qpCfgOk (s.qp n) = true →
    s.createsFail = false → (s.qp n).st = .reset →
    Sys2Proof.Machine.exec (.qpListen ch) s = .next (s.sealed
      ((s.setQp n { s.qp n with st := .listen }).answer s ⟨ch, 0, 0x6100, 3, [2]⟩ 0 0)))
  ∧ (∀ (s : State) (ch : Chan), s.MayWrite ⟨ch, 0, 0x6100, 3, [3]⟩ → ∀ n, n = s.sel ch 0x6100 1 → s.qpCfgOk (s.qp n) = true →
    (s.qp n).st = .rts →
    Sys2Proof.Machine.exec (.qpDisconnect ch) s = .next (s.sealed
      (((s.setQp n { s.qp n with st := .draining }).drainStep n).answer s ⟨ch, 0, 0x6100, 3, [3]⟩ 0 0)))
  ∧ (∀ (s : State) (ch : Chan), s.MayWrite ⟨ch, 0, 0x6100, 3, [4]⟩ → ∀ n, n = s.sel ch 0x6100 1 → s.qpCfgOk (s.qp n) = true →
    (s.qp n).st = .error →
    Sys2Proof.Machine.exec (.qpReset ch) s = .next (s.sealed ((s.qpToReset n).answer s ⟨ch, 0, 0x6100, 3, [4]⟩ 0 0)))
  ∧ (∀ (s : State) (ch : Chan) (n : Nat), n = s.sel ch 0x6100 1 →
    (s.qpCfgOk (s.qp n) = true →
      (s.MayWrite ⟨ch, 0, 0x6100, 3, [1]⟩ → s.createsFail = false → (s.qp n).st ≠ .reset →
        Sys2Proof.Machine.exec (.qpConnect ch) s = .next (s.sealed (s.answer s ⟨ch, 0, 0x6100, 3, [1]⟩ stBusy 0)))
      ∧ (s.MayWrite ⟨ch, 0, 0x6100, 3, [2]⟩ → s.createsFail = false → (s.qp n).st ≠ .reset →
        Sys2Proof.Machine.exec (.qpListen ch) s = .next (s.sealed (s.answer s ⟨ch, 0, 0x6100, 3, [2]⟩ stBusy 0)))
      ∧ (s.MayWrite ⟨ch, 0, 0x6100, 3, [1]⟩ → s.createsFail = true →
        Sys2Proof.Machine.exec (.qpConnect ch) s = .next (s.sealed (s.answer s ⟨ch, 0, 0x6100, 3, [1]⟩ stPartFail 0)))
      ∧ (s.MayWrite ⟨ch, 0, 0x6100, 3, [2]⟩ → s.createsFail = true →
        Sys2Proof.Machine.exec (.qpListen ch) s = .next (s.sealed (s.answer s ⟨ch, 0, 0x6100, 3, [2]⟩ stPartFail 0)))
      ∧ (s.MayWrite ⟨ch, 0, 0x6100, 3, [3]⟩ → (s.qp n).st ≠ .rts →
        Sys2Proof.Machine.exec (.qpDisconnect ch) s = .next (s.sealed (s.answer s ⟨ch, 0, 0x6100, 3, [3]⟩ stBusy 0)))
      ∧ (s.MayWrite ⟨ch, 0, 0x6100, 3, [4]⟩ → (s.qp n).st ≠ .error →
        Sys2Proof.Machine.exec (.qpReset ch) s = .next (s.sealed (s.answer s ⟨ch, 0, 0x6100, 3, [4]⟩ stBusy 0))))
    ∧ (s.qpCfgOk (s.qp n) = false →
      (s.MayWrite ⟨ch, 0, 0x6100, 3, [1]⟩ →
        Sys2Proof.Machine.exec (.qpConnect ch) s = .next (s.sealed (s.answer s ⟨ch, 0, 0x6100, 3, [1]⟩ stBadParam 0xFF)))
      ∧ (s.MayWrite ⟨ch, 0, 0x6100, 3, [2]⟩ →
        Sys2Proof.Machine.exec (.qpListen ch) s = .next (s.sealed (s.answer s ⟨ch, 0, 0x6100, 3, [2]⟩ stBadParam 0xFF)))
      ∧ (s.MayWrite ⟨ch, 0, 0x6100, 3, [3]⟩ →
        Sys2Proof.Machine.exec (.qpDisconnect ch) s = .next (s.sealed (s.answer s ⟨ch, 0, 0x6100, 3, [3]⟩ stBadParam 0xFF)))
      ∧ (s.MayWrite ⟨ch, 0, 0x6100, 3, [4]⟩ →
        Sys2Proof.Machine.exec (.qpReset ch) s = .next (s.sealed (s.answer s ⟨ch, 0, 0x6100, 3, [4]⟩ stBadParam 0xFF)))))

/-- MAP_EPOCH_CURRENT and MAP_EPOCH_OLDEST_LIVE (mapEpochCurrent, mapEpochOldestLive; R20, R25), where the write passes the steps of R437
before its value: C only grows; O never goes back nor past C, and the redirect records of older epochs go; another value is refused with
ST_BAD_PARAM.

The entries that act on the cache and its peers, where the write passes those steps and its value its range: HINT_FLAGS of a live
sequence (hintFlags; R229) and of none, which is refused with ST_BAD_SEQ; GROUP_MEMBERS (groupMembers; R203); REMOTE_HOLD_RELEASE
(remoteHoldRelease; R225); MOVE_ABANDON of an ended move (moveAbandon; R272) and of none, which is refused with ST_BAD_SEQ. -/
def Obligations.EpochAndCacheEntriesAct : Prop :=
  ((∀ (s : State) (ch : Chan) (v : BitVec 32), s.MayWrite ⟨ch, 0, 0x4300, 1, leBytes 4 v.toNat⟩ →
    newer 32 v.toNat s.seqs.epochC.toNat = true →
    Sys2Proof.Machine.exec (.mapEpochCurrent ch v) s = .next (s.sealed
      ((s.modSeqs fun q => { q with epochC := v }).answer s ⟨ch, 0, 0x4300, 1, leBytes 4 v.toNat⟩ 0 0)))
  ∧ (∀ (s : State) (ch : Chan) (v : BitVec 32), s.MayWrite ⟨ch, 0, 0x4300, 2, leBytes 4 v.toNat⟩ →
    newer 32 s.seqs.epochO.toNat v.toNat = false → newer 32 v.toNat s.seqs.epochC.toNat = false →
    Sys2Proof.Machine.exec (.mapEpochOldestLive ch v) s = .next (s.sealed
      ((s.modSeqs fun x => { x with epochO := v, redirects := x.redirects.filter fun r => !newer 32 v.toNat r.epoch }).answer s
        ⟨ch, 0, 0x4300, 2, leBytes 4 v.toNat⟩ 0 0)))
  ∧ (∀ (s : State) (ch : Chan) (v : BitVec 32),
    (s.MayWrite ⟨ch, 0, 0x4300, 1, leBytes 4 v.toNat⟩ → newer 32 v.toNat s.seqs.epochC.toNat = false →
      Sys2Proof.Machine.exec (.mapEpochCurrent ch v) s = .next (s.sealed
        (s.answer s ⟨ch, 0, 0x4300, 1, leBytes 4 v.toNat⟩ stBadParam 0)))
    ∧ (s.MayWrite ⟨ch, 0, 0x4300, 2, leBytes 4 v.toNat⟩ →
      newer 32 s.seqs.epochO.toNat v.toNat = true ∨ newer 32 v.toNat s.seqs.epochC.toNat = true →
      Sys2Proof.Machine.exec (.mapEpochOldestLive ch v) s = .next (s.sealed
        (s.answer s ⟨ch, 0, 0x4300, 2, leBytes 4 v.toNat⟩ stBadParam 0)))))
  ∧ ((∀ (s : State) (ch : Chan) (d : BitVec 12) (v : BitVec 32) (i : Nat), s.MayWrite ⟨ch, d.toNat, 0x3520, 2, leBytes 4 v.toNat⟩ →
    v.toNat < 128 → s.seqRef (BitVec.ofNat 64 (s.sel ch 0x3520 1 d.toNat)) d.toNat = .ok i →
    Sys2Proof.Machine.exec (.hintFlags ch d v) s = .next (s.sealed
      ((s.setSeq i { s.seq i with reclaimable := v.toNat.testBit 0, prio := v.toNat / 2 % 16, preclean := v.toNat.testBit 5,
                                  precleanCoded := v.toNat.testBit 6 }).answer s
        ⟨ch, d.toNat, 0x3520, 2, leBytes 4 v.toNat⟩ 0 0)))
  ∧ (∀ (s : State) (ch : Chan) (m : List Byte), s.MayWrite ⟨ch, 0, 0xA030, 2, m⟩ → m.length = 512 →
    Sys2Proof.Machine.exec (.groupMembers ch m) s = .next (s.sealed
      ((s.modIndex fun x => { x with groups := if m.all (· == 0) then adel x.groups (s.sel ch 0xA030 1)
                                               else aput x.groups (s.sel ch 0xA030 1) m }).answer s ⟨ch, 0, 0xA030, 2, m⟩ 0 0)))
  ∧ (∀ (s : State) (ch : Chan) (v : BitVec 16), s.MayWrite ⟨ch, 0, 0x3500, 0xD, leBytes 2 v.toNat⟩ → v.toNat < 4096 →
    Sys2Proof.Machine.exec (.remoteHoldRelease ch v) s = .next (s.sealed
      ((((s.tier.holds.filter fun h => h.origin == v.toNat).foldl State.freeHold s).lowCheck).answer s
        ⟨ch, 0, 0x3500, 0xD, leBytes 2 v.toNat⟩ 0 0)))
  ∧ (∀ (s : State) (ch : Chan) (v : BitVec 32), s.MayWrite ⟨ch, 0, 0x6500, 1, leBytes 4 v.toNat⟩ →
    s.moveEnded v.toNat = true →
    Sys2Proof.Machine.exec (.moveAbandon ch v) s = .next (s.sealed
      ((s.abandonMove v.toNat).wake.answer s ⟨ch, 0, 0x6500, 1, leBytes 4 v.toNat⟩ 0 0)))
  ∧ (∀ (s : State) (ch : Chan) (v : BitVec 32), s.MayWrite ⟨ch, 0, 0x6500, 1, leBytes 4 v.toNat⟩ → s.moveEnded v.toNat = false →
    Sys2Proof.Machine.exec (.moveAbandon ch v) s = .next (s.sealed
      (s.answer s ⟨ch, 0, 0x6500, 1, leBytes 4 v.toNat⟩ stBadSeq 0)))
  ∧ (∀ (s : State) (ch : Chan) (d : BitVec 12) (v : BitVec 32), s.MayWrite ⟨ch, d.toNat, 0x3520, 2, leBytes 4 v.toNat⟩ →
    v.toNat < 128 → (∀ i, s.seqRef (BitVec.ofNat 64 (s.sel ch 0x3520 1 (s.callerDom ch d.toNat))) (s.callerDom ch d.toNat) ≠ .ok i) →
    Sys2Proof.Machine.exec (.hintFlags ch d v) s = .next (s.sealed
      (s.answer s ⟨ch, d.toNat, 0x3520, 2, leBytes 4 v.toNat⟩ stBadSeq 0))))

/-- The entries that act on faults, events, samples and the security version, where the write passes the steps of R437 before its value:
ERRN_CLEAR (errnClear; R329), FAULT_INJECT (faultInject; R345), SOURCE_REACTION_n (sourceReaction; R325, R326), EVENT_RING_HEAD
(eventRingHead; R347), SAMPLE_CLEAR (sampleClear; R320), MIN_SVN_RAISE (minSvnRaise; R375): a value that the entry takes has its effect,
one that it does not take is refused with ST_BAD_PARAM; a head beyond the records posted only arms the interrupt; a SAMPLE_CLEAR of a queue
that the caller may not see clears nothing. -/
def Obligations.FaultEntriesAct : Prop :=
  (∀ (s : State) (ch : Chan), s.MayWrite ⟨ch, 0, 0x8000, 4, [1]⟩ →
    Sys2Proof.Machine.exec (.errnClear ch) s = .next (s.sealed
      ((s.modFaults fun f => { f with errn := if f.errn = 2 then 0 else if f.errn = 1 then 3 else f.errn }).answer s
        ⟨ch, 0, 0x8000, 4, [1]⟩ 0 0)))
  ∧ (∀ (s : State) (ch : Chan) (v : BitVec 128), s.MayWrite ⟨ch, 0, 0x8130, 1, leBytes 16 v.toNat⟩ → fld v 12 4 = 0 →
    fld v 48 4 < 4 → fld v 58 6 = 0 → fld v 64 16 ≠ 0 → fld v 80 48 = 0 →
    Sys2Proof.Machine.exec (.faultInject ch v) s = .next (s.sealed
      ((s.modFaults fun f => { f with inject := f.inject ++ [⟨v, fld v 64 16⟩] }).answer s
        ⟨ch, 0, 0x8130, 1, leBytes 16 v.toNat⟩ 0 0)))
  ∧ (∀ (s : State) (ch : Chan) (n : BitVec 8) (v : BitVec 32), s.MayWrite ⟨ch, 0, 0x8100, n.toNat, leBytes 4 v.toNat⟩ →
    fld v 5 3 = 0 → fld v 13 3 = 0 → fld v 18 14 = 0 → srcForced n.toNat &&& (v.toNat % 32) = srcForced n.toNat →
    (v.getLsbD 2 = true → srcBlock n.toNat = true) →
    Sys2Proof.Machine.exec (.sourceReaction ch n v) s = .next (s.sealed
      ((s.setActive ⟨0x8100, n.toNat, 0⟩ (leBytes 4 (v.toNat % 32 + sourceDefault n.toNat / 256 * 256))).answer s
        ⟨ch, 0, 0x8100, n.toNat, leBytes 4 v.toNat⟩ 0 0)))
  ∧ (∀ (s : State) (ch : Chan) (v : BitVec 32), s.MayWrite ⟨ch, 0, 0x8200, 4, leBytes 4 v.toNat⟩ → v.toNat < s.ringDepth →
    (v.toNat + s.ringDepth - s.faults.ringHead) % s.ringDepth ≤ s.faults.ringCount →
    Sys2Proof.Machine.exec (.eventRingHead ch v) s = .next (s.sealed
      ((((s.modFaults fun f => { f with ringMsi := true }).modFaults fun f =>
        { f with ringHead := v.toNat
                 ringCount := s.faults.ringCount - (v.toNat + s.ringDepth - s.faults.ringHead) % s.ringDepth }).ringResume).answer
        s ⟨ch, 0, 0x8200, 4, leBytes 4 v.toNat⟩ 0 0)))
  ∧ (∀ (s : State) (ch : Chan), s.MayWrite ⟨ch, 0, 0x7300, 4, [1]⟩ →
    s.hidden ch (sqDom (s.sqOf (s.sel ch 0x7300 2)).cfg) = false →
    Sys2Proof.Machine.exec (.sampleClear ch) s = .next (s.sealed
      ((s.modSq (s.sel ch 0x7300 2) fun q => { q with depthMax := 0, delayMax := 0 }).answer s ⟨ch, 0, 0x7300, 4, [1]⟩ 0 0)))
  ∧ (∀ (s : State) (ch : Chan) (v : BitVec 16), s.MayWrite ⟨ch, 0, 0x1000, 7, leBytes 2 v.toNat⟩ →
    v.toNat ≤ s.boot.fwSvn → v.toNat ≤ 64 →
    Sys2Proof.Machine.exec (.minSvnRaise ch v) s = .next (s.sealed
      ((s.modBoot fun b => { b with minSvn := Nat.max b.minSvn v.toNat }).answer s ⟨ch, 0, 0x1000, 7, leBytes 2 v.toNat⟩ 0 0)))
  ∧ (∀ (s : State) (ch : Chan) (v : BitVec 128) (f : Fail), s.MayWrite ⟨ch, 0, 0x8130, 1, leBytes 16 v.toNat⟩ →
    firstFail [(fld v 12 4 == 0, bad 1), (decide (fld v 48 4 < 4), bad 6), (fld v 58 6 == 0, bad 7), (fld v 64 16 != 0, bad 8),
      (fld v 80 48 == 0, bad 10)] = some f →
    Sys2Proof.Machine.exec (.faultInject ch v) s = .next (s.sealed
      (s.answer s ⟨ch, 0, 0x8130, 1, leBytes 16 v.toNat⟩ stBadParam f.cause)))
  ∧ (∀ (s : State) (ch : Chan) (n : BitVec 8) (v : BitVec 32) (f : Fail), s.MayWrite ⟨ch, 0, 0x8100, n.toNat, leBytes 4 v.toNat⟩ →
    firstFail [(fld v 5 3 == 0, bad 0), (fld v 13 3 == 0, bad 1), (fld v 18 14 == 0, bad (if fld v 18 6 ≠ 0 then 2 else 3)),
      (srcForced n.toNat &&& (v.toNat % 32) == srcForced n.toNat, bad 0), (!v.getLsbD 2 || srcBlock n.toNat, bad 0)] = some f →
    Sys2Proof.Machine.exec (.sourceReaction ch n v) s = .next (s.sealed
      (s.answer s ⟨ch, 0, 0x8100, n.toNat, leBytes 4 v.toNat⟩ stBadParam f.cause)))
  ∧ (∀ (s : State) (ch : Chan) (v : BitVec 32), s.MayWrite ⟨ch, 0, 0x8200, 4, leBytes 4 v.toNat⟩ →
    (s.ringDepth ≤ v.toNat → Sys2Proof.Machine.exec (.eventRingHead ch v) s = .next (s.sealed
      (s.answer s ⟨ch, 0, 0x8200, 4, leBytes 4 v.toNat⟩ stBadParam 0)))
    ∧ (v.toNat < s.ringDepth → s.faults.ringCount < (v.toNat + s.ringDepth - s.faults.ringHead) % s.ringDepth →
      Sys2Proof.Machine.exec (.eventRingHead ch v) s = .next (s.sealed
        ((s.modFaults fun f => { f with ringMsi := true }).answer s ⟨ch, 0, 0x8200, 4, leBytes 4 v.toNat⟩ 0 0))))
  ∧ (∀ (s : State) (ch : Chan), s.MayWrite ⟨ch, 0, 0x7300, 4, [1]⟩ →
    s.hidden ch (sqDom (s.sqOf (s.sel ch 0x7300 2)).cfg) = true →
    Sys2Proof.Machine.exec (.sampleClear ch) s = .next (s.sealed (s.answer s ⟨ch, 0, 0x7300, 4, [1]⟩ 0 0)))
  ∧ (∀ (s : State) (ch : Chan) (v : BitVec 16), s.MayWrite ⟨ch, 0, 0x1000, 7, leBytes 2 v.toNat⟩ →
    s.boot.fwSvn < v.toNat ∨ 64 < v.toNat →
    Sys2Proof.Machine.exec (.minSvnRaise ch v) s = .next (s.sealed
      (s.answer s ⟨ch, 0, 0x1000, 7, leBytes 2 v.toNat⟩ stBadParam 0)))

/-- The entries that drive the self tests (lbistStart, asbPrepare, asbStart, asbRelease; R427, R428), where the write passes the steps of
R437 before its value: a tile BIST takes a tile that is not ACTIVE as it is, and an ACTIVE one where a spare tile takes its place, its
items killed and started anew elsewhere; an awn-stack BIST is prepared, started once the stack is empty, and released. A BIST under way,
an ACTIVE tile without a spare, a stack in another state or one that still holds slots answers ST_BUSY; a malformed value, or a BIST
without its signature, ST_BAD_PARAM. -/
def Obligations.TestEntriesAct : Prop :=
  (∀ (s : State) (ch : Chan) (v : BitVec 64) (e : BitVec 128), s.MayWrite ⟨ch, 0, 0x5000, 1, leBytes 8 v.toNat⟩ →
    fld v 0 7 ≤ 71 → bit v 7 = false → fld v 10 54 = 0 → fld v 8 2 ≠ 0 → s.bistEntry 0 (s.num 0x5000 4) = some e →
    s.test.lbState ≠ 1 → (s.tile (fld v 0 7)).st ≠ 0 →
    Sys2Proof.Machine.exec (.lbistStart ch v) s = .next (s.sealed
      (((s.modTile (fld v 0 7) fun x => { x with testing := true }).modTest fun x =>
        { x with lbState := 1, lbTile := fld v 0 7, lbModes := fld v 8 2, lbFails := 0, lbSig := 0, lbRows := 0,
                 lbExp := fld e 96 32 }).answer s ⟨ch, 0, 0x5000, 1, leBytes 8 v.toNat⟩ 0 0)))
  ∧ (∀ (s : State) (ch : Chan) (n : BitVec 4), s.MayWrite ⟨ch, 0, 0x5200, 1, leBytes 1 (n.toNat + 1 * 16)⟩ → n.toNat < 12 →
    (s.asbOf n.toNat).st = 0 ∨ (s.asbOf n.toNat).st = 3 →
    Sys2Proof.Machine.exec (.asbPrepare ch n) s = .next (s.sealed
      (((s.setAsb n.toNat { s.asbOf n.toNat with st := 1 }).lowCheck).answer s
        ⟨ch, 0, 0x5200, 1, leBytes 1 (n.toNat + 1 * 16)⟩ 0 0)))
  ∧ (∀ (s : State) (ch : Chan) (n : BitVec 4), s.MayWrite ⟨ch, 0, 0x5200, 1, leBytes 1 (n.toNat + 2 * 16)⟩ → n.toNat < 12 →
    (s.asbOf n.toNat).st = 1 → s.stackHeld n.toNat = 0 →
    Sys2Proof.Machine.exec (.asbStart ch n) s = .next (s.sealed
      ((s.setAsb n.toNat { s.asbOf n.toNat with st := 2 }).answer s
        ⟨ch, 0, 0x5200, 1, leBytes 1 (n.toNat + 2 * 16)⟩ 0 0)))
  ∧ (∀ (s : State) (ch : Chan) (n : BitVec 4), s.MayWrite ⟨ch, 0, 0x5200, 1, leBytes 1 (n.toNat + 3 * 16)⟩ → n.toNat < 12 →
    (s.asbOf n.toNat).st = 1 →
    Sys2Proof.Machine.exec (.asbRelease ch n) s = .next (s.sealed
      (((s.setAsb n.toNat { s.asbOf n.toNat with st := 0 }).lowCheck).answer s
        ⟨ch, 0, 0x5200, 1, leBytes 1 (n.toNat + 3 * 16)⟩ 0 0)))
  ∧ (∀ (s : State) (ch : Chan) (v : BitVec 64) (e : BitVec 128), s.MayWrite ⟨ch, 0, 0x5000, 1, leBytes 8 v.toNat⟩ →
    fld v 0 7 ≤ 71 → bit v 7 = false → fld v 10 54 = 0 → fld v 8 2 ≠ 0 → s.bistEntry 0 (s.num 0x5000 4) = some e →
    s.test.lbState ≠ 1 → (s.tile (fld v 0 7)).st = 0 →
    (s.spareTile (fld v 0 7) ≠ none →
      Sys2Proof.Machine.exec (.lbistStart ch v) s = .next (s.sealed
        (((((((s.requeueAll (s.itemsOn (fld v 0 7))).dropHomed (fld v 0 7)).modTile (fld v 0 7) fun x => { x with st := 2 }).mapTile
          (fld v 0 7)).modTile (fld v 0 7) fun x => { x with testing := true, st := 1 }).modTest fun x =>
          { x with lbState := 1, lbTile := fld v 0 7, lbModes := fld v 8 2, lbFails := 0, lbSig := 0, lbRows := 0,
                   lbExp := fld e 96 32 }).answer s ⟨ch, 0, 0x5000, 1, leBytes 8 v.toNat⟩ 0 0)))
    ∧ (s.spareTile (fld v 0 7) = none →
      Sys2Proof.Machine.exec (.lbistStart ch v) s = .next (s.sealed
        (s.answer s ⟨ch, 0, 0x5000, 1, leBytes 8 v.toNat⟩ stBusy 0))))
  ∧ (∀ (s : State) (ch : Chan) (v : BitVec 64) (f : Fail), s.MayWrite ⟨ch, 0, 0x5000, 1, leBytes 8 v.toNat⟩ →
    firstFail [(decide (fld v 0 7 ≤ 71) && !bit v 7, bad 0), (fld v 10 54 == 0, bad 1), (fld v 8 2 != 0, bad 1),
      ((s.bistEntry 0 (s.num 0x5000 4)).isSome, bad 0xFF), (s.test.lbState != 1, busy0)] = some f →
    Sys2Proof.Machine.exec (.lbistStart ch v) s = .next (s.sealed
      (s.answer s ⟨ch, 0, 0x5000, 1, leBytes 8 v.toNat⟩ f.st f.cause)))
  ∧ (∀ (s : State) (ch : Chan) (n : BitVec 4) (op : Nat) (i : Instr), s.MayWrite ⟨ch, 0, 0x5200, 1, leBytes 1 (n.toNat + op * 16)⟩ →
    (op = 1 ∧ i = .asbPrepare ch n ∨ op = 2 ∧ i = .asbStart ch n ∨ op = 3 ∧ i = .asbRelease ch n) →
    (12 ≤ n.toNat → Sys2Proof.Machine.exec i s = .next (s.sealed
      (s.answer s ⟨ch, 0, 0x5200, 1, leBytes 1 (n.toNat + op * 16)⟩ stBadParam 0)))
    ∧ (n.toNat < 12 → (op = 1 ∧ (s.asbOf n.toNat).st ≠ 0 ∧ (s.asbOf n.toNat).st ≠ 3
        ∨ op = 2 ∧ ((s.asbOf n.toNat).st ≠ 1 ∨ s.stackHeld n.toNat ≠ 0) ∨ op = 3 ∧ (s.asbOf n.toNat).st ≠ 1) →
      Sys2Proof.Machine.exec i s = .next (s.sealed
        (s.answer s ⟨ch, 0, 0x5200, 1, leBytes 1 (n.toNat + op * 16)⟩ stBusy 0))))

/-- SHADOW_START, SHADOW_TAKEOVER, SHADOW_ABANDON and SHADOW_RESET (shadowStart, shadowTakeover, shadowAbandon, shadowReset; R351, R352),
where the write passes the steps of R437 before its value. START from IDLE with an RTS QP makes the node that holds no hello the
shadow, which sends its own, and the one that holds one the primary, which checks it: with the four checks passed it enters COPYING and
sends the masks, and with one failed it names the check and answers ST_BAD_PARAM; without such a QP it answers ST_BAD_PARAM. TAKEOVER at
a READY primary commits every shadowed sequence that is still its own to the shadow, where the redirect table takes them all (log 119);
ABANDON ends a start or fails the session; RESET clears a session that has ended. In another state each answers ST_BUSY.

MGMT_RESTART (mgmtRestart; R397, R409): the response goes out first, then the firmware restarts. -/
def Obligations.ShadowAndRestartOperations : Prop :=
  ((∀ (s : State) (ch : Chan) (q : Nat), s.MayWrite ⟨ch, 0, 0x8400, 1, [1]⟩ → s.shadow.st = 0 → s.shadow.started = false →
    s.shadowQp = some q → (s.qp q).st = .rts → s.shadow.hello = [] →
    Sys2Proof.Machine.exec (.shadowStart ch) s = .next (s.sealed
      (((s.modShadow fun x => { x with isShadow := true, started := true, startCheck := 0 }).sendShadowHello).answer s
        ⟨ch, 0, 0x8400, 1, [1]⟩ 0 0)))
  ∧ (∀ (s t : State) (ch : Chan) (q : Nat), s.MayWrite ⟨ch, 0, 0x8400, 1, [1]⟩ → s.shadow.st = 0 → s.shadow.started = false →
    s.shadowQp = some q → (s.qp q).st = .rts → s.shadow.hello ≠ [] → s.startPrimary = .ok t →
    Sys2Proof.Machine.exec (.shadowStart ch) s = .next (s.sealed (t.answer s ⟨ch, 0, 0x8400, 1, [1]⟩ 0 0)))
  ∧ (∀ (s : State) (ch : Chan) (q : Nat), s.MayWrite ⟨ch, 0, 0x8400, 1, [1]⟩ → s.shadow.st = 0 → s.shadow.started = false →
    s.shadowQp = some q → (s.qp q).st = .rts → s.shadow.hello ≠ [] → shadowCheck s.shadowHelloBytes s.shadow.hello ≠ 0 →
    Sys2Proof.Machine.exec (.shadowStart ch) s = .next (s.sealed
      ((s.shadowStartFailed (shadowCheck s.shadowHelloBytes s.shadow.hello)).answer s ⟨ch, 0, 0x8400, 1, [1]⟩ stBadParam 0xFF)))
  ∧ (∀ (s : State) (ch : Chan), s.MayWrite ⟨ch, 0, 0x8400, 1, [1]⟩ → s.shadow.st = 0 → s.shadow.started = false →
    (∀ q, s.shadowQp = some q → (s.qp q).st ≠ .rts) →
    Sys2Proof.Machine.exec (.shadowStart ch) s = .next (s.sealed (s.answer s ⟨ch, 0, 0x8400, 1, [1]⟩ stBadParam 0xFF)))
  ∧ (∀ (s t u : State) (ch : Chan) (live : List (BitVec 64)), s.MayWrite ⟨ch, 0, 0x8400, 1, [2]⟩ → s.shadow.st = 3 →
    s.shadow.isShadow = false → live = (s.shadow.seqs.filter fun id => seqIdOf (sidIndex id) (s.seq (sidIndex id)) == id) →
    s.takeRecords live.length = some t →
    u = (t.modSeqs fun q => { q with moveReserved := q.moveReserved.filter (· ≠ s.sched.nextId) }).shadowState 4 →
    Sys2Proof.Machine.exec (.shadowTakeover ch) s = .next (s.sealed
      ((((live.foldl (fun x id => x.moveOut { seq := sidIndex id, node := s.num 0x8400 2 })
          (u.mirroredDoms.foldl (fun x d => match x.mirrorQp d with
            | some q => x.sendSvc q (svcHdr 0x32 0 0 0 0 0 0) []
            | none => x) u)).modShadow fun x => { x with seqs := [] }).shadowState 5).answer s
        ⟨ch, 0, 0x8400, 1, [2]⟩ 0 0)))
  ∧ (∀ (s : State) (ch : Chan), s.MayWrite ⟨ch, 0, 0x8400, 1, [2]⟩ →
    (s.shadow.st ≠ 3 ∨ s.shadow.isShadow = true
      ∨ s.takeRecords (s.shadow.seqs.filter fun id => seqIdOf (sidIndex id) (s.seq (sidIndex id)) == id).length = none) →
    Sys2Proof.Machine.exec (.shadowTakeover ch) s = .next (s.sealed (s.answer s ⟨ch, 0, 0x8400, 1, [2]⟩ stBusy 0)))
  ∧ (∀ (s : State) (ch : Chan), s.MayWrite ⟨ch, 0, 0x8400, 1, [3]⟩ → s.shadow.started = true →
    Sys2Proof.Machine.exec (.shadowAbandon ch) s = .next (s.sealed
      ((s.modShadow fun x => { x with started := false, hello := [] }).answer s ⟨ch, 0, 0x8400, 1, [3]⟩ 0 0)))
  ∧ (∀ (s : State) (ch : Chan), s.MayWrite ⟨ch, 0, 0x8400, 1, [3]⟩ → s.shadow.started = false → s.shadowOn = true →
    Sys2Proof.Machine.exec (.shadowAbandon ch) s = .next (s.sealed ((s.shadowFail 7).answer s ⟨ch, 0, 0x8400, 1, [3]⟩ 0 0)))
  ∧ (∀ (s : State) (ch : Chan), s.MayWrite ⟨ch, 0, 0x8400, 1, [4]⟩ → (s.shadow.st = 5 ∨ s.shadow.st = 6) →
    Sys2Proof.Machine.exec (.shadowReset ch) s = .next (s.sealed
      ((s.modShadow fun _ => {}).answer s ⟨ch, 0, 0x8400, 1, [4]⟩ 0 0)))
  ∧ (∀ (s : State) (ch : Chan),
    (s.MayWrite ⟨ch, 0, 0x8400, 1, [1]⟩ → s.shadow.st ≠ 0 ∨ s.shadow.started = true →
      Sys2Proof.Machine.exec (.shadowStart ch) s = .next (s.sealed (s.answer s ⟨ch, 0, 0x8400, 1, [1]⟩ stBusy 0)))
    ∧ (s.MayWrite ⟨ch, 0, 0x8400, 1, [3]⟩ → s.shadow.started = false → s.shadowOn = false →
      Sys2Proof.Machine.exec (.shadowAbandon ch) s = .next (s.sealed (s.answer s ⟨ch, 0, 0x8400, 1, [3]⟩ stBusy 0)))
    ∧ (s.MayWrite ⟨ch, 0, 0x8400, 1, [4]⟩ → s.shadow.st ≠ 5 → s.shadow.st ≠ 6 →
      Sys2Proof.Machine.exec (.shadowReset ch) s = .next (s.sealed (s.answer s ⟨ch, 0, 0x8400, 1, [4]⟩ stBusy 0)))))
  ∧ (∀ (s : State) (ch : Chan), s.MayWrite ⟨ch, 0, 0x8300, 6, [1]⟩ →
    Sys2Proof.Machine.exec (.mgmtRestart ch) s = .next (s.sealed
      (((s.respond (s.writeReq ⟨ch, 0, 0x8300, 6, [1]⟩) 0 0 [pdResult 0x8300 6 0 0 []]).restartAll 0 true).settle)))

/-- SHAPER_FABRIC, SHAPER_TIER, HOST_TIER_BASE and HOST_TIER_UNITS (shaperFabric, shaperTier, hostTierBase, hostTierUnits; R217, R317,
R394), where the write passes the steps of R437 before its value: a value that passes its checks lands in the shadow copy, and a
HOST_TIER value that fails one is refused with that check's failure. The active copy changes at the boundary that CMD_EFFECT stands for
(cmdEffect; R395), and with it a shaper's bucket is set anew (R317), the event ring restarts (R347), or a low-water mark is compared (R58,
R213); an entry without a waiting value, one that is no CMD entry, and the ring's entries, which wait for a RING_JOIN (R294), do not
change there. -/
def Obligations.CmdEntriesWaitInTheirShadow : Prop :=
  (∀ (s : State) (ch : Chan) (d : BitVec 12) (v : BitVec 256), s.MayWrite ⟨ch, d.toNat, 0x7130, 0, leBytes 32 v.toNat⟩ →
    s.valueFail ⟨0x7130, 0, 0, 9, 32, true, 1, 3, 3, 0, 1, 0, 0, 0⟩ ⟨0x7130, 0, d.toNat⟩ (leBytes 32 v.toNat) = none →
    Sys2Proof.Machine.exec (.shaperFabric ch d v) s = .next (s.sealed
      ((s.setShadow ⟨0x7130, 0, d.toNat⟩ (leBytes 32 v.toNat)).answer s ⟨ch, d.toNat, 0x7130, 0, leBytes 32 v.toNat⟩ 0 0)))
  ∧ (∀ (s : State) (ch : Chan) (d : BitVec 12) (v : BitVec 256), s.MayWrite ⟨ch, d.toNat, 0x7130, 1, leBytes 32 v.toNat⟩ →
    s.valueFail ⟨0x7130, 1, 1, 9, 32, true, 1, 3, 3, 0, 1, 0, 0, 0⟩ ⟨0x7130, 1, d.toNat⟩ (leBytes 32 v.toNat) = none →
    Sys2Proof.Machine.exec (.shaperTier ch d v) s = .next (s.sealed
      ((s.setShadow ⟨0x7130, 1, d.toNat⟩ (leBytes 32 v.toNat)).answer s ⟨ch, d.toNat, 0x7130, 1, leBytes 32 v.toNat⟩ 0 0)))
  ∧ (∀ (s : State) (ch : Chan) (d : BitVec 12) (v : BitVec 64), s.MayWrite ⟨ch, d.toNat, 0x3510, 1, leBytes 8 v.toNat⟩ →
    s.tierWrite 1 d.toNat v.toNat = none →
    Sys2Proof.Machine.exec (.hostTierBase ch d v) s = .next (s.sealed
      ((s.setShadow ⟨0x3510, 1, d.toNat⟩ (leBytes 8 v.toNat)).answer s ⟨ch, d.toNat, 0x3510, 1, leBytes 8 v.toNat⟩ 0 0)))
  ∧ (∀ (s : State) (ch : Chan) (d : BitVec 12) (v : BitVec 32), s.MayWrite ⟨ch, d.toNat, 0x3510, 2, leBytes 4 v.toNat⟩ →
    s.tierWrite 2 d.toNat v.toNat = none →
    Sys2Proof.Machine.exec (.hostTierUnits ch d v) s = .next (s.sealed
      ((s.setShadow ⟨0x3510, 2, d.toNat⟩ (leBytes 4 v.toNat)).answer s ⟨ch, d.toNat, 0x3510, 2, leBytes 4 v.toNat⟩ 0 0)))
  ∧ (∀ (s : State) (ch : Chan) (d : BitVec 12) (v : BitVec 64) (f : Fail), s.MayWrite ⟨ch, d.toNat, 0x3510, 1, leBytes 8 v.toNat⟩ →
    s.tierWrite 1 d.toNat v.toNat = some f →
    Sys2Proof.Machine.exec (.hostTierBase ch d v) s = .next (s.sealed
      (s.answer s ⟨ch, d.toNat, 0x3510, 1, leBytes 8 v.toNat⟩ f.st f.cause)))
  ∧ (∀ (s : State) (ch : Chan) (d : BitVec 12) (v : BitVec 32) (f : Fail), s.MayWrite ⟨ch, d.toNat, 0x3510, 2, leBytes 4 v.toNat⟩ →
    s.tierWrite 2 d.toNat v.toNat = some f →
    Sys2Proof.Machine.exec (.hostTierUnits ch d v) s = .next (s.sealed
      (s.answer s ⟨ch, d.toNat, 0x3510, 2, leBytes 4 v.toNat⟩ f.st f.cause)))
  ∧ (∀ (s t : State) (k : PdKey) (l : List Byte) (r : PdRow), (s.dict.shadow.find? fun p => p.1 == k) = some (k, l) →
    pdRow k.idx k.sub = some r → r.eff = 1 → governsRing k = false →
    t = ((s.setActive k l).modDict fun d => { d with shadow := d.shadow.filter fun q => q.1 ≠ k }) →
    (k.idx = 0x7130 → k.sub ≤ 1 →
      Sys2Proof.Machine.exec (.cmdEffect k) s = .next (s.sealed ((t.resetShaper k.dom k.sub).wake)))
    ∧ (k.idx = 0x8200 → (k.sub = 1 ∨ k.sub = 2) → Sys2Proof.Machine.exec (.cmdEffect k) s = .next (s.sealed (t.ringRestart.wake)))
    ∧ (k.idx = 0x3000 → Sys2Proof.Machine.exec (.cmdEffect k) s = .next (s.sealed (t.lowCheck.wake)))
    ∧ (k.idx = 0xA000 → Sys2Proof.Machine.exec (.cmdEffect k) s = .next (s.sealed (t.indexCheck.wake)))
    ∧ (¬ (k.idx = 0x7130 ∧ k.sub ≤ 1) → ¬ (k.idx = 0x8200 ∧ (k.sub = 1 ∨ k.sub = 2)) → k.idx ≠ 0x3000 → k.idx ≠ 0xA000 →
      Sys2Proof.Machine.exec (.cmdEffect k) s = .next (s.sealed t.wake)))
  ∧ (∀ (s : State) (k : PdKey), ((s.dict.shadow.find? fun p => p.1 == k) = none ∨ pdRow k.idx k.sub = none
      ∨ (∃ r, pdRow k.idx k.sub = some r ∧ r.eff ≠ 1) ∨ governsRing k = true) →
    Sys2Proof.Machine.exec (.cmdEffect k) s = .next (s.sealed s))

/-- PROFILE_COMMIT, SCORE_PROGRAM, SLICE, PARTITION_MODE and DMA_REGION (profileCommit, scoreProgram, slice, partitionMode, dmaRegion;
R17, R62, R117, R305, R366, R396), on a channel that serves, with the right: a write that passes its checks joins the writes that wait for
the commands it must not change under, and those that can apply do; one that fails a check is answered with it and does not wait.

DRAIN_APPLY (drainApply; R396): the first waiting write, once no admitted command holds it and its state conditions still hold (R62),
takes effect and is answered, and one whose conditions no longer hold is answered with the failure; those behind it are looked at in
order; while a command holds the first, none applies. DRAIN_WAIT_LIMIT (drainWaitLimit): the first fails with ST_BUSY, CAUSE 1; without one
nothing changes. -/
def Obligations.DrainWritesWaitAndApply : Prop :=
  (∀ (i : Instr) (w : EntryWrite) (s : State) (r : PdRow), entryWrite i = some w →
    ((∃ c, i = .profileCommit c) ∨ (∃ c e v, i = .scoreProgram c e v) ∨ (∃ c n v, i = .slice c n v)
      ∨ (∃ c v, i = .partitionMode c v) ∨ (∃ c d n v, i = .dmaRegion c d n v)) →
    s.Serves w.ch → s.accessFail w.ch true (s.writeKey w) w.value = .ok r →
    s.valueFail r (s.writeKey w) w.value = none → s.drainFail (s.writeKey w) w.value = none →
    Sys2Proof.Machine.exec i s = .next (s.sealed
      ((s.modDict fun d => { d with drains := d.drains ++ [⟨s.writeReq w, s.writeKey w, w.value, []⟩] }).settle)))
  ∧ (∀ (i : Instr) (w : EntryWrite) (s : State) (r : PdRow) (f : Fail), entryWrite i = some w →
    ((∃ c, i = .profileCommit c) ∨ (∃ c e v, i = .scoreProgram c e v) ∨ (∃ c n v, i = .slice c n v)
      ∨ (∃ c v, i = .partitionMode c v) ∨ (∃ c d n v, i = .dmaRegion c d n v)) →
    s.Serves w.ch → s.accessFail w.ch true (s.writeKey w) w.value = .ok r →
    (s.valueFail r (s.writeKey w) w.value).or (s.drainFail (s.writeKey w) w.value) = some f →
    Sys2Proof.Machine.exec i s = .next (s.sealed
      ((s.opFailed (s.writeReq w) ⟨2, w.idx, w.sub, w.value.length, w.value⟩ f).answer s w f.st f.cause)))
  ∧ ((∀ (s t : State) (w : DrainWrite) (r : List DrainWrite), s.dict.drains = w :: r → s.quiesced w.key = true →
    (w.key.idx = 0x7000 → s.partBroken w.key w.value = 0) → s.drainFail w.key w.value = none →
    t = (((s.drainApply w.key w.value).endDrain w 0 0).wake).drainStepAll (r.length + 1) →
    Sys2Proof.Machine.exec .drainApply s = .next (s.sealed (t.serveWaiting t.dict.waiting)))
  ∧ (∀ (s t : State) (w : DrainWrite) (r : List DrainWrite) (f : Fail), s.dict.drains = w :: r → s.quiesced w.key = true →
    (if w.key.idx = 0x7000 ∧ s.partBroken w.key w.value ≠ 0 then some (bad 0xFF) else none).or (s.drainFail w.key w.value) = some f →
    t = ((s.markFail w.key w.value f).endDrain w f.st f.cause).drainStepAll (r.length + 1) →
    Sys2Proof.Machine.exec .drainApply s = .next (s.sealed (t.serveWaiting t.dict.waiting)))
  ∧ (∀ s : State, (s.dict.drains = [] ∨ ∃ w r, s.dict.drains = w :: r ∧ s.quiesced w.key = false) →
    Sys2Proof.Machine.exec .drainApply s = .next (s.sealed (s.serveWaiting s.dict.waiting)))
  ∧ (∀ (s : State) (w : DrainWrite) (r : List DrainWrite), s.dict.drains = w :: r →
    Sys2Proof.Machine.exec .drainWaitLimit s = .next (s.sealed ((s.endDrain w stBusy 1).settle)))
  ∧ (∀ s : State, s.dict.drains = [] → Sys2Proof.Machine.exec .drainWaitLimit s = .next (s.sealed s))
  ∧ (∀ (s : State) (l : List Byte) (d n : Nat),
      s.drainApply ⟨0x2000, 0x15, d⟩ l = s.modProf (fun x =>
        { x with act := x.staged, state := 1, error := 0, digest := x.staged.digest })
      ∧ s.drainApply ⟨0x2100, n, d⟩ l = s.setActive ⟨0x2100, n, d⟩ (padTo 128 l)
      ∧ s.drainApply ⟨0x4310, n, d⟩ l = s.setSlice n (ofBytes 64 l)
      ∧ s.drainApply ⟨0x7000, 3, d⟩ l = s.setPartition (leNat l)
      ∧ s.drainApply ⟨0x3710, n, d⟩ l = s.setActive ⟨0x3710, n, d⟩ l))

/-- PD_REQUEST and PD_ACCESS (pdRequest, pdAccess; R349, R360, R390, R398, R400, R402), in every case: the bytes are read as a request of
the channel and its caller's domain. A channel that serves runs it, or answers one whose form is wrong as a whole; while the firmware does
not serve, the answer is ST_BUSY, CAUSE 2; a channel that is full, or in which an earlier request waits, keeps it; a closed one carries
none.

EVENT_RING_RECONFIG (eventRingReconfig; R347): each half of the ring's place that waits takes effect and the ring starts again; with
neither waiting nothing changes. MGMT_KICK (mgmtKick) changes nothing that this model holds: the watchdog's time is left out. -/
def Obligations.RequestsRunAndTheEventRingMoves : Prop :=
  ((∀ (i : Instr) (s : State) (ch : Chan) (l : List Byte) (q : PdReq), (i = .pdRequest ch l ∨ (ch = .mailbox ∧ i = .pdAccess l)) →
    q = parseRequest ch 0 (match ch with | .dataQp n => (s.qp n.toNat).dom | _ => 0) l →
    (s.Serves ch → q.bad = none → Sys2Proof.Machine.exec i s = .next (s.sealed ((s.runOps q [] false q.ops).settle)))
    ∧ (∀ st cause, s.Serves ch → q.bad = some (st, cause) →
      Sys2Proof.Machine.exec i s = .next (s.sealed ((s.respond q st cause []).settle)))
    ∧ (s.chanOpen ch = true → s.inFlight ch < chanLimit ch → (∀ w ∈ s.dict.waiting, w.ch ≠ ch) → s.mgmtUp = false →
      Sys2Proof.Machine.exec i s = .next (s.sealed ((s.respond q stBusy 2 []).settle)))
    ∧ (s.chanOpen ch = true → (chanLimit ch ≤ s.inFlight ch ∨ ∃ w ∈ s.dict.waiting, w.ch = ch) →
      Sys2Proof.Machine.exec i s = .next (s.sealed (s.modDict fun d => { d with waiting := d.waiting ++ [q] })))
    ∧ (s.chanOpen ch = false → Sys2Proof.Machine.exec i s = .next (s.sealed s))))
  ∧ ((∀ (s t : State) (a : List Byte), (s.dict.shadow.find? fun p => p.1 == ⟨0x8200, 1, 0⟩) = some (⟨0x8200, 1, 0⟩, a) →
    t = ((((s.setActive ⟨0x8200, 1, 0⟩ a).modDict fun d => { d with shadow := d.shadow.filter fun q => q.1 ≠ ⟨0x8200, 1, 0⟩
        }).ringRestart).wake) →
    ((t.dict.shadow.find? fun p => p.1 == ⟨0x8200, 2, 0⟩) = none →
      Sys2Proof.Machine.exec .eventRingReconfig s = .next (s.sealed t))
    ∧ (∀ b, (t.dict.shadow.find? fun p => p.1 == ⟨0x8200, 2, 0⟩) = some (⟨0x8200, 2, 0⟩, b) →
      Sys2Proof.Machine.exec .eventRingReconfig s = .next (s.sealed
        ((((t.setActive ⟨0x8200, 2, 0⟩ b).modDict fun d => { d with shadow := d.shadow.filter fun q => q.1 ≠ ⟨0x8200, 2, 0⟩
          }).ringRestart).wake))))
  ∧ (∀ s : State, (s.dict.shadow.find? fun p => p.1 == ⟨0x8200, 1, 0⟩) = none →
    ((s.dict.shadow.find? fun p => p.1 == ⟨0x8200, 2, 0⟩) = none →
      Sys2Proof.Machine.exec .eventRingReconfig s = .next (s.sealed s))
    ∧ (∀ b, (s.dict.shadow.find? fun p => p.1 == ⟨0x8200, 2, 0⟩) = some (⟨0x8200, 2, 0⟩, b) →
      Sys2Proof.Machine.exec .eventRingReconfig s = .next (s.sealed
        ((((s.setActive ⟨0x8200, 2, 0⟩ b).modDict fun d => { d with shadow := d.shadow.filter fun q => q.1 ≠ ⟨0x8200, 2, 0⟩
          }).ringRestart).wake))))
  ∧ (∀ s : State, Sys2Proof.Machine.exec .mgmtKick s = .next (s.sealed s)))

/-! ## Items, stripes, refresh -/

/-- SHEAF_BUILD (sheafBuild; R189, R190, R193): the ready items of the slice are taken in the order of the sheaf. Each in its turn is
passed over in a brown-out, where it is no longer ready, where the prefill budget is spent while items of the other path wait, or where
its stripes' tokens are not free; else it is placed on the first of its tiles that can take it, or begins to wait.

ITEM_START (itemStart; R146, R148, R309, R414): a placed item starts at the clock's time where no brown-out holds, its domain has the
turn and some leaf of it has all its inputs; else, and for a tag that no placed item has, nothing changes.

ITEM_END (itemEnd; R149, R156, R345): for a tag that no running item has, or while a stripe or another input is awaited, nothing changes.
With all inputs in, injections due on its tile's SRAM and link are met, and one due on its datapath fails it there, where none has
disabled the tile's checks; else the next item of a CHAINED set takes over, or the item ends and its row set closes when it is the last;
the tile path is counted and a filled-in run charged.

GRANULE_ZERO_FILL_DONE (granuleZeroFillDone; R152): the granules of the tile that were being cleared are free, at most 64. -/
def Obligations.ItemsRunOnTiles : Prop :=
  (∀ (s t : State) (slice : BitVec 4) (ready : List Item) (budget : Nat), t = (List.range 12).foldl State.pump s →
    ready = (t.sched.items.filter fun it => it.op == .score && it.slice == slice.toNat && t.itemReady it) →
    budget = t.num 0x4200 2 * ((List.range 16).filter fun g => (sliceGroups (t.sliceReg slice.toNat)).testBit g).length →
    ∃ run : State → Nat → List Item → State, (∀ u p, run u p [] = u)
      ∧ (∀ (u : State) p it l, (u.power.brownOut = true ∨ u.itemReady it = false
          ∨ (it.tilePath = true ∧ budget < p + it.positions ∧ ∃ x ∈ ready, x.tilePath = false)
          ∨ (it.tilePath = false ∧ u.tokensFor it = false)) → run u p (it :: l) = run u p l)
      ∧ (∀ (u : State) p it l, u.power.brownOut = false → u.itemReady it = true →
          (it.tilePath = true → p + it.positions ≤ budget ∨ ∀ x ∈ ready, x.tilePath = true) →
          (it.tilePath = false → u.tokensFor it = true) →
          (∀ k, ((u.itemTiles it).find? fun k => u.fits it k && u.turnFree ready it k) = some k →
            run u p (it :: l) = run (u.place it k) (if it.tilePath then p + it.positions else p) l)
          ∧ ((∀ k ∈ u.itemTiles it, ¬ (u.fits it k = true ∧ u.turnFree ready it k = true)) →
            run u p (it :: l) = run (u.beginWait it) p l))
      ∧ Sys2Proof.Machine.exec (.sheafBuild slice) s = .next (s.sealed (run t 0 (sortBy t.sheafKey ready))))
  ∧ (∀ (s : State) (tag : BitVec 14),
    (∀ it : Item, (s.sched.items.find? fun it => it.tag == tag.toNat && it.st == .placed) = some it →
      (s.power.brownOut = false → s.turnOk it.tile it.dom = true → (∃ k < it.leaves, s.leafIn it (it.leaf0 + k) = true) →
        Sys2Proof.Machine.exec (.itemStart tag) s = .next (s.sealed
          (s.modItem tag.toNat fun x => { x with st := .running, startedAt := s.xnt.clock })))
      ∧ ((s.power.brownOut = true ∨ s.turnOk it.tile it.dom = false ∨ ∀ k < it.leaves, s.leafIn it (it.leaf0 + k) = false) →
        Sys2Proof.Machine.exec (.itemStart tag) s = .next (s.sealed s)))
    ∧ ((∀ it ∈ s.sched.items, it.tag = tag.toNat → it.st ≠ .placed) → Sys2Proof.Machine.exec (.itemStart tag) s = .next (s.sealed s)))
  ∧ (∀ (s : State) (tag : BitVec 14),
    (∀ it : Item, (s.sched.items.find? fun it => it.tag == tag.toNat && it.st == .running) = some it →
      ((it.stripes ≠ [] ∨ ∃ k < it.leaves, s.leafIn it (it.leaf0 + k) = false) →
        Sys2Proof.Machine.exec (.itemEnd tag) s = .next (s.sealed s))
      ∧ (∀ (inj off : Bool) (a t u v : State), it.stripes = [] → (∀ k < it.leaves, s.leafIn it (it.leaf0 + k) = true) →
        (s.itemErrors (s.physTile it.tile)).takeInject (s.physTile it.tile) (s.physTile it.tile) 0 = (inj, a) →
        a.checkOff (s.physTile it.tile) (s.physTile it.tile) = (off, t) → u = (if it.tilePath then t.bump 0xB100 0xC else t) →
        v = (if it.backfill then u.chargeTurn it.tile it.dom (t.ranFor it) else u) →
        (inj = true → off = false → Sys2Proof.Machine.exec (.itemEnd tag) s = .next (s.sealed (t.tileFails 0x06 it true)))
        ∧ (∀ x, inj = false ∨ off = true → it.chained = true → v.chainNext it = some x →
          Sys2Proof.Machine.exec (.itemEnd tag) s = .next (s.sealed (v.chainOn it x)))
        ∧ (inj = false ∨ off = true → it.chained = false ∨ v.chainNext it = none →
          Sys2Proof.Machine.exec (.itemEnd tag) s = .next (s.sealed
            (((v.freeItem it).modItem it.tag fun x => { x with st := .ended }).closeRows it)))))
    ∧ ((∀ it ∈ s.sched.items, it.tag = tag.toNat → it.st ≠ .running) → Sys2Proof.Machine.exec (.itemEnd tag) s = .next (s.sealed s)))
  ∧ (∀ (s : State) (k : Nat) (w : Bool) (t : State), s.takeInject k k 2 = (w, t) → s.itemErrors k =
    (if w then (t.bump 0xB100 9).raise 0x08 k k none [] true fun l x => x.detect 0x08 k k l true else t).linkOff k k)
  ∧ (∀ (s : State) (tile : BitVec 7), Sys2Proof.Machine.exec (.granuleZeroFillDone tile) s = .next (s.sealed
      (s.modTile tile.toNat fun x => { x with free := Nat.min 64 (x.free + x.zeroing), zeroing := 0 })))

/-- ITEM_OVERRUN (itemOverrun; R146): a running item is counted and killed; the item it was is replaced by its halves, which wait anew,
and the reservation of a CHAINED set is formed again. For a tag that no running item has nothing changes, and an item whose command is
gone is only killed. Two items replace it: where it has two leaves or more they have its leaves one after the other and all its rows;
else, of two rows or more, its rows and its leaf. An item of one leaf and one row starts again whole. -/
def Obligations.HalvesTogetherAreTheItem : Prop :=
  (∀ (s : State) (tag : BitVec 14),
    (∀ (it : Item) (t : State), (s.sched.items.find? fun it => it.tag == tag.toNat && it.st == .running) = some it →
      t = (s.bump 0xB100 0xB).requeueAll [it] →
      (∀ (w : Item) (c : Cmd) (v : Cut),
        (t.sched.items.find? fun x => it.meets x && x.row0 == it.row0 && x.leaf0 == it.leaf0) = some w →
        t.cmd it.cmd = some c → t.itemCut c w = some v →
        Sys2Proof.Machine.exec (.itemOverrun tag) s = .next (s.sealed (((v.halves { w with tag := 0 }).foldl State.addItem
          (t.modSched fun q => { q with items := q.items.filter fun x =>
            !(it.meets x && x.row0 == it.row0 && x.leaf0 == it.leaf0) })).rechain v it)))
      ∧ ((∀ w c, (t.sched.items.find? fun x => it.meets x && x.row0 == it.row0 && x.leaf0 == it.leaf0) = some w →
          t.cmd it.cmd = some c → t.itemCut c w = none) →
        Sys2Proof.Machine.exec (.itemOverrun tag) s = .next (s.sealed t)))
    ∧ ((∀ it ∈ s.sched.items, it.tag = tag.toNat → it.st ≠ .running) →
      Sys2Proof.Machine.exec (.itemOverrun tag) s = .next (s.sealed s)))
  ∧ (∀ (v : Cut) (it : Item), (2 ≤ it.leaves ∨ 2 ≤ it.rows → ∃ a b : Item, v.halves it = [a, b] ∧ a.st = .waiting ∧ b.st = .waiting
      ∧ a.cmd = it.cmd ∧ b.cmd = it.cmd ∧ a.head = it.head ∧ b.head = it.head ∧ a.stripes = [] ∧ b.stripes = []
      ∧ a.leaf0 = it.leaf0 ∧ a.row0 = it.row0
      ∧ (2 ≤ it.leaves → b.leaf0 = a.leaf0 + a.leaves ∧ b.row0 = it.row0 ∧ a.leaves + b.leaves = it.leaves ∧ a.rows = it.rows
          ∧ b.rows = it.rows ∧ 0 < a.leaves ∧ 0 < b.leaves)
      ∧ (it.leaves < 2 → b.row0 = a.row0 + a.rows ∧ b.leaf0 = it.leaf0 ∧ a.rows + b.rows = it.rows ∧ a.leaves = it.leaves
          ∧ b.leaves = it.leaves ∧ 0 < a.rows ∧ 0 < b.rows))
    ∧ (it.leaves < 2 → it.rows < 2 → v.halves it = [{ it with st := .waiting, stripes := [], trailers := [] }]))

/-- TURN_END (turnEnd; R190, R191, R309): the domains in line for the tile are, in strict partition mode, all that include it, else those
with a ready item for it. The turn passes to the next of them above the holder, and after the last to the first, but in strict partition
mode to none while 64ths are unassigned. In shared mode the overrun is charged to the holder that ends; the charge of the next holder
is spent, and in strict partition mode its turn lasts TILE_SHARE times TIME_QUANTUM.

PREEMPT_WAIT (preemptWait; R191, R193, R194): an item that still waits for granules kills, on the tile chosen for it when its wait began,
the victims that make up its shortage: each is counted and noted, in shared mode its run time is charged to the domain of the item
killed for, and it waits anew. Where its victims do not suffice none is killed; where it waits for nothing any more, and for a tag whose
item has not begun to wait, nothing changes. The victims are the first ones, as few as make up the shortage. -/
def Obligations.TurnsAndPreemption : Prop :=
  (∀ (s : State) (tile : BitVec 6) (ns : BitVec 32) (t : Turn) (line : List Nat) (next : Option Nat) (c1 c2 : List (Nat × Nat)) (till : Nat),
    t = s.turn tile.toNat →
    line = (if s.strict then s.tileDoms tile.toNat else (s.tileDoms tile.toNat).filter fun d =>
      s.sched.items.any fun it => it.dom == d && s.itemReady it && (s.sliceTiles it.slice d).contains tile.toNat) →
    (∀ h, t.holder = some h → (∀ d, line.find? (fun d => decide (h < d)) = some d → next = some d)
      ∧ ((∀ d ∈ line, d ≤ h) → next = if s.strict = true ∧ ((s.tileDoms tile.toNat).map fun d => s.num 0x7120 3 d).sum < 64 then none
          else line.head?)) →
    (t.holder = none → next = line.head?) →
    (∀ h, t.holder = some h → s.strict = false → 0 < ns.toNat → c1 = abump t.charges h ns.toNat) →
    (t.holder = none ∨ s.strict = true ∨ ns.toNat = 0 → c1 = t.charges) →
    (∀ d, next = some d → c2 = adel c1 d ∧ till = if s.strict then s.xnt.clock + 1000 * (s.num 0x7120 3 d * s.num 0x4200 3) else 0) →
    (next = none → c2 = c1 ∧ till = 0) →
    Sys2Proof.Machine.exec (.turnEnd tile ns) s = .next (s.sealed (s.modSched fun q =>
      { q with turns := aput q.turns tile.toNat { holder := next, till := till, charges := c2 } })))
  ∧ (∀ (s : State) (tag : BitVec 14),
    (∀ (it : Item) (b : Nat × Nat × Nat × Nat), (s.sched.items.find? fun it => it.tag == tag.toNat) = some it →
      (s.sched.barred.find? fun b => b.1 == tag.toNat) = some b →
      (∀ (v : List Item) (kill : State → Item → State), b.2.1 = it.cmd → s.preempts it = true → s.killsOn it b.2.2.1 = some v →
        (∀ (t : State) x, (∀ y ∈ t.sched.items, y.tag = x.tag → y.cmd = x.cmd → y.onTile = false) → kill t x = t) →
        (∀ (t u : State) (x y : Item), (t.sched.items.find? fun y => y.tag == x.tag && y.cmd == x.cmd && y.onTile) = some y →
          u = ((t.bump 0x4000 9).modSched fun q => { q with items := q.items.map fun z =>
            if z.tag = y.tag ∨ (y.chained = true ∧ y.meets z = true) then { z with kills := z.kills + 1 } else z }) →
          (s.strict = true → kill t x = u.requeue y)
          ∧ (s.strict = false → kill t x = (u.chargeTurn y.tile it.dom (t.ranFor y)).requeue y)) →
        Sys2Proof.Machine.exec (.preemptWait tag) s = .next (s.sealed (v.foldl kill s)))
      ∧ ((b.2.1 ≠ it.cmd ∨ s.preempts it = false ∨ s.killsOn it b.2.2.1 = none) →
        Sys2Proof.Machine.exec (.preemptWait tag) s = .next (s.sealed s)))
    ∧ ((∀ it ∈ s.sched.items, it.tag ≠ tag.toNat) ∨ (∀ b ∈ s.sched.barred, b.1 ≠ tag.toNat) →
      Sys2Proof.Machine.exec (.preemptWait tag) s = .next (s.sealed s)))
  ∧ (∀ (n : Nat) (l v : List Item), takeVictims n l = some v →
    ∃ r, l = v ++ r ∧ n ≤ (v.map Item.granules).sum ∧ ∀ k, k < v.length → ((v.take k).map Item.granules).sum < n)

/-- STRIPE_END (stripeEnd; R79, R83 to R86, R97, R311, R330, R345): a running stripe leaves its awn; a corrected error is counted, also a due
injected one, a due injection on the link is retried, and an uncorrected error loses its slot. A stripe of a dead tag ends unused; after an uncorrected error the command fails; a stripe that
writes a page is done; the scores of a SCORE or SUMMARY stripe come with a trailer, in which a due injection clears ABFT_OK, and a check
that another has disabled reads 1. Where the trailer passes they are accepted, in strict partition mode held in the base die first; else the stripe fails its check. At its end the
tag is freed, and the bank pair and the stack go on. For a tag that no running stripe has nothing changes.

INTERFACE_SLOT (interfaceSlot; R311): the scores held for the slot are accepted: in shared mode all of the stack, in strict partition mode
those of the slot's owner, and those of dead tags.

REFRESH_DUE, REFRESH_MANAGEMENT and REFRESH_DONE (refreshDue, refreshManagement, refreshDone; R93): under a stripe the command waits,
and the first postponement of a refresh is counted; under a running refresh it waits too; else it runs at once. A refresh that ends lets
a waiting one follow, at the boundary, or the bank pair go on; where none runs its end changes nothing. -/
def Obligations.StripesAndRefresh : Prop :=
  ((∀ (s : State) (tag : BitVec 32) (r : StripeResult),
    ((∀ x ∈ s.awns.stripes, x.tag ≠ tag.toNat) → Sys2Proof.Machine.exec (.stripeEnd tag r) s = .next (s.sealed s))
    ∧ (∀ (x : Stripe) (a b t : State), (s.awns.stripes.find? fun y => y.tag == tag.toNat) = some x →
      a = (s.modAwns fun a => { a with stripes := a.stripes.filter fun y => y.tag ≠ tag.toNat }) →
      (∀ (w : Bool) (d : State), a.takeInject (0x100 + x.stack) x.awn 2 = (w, d) →
        b = (if r.corrected || w then d.arrayCe x.inp.slot (!r.corrected) else d).linkOff (0x100 + x.stack) x.awn) →
      t = (if r.uncorrected then b.arrayUe x.inp.slot false else b) →
      ∃ u : State, Sys2Proof.Machine.exec (.stripeEnd tag r) s = .next (s.sealed
          (((u.freeTag tag.toNat).boundary x.stack x.ch x.bp).pump x.stack))
        ∧ (t.stripeOwner tag.toNat = none → u = t)
        ∧ (∀ it : Item, t.stripeOwner tag.toNat = some it →
          (r.uncorrected = true → u = t.failParts [it.cmd])
          ∧ (r.uncorrected = false → it.op ≠ .score → it.op ≠ .summary → u = t.stripeDone tag.toNat [])
          ∧ (∀ (inj off : Bool) (d v w : State) (tr : BitVec 128), r.uncorrected = false → it.op = .score ∨ it.op = .summary →
            t.takeInject (0x100 + x.stack) x.awn 0 = (inj, d) → d.checkOff (0x100 + x.stack) x.awn = (off, v) →
            tr = (if off then v.trailer it x { r with abftOk := r.abftOk && !inj } ||| 0x3000000#128
              else v.trailer it x { r with abftOk := r.abftOk && !inj }) →
            w = (v.modAwns fun a => { a with reruns := a.reruns.filter fun z => z.1 ≠ x.tag }) →
            (bit tr 24 = true → bit tr 25 = true → r.crcOk = true →
              (w.strict = false → u = w.stripeDone (fld tr 32 32) [tr])
              ∧ (w.strict = true → u = w.modAwns fun a => { a with held := a.held ++ [(x.stack, tr)] }))
            ∧ ((bit tr 24 = false ∨ bit tr 25 = false ∨ r.crcOk = false) →
              u = v.stripeFails x (bit tr 24) (bit tr 25) inj)))))
  ∧ (∀ (s : State) (stack : BitVec 4) (i : BitVec 6) (mine : BitVec 128 → Bool),
    (∀ t, mine t = match s.stripeOwner (fld t 32 32) with
      | some it => !s.strict || (s.num 0x7120 7 it.dom).testBit i.toNat
      | none => true) →
    Sys2Proof.Machine.exec (.interfaceSlot stack i) s = .next (s.sealed
      (((s.awns.held.filter fun h => h.1 == stack.toNat && mine h.2).map Prod.snd).foldl
        (fun u t => u.stripeDone (fld t 32 32) [t])
        (s.modAwns fun a => { a with held := a.held.filter fun h => !(h.1 == stack.toNat && mine h.2) })))))
  ∧ (∀ (s : State) (bp : BankPair) (k c p : Nat) (r : BpRefresh), k = bp.stack.toNat → c = bp.ch.toNat → p = bp.bp.toNat →
    r = s.refreshOf k c p →
    (s.bpBusy k c p = true →
      (∀ t, t = s.setRefresh k c p { r with due := true, postponed := 1 } →
        (t.counter 0xB000 0xB = 0 → Sys2Proof.Machine.exec (.refreshDue bp) s = .next (s.sealed (t.bump 0xB000 0xB)))
        ∧ (t.counter 0xB000 0xB ≠ 0 → Sys2Proof.Machine.exec (.refreshDue bp) s = .next (s.sealed t)))
      ∧ Sys2Proof.Machine.exec (.refreshManagement bp) s = .next (s.sealed
          (s.setRefresh k c p { r with management := true, postponed := 1 })))
    ∧ (s.bpBusy k c p = false → r.running = true →
      Sys2Proof.Machine.exec (.refreshDue bp) s = .next (s.sealed (s.setRefresh k c p { r with due := true }))
      ∧ Sys2Proof.Machine.exec (.refreshManagement bp) s = .next (s.sealed (s.setRefresh k c p { r with management := true })))
    ∧ (s.bpBusy k c p = false → r.running = false →
      Sys2Proof.Machine.exec (.refreshDue bp) s = .next (s.sealed (s.setRefresh k c p { running := true }))
      ∧ Sys2Proof.Machine.exec (.refreshManagement bp) s = .next (s.sealed (s.setRefresh k c p { running := true })))
    ∧ (r.running = false → Sys2Proof.Machine.exec (.refreshDone bp) s = .next (s.sealed s))
    ∧ (r.running = true → (r.due = true ∨ r.management = true) → Sys2Proof.Machine.exec (.refreshDone bp) s = .next (s.sealed
        ((s.setRefresh k c p { r with running := false }).boundary k c p)))
    ∧ (r.running = true → r.due = false → r.management = false → Sys2Proof.Machine.exec (.refreshDone bp) s = .next (s.sealed
        ((s.modAwns fun a => { a with refresh := adel a.refresh (bpKey k c p) }).boundary k c p))))

/-! ## Sweeps, scrub, patrol, spares, narrowing -/

/-- SWEEP (sweep; R79, R87, R95, R96, R345): a sweep that can run, of an awn that exists and is not retired, changes nothing where it
passes both its halves and none of its checks has been disabled since the last; else the awn takes a detection and is retired. Where it cannot run, or there is no awn to
sweep, nothing changes.

TILE_SWEEP (tileSweep; R152, R155, R345): the same of a tile, whose granule is cleared after the sweep.

CHECKER_SWEEP (checkerSweep; R333, R334, R345): a shared checker that passes is late no more; one that does not is late.

CHECKER_LATE (checkerLate; R334): an awn or tile that is not retired is counted, recorded and retired, and nothing changes for one that is;
a shared checker is counted, recorded and late, once. -/
def Obligations.SweepsTestTheCheckers : Prop :=
  (∀ (s t : State) (u : BitVec 32) (r : SweepResult) (inj : Bool), s.sweepOff (0x100 + uStack u.toNat) u.toNat = (inj, t) →
    ((awnExists u.toNat = false ∨ (s.awn u.toNat).st = 2 ∨ s.sweepRuns u.toNat = false) →
      Sys2Proof.Machine.exec (.sweep u r) s = .next (s.sealed s))
    ∧ (awnExists u.toNat = true → (s.awn u.toNat).st ≠ 2 → s.sweepRuns u.toNat = true →
      (r = ⟨true, true⟩ → inj = false → Sys2Proof.Machine.exec (.sweep u r) s = .next (s.sealed t))
      ∧ ((r ≠ ⟨true, true⟩ ∨ inj = true) → Sys2Proof.Machine.exec (.sweep u r) s = .next (s.sealed
          (t.raise 0x05 (0x100 + uStack u.toNat) u.toNat none [] inj fun l t =>
            ((t.detect 0x05 (0x100 + uStack u.toNat) u.toNat l inj).modAwn u.toNat fun x =>
              { x with detections := sat8 x.detections }).retireAwn u.toNat)))))
  ∧ (∀ (s t v : State) (k : BitVec 7) (r : SweepResult) (inj : Bool), s.sweepOff k.toNat k.toNat = (inj, t) →
    v = (t.modTile k.toNat fun x => { x with free := x.free - 1, zeroing := x.zeroing + 1 }) →
    ((72 ≤ k.toNat ∨ (s.tile k.toNat).st = 2 ∨ s.tileSweeps k.toNat = false) →
      Sys2Proof.Machine.exec (.tileSweep k r) s = .next (s.sealed s))
    ∧ (k.toNat < 72 → (s.tile k.toNat).st ≠ 2 → s.tileSweeps k.toNat = true →
      (r = ⟨true, true⟩ → inj = false → Sys2Proof.Machine.exec (.tileSweep k r) s = .next (s.sealed v))
      ∧ ((r ≠ ⟨true, true⟩ ∨ inj = true) → Sys2Proof.Machine.exec (.tileSweep k r) s = .next (s.sealed
          (v.raise 0x07 k.toNat k.toNat none [] inj fun l x =>
            ((x.detect 0x07 k.toNat k.toNat l inj).modTile k.toNat fun y => { y with detections := sat8 y.detections }).retireTile
              k.toNat)))))
  ∧ (∀ (s t : State) (c : Checker) (r : SweepResult) (inj : Bool),
    s.sweepOff (checkerIsland (checkerNo c)) (checkerNo c) = (inj, t) →
    (r = ⟨true, true⟩ → inj = false → Sys2Proof.Machine.exec (.checkerSweep c r) s = .next (s.sealed
      (t.modFaults fun q => { q with late := q.late.filter (· ≠ checkerNo c) })))
    ∧ ((r ≠ ⟨true, true⟩ ∨ inj = true) →
      (checkerNo c ∈ t.faults.late → Sys2Proof.Machine.exec (.checkerSweep c r) s = .next (s.sealed t))
      ∧ (checkerNo c ∉ t.faults.late → Sys2Proof.Machine.exec (.checkerSweep c r) s = .next (s.sealed
          ((t.bump 0x8000 0x10).raise 0x13 (checkerIsland (checkerNo c)) (checkerNo c) none [] inj fun _ x =>
            x.modFaults fun q => { q with late := q.late ++ [checkerNo c] })))))
  ∧ (∀ (s : State),
    (∀ u : BitVec 32,
      (awnExists u.toNat = true → (s.awn u.toNat).st ≠ 2 → Sys2Proof.Machine.exec (.checkerLate (.awn u)) s = .next (s.sealed
        ((s.bump 0x8000 0x10).raise 0x13 (0x100 + uStack u.toNat) u.toNat none [] false fun _ t => t.retireAwn u.toNat)))
      ∧ ((awnExists u.toNat = false ∨ (s.awn u.toNat).st = 2) →
        Sys2Proof.Machine.exec (.checkerLate (.awn u)) s = .next (s.sealed s)))
    ∧ (∀ k : BitVec 7,
      (k.toNat < 72 → (s.tile k.toNat).st ≠ 2 → Sys2Proof.Machine.exec (.checkerLate (.tile k)) s = .next (s.sealed
        ((s.bump 0x8000 0x10).raise 0x13 k.toNat k.toNat none [] false fun _ t => t.retireTile k.toNat)))
      ∧ ((72 ≤ k.toNat ∨ (s.tile k.toNat).st = 2) → Sys2Proof.Machine.exec (.checkerLate (.tile k)) s = .next (s.sealed s)))
    ∧ (∀ c : Checker,
      (checkerNo c ∉ s.faults.late → Sys2Proof.Machine.exec (.checkerLate (.shared c)) s = .next (s.sealed
        ((s.bump 0x8000 0x10).raise 0x13 (checkerIsland (checkerNo c)) (checkerNo c) none [] false fun _ t =>
          t.modFaults fun q => { q with late := q.late ++ [checkerNo c] })))
      ∧ (checkerNo c ∈ s.faults.late → Sys2Proof.Machine.exec (.checkerLate (.shared c)) s = .next (s.sealed s))))

/-- SCRUB (scrub; R54, R79, R91, R97, R105): a queued slot without readers that nothing can scrub any more is withdrawn. One whose scrub can
run on a free awn is zero-filled and free, or, where an uncorrected error is met, reported and withdrawn. Where the slot is not queued,
a reader is left or the scrub cannot run yet, nothing changes.

PATROL (patrol; R92, R336): a read that cannot run yet changes nothing. Else the slot is read, unless it is lost, withdrawn or
beyond the last one, and the last slot ends a pass.

PATROL_SUSPECT_VERIFY (patrolSuspectVerify; R337): a suspect slot leaves the list; where the read failed, the detections made for it are
withdrawn; and it is read unless it is lost. Where the slot is no suspect or the read cannot run yet, nothing changes.

What a read does (R88, R97, R336): a corrected error, or an injection that is due, is counted; an uncorrected one loses the slot; a
mismatch loses a page's slot, and scrubs a free one again. -/
def Obligations.ScrubAndPatrol : Prop :=
  (∀ (s : State) (n : BitVec 25) (ue : Bool),
    (∀ readers, aget s.pages.use n.toNat = some (.scrub readers) →
      ((∃ id ∈ readers, s.cmd id ≠ none) → Sys2Proof.Machine.exec (.scrub n ue) s = .next (s.sealed s))
      ∧ ((∀ id ∈ readers, s.cmd id = none) →
        (s.slotWorks n.toNat = false → Sys2Proof.Machine.exec (.scrub n ue) s = .next (s.sealed (s.setUse n.toNat .withdrawn)))
        ∧ (s.slotWorks n.toNat = true →
          (s.backgroundRuns n.toNat true = false → Sys2Proof.Machine.exec (.scrub n ue) s = .next (s.sealed s))
          ∧ ((∀ u, s.stripeAwn (slotStack n.toNat) (slotChan n.toNat) (slotBp n.toNat) none = some u → s.awnBusy u = true) →
            Sys2Proof.Machine.exec (.scrub n ue) s = .next (s.sealed s))
          ∧ (∀ u, s.backgroundRuns n.toNat true = true →
            s.stripeAwn (slotStack n.toNat) (slotChan n.toNat) (slotBp n.toNat) none = some u → s.awnBusy u = false →
            (ue = false → Sys2Proof.Machine.exec (.scrub n ue) s = .next (s.sealed
              ((s.modPages fun p => { p with use := adel p.use n.toNat, slots := adel p.slots n.toNat,
                                             lost := p.lost.filter (· ≠ n.toNat) }).lowCheck)))
            ∧ (ue = true → Sys2Proof.Machine.exec (.scrub n ue) s = .next (s.sealed
              ((s.bump 0xB000 9).raise 0x01 (0x100 + slotStack n.toNat)
                (chanUnit (slotStack n.toNat) (s.physChan (slotStack n.toNat) (slotChan n.toNat))) none [] false
                fun _ t => t.setUse n.toNat .withdrawn)))))))
    ∧ ((∀ readers, aget s.pages.use n.toNat ≠ some (.scrub readers)) →
      Sys2Proof.Machine.exec (.scrub n ue) s = .next (s.sealed s)))
  ∧ (∀ (s : State) (n : BitVec 25) (r : ReadResult),
    (n.toNat < slotCount → s.backgroundRuns n.toNat false = false → Sys2Proof.Machine.exec (.patrol n r) s = .next (s.sealed s))
    ∧ (slotCount ≤ n.toNat → Sys2Proof.Machine.exec (.patrol n r) s = .next (s.sealed s))
    ∧ (n.toNat < slotCount → s.backgroundRuns n.toNat false = true → ∀ t : State,
      (n.toNat ∈ s.pages.lost ∨ aget s.pages.use n.toNat = some .withdrawn → t = s) →
      (n.toNat ∉ s.pages.lost → aget s.pages.use n.toNat ≠ some .withdrawn → t = (s.readSlot n.toNat r).lowCheck) →
      (n.toNat + 1 = slotCount → Sys2Proof.Machine.exec (.patrol n r) s = .next (s.sealed (t.bump 0x8000 9)))
      ∧ (n.toNat + 1 ≠ slotCount → Sys2Proof.Machine.exec (.patrol n r) s = .next (s.sealed t))))
  ∧ (∀ (s : State) (n : BitVec 25) (r : ReadResult),
    ((∀ x ∈ s.pages.suspects, x.1 ≠ n.toNat) ∨ s.backgroundRuns n.toNat false = false →
      Sys2Proof.Machine.exec (.patrolSuspectVerify n r) s = .next (s.sealed s))
    ∧ ((∃ x ∈ s.pages.suspects, x.1 = n.toNat) → s.backgroundRuns n.toNat false = true → ∀ t : State,
      t = ((if r.uncorrected = true ∨ r.mismatch = true then s.undetect n.toNat else s).modPages fun p =>
        { p with suspects := p.suspects.filter fun x => x.1 ≠ n.toNat }) →
      (n.toNat ∈ t.pages.lost → Sys2Proof.Machine.exec (.patrolSuspectVerify n r) s = .next (s.sealed t))
      ∧ (n.toNat ∉ t.pages.lost → Sys2Proof.Machine.exec (.patrolSuspectVerify n r) s = .next (s.sealed
          (t.readSlot n.toNat r).lowCheck))))
  ∧ (∀ (s t u : State) (n : Nat) (r : ReadResult) (inj : Bool),
    s.takeInject (0x100 + slotStack n) (s.awnOf (slotStack n) (slotChan n) (slotBp n)) 2 = (inj, t) →
    u = (if r.corrected = true ∨ inj = true then t.arrayCe n inj else t) →
    (r.uncorrected = true → s.readSlot n r = u.arrayUe n false)
    ∧ (r.uncorrected = false → r.mismatch = false → s.readSlot n r = u)
    ∧ (r.uncorrected = false → r.mismatch = true →
      (∀ p, aget u.pages.use n = some (.page p) → s.readSlot n r = u.pageCrc n false)
      ∧ (aget u.pages.use n = none → s.readSlot n r = u.queueScrub n [])
      ∧ (aget u.pages.use n ≠ none → (∀ p, aget u.pages.use n ≠ some (.page p)) → s.readSlot n r = u)))

/-- SPARE_MAP (spareMap; R104, R107, R157, R158): of an awn that is not retired, or at whose bank pairs a stripe runs, only waiting stripes
start. Else each of its bank pairs goes to the idle spare of its group, or is lent to the lowest working awn that serves only its own, the
group's first loan is posted, and waiting stripes start. A retired tile's logical number goes to a spare tile; without one GROUP_MAP
reads 0xFF and the group is degraded. For a tile that is not retired, or has no logical number, nothing changes.

CHANNEL_COPY_SWITCH (channelCopySwitch; R106): a finished copy takes the channel over while no stripe runs on it; else nothing changes.

RECODE_NARROW (recodeNarrow; R48, R51, R76, R89): while the node is down nothing changes. Else the NARROW is admitted and goes on, or is
answered with its failure. Its target is the lowest scrubbed free slot of its page's bank pair, within the domain's quota and a working
slot grant, ST_NO_PAGE where there is none, and of a shared page also an entry for the copy. At its commit a page of one sequence moves to
the target with its narrowed data, and its old slot waits for the scrub. -/
def Obligations.SparesAndNarrowing : Prop :=
  (∀ (s : State) (u : BitVec 32) (x : AwnInfo), x = s.awn u.toNat →
    ((x.st ≠ 2 ∨ ∃ l, s.logChan (uStack u.toNat) (uChan u.toNat) = some l
        ∧ (s.bpBusy (uStack u.toNat) l x.servesA = true ∨ s.bpBusy (uStack u.toNat) l x.servesB = true)) →
      Sys2Proof.Machine.exec (.spareMap (.awn u)) s = .next (s.sealed (s.pump (uStack u.toNat))))
    ∧ (x.st = 2 → (∀ l, s.logChan (uStack u.toNat) (uChan u.toNat) = some l →
        s.bpBusy (uStack u.toNat) l x.servesA = false ∧ s.bpBusy (uStack u.toNat) l x.servesB = false) →
      Sys2Proof.Machine.exec (.spareMap (.awn u)) s = .next (s.sealed
        ((((s.modAwn u.toNat fun y => { y with servesA := 63, servesB := 63, borrowed := false }).mapPair u.toNat x.servesA).mapPair
          u.toNat x.servesB).pump (uStack u.toNat)))))
  ∧ (∀ (s : State) (u bp sp : Nat), sp = awnUnit (uStack u) (uChan u) (32 + awnGroup (uAwn u)) →
    (bp = 63 → s.mapPair u bp = s)
    ∧ (bp ≠ 63 → (s.awn sp).st = 1 → s.mapPair u bp = s.modAwn sp fun x => { x with st := 0, servesA := bp })
    ∧ (bp ≠ 63 → (s.awn sp).st ≠ 1 → ∀ (w : List Nat), w = s.groupWorking (uStack u) (uChan u) (awnGroup (uAwn u)) →
      ((∀ a ∈ w, (s.awn (awnUnit (uStack u) (uChan u) a)).servesB ≠ 63) → s.mapPair u bp = s)
      ∧ (∀ (a : Nat) (t : State), (w.find? fun a => (s.awn (awnUnit (uStack u) (uChan u) a)).servesB == 63) = some a →
        t = (s.modAwn (awnUnit (uStack u) (uChan u) a) fun x => { x with borrowed := true, servesB := bp }) →
        ((∃ b ∈ groupAwns (awnGroup (uAwn u)), (s.awn (awnUnit (uStack u) (uChan u) b)).borrowed = true) → s.mapPair u bp = t)
        ∧ ((∀ b ∈ groupAwns (awnGroup (uAwn u)), (s.awn (awnUnit (uStack u) (uChan u) b)).borrowed = false) →
          s.mapPair u bp = t.note 0x0103 none (0x100 + uStack u) u [w.length]))))
  ∧ (∀ (s : State) (k : BitVec 7),
    (((s.tile k.toNat).logical = none ∨ (s.tile k.toNat).st ≠ 2) → Sys2Proof.Machine.exec (.spareMap (.tile k)) s = .next (s.sealed s))
    ∧ (∀ (l : Nat) (t : State), (s.tile k.toNat).logical = some l → (s.tile k.toNat).st = 2 →
      t = (s.modTile k.toNat fun x => { x with logical := none }) →
      (∀ p, s.spareTile k.toNat = some p → Sys2Proof.Machine.exec (.spareMap (.tile k)) s = .next (s.sealed
        ((t.modTile p fun x => { x with st := 0, logical := some l }).modTiles fun q => { q with groupMap := q.groupMap.set l p })))
      ∧ (s.spareTile k.toNat = none → Sys2Proof.Machine.exec (.spareMap (.tile k)) s = .next (s.sealed
        ((t.modTiles fun q => { q with groupMap := q.groupMap.set l 255 }).note 0x0105 none k.toNat k.toNat [l / 4])))))
  ∧ (∀ (s : State) (stack : BitVec 4) (ch : BitVec 5),
    (∀ c : Nat × Nat × Nat, (s.awns.chanCopies.find? fun c => c.1 == stack.toNat && c.2.1 == ch.toNat) = some c →
      s.chanBusy stack.toNat ch.toNat = false →
      Sys2Proof.Machine.exec (.channelCopySwitch stack ch) s = .next (s.sealed
        ((s.modAwns fun a => { a with chanDead := a.chanDead ++ [(stack.toNat, s.physChan stack.toNat ch.toNat)] }).mapChan
          stack.toNat ch.toNat c.2.2)))
    ∧ ((s.chanBusy stack.toNat ch.toNat = true ∨ ∀ c ∈ s.awns.chanCopies, ¬ (c.1 = stack.toNat ∧ c.2.1 = ch.toNat)) →
      Sys2Proof.Machine.exec (.channelCopySwitch stack ch) s = .next (s.sealed s)))
  ∧ (∀ (s : State) (d : BitVec 12) (id : BitVec 64) (pl : BitVec 13) (o : BitVec 32) (c : Cmd) (t : State),
    c = s.narrowCmd d.toNat id pl.toNat o.toNat → t = s.insertCmd { c with desc := 0 } →
    (s.alive = false → Sys2Proof.Machine.exec (.recodeNarrow d id pl o) s = .next (s.sealed s))
    ∧ (s.alive = true →
      (∀ f, t.reserveNarrow c = .error f → Sys2Proof.Machine.exec (.recodeNarrow d id pl o) s = .next (s.sealed (s.recodeDone c f)))
      ∧ (∀ u c2, t.reserveNarrow c = .ok (u, c2) → Sys2Proof.Machine.exec (.recodeNarrow d id pl o) s = .next (s.sealed
          (((u.setCmd c2).progress c.id).runCmd c.id).lowCheck))))
  ∧ (∀ (s : State) (c : Cmd) (p n : Nat) (x : PageEntry), s.narrowTarget c = .ok (p, x) →
    (s.num 0x3200 1 c.dom ≤ s.slotsHeld c.dom → s.reserveNarrow c = .error ⟨stNoPage, 2, 0, 0⟩)
    ∧ (s.slotsHeld c.dom < s.num 0x3200 1 c.dom →
      ((s.grantOk c.dom = false ∨ s.freeIn (slotStack x.loc) (slotChan x.loc) (slotBp x.loc) = none) →
        s.reserveNarrow c = .error ⟨stNoPage, 1, 0, 0⟩)
      ∧ (s.grantOk c.dom = true → s.freeIn (slotStack x.loc) (slotChan x.loc) (slotBp x.loc) = some n →
        (x.refs ≤ 1 → s.reserveNarrow c = .ok (s.setUse n (.reserved c.id),
          { c with seq := some (sidIndex (dSeq c.desc)), jobs := [{ page := p, slot := some n, done := true }] }))
        ∧ (1 < x.refs → s.num 0x7120 8 c.dom ≤ s.mapHeld c.dom → s.reserveNarrow c = .error ⟨stNoPage, 2, 0, 0⟩)
        ∧ (1 < x.refs → s.mapHeld c.dom < s.num 0x7120 8 c.dom → (s.setUse n (.reserved c.id)).nextPage = none →
          s.reserveNarrow c = .error ⟨stNoPage, 3, 0, 0⟩))))
  ∧ (∀ (s : State) (c : Cmd) (p f : Nat) (x : PageEntry) (j : PageJob), s.narrowTarget c = .ok (p, x) → c.jobs.head? = some j →
    j.page = p → x.refs ≤ 1 → narrowTo (s.slotData x.loc).format = some f →
    s.commitNarrow c = (((((s.setPage p { x with loc := j.slot.getD 0 }).setSlot (j.slot.getD 0)
      (((s.slotData x.loc).narrow s.pr f)).touch).setUse (j.slot.getD 0) (.page p)).queueScrub x.loc
        ((s.readersOf p).filter (· ≠ c.id))).endOk c 0 0 0))

/-! ## The index and the tier on their own -/

/-- INDEX_REBALANCE (indexRebalance; R201): the bank's entries are spread evenly, and the rebalance is counted. INDEX_SWEEP (indexSweep;
R212): the quarantined entries, and the valid ones that stand for nothing any more, are removed and counted, and the low-water mark is
checked.

TIER_TRANSFER_DONE (tierTransferDone; R219, R221, R223, R226, R228, R315): where the command, its open transfer with a page buffer or the host
link's part in it is gone, nothing changes. A transfer that succeeds goes as far as the domain's shaper lets its units leave (R315), and
is done for its page with the last of them; one whose DMA failed ends its command with ST_TIER_FAIL, CAUSE 2, one of a swapped page
without its key or region with CAUSE 5. The last page of a swap-out sends the flushing read.
TIER_FLUSH_READ_DONE (tierFlushReadDone; R218, R221): a swap-out whose pages are all written may commit; while a page is not, nothing
changes; behind a command that has ended its unit runs are free.

TIER_LATE (tierLate; R227, R228): the command whose transfer of the page runs under that limit ends with ST_TIER_LATE, the limit's CAUSE and
the page; where none does, nothing changes.

PRECLEAN (preclean; R45, R230): a page that an admitted command will read, and one that no sequence wants copied, are left. A page that
does not qualify or that something holds is left; one in HOST_VIEW, and one for which no units are free, is counted as abandoned; of any
other a cold copy is written, and its side record says so. -/
def Obligations.IndexAndTierTransfers : Prop :=
  (∀ (s : State) (b : BitVec 6), Sys2Proof.Machine.exec (.indexRebalance b) s = .next (s.sealed
      ((s.setIndex (rebalance s.index.entries b.toNat)).bump 0xA000 8)))
  ∧ (∀ (s : State) (gone : IdxEntry → Bool), (∀ x, gone x = (x.st == 3 || (x.st == 1 && !s.idxValid x))) →
    Sys2Proof.Machine.exec .indexSweep s = .next (s.sealed (((s.removeEntries gone).bump 0xA000 6
      (s.index.entries.filter fun p => p.2.gone.isNone && gone p.2).length).indexCheck)))
  ∧ (∀ (s : State) (id : Nat) (page : BitVec 25) (ok : Bool), ∃ t : State,
    (s.cmd id = none → t = s)
    ∧ (∀ c, s.cmd id = some c →
      ((∀ j ∈ c.jobs, ¬ (j.page = page.toNat ∧ j.buf = true ∧ j.done = false)) → t = s)
      ∧ (∀ j, (c.jobs.find? fun j => j.page == page.toNat && j.buf && !j.done) = some j →
        ((s.page page.toNat).map PageEntry.st = some .remote → t = s)
        ∧ ((s.page page.toNat).map PageEntry.st ≠ some .remote →
          (ok = true → s.dmaOk = true → s.rekeying = false →
            (s.coldReady page.toNat = true → ∀ (u : State) (n : Nat),
              s.crossUnits (s.jobDom c j) (!s.tierCommitted) (j.left.getD (s.jobUnits c j)) = (u, n) →
              (n = 0 → t = (u.transferDone c j).wake)
              ∧ (n ≠ 0 → t = u.setCmd (c.setJob j.page fun y => { y with left := some n })))
            ∧ (s.coldReady page.toNat = false → t = (s.tierFailed c stTierFail 5 page.toNat).wake))
          ∧ ((ok = false ∨ s.dmaOk = false ∨ s.rekeying = true) → t = (s.tierFailed c stTierFail 2 page.toNat).wake))))
    ∧ (∀ c c1, s.cmd id = some c → t.cmd id = some c1 → dOp c1.desc = 0x40 → (∀ j ∈ c1.jobs, j.done = true) →
      (∃ j ∈ c.jobs, j.done = false) → Sys2Proof.Machine.exec (.tierTransferDone id page ok) s = .next (s.sealed (t.flushRead c1)))
    ∧ ((∀ c c1, s.cmd id = some c → t.cmd id = some c1 → dOp c1.desc = 0x40 → (∀ j ∈ c1.jobs, j.done = true) →
      ∀ j ∈ c.jobs, j.done = true) → Sys2Proof.Machine.exec (.tierTransferDone id page ok) s = .next (s.sealed t)))
  ∧ (∀ (s : State) (id : Nat),
    (∀ c, s.cmd id = some c →
      ((∀ j ∈ c.jobs, j.done = true) →
        Sys2Proof.Machine.exec (.tierFlushReadDone id) s = .next (s.sealed (s.setCmd { c with flushed := true })))
      ∧ ((∃ j ∈ c.jobs, j.done = false) → Sys2Proof.Machine.exec (.tierFlushReadDone id) s = .next (s.sealed s)))
    ∧ (s.cmd id = none → Sys2Proof.Machine.exec (.tierFlushReadDone id) s = .next (s.sealed (s.endLimbo (· == id)))))
  ∧ (∀ (s : State) (id : Nat) (page : BitVec 25) (lim : TierLimit),
    (∀ c, s.cmd id = some c →
      ((∃ j ∈ c.jobs, j.page = page.toNat ∧ s.limitOf c j = some lim) →
        Sys2Proof.Machine.exec (.tierLate id page lim) s = .next (s.sealed
          ((s.tierFailed c stTierLate (lateCause lim) page.toNat).wake.lowCheck)))
      ∧ ((∀ j ∈ c.jobs, ¬ (j.page = page.toNat ∧ s.limitOf c j = some lim)) →
        Sys2Proof.Machine.exec (.tierLate id page lim) s = .next (s.sealed s)))
    ∧ (s.cmd id = none → Sys2Proof.Machine.exec (.tierLate id page lim) s = .next (s.sealed s)))
  ∧ (∀ (s : State) (page : BitVec 25),
    ((∃ c ∈ s.sched.cmds, s.willRead c page.toNat = true) → Sys2Proof.Machine.exec (.preclean page) s = .next (s.sealed s))
    ∧ ((∀ c ∈ s.sched.cmds, s.willRead c page.toNat = false) → ∀ wants : Nat × SeqEntry → Bool,
      (∀ q, wants q = (q.2.preclean && (q.2.handles.any fun h => h.2 == page.toNat)
        && ((s.page page.toNat).map PageEntry.dom == some q.2.dom))) →
      ((∀ q ∈ s.seqs.table, wants q = false) → Sys2Proof.Machine.exec (.preclean page) s = .next (s.sealed s))
      ∧ (∀ i e, s.seqs.table.find? wants = some (i, e) →
        Sys2Proof.Machine.exec (.preclean page) s = .next (s.sealed (s.precleanPage page.toNat i)))))
  ∧ (∀ (s : State) (p i : Nat) (x : PageEntry), s.page p = some x →
    (s.precleanable (s.seq i) p = false → s.precleanPage p i = s)
    ∧ (s.precleanable (s.seq i) p = true →
      ((x.st = .hostView ∨ s.viewPending p = true) → s.precleanPage p i = s.bump 0x3500 0xA)
      ∧ (x.st ≠ .hostView → s.viewPending p = false →
        (s.precleanWaits p x = true → s.precleanPage p i = s)
        ∧ (s.precleanWaits p x = false →
          ((s.tierReady x.dom = false ∨ s.reserveUnits x.dom (1 + (s.slotData x.loc).rawUnits s.pr) = none) →
            s.precleanPage p i = s.bump 0x3500 0xA)
          ∧ (∀ t a, s.tierReady x.dom = true → s.reserveUnits x.dom (1 + (s.slotData x.loc).rawUnits s.pr) = some (t, a) →
            ∃ (u : State) (n : Nat) (coded : Bool) (y : Nat × Nat), s.precleanPage p i = u.setSlot x.loc
              { s.slotData x.loc with tier := 1, dirty := false, cold := hostLoc a n, comp := b2n coded,
                                      tableId := y.1, tableGen := y.2 })))))

/-! ## The host link -/

/-- CXL_MEM_READ and CXL_MEM_WRITE (cxlMemRead, cxlMemWrite; R94, R97, R98, R100, R101, R360, R362): an address that the decoder does not
claim, and any while the link does not run in full, changes nothing. Before RUNNING, and at an offset that shows no page in HOST_VIEW, a
read is counted and answered with poison. Where the page's bank pair is idle it is served at once: with poison from a lost slot, with
poison and the loss of the slot at an uncorrected error, else with the stored line; while the bank pair is not idle the read waits.
A write is counted and completes, and nothing else changes. -/
def Obligations.WindowReadsAndWrites : Prop :=
  (∀ (s : State) (addr : BitVec 64) (ue : Bool) (d : BitVec 512), (s.winOffset addr.toNat = none ∨ s.linkFull = false) →
    Sys2Proof.Machine.exec (.cxlMemRead addr ue) s = .next (s.sealed s)
    ∧ Sys2Proof.Machine.exec (.cxlMemWrite addr d) s = .next (s.sealed s))
  ∧ (∀ (s : State) (addr : BitVec 64) (ue : Bool) (o : Nat), s.winOffset addr.toNat = some o → s.linkFull = true →
    ((s.boot.st ≠ .running ∨ s.winSlot (o / 64 * 64) = none) →
      Sys2Proof.Machine.exec (.cxlMemRead addr ue) s = .next (s.sealed ((s.bump 0x3300 4).emit .cxlPoison)))
    ∧ (∀ n, s.boot.st = .running → s.winSlot (o / 64 * 64) = some n →
      (s.bpIdle (slotStack n) (slotChan n) (slotBp n) = false → Sys2Proof.Machine.exec (.cxlMemRead addr ue) s = .next (s.sealed
        (s.modWin fun w => { w with reads := w.reads ++ [(o / 64 * 64, ue)] })))
      ∧ (s.bpIdle (slotStack n) (slotChan n) (slotBp n) = true →
        (n ∈ s.pages.lost → Sys2Proof.Machine.exec (.cxlMemRead addr ue) s = .next (s.sealed ((s.bump 0x3300 4).emit .cxlPoison)))
        ∧ (n ∉ s.pages.lost → ue = true → Sys2Proof.Machine.exec (.cxlMemRead addr ue) s = .next (s.sealed
            (((s.arrayUe n false).bump 0x3300 4).emit .cxlPoison)))
        ∧ (n ∉ s.pages.lost → ue = false → Sys2Proof.Machine.exec (.cxlMemRead addr ue) s = .next (s.sealed
            (s.emit (.cxlData (s.winLine (o / 64 * 64) n))))))))
  ∧ (∀ (s : State) (addr : BitVec 64) (d : BitVec 512) (o : Nat), s.winOffset addr.toNat = some o → s.linkFull = true →
    Sys2Proof.Machine.exec (.cxlMemWrite addr d) s = .next (s.sealed ((s.bump 0x3300 3).emit .cxlWriteDone)))

/-- R98: the window holds 1,835,008 frames; the payload of frame f stands at 32,768 × f, its side record at
0xE_0000_0000 + 4,096 × f, and reads of the last GiB return poison. -/
def Obligations.WindowLayout : Prop :=
  (∀ f x : Nat, f < 1835008 → x < 32768 → winFrame (32768 * f + x) = some f)
  ∧ (∀ f x : Nat, f < 1835008 → x < 4096 → winFrame (0xE00000000 + 4096 * f + x) = some f)
  ∧ (∀ o : Nat, o < 2 ^ 36 → ((∃ f, winFrame o = some f ∧ f < 1835008) ↔ o < 0xFC0000000))
  ∧ (∀ (s : State) (n f k : Nat), f < 1835008 → k < 512 →
    s.winLine (32768 * f + 64 * k) n = slice (s.slotData n).full (64 * k) 64)
  ∧ (∀ (s : State) (n f k : Nat), f < 1835008 → k < 64 →
    s.winLine (0xE00000000 + 4096 * f + 64 * k) n = slice ((s.slotData n).sideRecord s.pr) (64 * k) 64)
  ∧ (∀ (s : State) (addr : BitVec 64) (b : Bool) (o : Nat), s.winOffset addr.toNat = some o → s.linkFull = true →
    0xFC0000000 ≤ o → Sys2Proof.Machine.exec (.cxlMemRead addr b) s = .next (s.sealed ((s.bump 0x3300 4).emit .cxlPoison)))

/-- H2D_SNOOP (h2dSnoop; R360, R363) is answered with a miss while CXL.cache is enabled, else not. HDM_DECODER_COMMIT (hdmDecoderCommit;
R362) commits 64 GiB and one way; another size or interleave leaves the decoder as it was and reports the error. VIRAL (viral; R364) stops
DMA, fails the host-tier transfers and raises HOST_LINK. Of these, none does anything while the link is down. IDE_INTEGRITY_FAILURE
(ideIntegrityFailure; R365) of a Secure stream takes it out of Secure, lets both streams wait for new keys and fails the host-tier
transfers; of another stream it changes nothing. LINK_TRAINED (linkTrained; R317, R360) of a node under its ROM, to a width, sets width and
speed; DMA that is enabled comes back, and what waits for it goes on; else nothing changes.

CXL_IDE_KM (cxlIdeKm; R365, R378) in a DOE session: a key is programmed; K_SET_GO makes the stream Secure where a key is there and new keys
are not awaited, and DMA comes back; K_SET_STOP takes it out of Secure where a key is there; without one both fail. Another session
number, and a firmware that does not serve, is answered with an error; while the link is down nothing happens. -/
def Obligations.LinkEventsAndIdeKeys : Prop :=
  (∀ (s : State) (a : BitVec 64),
    (s.linkUp = true → s.linkFull = true → Sys2Proof.Machine.exec (.h2dSnoop a) s = .next (s.sealed (s.emit .snoopMiss)))
    ∧ (s.linkUp = false ∨ s.linkFull = false → Sys2Proof.Machine.exec (.h2dSnoop a) s = .next (s.sealed s)))
  ∧ (∀ (s : State) (base size : BitVec 64) (ways : BitVec 8),
    (s.linkUp = true → size.toNat = 2 ^ 36 → ways.toNat = 1 → Sys2Proof.Machine.exec (.hdmDecoderCommit base size ways) s =
      .next (s.sealed (s.modLink fun l => { l with decoder := some base.toNat, decoderErr := false })))
    ∧ (s.linkUp = true → ¬ (size.toNat = 2 ^ 36 ∧ ways.toNat = 1) → Sys2Proof.Machine.exec (.hdmDecoderCommit base size ways) s =
      .next (s.sealed ((s.modLink fun l => { l with decoderErr := true }).emit .decoderError)))
    ∧ (s.linkUp = false → Sys2Proof.Machine.exec (.hdmDecoderCommit base size ways) s = .next (s.sealed s)))
  ∧ (∀ s : State,
    (s.linkUp = true → Sys2Proof.Machine.exec .viral s = .next (s.sealed
      ((s.modLink fun l => { l with viral := true }).raise 0x15 islHost 0 none [] false fun _ t => t.failHost)))
    ∧ (s.linkUp = false → Sys2Proof.Machine.exec .viral s = .next (s.sealed s)))
  ∧ (∀ (s : State) (x : IdeStream),
    (s.ideSt x = 2 → Sys2Proof.Machine.exec (.ideIntegrityFailure x) s = .next (s.sealed
      ((((s.setIde x 1 1).modLink fun l => { l with rekeyIo := 1, rekeyCm := 1 }).bump 0x3700 3).raise 0x15 islHost 0 none []
        false fun _ t => t.failHost)))
    ∧ (s.ideSt x ≠ 2 → Sys2Proof.Machine.exec (.ideIntegrityFailure x) s = .next (s.sealed s)))
  ∧ (∀ (s t : State) (w : BitVec 5) (full : Bool),
    t = ((s.modLink fun l => { l with width := w.toNat, speed := if full then 2 else 1 }).modPower fun p => { p with perstN := true }) →
    ((s.romUp = false ∨ w.toNat = 0) → Sys2Proof.Machine.exec (.linkTrained w full) s = .next (s.sealed s))
    ∧ (s.romUp = true → w.toNat ≠ 0 →
      ((t.alive = false ∨ t.linkFull = false ∨ w.toNat ≠ 8 ∨ s.link.width = 8 ∧ s.link.speed = 2) →
        Sys2Proof.Machine.exec (.linkTrained w full) s = .next (s.sealed t.dmaBack.wake))
      ∧ (t.alive = true → t.linkFull = true → w.toNat = 8 → ¬ (s.link.width = 8 ∧ s.link.speed = 2) →
        Sys2Proof.Machine.exec (.linkTrained w full) s = .next (s.sealed ((t.note 0x010C none islHost 0 [8]).dmaBack.wake)))))
  ∧ (∀ (s : State) (n : Nat) (x : IdeStream) (m : IdeKm),
    (s.linkUp = false → Sys2Proof.Machine.exec (.cxlIdeKm n x m) s = .next (s.sealed s))
    ∧ (s.linkUp = true →
      (s.mgmtUp = false → Sys2Proof.Machine.exec (.cxlIdeKm n x m) s = .next (s.sealed (s.emit (.spdm .doe (.error 3)))))
      ∧ (s.mgmtUp = true → n ∉ s.boot.sessionsDoe →
        Sys2Proof.Machine.exec (.cxlIdeKm n x m) s = .next (s.sealed (s.emit (.spdm .doe (.error 0xB)))))
      ∧ (s.mgmtUp = true → n ∈ s.boot.sessionsDoe →
        (m = .keyProg → Sys2Proof.Machine.exec (.cxlIdeKm n x m) s = .next (s.sealed
          ((s.setIde x (Nat.max (s.ideSt x) 1) (if s.rekeySt x = 1 then 2 else s.rekeySt x)).emit (.spdm .doe (.ideKm true)))))
        ∧ (m = .kSetGo → s.ideSt x ≠ 0 → s.rekeySt x ≠ 1 → Sys2Proof.Machine.exec (.cxlIdeKm n x m) s = .next (s.sealed
          (((s.setIde x 2 0).emit (.spdm .doe (.ideKm true))).dmaBack.wake)))
        ∧ (m = .kSetGo → (s.ideSt x = 0 ∨ s.rekeySt x = 1) →
          Sys2Proof.Machine.exec (.cxlIdeKm n x m) s = .next (s.sealed (s.emit (.spdm .doe (.ideKm false)))))
        ∧ (m = .kSetStop → s.ideSt x ≠ 0 → Sys2Proof.Machine.exec (.cxlIdeKm n x m) s = .next (s.sealed
          ((s.setIde x 1 (s.rekeySt x)).emit (.spdm .doe (.ideKm true)))))
        ∧ (m = .kSetStop → s.ideSt x = 0 →
          Sys2Proof.Machine.exec (.cxlIdeKm n x m) s = .next (s.sealed (s.emit (.spdm .doe (.ideKm false))))))))

/-- SPDM_REQUEST (spdmRequest; R367, R377, R378): on a transport that carries SPDM a serving firmware answers, each request in its own way:
the versions; the capabilities; the algorithms; the digest, the chain and the signed challenge of slot 0 while its certificate is valid,
and an error otherwise; a key exchange opens the lowest free session, or is turned away at the transport's limit; FINISH, HEARTBEAT,
KEY_UPDATE and END_SESSION are answered in a session that exists, with an error in another, and the last ends it; a request that the node
does not support is an error. A firmware that does not serve answers Busy on DOE; a transport that does not carry SPDM, nothing.

GET_MEASUREMENTS (getMeasurements; R379): the blocks of the index are answered as they stand, signed where that is asked and the
certificate is valid; with no such block, or no certificate for a signed answer, an error.

DOE_DISCOVERY, CDAT_READ and MCTP_CONTROL (doeDiscovery, cdatRead, mctpControl; R367, R369) answer while the link is up, the last while
the ROM runs; else nothing happens. The formats of the answers are the model's (log 33). -/
def Obligations.AttestationAnswers : Prop :=
  (∀ (s : State) (t : SpdmTransport) (r : SpdmReq),
    (s.spdmCarries t = false → Sys2Proof.Machine.exec (.spdmRequest t r) s = .next (s.sealed s))
    ∧ (s.spdmCarries t = true → s.mgmtUp = false →
      Sys2Proof.Machine.exec (.spdmRequest t r) s = .next (s.sealed (s.emit (.spdm t (.error 3)))))
    ∧ (s.spdmCarries t = true → s.mgmtUp = true → Sys2Proof.Machine.exec (.spdmRequest t r) s = .next (s.sealed (
        match r, s.chain with
        | .getVersion, _ => s.emit (.spdm t (.version [0x12, 0x13]))
        | .getCapabilities, _ => s.emit (.spdm t .capabilities)
        | .negotiateAlgorithms, _ => s.emit (.spdm t .algorithms)
        | .getDigests, some c => s.emit (.spdm t (.digests [sha256 c]))
        | .getDigests, none => s.emit (.spdm t (.digests []))
        | .getCertificate slot, some c => s.emit (.spdm t (if slot = 0 then .certificate c else .error 1))
        | .getCertificate _, none => s.emit (.spdm t (.error 1))
        | .challenge slot nonce, some _ => s.emit (.spdm t (if slot = 0 then .challengeAuth (Config.aliasSign nonce) else .error 1))
        | .challenge _ _, none => s.emit (.spdm t (.error 1))
        | .keyExchange, none => s.emit (.spdm t (.error 1))
        | .keyExchange, some _ =>
          if (s.sessions t).length < sessionLimit t then
            (s.setSessions t (s.sessions t ++ [leastFree (s.sessions t) 1 (sessionLimit t)])).emit
              (.spdm t (.keyExchange (leastFree (s.sessions t) 1 (sessionLimit t))))
          else s.emit (.spdm t (.error 0xA))
        | .finish n, _ => s.emit (.spdm t (if n ∈ s.sessions t then .finish else .error 2))
        | .heartbeat n, _ => s.emit (.spdm t (if n ∈ s.sessions t then .heartbeat else .error 2))
        | .keyUpdate n, _ => s.emit (.spdm t (if n ∈ s.sessions t then .keyUpdate else .error 2))
        | .endSession n, _ =>
          (s.emit (.spdm t (if n ∈ s.sessions t then .ended else .error 2))).setSessions t ((s.sessions t).filter (· ≠ n))
        | .absent _, _ => s.emit (.spdm t (.error 7))))))
  ∧ (∀ (s : State) (t : SpdmTransport) (i : BitVec 8) (sign : Bool) (nonce : List Byte) (l : List (Nat × Nat × List Byte)),
    l = s.measured i.toNat →
    (s.spdmCarries t = false → Sys2Proof.Machine.exec (.getMeasurements t i sign nonce) s = .next (s.sealed s))
    ∧ (s.spdmCarries t = true →
      (s.mgmtUp = false → Sys2Proof.Machine.exec (.getMeasurements t i sign nonce) s = .next (s.sealed (s.emit (.spdm t (.error 3)))))
      ∧ (s.mgmtUp = true →
        ((l = [] ∨ sign = true ∧ s.chain = none) →
          Sys2Proof.Machine.exec (.getMeasurements t i sign nonce) s = .next (s.sealed (s.emit (.spdm t (.error 1)))))
        ∧ (l ≠ [] → sign = false → Sys2Proof.Machine.exec (.getMeasurements t i sign nonce) s = .next (s.sealed
            (s.emit (.spdm t (.measurements l none)))))
        ∧ (l ≠ [] → sign = true → s.chain ≠ none → Sys2Proof.Machine.exec (.getMeasurements t i sign nonce) s = .next (s.sealed
            (s.emit (.spdm t (.measurements l (some (Config.aliasSign
              (nonce ++ l.flatMap fun m => leBytes 1 m.1 ++ leBytes 1 m.2.1 ++ m.2.2)))))))))))
  ∧ (∀ (s : State) (i : BitVec 8),
    (∀ v p, s.linkUp = true → doeProtocols[i.toNat]? = some (v, p) → Sys2Proof.Machine.exec (.doeDiscovery i) s = .next (s.sealed
      (s.emit (.doe i.toNat v p (if i.toNat + 1 < doeProtocols.length then i.toNat + 1 else 0)))))
    ∧ (s.linkUp = true → doeProtocols.length ≤ i.toNat →
      Sys2Proof.Machine.exec (.doeDiscovery i) s = .next (s.sealed (s.emit (.doe i.toNat 0xFFFF 0xFF 0))))
    ∧ (s.linkUp = false → Sys2Proof.Machine.exec (.doeDiscovery i) s = .next (s.sealed s)))
  ∧ (∀ (s : State) (h : BitVec 16),
    (s.linkUp = true → Sys2Proof.Machine.exec (.cdatRead h) s = .next (s.sealed (s.emit (.cdat (Config.cdat h.toNat)))))
    ∧ (s.linkUp = false → Sys2Proof.Machine.exec (.cdatRead h) s = .next (s.sealed s)))
  ∧ (∀ (s : State),
    (s.romUp = false → ∀ m, Sys2Proof.Machine.exec (.mctpControl m) s = .next (s.sealed s))
    ∧ (s.romUp = true →
      (∀ e : Byte, e ≠ 0 → e ≠ 0xFF → Sys2Proof.Machine.exec (.mctpControl (.setEndpointId e)) s = .next (s.sealed
        ((s.modBoot fun b => { b with mctpEid := e.toNat }).emit (.mctp e.toNat 0 [0, e, 0]))))
      ∧ (∀ e : Byte, e = 0 ∨ e = 0xFF →
        Sys2Proof.Machine.exec (.mctpControl (.setEndpointId e)) s = .next (s.sealed (s.emit (.mctp s.boot.mctpEid 2 []))))
      ∧ Sys2Proof.Machine.exec (.mctpControl .getEndpointId) s = .next (s.sealed
          (s.emit (.mctp s.boot.mctpEid 0 [BitVec.ofNat 8 s.boot.mctpEid, 0, 0])))
      ∧ Sys2Proof.Machine.exec (.mctpControl .getVersion) s = .next (s.sealed
          (s.emit (.mctp s.boot.mctpEid 0 [1, 0xF1, 0xF3, 0xF1, 0])))
      ∧ Sys2Proof.Machine.exec (.mctpControl .getMessageTypes) s = .next (s.sealed
          (s.emit (.mctp s.boot.mctpEid 0 (BitVec.ofNat 8 s.mctpTypes.length :: s.mctpTypes))))
      ∧ (∀ k, Sys2Proof.Machine.exec (.mctpControl (.other k)) s = .next (s.sealed (s.emit (.mctp s.boot.mctpEid 5 []))))))

/-! ## Boot -/

/-- The ROM's mailbox commands FW_LOAD_CHUNK, FW_LOAD_DMA, FW_START, FW_ABORT and CERT_LOAD (fwLoadChunk, fwLoadDma, fwStart, fwAbort,
certLoad; R360, R368, R373, R377). In AWAIT_IMAGE or LOADING: a chunk or DMA load within the image is stored, FW_START begins the
verification of its length, FW_ABORT empties the image and the bundle, CERT_LOAD keeps the bundle, each with ST_OK; a chunk or bundle
whose form is wrong answers ST_MALFORMED, one too long or beyond the image ST_BAD_PARAM, a DMA load without DMA ST_BUF_ACCESS, and none of
these has another effect. From RUNNING on each answers ST_DENIED, and between FW_START and RUNNING ST_BUSY (log 34), without an effect. While
the link is down none is taken. -/
def Obligations.RomCommands : Prop :=
  (∀ s : State, s.linkUp = true → (s.boot.st = .awaitImage ∨ s.boot.st = .loading) →
    (∀ (off len : BitVec 32) (res : BitVec 64) (l : List Byte),
      ((res.toNat ≠ 0 ∨ l.length ≠ len.toNat) →
        Sys2Proof.Machine.exec (.fwLoadChunk off len res l) s = .next (s.sealed (s.mboxAnswer stMalformed)))
      ∧ (res.toNat = 0 → l.length = len.toNat →
        ((len.toNat % 4096 ≠ 0 ∨ 1044480 < len.toNat ∨ imageMax < off.toNat + len.toNat) →
          Sys2Proof.Machine.exec (.fwLoadChunk off len res l) s = .next (s.sealed (s.mboxAnswer stBadParam)))
        ∧ (len.toNat % 4096 = 0 → len.toNat ≤ 1044480 → off.toNat + len.toNat ≤ imageMax →
          Sys2Proof.Machine.exec (.fwLoadChunk off len res l) s = .next (s.sealed ((s.loadBytes off.toNat l).mboxAnswer stOk)))))
    ∧ (∀ (a : BitVec 64) (len off : BitVec 32),
      (imageMax < off.toNat + len.toNat →
        Sys2Proof.Machine.exec (.fwLoadDma a len off) s = .next (s.sealed (s.mboxAnswer stBadParam)))
      ∧ (off.toNat + len.toNat ≤ imageMax → s.dmaOk = false →
        Sys2Proof.Machine.exec (.fwLoadDma a len off) s = .next (s.sealed (s.mboxAnswer stBufAccess)))
      ∧ (off.toNat + len.toNat ≤ imageMax → s.dmaOk = true →
        Sys2Proof.Machine.exec (.fwLoadDma a len off) s = .next (s.sealed
          ((s.loadBytes off.toNat (Memory.readBytes s.hostMem a.toNat len.toNat)).mboxAnswer stOk))))
    ∧ (∀ len : BitVec 32, Sys2Proof.Machine.exec (.fwStart len) s = .next (s.sealed
        ((s.modBoot fun b => { b with st := .verifying, startLen := len.toNat }).mboxAnswer stOk)))
    ∧ (Sys2Proof.Machine.exec .fwAbort s = .next (s.sealed
        ((s.modBoot fun b => { b with st := .awaitImage, image := [], loaded := [], certs := [] }).mboxAnswer stOk)))
    ∧ (∀ (len : BitVec 32) (l : List Byte),
      (l.length ≠ len.toNat → Sys2Proof.Machine.exec (.certLoad len l) s = .next (s.sealed (s.mboxAnswer stMalformed)))
      ∧ (l.length = len.toNat → 16384 < len.toNat →
        Sys2Proof.Machine.exec (.certLoad len l) s = .next (s.sealed (s.mboxAnswer stBadParam)))
      ∧ (l.length = len.toNat → len.toNat ≤ 16384 →
        Sys2Proof.Machine.exec (.certLoad len l) s = .next (s.sealed ((s.modBoot fun b => { b with certs := l }).mboxAnswer stOk)))))
  ∧ (∀ (s : State) (i : Instr), ((∃ a b c l, i = .fwLoadChunk a b c l) ∨ (∃ a b c, i = .fwLoadDma a b c) ∨ (∃ n, i = .fwStart n)
      ∨ i = .fwAbort ∨ (∃ n l, i = .certLoad n l)) →
    (s.linkUp = false → Sys2Proof.Machine.exec i s = .next (s.sealed s))
    ∧ (s.linkUp = true → (s.boot.st = .running ∨ s.boot.st = .halted) →
      Sys2Proof.Machine.exec i s = .next (s.sealed (s.mboxAnswer stDenied)))
    ∧ (s.linkUp = true → (s.boot.st = .verifying ∨ s.boot.st = .starting) →
      Sys2Proof.Machine.exec i s = .next (s.sealed (s.mboxAnswer stBusy))))

/-- R371: LOADED_BYTES counts the prefix. The ranges kept of the image hold exactly the bytes ever written. -/
def Obligations.LoadedRangesHoldWhatWasWritten : Prop :=
  (∀ (a b x : Nat) (l : List (Nat × Nat)), a < b → (∀ r ∈ l, r.1 < r.2) →
    ((∃ r ∈ rangeAdd a b l, r.1 ≤ x ∧ x < r.2) ↔ (a ≤ x ∧ x < b) ∨ ∃ r ∈ l, r.1 ≤ x ∧ x < r.2))
  ∧ (∀ (a b : Nat) (l : List (Nat × Nat)), a < b → (∀ r ∈ l, r.1 < r.2) → l.Pairwise (fun p q => p.2 < q.1) →
    (∀ r ∈ rangeAdd a b l, r.1 < r.2) ∧ (rangeAdd a b l).Pairwise (fun p q => p.2 < q.1))

/-- BOOT_STATUS (bootStatus; R368, R369, R371): answered over I3C while the ROM runs and over the mailbox while the link is up.

FW_VERIFY_DONE (fwVerifyDone; R373, R374, R376, R377): the first failed check puts the ROM back to AWAIT_IMAGE with its number and counts
the attempt; a passed image leaves its values and starts. Without a verification nothing changes.

FIRMWARE_RUNNING and FIRMWARE_START_AFTER_RESET (firmwareRunning, firmwareStartAfterReset; R370, R383, R384, R426): a starting firmware
clears the tables where that is asked, or recovers after a warm reset, and reaches RUNNING through its start-up BIST. Where no firmware
starts nothing changes, nor by the second where no warm reset came before. -/
def Obligations.BootGoesOn : Prop :=
  (∀ (s : State) (i3c : Bool),
    ((if i3c then s.romUp else s.linkUp) = true → Sys2Proof.Machine.exec (.bootStatus i3c) s = .next (s.sealed
      (s.emit (.bootStatus i3c (BitVec.ofNat 64 s.bootWord)))))
    ∧ ((if i3c then s.romUp else s.linkUp) = false → Sys2Proof.Machine.exec (.bootStatus i3c) s = .next (s.sealed s)))
  ∧ (∀ (s : State) (cores : Bool) (h : List Byte), h = s.header →
    (s.boot.st ≠ .verifying → Sys2Proof.Machine.exec (.fwVerifyDone cores) s = .next (s.sealed s))
    ∧ (s.boot.st = .verifying →
      (∀ i, (s.bootChecks cores).idxOf? false = some i → Sys2Proof.Machine.exec (.fwVerifyDone cores) s = .next (s.sealed
        (s.modBoot fun b => { b with st := .awaitImage, lastError := i + 1, attempts := Nat.min 255 (b.attempts + 1) })))
      ∧ ((∀ c ∈ s.bootChecks cores, c = true) → Sys2Proof.Machine.exec (.fwVerifyDone cores) s = .next (s.sealed
        (s.modBoot fun b =>
          { b with st := .starting, lastError := 0, fwMeas := s.measurement s.boot.startLen, fwVersion := hdrNum h 12 4,
                   fwSvn := hdrNum h 16 2, fwAbi := hdrNum h 18 1,
                   bistTable := Memory.readBytes b.image (hdrNum h 28 4) (hdrNum h 32 4),
                   cdi := cdiOf (s.measurement s.boot.startLen), udsLocked := true, certState := certCheck b.certs })))))
  ∧ (∀ (s t : State) (b : BistOutcome),
    (s.boot.st ≠ .starting → Sys2Proof.Machine.exec (.firmwareRunning b) s = .next (s.sealed s)
      ∧ Sys2Proof.Machine.exec (.firmwareStartAfterReset b) s = .next (s.sealed s))
    ∧ (s.boot.warm = false → Sys2Proof.Machine.exec (.firmwareStartAfterReset b) s = .next (s.sealed s))
    ∧ (s.boot.st = .starting → (s.boot.clearTables = true → t = s.newBoot.clearTables) →
      (s.boot.clearTables = false → s.boot.warm = true → t = s.newBoot.recover) →
      (s.boot.clearTables = false → s.boot.warm = false → t = s.newBoot) → ∀ u : State,
      u = ((((t.asbReturned.modBoot fun x => { x with st := .running, clearTables := false, warm := false }).modTherm fun x =>
        { x with maxima := [], powerPeak := 0 }).startupBistDone b).halvedNote.lowCheck) →
      Sys2Proof.Machine.exec (.firmwareRunning b) s = .next (s.sealed u)
      ∧ (s.boot.warm = true → Sys2Proof.Machine.exec (.firmwareStartAfterReset b) s = .next (s.sealed u))))

/-! ## Power and resets -/

/-- Supply (pwrEnHigh, pwrGood, pwrEnLow, vinOver, vinDropout, inputOverCurrent, railFault; R370, R413, R415). PWR_EN high is noted with
VIN, and a node that is off and not latched off charges at 40 V or more; PWR_GOOD of a charging node is a cold reset. PWR_EN low powers
the node off and releases the latch. An over-voltage and a dropout power it off, an input over-current latches it off too. A fault of
VBUS, VAUX or a stack's rail powers a good node off; another rail's is reported while the ROM runs. What is off stays off, and a rail
fault without good power changes nothing.

BROWN_OUT and VIN_LOW (brownOut, vinLow; R414, R415, R422, R429): with good power a brown-out is noted, a tile BIST is abandoned and the
fault is reported while the ROM runs. A low input is noted while the ROM runs, and a higher throttling step that it wants is taken at
once. Else neither changes anything.

The resets (cxlReset, linkDown, perstN, rstNLow, chipReset, rstNRelease, warmResetEntry; R327, R328, R381, R386, R417): each trigger enters
a warm reset with its cause while power is good and none is being entered, RST_N only where it falls, a chip reset only where one
is pending; else only the pin is noted. WARM_RESET_ENTRY completes the entry. -/
def Obligations.PowerAndResets : Prop :=
  (∀ (s : State) (v : BitVec 32) (c : Supply), (s.power.supply = .off → s.power.latchedOff = false → 40000 ≤ v.toNat → c = .charging) →
    ((s.power.supply ≠ .off ∨ s.power.latchedOff = true ∨ v.toNat < 40000) → c = s.power.supply) →
    Sys2Proof.Machine.exec (.pwrEnHigh v) s = .next (s.sealed
      (s.modPower fun p => { p with pwrEn := true, vinMv := v.toNat, supply := c })))
  ∧ (∀ s : State, (s.power.supply = .charging → Sys2Proof.Machine.exec .pwrGood s = .next (s.sealed (s.cold .good)))
    ∧ (s.power.supply ≠ .charging → Sys2Proof.Machine.exec .pwrGood s = .next (s.sealed s)))
  ∧ (∀ s t : State, (s.power.supply = .off → t = s) → (s.power.supply ≠ .off → t = s.cold .off) →
    Sys2Proof.Machine.exec .pwrEnLow s = .next (s.sealed (t.modPower fun p => { p with pwrEn := false, latchedOff := false }))
    ∧ Sys2Proof.Machine.exec .vinOver s = .next (s.sealed t)
    ∧ Sys2Proof.Machine.exec .vinDropout s = .next (s.sealed t)
    ∧ (s.power.supply = .off → Sys2Proof.Machine.exec .inputOverCurrent s = .next (s.sealed s))
    ∧ (s.power.supply ≠ .off →
        Sys2Proof.Machine.exec .inputOverCurrent s = .next (s.sealed (t.modPower fun p => { p with latchedOff := true }))))
  ∧ (∀ (s : State) (r : Rail),
    (s.power.supply ≠ .good → Sys2Proof.Machine.exec (.railFault r) s = .next (s.sealed s))
    ∧ (s.power.supply = .good → r = .vbus ∨ r = .vaux ∨ r = .vstkPp ∨ r = .vstkDd ∨ r = .vstkQ →
      Sys2Proof.Machine.exec (.railFault r) s = .next (s.sealed (s.cold .off)))
    ∧ (s.power.supply = .good → r = .vsram ∨ r = .vcore ∨ r = .vser →
      (s.romUp = true → Sys2Proof.Machine.exec (.railFault r) s = .next (s.sealed
        (s.raise 0x1A islReg (railNo r) none [] false fun _ t => t)))
      ∧ (s.romUp = false → Sys2Proof.Machine.exec (.railFault r) s = .next (s.sealed s))))
  ∧ (∀ s t u : State, t = (s.modPower fun p => { p with brownOut := true }) →
    (s.test.lbState = 1 → u = ((t.modTile s.test.lbTile fun x => { x with testing := false }).modTest fun x => { x with lbState := 0 })) →
    (s.test.lbState ≠ 1 → u = t) →
    (s.power.supply ≠ .good → Sys2Proof.Machine.exec .brownOut s = .next (s.sealed s))
    ∧ (s.power.supply = .good →
      (s.romUp = true → Sys2Proof.Machine.exec .brownOut s = .next (s.sealed (u.raise 0x1A islReg 0 none [] false fun _ t => t)))
      ∧ (s.romUp = false → Sys2Proof.Machine.exec .brownOut s = .next (s.sealed u))))
  ∧ (∀ s t : State, t = ((s.modPower fun p => { p with inputLow := true, vinOk := 0 }).modTherm fun x =>
      { x with cause := (s.modPower fun p => { p with inputLow := true, vinOk := 0 }).throttleCause }) →
    (s.romUp = false → Sys2Proof.Machine.exec .vinLow s = .next (s.sealed s))
    ∧ (s.romUp = true → t.wantedStep ≤ t.therm.step → Sys2Proof.Machine.exec .vinLow s = .next (s.sealed t))
    ∧ (s.romUp = true → t.therm.step < t.wantedStep → Sys2Proof.Machine.exec .vinLow s = .next (s.sealed (t.setStep t.wantedStep))))
  ∧ (∀ s p r : State, p = (s.modPower fun p => { p with perstN := false }) → r = (s.modPower fun p => { p with rstN := false }) →
    (s.power.supply = .good → s.power.resetEntry = false →
      Sys2Proof.Machine.exec .cxlReset s = .next (s.sealed (s.warmEntry 2 0))
      ∧ Sys2Proof.Machine.exec .linkDown s = .next (s.sealed (s.warmEntry 3 0))
      ∧ Sys2Proof.Machine.exec .perstN s = .next (s.sealed (p.warmEntry 3 0))
      ∧ (s.power.rstN = true → Sys2Proof.Machine.exec .rstNLow s = .next (s.sealed (r.warmEntry 1 0)))
      ∧ (s.boot.chipReset = true → Sys2Proof.Machine.exec .chipReset s = .next (s.sealed
          (s.warmEntry (if s.boot.clearTables then 5 else 4) s.boot.chipSource))))
    ∧ ((s.power.supply ≠ .good ∨ s.power.resetEntry = true) →
      Sys2Proof.Machine.exec .cxlReset s = .next (s.sealed s)
      ∧ Sys2Proof.Machine.exec .linkDown s = .next (s.sealed s)
      ∧ Sys2Proof.Machine.exec .perstN s = .next (s.sealed p)
      ∧ (s.power.rstN = true → Sys2Proof.Machine.exec .rstNLow s = .next (s.sealed r))
      ∧ Sys2Proof.Machine.exec .chipReset s = .next (s.sealed s))
    ∧ (s.power.rstN = false → Sys2Proof.Machine.exec .rstNLow s = .next (s.sealed s))
    ∧ (s.boot.chipReset = false → Sys2Proof.Machine.exec .chipReset s = .next (s.sealed s))
    ∧ Sys2Proof.Machine.exec .rstNRelease s = .next (s.sealed (s.modPower fun p => { p with rstN := true }))
    ∧ Sys2Proof.Machine.exec .warmResetEntry s = .next (s.sealed (s.modPower fun p => { p with resetEntry := false })))

/-- What a warm reset keeps and what it loses (R382): pages, sequences, the index, masks, tables, the security version and the
spares' maps stay; queues, QPs, domains, keys and the dictionary are lost, and the ROM waits for an image. Nothing is sent, and
host memory does not change (R381).

A power loss keeps nothing but the fuses, the pins, what waits in the queue and what lies outside the node (R382). -/
def Obligations.WhatResetsKeep : Prop :=
  (∀ (s : State) (cause source : Nat), (s.shadowOn && s.shadow.isShadow) = false →
    ∀ t, t = s.warmEntry cause source →
    t.pages.map = s.pages.map ∧ t.pages.slots = s.pages.slots ∧ t.pages.use = s.pages.use ∧ t.seqs.table = s.seqs.table
      ∧ t.index.entries = s.index.entries ∧ t.masks = s.masks ∧ t.tier.tables = s.tier.tables ∧ t.tier.units = s.tier.units
      ∧ t.boot.minSvn = s.boot.minSvn ∧ t.awns.chanMap = s.awns.chanMap ∧ t.tiles.groupMap = s.tiles.groupMap
      ∧ t.faults.log = s.faults.log ∧ t.hostMem = s.hostMem ∧ t.out = s.out ∧ t.pending = s.pending
      ∧ t.queues.sqs = [] ∧ t.queues.cqs = [] ∧ t.xnt.qps = [] ∧ t.dom.doms = [] ∧ t.dom.mgmtKey = [] ∧ t.dict.active = []
      ∧ t.dict.shadow = [] ∧ t.sched.cmds = [] ∧ t.boot.st = .awaitImage ∧ t.link.width = 0
      ∧ t.resetCauseWord = cause + source * 256 + (if s.boot.clearTables then 0 else 65536))
  ∧ (∀ (s : State) (p : Supply), ∀ t, t = s.cold p →
    t.boot.minSvn = s.boot.minSvn ∧ t.hostMem = s.hostMem ∧ t.out = s.out ∧ t.pending = s.pending ∧ t.nodeMem = []
      ∧ t.pages.map = [] ∧ t.pages.use = [] ∧ t.pages.slots = [] ∧ t.seqs = State.reset.seqs ∧ t.index = State.reset.index
      ∧ t.masks = State.reset.masks ∧ t.tier = State.reset.tier ∧ t.queues = State.reset.queues ∧ t.dict = State.reset.dict
      ∧ t.faults.log = [] ∧ t.resetCauseWord = 0 ∧ t.boot.st = .awaitImage ∧ t.power.supply = p)

/-- TILE_FREQUENCY_STEP_DOWN (tileFrequencyStepDown; R423): a tile that waits for a lower frequency takes it once its items have ended;
while they have not, and where it waits for none, nothing changes.

TEMP_READING (tempReading; R421, R422, R424): a poll of the sensors takes every reading while the ROM runs, else nothing, and ends in the
throttling step of R422: a higher wanted step at once, and one step down when the wanted step stayed lower for ten polls. -/
def Obligations.ThrottlingFollowsTheWantedStep : Prop :=
  (∀ (s : State) (t : BitVec 7),
    (∀ f, (s.tile t.toNat).want = some f → s.itemsOn t.toNat = [] →
      Sys2Proof.Machine.exec (.tileFrequencyStepDown t) s = .next (s.sealed
        (s.modTile t.toNat fun x => { x with mhz := f, want := none })))
    ∧ ((s.tile t.toNat).want = none ∨ s.itemsOn t.toNat ≠ [] →
      Sys2Proof.Machine.exec (.tileFrequencyStepDown t) s = .next (s.sealed s)))
  ∧ (∀ (s t : State) (r : Readings),
    t = ((((sensorReadings r).foldl (fun t p => t.readSensor p.1 p.2) s).readPower r.pinMw.toNat).readVin r.vinMv.toNat).modTherm
      (fun x => { x with iinMa := r.iinMa.toNat, rails := r.rails.foldl (fun l p => if p.1 < 30 then aput l p.1 p.2 else l) x.rails }) →
    (s.romUp = true → Sys2Proof.Machine.exec (.tempReading r) s = .next (s.sealed t.throttle))
    ∧ (s.romUp = false → Sys2Proof.Machine.exec (.tempReading r) s = .next (s.sealed s)))
  ∧ (∀ s : State, s.therm.step < s.wantedStep → s.throttle.therm.step = s.wantedStep ∧ s.throttle.therm.below = 0)
  ∧ (∀ s : State, s.wantedStep = s.therm.step → s.throttle.therm.step = s.therm.step ∧ s.throttle.therm.below = 0)
  ∧ (∀ s : State, s.wantedStep < s.therm.step → s.therm.below < 9 →
    s.throttle.therm.step = s.therm.step ∧ s.throttle.therm.below = s.therm.below + 1)
  ∧ (∀ s : State, s.wantedStep < s.therm.step → 9 ≤ s.therm.below →
    s.throttle.therm.step = s.therm.step - 1 ∧ s.throttle.therm.below = 0)

/-! ## Packets -/

/-- The thirteen packet rows (xntWrite, xntWriteImm, readReq, readResp, xntAck, xntNak, rnr, refusalAck, connect, connectReply,
connectRefuse, disconnect, disconnectAck; R243, R247, R250, R257). A packet of another row's opcode, and any at a sub-port whose link is
down, changes nothing. A wrong frame, and a husk that fails, are counted; a packet that its QP does not take is a frame received and
nothing else; a CONNECT to a QP without a key is refused with NO_KEY, unless PSN_GUARD holds. A packet that passes steps 1 to 5 is
handled by its opcode: a sequenced one in PSN order, and then a draining QP goes on; another at once. -/
def Obligations.PacketsAreReceived : Prop :=
  ∀ (i : Instr) (p : RxPacket) (ok : Nat → Bool) (s : State) (n : Nat) (q : Qp), packetRow i = some (p, ok) → n = bDstQp p.base →
    q = s.qp n →
    (p.frameOk = true → ok (bOp p.base) = false → Sys2Proof.Machine.exec i s = .next (s.sealed s))
    ∧ (s.portUp p.subport.toNat = false → Sys2Proof.Machine.exec i s = .next (s.sealed s))
    ∧ (s.portUp p.subport.toNat = true →
      (p.frameOk = false → Sys2Proof.Machine.exec i s = .next (s.sealed ((s.received p).bump 0x6400 1)))
      ∧ (p.frameOk = true → ok (bOp p.base) = true →
        ((knownOp (bOp p.base) = false ∨ s.rxVersion q p.base = false ∨ q.accepts p.base = false ∨ rxFrom q p.base = false) →
          Sys2Proof.Machine.exec i s = .next (s.sealed (s.received p)))
        ∧ (knownOp (bOp p.base) = true → s.rxVersion q p.base = true → q.accepts p.base = true → rxFrom q p.base = true →
          (bOp p.base = 0x20 → (s.qpKey q).isEmpty = true →
            (q.guarded = true → Sys2Proof.Machine.exec i s = .next (s.sealed (s.received p)))
            ∧ (q.guarded = false → Sys2Proof.Machine.exec i s = .next (s.sealed ((s.received p).refuseConn n 2 (bConn p.base)))))
          ∧ ((bOp p.base = 0x20 → (s.qpKey q).isEmpty = false) →
            (s.rxOpen q p = none → Sys2Proof.Machine.exec i s = .next (s.sealed ((s.received p).bump 0x6400 2)))
            ∧ (∀ payload, s.rxOpen q p = some payload →
              (seqOp (bOp p.base) = true → Sys2Proof.Machine.exec i s = .next (s.sealed
                (((s.received p).rxSeq n p payload).drainStep n)))
              ∧ (seqOp (bOp p.base) = false → Sys2Proof.Machine.exec i s = .next (s.sealed ((s.received p).rxUn n p))))))))

/-- What the unsequenced packets that pass steps 1 to 5 do (rnr, refusalAck, connect, connectReply, connectRefuse, disconnect,
disconnectAck; R249, R250, R261, R269). RNR holds its packet, REFUSAL_ACK drops records; with a wrong length neither does anything. A
CONNECT of a wrong length, or under PSN_GUARD, does nothing. A listener, and a connecting QP that is not the lower of the two, refuses
one of another kind, or for another connection, or of a domain without its shares in strict partition mode, with reason 3, refuses one
without version 1 with reason 1, and else enters RTS and replies. In RTS and DRAINING another BOOT_ID shows that the peer has
restarted: the QP listens again where it may, else ends in ERROR; in RTS a repeated CONNECT is answered again. A CONNECT_REPLY that
agrees brings a connecting QP to RTS; a CONNECT_REFUSE ends it in ERROR; a DISCONNECT drains; a DISCONNECT_ACK of a DISCONNECT ends in
RESET. In every other case nothing happens. -/
def Obligations.ConnectionsRiseAndEnd : Prop :=
  (∀ (p : RxPacket) (s t : State) (payload : List Byte) (n : Nat) (q : Qp) (c : BitVec 256), s.Receives p payload → t = s.received p →
    n = bDstQp p.base → q = s.qp n → c = ofBytes 256 p.ext →
    (bOp p.base = 0x12 →
      (p.ext.length = 16 → Sys2Proof.Machine.exec (.rnr p) s = .next (s.sealed (t.modQp n fun q =>
        { q with tx := q.tx.map fun t =>
            if t.psn = leNat (slice p.ext 0 3) ∧ t.sent ∧ !t.done then { t with held := true, rnr := true } else t })))
      ∧ (p.ext.length ≠ 16 → Sys2Proof.Machine.exec (.rnr p) s = .next (s.sealed t)))
    ∧ (bOp p.base = 0x13 →
      (p.ext.length = 8 → Sys2Proof.Machine.exec (.refusalAck p) s = .next (s.sealed (t.modQp n fun q =>
        { q with refused := q.refused.filter fun r => newer 16 r.no (leNat (slice p.ext 0 2)) })))
      ∧ (p.ext.length ≠ 8 → Sys2Proof.Machine.exec (.refusalAck p) s = .next (s.sealed t)))
    ∧ (bOp p.base = 0x20 →
      ((q.guarded = true ∨ p.ext.length ≠ 32) → Sys2Proof.Machine.exec (.connect p) s = .next (s.sealed t))
      ∧ (q.guarded = false → p.ext.length = 32 →
        ((q.st = .listen ∨ q.st = .connecting ∧ ¬ (s.nodeId < q.peerNode ∨ s.nodeId = q.peerNode ∧ n < q.peerQp)) →
          ((fld c 112 2 ≠ b2n q.isMgmt ∨ fld c 96 16 ≠ bConn p.base
              ∨ s.strict = true ∧ q.isMgmt = false ∧ s.provisioned q.dom = false) →
            Sys2Proof.Machine.exec (.connect p) s = .next (s.sealed (t.refuseConn n 3 (bConn p.base))))
          ∧ (fld c 112 2 = b2n q.isMgmt → fld c 96 16 = bConn p.base →
            (s.strict = false ∨ q.isMgmt = true ∨ s.provisioned q.dom = true) →
            ((fld c 8 8 < 1 ∨ 1 < fld c 0 8) →
              Sys2Proof.Machine.exec (.connect p) s = .next (s.sealed (t.refuseConn n 1 (bConn p.base))))
            ∧ (1 ≤ fld c 8 8 → fld c 0 8 ≤ 1 → Sys2Proof.Machine.exec (.connect p) s = .next (s.sealed
                ((t.enterRts n 1 (Nat.min (fld c 114 2) (fld q.cfg 48 2)) (bConn p.base) (c.extractLsb' 32 64)).sendConn n
                  0x21 0 1 1 (Nat.min (fld c 114 2) (fld q.cfg 48 2)) (bConn p.base))))))
        ∧ (q.st = .connecting → (s.nodeId < q.peerNode ∨ s.nodeId = q.peerNode ∧ n < q.peerQp) →
          Sys2Proof.Machine.exec (.connect p) s = .next (s.sealed t))
        ∧ ((q.st = .rts ∨ q.st = .draining) → c.extractLsb' 32 64 ≠ q.peerBoot →
          (bit q.cfg 2 = false → Sys2Proof.Machine.exec (.connect p) s = .next (s.sealed (t.qpError n 6)))
          ∧ (bit q.cfg 2 = true → Sys2Proof.Machine.exec (.connect p) s = .next (s.sealed
              (((t.qpDrop n).setQp n { cfg := q.cfg, connId := q.connId, st := .listen, guarded := true }).ringLost n))))
        ∧ (q.st = .rts → c.extractLsb' 32 64 = q.peerBoot →
          (bConn p.base = q.connId → Sys2Proof.Machine.exec (.connect p) s = .next (s.sealed
            (t.sendConn n 0x21 0 1 1 q.pmtu (bConn p.base))))
          ∧ (bConn p.base ≠ q.connId → Sys2Proof.Machine.exec (.connect p) s = .next (s.sealed t)))
        ∧ (q.st = .draining → c.extractLsb' 32 64 = q.peerBoot → Sys2Proof.Machine.exec (.connect p) s = .next (s.sealed t))))
    ∧ (bOp p.base = 0x21 → ∀ good : Prop, (good ↔ q.st = .connecting ∧ p.ext.length = 32 ∧ fld c 0 8 = 1 ∧ fld c 8 8 = 1
        ∧ fld c 112 2 = b2n q.isMgmt) →
      (good → Sys2Proof.Machine.exec (.connectReply p) s = .next (s.sealed
        (t.enterRts n 1 (fld c 114 2) (bConn p.base) (c.extractLsb' 32 64))))
      ∧ (¬ good → Sys2Proof.Machine.exec (.connectReply p) s = .next (s.sealed t)))
    ∧ (bOp p.base = 0x22 →
      (q.st = .connecting → p.ext.length = 32 → Sys2Proof.Machine.exec (.connectRefuse p) s = .next (s.sealed (t.qpError n 4)))
      ∧ ((q.st ≠ .connecting ∨ p.ext.length ≠ 32) → Sys2Proof.Machine.exec (.connectRefuse p) s = .next (s.sealed t)))
    ∧ (bOp p.base = 0x23 →
      ((q.st = .rts ∨ q.st = .draining) → Sys2Proof.Machine.exec (.disconnect p) s = .next (s.sealed
        ((t.modQp n fun x => { x with st := .draining, discRecv := true }).drainStep n)))
      ∧ (q.st ≠ .rts → q.st ≠ .draining → Sys2Proof.Machine.exec (.disconnect p) s = .next (s.sealed t)))
    ∧ (bOp p.base = 0x24 →
      (q.st = .draining → q.discSent = true → Sys2Proof.Machine.exec (.disconnectAck p) s = .next (s.sealed (t.qpToReset n)))
      ∧ ((q.st ≠ .draining ∨ q.discSent = false) → Sys2Proof.Machine.exec (.disconnectAck p) s = .next (s.sealed t))))

/-- The sequenced packets that pass steps 1 to 5 (xntWrite, xntWriteImm, readReq, readResp; R243, R249, R252, R257 to R263, R268). A CE mark
is noted. A duplicate is acknowledged and never placed again; one beyond the window is counted. A packet of a refused message is only
done. One that its QP's role does not allow is refused with BAD_OPCODE, one whose key does not allow it with the key's code. A write
to a queue's region is placed; one to a landing region is placed once its units are bound, and else, where it is not held already, is
refused with NO_PAGE when nothing waits for a scrub, held where the fault buffer has room, and turned away with RNR. A read request is
noted while fewer than 16 execute, and turned away with RNR else; a response, and the packet of a SERVICE or MGMT message, is placed.
Each packet that is done is acknowledged as R262 says, and then a draining QP goes on. -/
def Obligations.SequencedPacketsArePlaced : Prop :=
  ∀ (i : Instr) (ok : Nat → Bool) (p : RxPacket) (s t u : State) (payload : List Byte) (n op : Nat) (q v : Qp),
    packetRow i = some (p, ok) → op = bOp p.base → ok op = true → seqOp op = true → s.Receives p payload → n = bDstQp p.base →
    (p.ce = true → t = (s.received p).modQp n fun q => { q with ce := q.ce + 1 }) → (p.ce = false → t = s.received p) → q = t.qp n →
    u = (t.modQp n fun x => x.begin (bMsn p.base)) → v = u.qp n →
    ((newer 24 q.cpsn (bPsn p.base) = true ∨ bPsn p.base ∈ q.done) →
      Sys2Proof.Machine.exec i s = .next (s.sealed (((t.bump 0x6400 3).sendAck n false).drainStep n)))
    ∧ (newer 24 q.cpsn (bPsn p.base) = false → bPsn p.base ∉ q.done →
      (1024 ≤ (bPsn p.base + 2 ^ 24 - q.cpsn) % 2 ^ 24 →
        Sys2Proof.Machine.exec i s = .next (s.sealed ((t.bump 0x6400 4).drainStep n)))
      ∧ ((bPsn p.base + 2 ^ 24 - q.cpsn) % 2 ^ 24 < 1024 →
        ((∃ r ∈ q.refused, r.msn = bMsn p.base) → Sys2Proof.Machine.exec i s = .next (s.sealed
          ((((if bLast p.base then u.modQp n fun x => x.noteAct (bPsn p.base) (bMsn p.base) .plain else u).markDone n
            (bPsn p.base)).ackNow n (u.ackSoon n p)).drainStep n)))
        ∧ ((∀ r ∈ q.refused, r.msn ≠ bMsn p.base) →
          (roleOk v p = false → Sys2Proof.Machine.exec i s = .next (s.sealed ((u.refusePkt n p.base 4).drainStep n)))
          ∧ (roleOk v p = true →
            (∀ code, op ≤ 3 → u.addrCheck v op p.ext payload.length = some code →
              Sys2Proof.Machine.exec i s = .next (s.sealed ((u.refusePkt n p.base code).drainStep n)))
            ∧ (op = 3 → u.addrCheck v op p.ext payload.length = none →
              (readsRunning v < 16 → Sys2Proof.Machine.exec i s = .next (s.sealed ((((u.modQp n fun x =>
                  x.noteAct (bPsn p.base) (bMsn p.base) (.read (aKey p.ext) (aOff p.ext) (aLen p.ext))).markDone n
                    (bPsn p.base)).ackNow n (u.ackSoon n p)).drainStep n)))
              ∧ (16 ≤ readsRunning v →
                Sys2Proof.Machine.exec i s = .next (s.sealed ((u.sendRnr n (bPsn p.base)).drainStep n))))
            ∧ ((op = 1 ∨ op = 2) → u.addrCheck v op p.ext payload.length = none →
              (u.landingOf (aKey p.ext) = none → Sys2Proof.Machine.exec i s = .next (s.sealed
                (((u.placeWrite n p.base p.ext payload).ackNow n (u.ackSoon n p)).drainStep n)))
              ∧ (u.landingOf (aKey p.ext) ≠ none → ∀ b, b = u.bindUnits (aKey p.ext) v.slice (unitsOf (aOff p.ext) payload.length) →
                (∀ w, b = some w → Sys2Proof.Machine.exec i s = .next (s.sealed
                  ((((w.placeWrite n p.base p.ext payload).ackNow n (u.ackSoon n p)).lowCheck).drainStep n)))
                ∧ (b = none → ∀ held : Prop, (held ↔ ∃ f ∈ u.xnt.fault, f.qp = n ∧ f.psn = bPsn p.base) →
                  (held → Sys2Proof.Machine.exec i s = .next (s.sealed (u.drainStep n)))
                  ∧ (¬ held → u.scrubCount = 0 →
                    Sys2Proof.Machine.exec i s = .next (s.sealed ((u.refusePkt n p.base 3).drainStep n)))
                  ∧ (¬ held → u.scrubCount ≠ 0 → u.faultRoom v.dom payload.length = true →
                    Sys2Proof.Machine.exec i s = .next (s.sealed ((u.stallPkt n p.base p.ext payload).drainStep n)))
                  ∧ (¬ held → u.scrubCount ≠ 0 → u.faultRoom v.dom payload.length = false →
                    Sys2Proof.Machine.exec i s = .next (s.sealed ((u.sendRnr n (bPsn p.base)).drainStep n))))))
            ∧ (op = 4 → Sys2Proof.Machine.exec i s = .next (s.sealed
                (((u.placeResp n p.base p.ext payload).ackNow n (u.ackSoon n p)).drainStep n)))
            ∧ ((op = 5 ∨ op = 6) → Sys2Proof.Machine.exec i s = .next (s.sealed
                (((u.placePart n p.base p.ext payload).ackNow n (u.ackSoon n p)).drainStep n)))))))

/-- R245: an ACK reports as done exactly the PSNs before CPSN, and those among the 128 after it that are done.

ACK and NAK that pass steps 1 to 5 (xntAck, xntNak; R245, R254, R261, R263, R264): with a wrong length nothing happens. Else the packets
reported are done, those left behind by reordering are declared lost, the marks and PSNs are counted, and the paths that delivered
are good again; with records the reads and commands of the messages named end, and a REFUSAL_ACK goes out. -/
def Obligations.AcknowledgementsSayWhatIsDone : Prop :=
  (∀ (q : Qp) (psn : Nat), q.cpsn < 2 ^ 24 → psn < 2 ^ 24 →
    (ackCovers (ackExt q) psn = true ↔ newer 24 q.cpsn psn = true
      ∨ ((psn + 2 ^ 24 - (q.cpsn + 1)) % 2 ^ 24 < 128 ∧ psn ∈ q.done)))
  ∧ (∀ (i : Instr) (p : RxPacket) (s t : State) (payload : List Byte) (n records : Nat) (q : Qp), s.Receives p payload →
    (i = .xntAck p ∧ bOp p.base = 0x10 ∨ i = .xntNak p ∧ bOp p.base = 0x11) → t = s.received p → n = bDstQp p.base → q = s.qp n →
    records = leNat (slice p.ext 3 1) →
    ((p.ext.length ≠ 32 + 8 * records ∨ 8 < records) → Sys2Proof.Machine.exec i s = .next (s.sealed t))
    ∧ (p.ext.length = 32 + 8 * records → records ≤ 8 →
      ∀ (new : List TxPkt) (latest : Nat) (msns owners : List Nat) (after : TxPkt → TxPkt) (r : Qp) (u : State),
      new = (q.tx.filter fun x => x.out && ackCovers p.ext x.psn) →
      latest = new.foldl (fun m x => Nat.max m x.sentAt) 0 →
      msns = ((List.range records).map fun i => leNat (slice p.ext (32 + 8 * i) 3)) →
      owners = ((q.tx.filter fun x => msns.contains x.msn && x.own != 0).map TxPkt.own).eraseDups →
      (∀ x y : TxPkt, y = (if x.msn ∈ msns then { x with own := 0 } else x) →
        (y.out = true → ackCovers p.ext y.psn = true → after x = { y with done := true })
        ∧ (ackCovers p.ext y.psn = false → y.sent = true → y.done = false → y.held = false → new ≠ [] →
            y.sentAt + 1000 * t.num 0x6300 3 ≤ latest → after x = y.lose)
        ∧ (¬ (y.out = true ∧ ackCovers p.ext y.psn = true) → ¬ (ackCovers p.ext y.psn = false ∧ y.sent = true ∧ y.done = false
            ∧ y.held = false ∧ new ≠ [] ∧ y.sentAt + 1000 * t.num 0x6300 3 ≤ latest) → after x = y)) →
      r = (new.filter fun x => !x.resent && !x.rnr).foldl (fun a x => a.sampleRtt (t.xnt.clock - x.sentAt)) q →
      u = (t.setQp n { r with tx := (q.tx.map after).dropWhile TxPkt.done, marked := q.marked + leNat (slice p.ext 20 2),
                              acked := q.acked + leNat (slice p.ext 22 2),
                              pathTimeouts := q.pathTimeouts.filter fun x => !(new.map TxPkt.path).contains x.1 }) →
      (records = 0 → Sys2Proof.Machine.exec i s = .next (s.sealed (u.drainStep n).wake))
      ∧ (records ≠ 0 → Sys2Proof.Machine.exec i s = .next (s.sealed
          (((owners.foldl State.ownFails (u.failReads n msns)).sendUn n 0x13 (slice p.ext 24 2 ++ leBytes 6 0) q.connId).drainStep
            n).wake))))

/-! ## Timers of the transport -/

/-- The timers of a QP (R249 to R251, R254, R255, R262, R264, R269). RETRANSMIT_TIMEOUT (retransmitTimeout): a packet that is out and
not done is lost once more on its path and the rate is halved, or, after RETRY_MAX retransmissions, the QP ends in ERROR with cause
1. ACK_DELAY (ackDelay): what is not yet acknowledged is. RATE_PERIOD (ratePeriod): alpha follows the share of marked packets; marks cut
the rate down to RATE_MIN, and a period without one raises it up to RATE_MAX. PATH_HOLDDOWN (pathHolddown): the path is used again.
CONNECT_RETRY (connectRetry): a connecting QP sends another CONNECT, unless PSN_GUARD holds it back, or after sixteen ends in ERROR with
cause 4. DRAIN_LIMIT (drainLimit): a draining QP ends in ERROR with cause 5. PSN_GUARD (psnGuard): it holds no longer. RNR_RESEND
(rnrResend): a held packet leaves again. RNR_LIMIT (rnrLimit): a QP with the packet still turned away ends in ERROR with cause 2.
Where a timer finds nothing that it is for, nothing of this happens. -/
def Obligations.TransportTimersAct : Prop :=
  (∀ (s : State) (qp : BitVec 16) (psn : BitVec 24) (out : TxPkt → Bool),
    (∀ t, out t = (t.psn == psn.toNat && t.sent && !t.done && !t.held)) →
    (∀ t, (s.qp qp.toNat).sends = true → (s.qp qp.toNat).tx.find? out = some t →
      (t.retries < s.num 0x6300 6 →
        Sys2Proof.Machine.exec (.retransmitTimeout qp psn) s = .next (s.sealed ((s.modQp qp.toNat fun x =>
          { (x.pathTimeout t.path) with
              rate := s.halfRate x.rate, tx := x.tx.map fun y => if y.psn = psn.toNat then y.lose else y }).wake)))
      ∧ (s.num 0x6300 6 ≤ t.retries →
        Sys2Proof.Machine.exec (.retransmitTimeout qp psn) s = .next (s.sealed ((s.qpError qp.toNat 1).wake))))
    ∧ ((s.qp qp.toNat).sends = false ∨ (∀ t ∈ (s.qp qp.toNat).tx, out t = false) →
      Sys2Proof.Machine.exec (.retransmitTimeout qp psn) s = .next (s.sealed s.wake)))
  ∧ (∀ (s : State) (qp : BitVec 16),
    ((s.qp qp.toNat).sends = true → (s.qp qp.toNat).unacked ≠ 0 →
      Sys2Proof.Machine.exec (.ackDelay qp) s = .next (s.sealed (s.sendAck qp.toNat false)))
    ∧ ((s.qp qp.toNat).sends = false ∨ (s.qp qp.toNat).unacked = 0 →
      Sys2Proof.Machine.exec (.ackDelay qp) s = .next (s.sealed s)))
  ∧ (∀ (s : State) (qp : BitVec 16) (q : Qp), q = s.qp qp.toNat →
    ((q.sends = false ∨ q.sent = false) → Sys2Proof.Machine.exec (.ratePeriod qp) s = .next (s.sealed s))
    ∧ (q.sends = true → q.sent = true → ∀ (alpha rate add : Rat) (steps : Nat),
      alpha = q.alpha * 15 / 16 + ((q.marked : Rat) / ((Nat.max q.acked 1 : Nat) : Rat)) / 16 →
      steps = (if 0 < q.marked then 0 else q.steps + 1) →
      add = ((if steps ≤ 5 then s.num 0x6300 0x13 else s.num 0x6300 0x14 : Nat) : Rat) →
      (0 < q.marked → rate = if q.rate * (1 - alpha / 2) < ((s.num 0x6300 0x12 : Nat) : Rat) then ((s.num 0x6300 0x12 : Nat) : Rat)
        else q.rate * (1 - alpha / 2)) →
      (q.marked = 0 → rate = if ((s.rateMax q : Nat) : Rat) < q.rate + add then ((s.rateMax q : Nat) : Rat) else q.rate + add) →
      Sys2Proof.Machine.exec (.ratePeriod qp) s = .next (s.sealed (s.modQp qp.toNat fun x =>
        { x with alpha := alpha, rate := rate, steps := steps, marked := 0, acked := 0, sent := false }))))
  ∧ (∀ (s : State) (qp : BitVec 16) (path : BitVec 7), Sys2Proof.Machine.exec (.pathHolddown qp path) s = .next (s.sealed
    (s.modQp qp.toNat fun q => { q with suspended := q.suspended.filter (· ≠ path.toNat) })))
  ∧ (∀ (s : State) (qp : BitVec 16),
    ((s.qp qp.toNat).st = .connecting →
      ((s.qp qp.toNat).attempts < 16 → (s.qp qp.toNat).guarded = false →
        Sys2Proof.Machine.exec (.connectRetry qp) s = .next (s.sealed ((s.sendOwn qp.toNat 0x20).modQp qp.toNat fun q =>
          { q with attempts := q.attempts + 1 })))
      ∧ ((s.qp qp.toNat).attempts < 16 → (s.qp qp.toNat).guarded = true →
        Sys2Proof.Machine.exec (.connectRetry qp) s = .next (s.sealed s))
      ∧ (16 ≤ (s.qp qp.toNat).attempts →
        Sys2Proof.Machine.exec (.connectRetry qp) s = .next (s.sealed (s.qpError qp.toNat 4))))
    ∧ ((s.qp qp.toNat).st ≠ .connecting → Sys2Proof.Machine.exec (.connectRetry qp) s = .next (s.sealed s)))
  ∧ (∀ (s : State) (qp : BitVec 16),
    ((s.qp qp.toNat).st = .draining → Sys2Proof.Machine.exec (.drainLimit qp) s = .next (s.sealed (s.qpError qp.toNat 5)))
    ∧ ((s.qp qp.toNat).st ≠ .draining → Sys2Proof.Machine.exec (.drainLimit qp) s = .next (s.sealed s)))
  ∧ (∀ (s : State) (qp : BitVec 16), Sys2Proof.Machine.exec (.psnGuard qp) s = .next (s.sealed
    (s.modQp qp.toNat fun q => { q with guarded := false })))
  ∧ (∀ (s : State) (qp : BitVec 16) (psn : BitVec 24), Sys2Proof.Machine.exec (.rnrResend qp psn) s = .next (s.sealed
    (s.modQp qp.toNat fun q =>
      { q with tx := q.tx.map fun t => if t.psn = psn.toNat ∧ t.held then { t with held := false, sent := false } else t })))
  ∧ (∀ (s : State) (qp : BitVec 16) (psn : BitVec 24),
    ((s.qp qp.toNat).sends = true → (∃ t ∈ (s.qp qp.toNat).tx, t.psn = psn.toNat ∧ t.rnr = true ∧ t.done = false) →
      Sys2Proof.Machine.exec (.rnrLimit qp psn) s = .next (s.sealed ((s.qpError qp.toNat 2).wake)))
    ∧ ((s.qp qp.toNat).sends = false ∨ (∀ t ∈ (s.qp qp.toNat).tx, ¬ (t.psn = psn.toNat ∧ t.rnr = true ∧ t.done = false)) →
      Sys2Proof.Machine.exec (.rnrLimit qp psn) s = .next (s.sealed s.wake)))

/-- ODP_BIND and ODP_STALL_LIMIT (odpBind, odpStallLimit; R267, R268): a held packet is placed and done once its units are bound; while they
cannot be it waits; one whose region has ended, and one held too long, is dropped with RNR. REVOCATION_COMPLETE (revocationComplete; R266):
a revoked key with nothing in flight is QUIET with its next generation. RKEY_FREE (rkeyFree; R266): a QUIET key is free. ARP_REQUEST and
ICMP_ECHO (arpRequest, icmpEcho; R239): at a sub-port whose link is up the frame is counted; a request for the sub-port's own address and
VLAN is answered through the gateway, an echo up to 1,000 times a second. SUBPORT_LINK_CHANGE (subportLinkChange; R237, R239): a link
comes up where the sub-port exists and has a MAC. SHAPER_TICK (shaperTick; R264, R315): time passes, rates and buckets fill, and packets
leave, excess last and not in strict partition mode. What finds nothing that it is for changes nothing. -/
def Obligations.PlacementKeysAndNeighbours : Prop :=
  (∀ (s t : State) (qp : BitVec 16) (psn : BitVec 24), t = ((s.dropStalled fun f => f.qp == qp.toNat && f.psn == psn.toNat).sendRnr
      qp.toNat psn.toNat) →
    (s.stalled qp.toNat psn.toNat = none → Sys2Proof.Machine.exec (.odpBind qp psn) s = .next (s.sealed s)
      ∧ Sys2Proof.Machine.exec (.odpStallLimit qp psn) s = .next (s.sealed s))
    ∧ (∀ f, s.stalled qp.toNat psn.toNat = some f →
      Sys2Proof.Machine.exec (.odpStallLimit qp psn) s = .next (s.sealed t)
      ∧ (s.landingOf f.key = none → Sys2Proof.Machine.exec (.odpBind qp psn) s = .next (s.sealed t))
      ∧ (s.landingOf f.key ≠ none → ∀ b, b = s.bindUnits f.key (s.qp qp.toNat).slice (unitsOf f.off f.payload.length) →
        (b = none → Sys2Proof.Machine.exec (.odpBind qp psn) s = .next (s.sealed s))
        ∧ (∀ u, b = some u → Sys2Proof.Machine.exec (.odpBind qp psn) s = .next (s.sealed
            (((((u.placeBytes f.key f.off f.payload).dropStalled fun x => x.qp == qp.toNat && x.psn == psn.toNat).markDone
              qp.toNat psn.toNat).ackNow qp.toNat ((s.qp qp.toNat).acts.any fun a => a.1 == psn.toNat)).lowCheck))))))
  ∧ (∀ (s : State) (k : BitVec 16),
    (∀ r, s.rkey k.toNat = some r → r.st = 2 → r.inflight = 0 →
      Sys2Proof.Machine.exec (.revocationComplete k) s = .next (s.sealed (s.modXnt fun x =>
        { x with rkeys := aput x.rkeys k.toNat { r with st := 3, gen := (r.gen + 1) % 256 }
                 rkeyGens := aput x.rkeyGens k.toNat ((r.gen + 1) % 256) })))
    ∧ ((∀ r, s.rkey k.toNat = some r → r.st ≠ 2 ∨ r.inflight ≠ 0) →
      Sys2Proof.Machine.exec (.revocationComplete k) s = .next (s.sealed s))
    ∧ (∀ r, s.rkey k.toNat = some r → r.st = 3 →
      Sys2Proof.Machine.exec (.rkeyFree k) s = .next (s.sealed (s.modXnt fun x => { x with rkeys := adel x.rkeys k.toNat })))
    ∧ ((∀ r, s.rkey k.toNat = some r → r.st ≠ 3) → Sys2Proof.Machine.exec (.rkeyFree k) s = .next (s.sealed s)))
  ∧ (∀ (s : State) (n : BitVec 5) (v6 : Bool) (a w : BitVec 128) (vlan : Option (BitVec 12)) (data : List Byte) (t : State) (h : LinkHdr),
    t = (s.modPort n.toNat fun p => { p with rx := p.rx + 1 }) →
    h = { srcMac := fld (s.portCfg n.toNat) 32 48, dstMac := fld (s.portCfg n.toNat) 80 48
          vlan := if bit (s.portCfg n.toNat) 4 then some (fld (s.portCfg n.toNat) 5 3, fld (s.portCfg n.toNat) 8 12) else none
          v6 := v6, src := a.toNat, dst := w.toNat } →
    (s.portUp n.toNat = false → Sys2Proof.Machine.exec (.arpRequest n v6 ⟨a, w⟩ vlan) s = .next (s.sealed s)
      ∧ Sys2Proof.Machine.exec (.icmpEcho n v6 ⟨a, w⟩ ⟨vlan, data⟩) s = .next (s.sealed s))
    ∧ (s.portUp n.toNat = true → ∀ own : Bool, own = (s.ownAddr n.toNat v6 a && s.ownVlan n.toNat vlan) →
      (own = true → Sys2Proof.Machine.exec (.arpRequest n v6 ⟨a, w⟩ vlan) s = .next (s.sealed
        ((t.emit (.arp n.toNat h a (fld (s.portCfg n.toNat) 32 48))).modPort n.toNat fun p => { p with tx := p.tx + 1 })))
      ∧ (own = false → Sys2Proof.Machine.exec (.arpRequest n v6 ⟨a, w⟩ vlan) s = .next (s.sealed t))
      ∧ (own = true → anat s.xnt.echoes n.toNat < 1000 → Sys2Proof.Machine.exec (.icmpEcho n v6 ⟨a, w⟩ ⟨vlan, data⟩) s = .next (s.sealed
        (((t.emit (.echo n.toNat h data)).modPort n.toNat fun p => { p with tx := p.tx + 1 }).modXnt fun x =>
          { x with echoes := abump x.echoes n.toNat 1 })))
      ∧ ((own = false ∨ 1000 ≤ anat s.xnt.echoes n.toNat) →
        Sys2Proof.Machine.exec (.icmpEcho n v6 ⟨a, w⟩ ⟨vlan, data⟩) s = .next (s.sealed t))))
  ∧ (∀ (s : State) (n : BitVec 5) (up : Bool), Sys2Proof.Machine.exec (.subportLinkChange n up) s = .next (s.sealed
    (s.modPort n.toNat fun p => { p with up := up && s.portExists n.toNat && fld (s.portCfg n.toNat) 32 48 != 0 })))
  ∧ (∀ (s : State) (dt : BitVec 32) (t : State),
    t = (akeys s.dom.doms).foldl (fun t d => (t.refill d 0 dt.toNat).refill d 1 dt.toNat) (s.modXnt fun x =>
      { x with clock := s.xnt.clock + dt.toNat
               echoes := if (s.xnt.clock + dt.toNat) / 1000000000 = x.clock / 1000000000 then x.echoes else []
               qps := x.qps.map fun p => if p.2.sends then (p.1, p.2.grant dt.toNat) else p }) →
    Sys2Proof.Machine.exec (.shaperTick dt) s = .next (s.sealed
      (if (t.sendAll false).strict then t.sendAll false else (t.sendAll false).sendAll true)))

/-- R315: a shaper's tick adds its rates and never fills a bucket past its burst; a unit leaves committed when both buckets
hold it, as excess only in shared mode when the peak bucket holds it, else it waits; what leaves is taken from the buckets. -/
def Obligations.ShapersLimitTraffic : Prop :=
  (∀ (s : State) (d n dt : Nat) (x : Domain), aget s.dom.doms d = some x → bit (s.shaper d n) 0 = true →
    ((s.refill d n dt).buckets d n).1 = Nat.min (fld (s.shaper d n) 96 32 * 65536)
        ((s.buckets d n).1 + bucketGain (fld (s.shaper d n) 32 32) dt (n == 1 && s.link.width == 8))
      ∧ ((s.refill d n dt).buckets d n).2 = Nat.min (fld (s.shaper d n) 128 32 * 65536)
        ((s.buckets d n).2 + bucketGain (fld (s.shaper d n) 64 32) dt (n == 1 && s.link.width == 8)))
  ∧ (∀ (s : State) (d n b : Nat) (x : Domain), aget s.dom.doms d = some x → bit (s.shaper d n) 0 = true →
    (s.eligible d n b = .committed ↔ b * 65536 ≤ (s.buckets d n).1 ∧ b * 65536 ≤ (s.buckets d n).2)
      ∧ (s.eligible d n b = .excess ↔ s.strict = false ∧ b * 65536 ≤ (s.buckets d n).2 ∧ (s.buckets d n).1 < b * 65536)
      ∧ (s.eligible d n b = .committed → (s.leave d n b .committed).buckets d n
          = ((s.buckets d n).1 - b * 65536, (s.buckets d n).2 - b * 65536))
      ∧ (s.eligible d n b = .excess → (s.leave d n b .excess).buckets d n
          = ((s.buckets d n).1, (s.buckets d n).2 - b * 65536)))
  ∧ (∀ (s : State) (d n b : Nat), bit (s.shaper d n) 0 = false → s.eligible d n b = .committed ∧ s.leave d n b .committed = s)

/-! ## Service messages -/

/-- The twenty-four SERVICE rows (R260, R270): a message is acted on by its code over a DATA QP in RTS or DRAINING, and the
commands that waited look again; over any other QP it changes nothing. The row fixes SVC, and every other bit of the header
stands as sent. -/
def Obligations.ServiceMessagesAreActedOn : Prop :=
  (∀ (i : Instr) (q svc : Nat) (m : SvcMsg) (s : State), serviceRow i = some (q, svc, m) → s.svcQp q = true →
    Sys2Proof.Machine.exec i s = .next (s.sealed ((s.onService q (rowHdr svc m) m.payload).wake.lowCheck)))
  ∧ (∀ (i : Instr) (q svc : Nat) (m : SvcMsg) (s : State), serviceRow i = some (q, svc, m) → s.svcQp q = false →
    Sys2Proof.Machine.exec i s = .next (s.sealed s))
  ∧ (∀ (svc : Nat) (m : SvcMsg), svc < 256 → hSvc (rowHdr svc m) = svc ∧ hReason (rowHdr svc m) = hReason m.hdr
      ∧ hTag (rowHdr svc m) = hTag m.hdr ∧ hCount (rowHdr svc m) = hCount m.hdr ∧ hSeq (rowHdr svc m) = hSeq m.hdr
      ∧ hKey (rowHdr svc m) = hKey m.hdr ∧ hGen (rowHdr svc m) = hGen m.hdr)

/-- Holds and moves over a DATA QP that acts on messages (R22, R57, R65, R225, R228, R271, R272), in every case. HOLD_OFFER (holdOffer): a
region is opened and answered with HOLD_READY, or the offer is refused by a quota (1), for want of a key (2) or of the profile (4).
HOLD_READY (holdReady): the pages are written and HOLD_COMMIT follows, or the command ends with ST_PART_FAIL. HOLD_COMMIT (holdCommit):
every unit is held and its index answered, or none and REFUSE says why. HOLD_DONE (holdDone): the indices are kept, and the commit
or the next exchange follows. HOLD_RELEASE (holdRelease): the named holds of that origin and domain are freed. RELEASED (released):
the release is done. MOVE_BEGIN (moveBegin): an INCOMING sequence and MOVE_READY, or a refusal (6 to a copy for a shadow at a node
that is none of that domain, 3, 1, 4, 2). MOVE_READY (moveReady): the move goes on. MOVE_FINAL (moveFinal): the sequence is built from the verified
units, OPEN, or SHADOWED where it is a copy, and MOVE_DONE answered; or everything is discarded and refused. MOVE_DONE (moveDone): the
commit of R22. MOVE_QUERY (moveQuery): the outcome, an uncommitted move being discarded first; nothing is told or done over a QP of
another domain. REFUSE (refuse): the command it is for ends. A message that finds nothing that it is for changes nothing. -/
def Obligations.HoldsAndMovesProceed : Prop :=
  (∀ (s : State) (qp : BitVec 16) (m : SvcMsg) (n d c tag : Nat), s.svcQp n = true → n = qp.toNat → d = (s.qp n).dom → c = hCount (rowHdr 1 m) →
    tag = hTag (rowHdr 1 m) → ∀ room : Prop,
    (room ↔ (1 ≤ c ∧ c ≤ 1024 ∧ s.domActive d = true ∧ s.slotsHeld d + c ≤ s.num 0x3200 1 d ∧ s.mapHeld d + c ≤ s.num 0x7120 8 d)) →
    (¬ room → Sys2Proof.Machine.exec (.holdOffer qp m) s = .next (s.sealed ((s.refuse n 1 tag 0).wake.lowCheck)))
    ∧ (room → s.profOk = false → Sys2Proof.Machine.exec (.holdOffer qp m) s = .next (s.sealed ((s.refuse n 4 tag 0).wake.lowCheck)))
    ∧ (room → s.profOk = true → s.openLanding n tag c none false = none →
      Sys2Proof.Machine.exec (.holdOffer qp m) s = .next (s.sealed ((s.refuse n 2 tag 0).wake.lowCheck)))
    ∧ (room → s.profOk = true → ∀ (t : State) (k g : Nat), s.openLanding n tag c none false = some (t, k, g) →
      Sys2Proof.Machine.exec (.holdOffer qp m) s = .next (s.sealed ((t.sendSvc n (svcHdr 2 0 tag c 0 k g) []).wake.lowCheck))))
  ∧ (∀ (s : State) (qp : BitVec 16) (m : SvcMsg) (h : BitVec 256), s.svcQp qp.toNat = true → h = rowHdr 2 m →
    (s.holdCmd qp.toNat (hTag h) = none → Sys2Proof.Machine.exec (.holdReady qp m) s = .next (s.sealed (s.wake.lowCheck)))
    ∧ (∀ (c : Cmd) (js : List PageJob), s.holdCmd qp.toNat (hTag h) = some c →
      js = (c.jobs.filter fun j => !j.done).take (Nat.min 1024 (hCount h)) →
      ((js.mapM fun j => s.hbmPage j.page) = none →
        Sys2Proof.Machine.exec (.holdReady qp m) s = .next (s.sealed ((s.endCmd c ⟨stPartFail, 0, 0, 0⟩).wake.wake.lowCheck)))
      ∧ (∀ ds : List PageData, (js.mapM fun j => s.hbmPage j.page) = some ds →
        Sys2Proof.Machine.exec (.holdReady qp m) s = .next (s.sealed
          (((ds.zipIdx.foldl (fun t p => t.sendWrite qp.toNat (hKey h) (hGen h) (unitBytes * p.2) (pageUnit s.pr p.1) (c.id + 1))
            s).sendSvc qp.toNat (svcHdr 4 0 (hTag h) js.length 0 0 0) [] (c.id + 1)).wake.lowCheck)))))
  ∧ (∀ (s : State) (qp : BitVec 16) (m : SvcMsg) (h : BitVec 256), s.svcQp qp.toNat = true → h = rowHdr 3 m →
    (s.holdCmd qp.toNat (hTag h) = none → Sys2Proof.Machine.exec (.holdDone qp m) s = .next (s.sealed (s.wake.lowCheck)))
    ∧ (∀ (c c1 : Cmd) (t : State), s.holdCmd qp.toNat (hTag h) = some c →
      c1 = ((c.jobs.filter fun j => !j.done).zip (svcWords (hCount h) m.payload)).foldl
        (fun a p => a.setJob p.1.page fun x => { x with landing := p.2, done := true }) c →
      t = (s.modTier fun x =>
        { x with remoteKeys := aput x.remoteKeys ((s.qp qp.toNat).peerNode * 4096 + c.dom) (hKey h + hGen h * 65536) }).setCmd c1 →
      (c1.jobs.all PageJob.done = true →
        Sys2Proof.Machine.exec (.holdDone qp m) s = .next (s.sealed ((t.tryCommit c.id).wake.lowCheck)))
      ∧ (c1.jobs.all PageJob.done = false →
        Sys2Proof.Machine.exec (.holdDone qp m) s = .next (s.sealed ((t.offerHolds c1).wake.lowCheck)))))
  ∧ (∀ (s : State) (qp : BitVec 16) (m : SvcMsg) (tag : Nat) (r : Option Landing), s.svcQp qp.toNat = true → tag = hTag (rowHdr 4 m) →
    r = (s.xnt.landings.find? fun l => l.qp == qp.toNat && l.tag == tag && l.seq.isNone) →
    (r = none → Sys2Proof.Machine.exec (.holdCommit qp m) s = .next (s.sealed ((s.refuse qp.toNat 5 tag 0).wake.lowCheck)))
    ∧ (∀ l, r = some l →
      (∀ e, s.landedPages l (List.range l.units) = .error e → Sys2Proof.Machine.exec (.holdCommit qp m) s = .next (s.sealed
        (((s.closeLanding l.key).refuse qp.toNat e tag 0).wake.lowCheck)))
      ∧ (∀ ps, s.landedPages l (List.range l.units) = .ok ps →
        (s.holdsRegion l.origin l.dom = none → Sys2Proof.Machine.exec (.holdCommit qp m) s = .next (s.sealed
          (((s.closeLanding l.key).refuse qp.toNat 2 tag 0).wake.lowCheck)))
        ∧ (∀ (t : State) (k g : Nat), s.holdsRegion l.origin l.dom = some (t, k, g) →
          Sys2Proof.Machine.exec (.holdCommit qp m) s = .next (s.sealed
            (((((ps.foldl State.bindLanded t).modTier fun x =>
              { x with holds := x.holds ++ ps.map fun p => ⟨l.origin, l.dom, p.2.1⟩ }).closeLanding l.key).sendSvc qp.toNat
                (svcHdr 3 0 tag ps.length 0 k g) (ps.flatMap fun p => leBytes 4 p.2.1)).wake.lowCheck))))))
  ∧ (∀ (s : State) (qp : BitVec 16) (m : SvcMsg), s.svcQp qp.toNat = true →
    (∀ (gone : List Hold), gone = (s.tier.holds.filter fun h => h.origin == (s.qp qp.toNat).peerNode
        && h.dom == (s.qp qp.toNat).dom && (svcWords (hCount (rowHdr 5 m)) m.payload).contains h.page) →
      Sys2Proof.Machine.exec (.holdRelease qp m) s = .next (s.sealed
        (((gone.foldl State.freeHold s).sendSvc qp.toNat (svcHdr 6 0 (hTag (rowHdr 5 m)) gone.length 0 0 0) []).wake.lowCheck)))
    ∧ Sys2Proof.Machine.exec (.released qp m) s = .next (s.sealed ((s.modTier fun t =>
        { t with releases := t.releases.filter fun r =>
            ¬ (r.node = (s.qp qp.toNat).peerNode ∧ r.tag = hTag (rowHdr 6 m)) }).wake.lowCheck)))
  ∧ (∀ (s : State) (qp : BitVec 16) (m : SvcMsg) (id : BitVec 64) (n d i c tag : Nat) (copy : Bool), s.svcQp n = true → n = qp.toNat →
    id = hSeq (rowHdr 8 m) → d = (s.qp n).dom → i = sidIndex id → c = hCount (rowHdr 8 m) → tag = hTag (rowHdr 8 m) →
    copy = (hReason (rowHdr 8 m) == 1) → ∀ shadowHere fits room : Prop,
    (shadowHere ↔ (s.shadow.st = 1 ∧ s.shadow.isShadow = true ∧ s.mirrorQp d = some n)) →
    (fits ↔ (fld id 40 8 = 0 ∧ fld id 60 4 = 0 ∧ sidDom id = d ∧ (s.seq i).st = .free ∧ (s.seq i).gen ≤ sidGen id ∧ s.seqFree i = true)) →
    (room ↔ (s.domActive d = true ∧ s.seqsHeld d < s.num 0x7120 9 d ∧ s.slotsHeld d + c ≤ s.num 0x3200 1 d)) →
    (copy = true → ¬ shadowHere →
      Sys2Proof.Machine.exec (.moveBegin qp m) s = .next (s.sealed ((s.refuse n 6 tag id).wake.lowCheck)))
    ∧ ((copy = true → shadowHere) →
      (¬ fits → Sys2Proof.Machine.exec (.moveBegin qp m) s = .next (s.sealed ((s.refuse n 3 tag id).wake.lowCheck)))
      ∧ (fits → ¬ room → Sys2Proof.Machine.exec (.moveBegin qp m) s = .next (s.sealed ((s.refuse n 1 tag id).wake.lowCheck)))
      ∧ (fits → room → s.profOk = false →
        Sys2Proof.Machine.exec (.moveBegin qp m) s = .next (s.sealed ((s.refuse n 4 tag id).wake.lowCheck)))
      ∧ (fits → room → s.profOk = true → s.openLanding n tag c (some id) copy = none →
        Sys2Proof.Machine.exec (.moveBegin qp m) s = .next (s.sealed ((s.refuse n 2 tag id).wake.lowCheck)))
      ∧ (fits → room → s.profOk = true → ∀ (t : State) (k g : Nat), s.openLanding n tag c (some id) copy = some (t, k, g) →
        Sys2Proof.Machine.exec (.moveBegin qp m) s = .next (s.sealed
          (((t.setSeq i { gen := sidGen id, dom := d, st := .incoming }).sendSvc n (svcHdr 9 0 tag c id k g) []).wake.lowCheck)))))
  ∧ (∀ (s : State) (qp : BitVec 16) (m : SvcMsg) (h : BitVec 256), s.svcQp qp.toNat = true → h = rowHdr 9 m →
    (s.moveOn qp.toNat (hSeq h) = none → Sys2Proof.Machine.exec (.moveReady qp m) s = .next (s.sealed (s.wake.lowCheck)))
    ∧ (∀ (v w : MoveSt) (t : State), s.moveOn qp.toNat (hSeq h) = some v → w = { v with ready := true, key := hKey h, gen := hGen h } →
      t = (s.setMove v.seq v.shadow fun _ => w) →
      (v.ready = true → Sys2Proof.Machine.exec (.moveReady qp m) s = .next (s.sealed (s.wake.lowCheck)))
      ∧ (v.ready = false → v.shadow = true →
        Sys2Proof.Machine.exec (.moveReady qp m) s = .next (s.sealed ((t.copyReady w (hTag h)).wake.lowCheck)))
      ∧ (v.ready = false → v.shadow = false → ∀ c, v.cmd.bind s.cmd = some c →
        Sys2Proof.Machine.exec (.moveReady qp m) s = .next (s.sealed ((t.finalMove c).wake.lowCheck)))
      ∧ (v.ready = false → v.shadow = false → v.cmd.bind s.cmd = none →
        Sys2Proof.Machine.exec (.moveReady qp m) s = .next (s.sealed (t.wake.lowCheck)))))
  ∧ (∀ (s : State) (qp : BitVec 16) (m : SvcMsg) (id : BitVec 64) (tag : Nat) (r : Option Landing), s.svcQp qp.toNat = true →
    id = hSeq (rowHdr 0xA m) → tag = hTag (rowHdr 0xA m) →
    r = (s.xnt.landings.find? fun l => l.seq == some id && l.qp == qp.toNat) →
    (r = none → Sys2Proof.Machine.exec (.moveFinal qp m) s = .next (s.sealed ((s.refuse qp.toNat 6 tag id).wake.lowCheck)))
    ∧ (∀ (l : Landing) (e : BitVec 512) (rows : List (Nat × List (Nat × Nat))) (hs : List (Nat × Nat)), r = some l →
      e = ofBytes 512 (slice m.payload 0 64) →
      rows = parseRows s.pr (fld e 256 32) (m.payload.drop (64 + 256 * s.pr.lenGrains)) →
      hs = (rows.flatMap Prod.snd).foldl (fun a x => aput a x.1 x.2) [] →
      (∀ x, s.landedPages l (hs.map Prod.snd) = .error x → Sys2Proof.Machine.exec (.moveFinal qp m) s = .next (s.sealed
        (((s.discardMove id).refuse qp.toNat x tag id).wake.lowCheck)))
      ∧ (∀ (ps : List (PageData × Nat × Nat)) (at_ : Nat → Option (PageData × Nat × Nat)),
        s.landedPages l (hs.map Prod.snd) = .ok ps → (∀ u, at_ u = ps[(hs.map Prod.snd).idxOf u]?) →
        ((∃ x ∈ hs, ∀ p, at_ x.2 = some p → placeOk s.pr id x.1 p.1 = false) →
          Sys2Proof.Machine.exec (.moveFinal qp m) s = .next (s.sealed (((s.discardMove id).refuse qp.toNat 5 tag id).wake.lowCheck)))
        ∧ ((∀ x ∈ hs, ∃ p, at_ x.2 = some p ∧ placeOk s.pr id x.1 p.1 = true) → ∀ taken,
          taken = s.takeRuns { dom := sidDom id } ((if rows.isEmpty then [] else [(none, s.pr.lenGrains)])
            ++ rows.map (fun r => (some r.1, s.pr.rowGrains)) ++ (List.range (ceilDiv rows.length 1023)).map fun k => (indexKey k, 16)) →
          (∀ x, taken = .error x → Sys2Proof.Machine.exec (.moveFinal qp m) s = .next (s.sealed
            (((s.discardMove id).refuse qp.toNat 1 tag id).wake.lowCheck)))
          ∧ (∀ (t u v : State) (c : Cmd), taken = .ok (t, c) →
            u = (ps.foldl State.bindLanded t).issueSeq (sidIndex id) (SeqEntry.withGrains
              { gen := sidGen id, dom := sidDom id, st := if l.shadow then .shadowed else .open_, reclaimable := bit e 67
                prio := fld e 68 4, group := fld e 72 12, slice := fld e 84 4, posBase := fld e 96 32
                lens := (chunks 4 s.pr.planes (slice m.payload 64 (4 * s.pr.planes))).map leNat
                handles := hs.filterMap fun x => (at_ x.2).map fun p => (x.1, p.2.1)
                released := (rows.head?.map Prod.fst).getD 0 } c.grains) →
            v = (if l.shadow then u.modShadow fun x => { x with seqs := x.seqs ++ [id] } else u) →
            Sys2Proof.Machine.exec (.moveFinal qp m) s = .next (s.sealed
              (((v.closeLanding l.key).sendSvc qp.toNat (svcHdr 0xB 0 tag 0 id 0 0) []).wake.lowCheck)))))))
  ∧ (∀ (s : State) (qp : BitVec 16) (m : SvcMsg) (r : Option MoveSt), s.svcQp qp.toNat = true →
    r = s.moveOn qp.toNat (hSeq (rowHdr 0xB m)) →
    (r = none → Sys2Proof.Machine.exec (.moveDone qp m) s = .next (s.sealed (s.wake.lowCheck)))
    ∧ (∀ v, r = some v →
      (v.shadow = true → Sys2Proof.Machine.exec (.moveDone qp m) s = .next (s.sealed ((s.copyDone v).wake.lowCheck)))
      ∧ (v.shadow = false → ∀ (i : Nat) (c : Cmd), v.cmd = some i → s.cmd i = some c →
        Sys2Proof.Machine.exec (.moveDone qp m) s = .next (s.sealed
          (((s.setCmd { c with flushed := true }).tryCommit i).wake.lowCheck)))
      ∧ (v.shadow = false → ∀ i : Nat, v.cmd = some i → s.cmd i = none →
        Sys2Proof.Machine.exec (.moveDone qp m) s = .next (s.sealed (s.wake.lowCheck)))
      ∧ (v.shadow = false → v.cmd = none →
        Sys2Proof.Machine.exec (.moveDone qp m) s = .next (s.sealed ((s.moveOut v).wake.lowCheck.wake.lowCheck)))))
  ∧ (∀ (s : State) (qp : BitVec 16) (m : SvcMsg) (id : BitVec 64) (tag : Nat) (e : SeqEntry), s.svcQp qp.toNat = true →
    id = hSeq (rowHdr 0xC m) → tag = hTag (rowHdr 0xC m) → e = s.seq (sidIndex id) →
    (sidDom id ≠ (s.qp qp.toNat).dom →
      Sys2Proof.Machine.exec (.moveQuery qp m) s = .next (s.sealed ((s.refuse qp.toNat 6 tag id).wake.lowCheck)))
    ∧ (sidDom id = (s.qp qp.toNat).dom →
      (e.st = .incoming → e.gen = sidGen id → Sys2Proof.Machine.exec (.moveQuery qp m) s = .next (s.sealed
        (((s.discardMove id).refuse qp.toNat 6 tag id).wake.lowCheck)))
      ∧ ((e.st ≠ .incoming ∧ e.st ≠ .free ∧ e.gen = sidGen id) ∨ sidGen id < e.gen →
        Sys2Proof.Machine.exec (.moveQuery qp m) s = .next (s.sealed
          ((s.sendSvc qp.toNat (svcHdr 0xB 0 tag 0 id 0 0) []).wake.lowCheck)))
      ∧ ((e.st = .free ∧ e.gen = sidGen id) ∨ e.gen < sidGen id →
        Sys2Proof.Machine.exec (.moveQuery qp m) s = .next (s.sealed ((s.refuse qp.toNat 6 tag id).wake.lowCheck)))))
  ∧ (∀ (s : State) (qp : BitVec 16) (m : SvcMsg) (h : BitVec 256), s.svcQp qp.toNat = true → h = rowHdr 0xF m →
    (s.moveOn qp.toNat (hSeq h) = none →
      (s.holdCmd qp.toNat (hTag h) = none → Sys2Proof.Machine.exec (.refuse qp m) s = .next (s.sealed (s.wake.lowCheck)))
      ∧ (∀ c, s.holdCmd qp.toNat (hTag h) = some c → Sys2Proof.Machine.exec (.refuse qp m) s = .next (s.sealed
        ((s.endCmd c ⟨stTierFail, 4, ((c.jobs.find? fun j => !j.done).map PageJob.page).getD 0, 0⟩).wake.wake.lowCheck))))
    ∧ (∀ v, s.moveOn qp.toNat (hSeq h) = some v →
      (v.shadow = true → Sys2Proof.Machine.exec (.refuse qp m) s = .next (s.sealed
        ((s.shadowFail (if hReason h = 3 then 2 else 3)).wake.lowCheck)))
      ∧ (v.shadow = false → ∀ (i : Nat) (c : Cmd), v.cmd = some i → s.cmd i = some c → ∀ f : Fail,
        f = (if hReason h = 3 then ⟨stBusy, 0, 0, 0⟩ else ⟨stTierFail, 4, s.firstPage v.seq, 0⟩) →
        Sys2Proof.Machine.exec (.refuse qp m) s = .next (s.sealed ((s.endCmd c f).wake.wake.lowCheck)))
      ∧ (v.shadow = false → ∀ i : Nat, v.cmd = some i → s.cmd i = none →
        Sys2Proof.Machine.exec (.refuse qp m) s = .next (s.sealed (s.wake.lowCheck)))
      ∧ (v.shadow = false → v.cmd = none → hReason h = 6 →
        Sys2Proof.Machine.exec (.refuse qp m) s = .next (s.sealed ((s.abandonMove v.seq).wake.wake.lowCheck)))
      ∧ (v.shadow = false → v.cmd = none → hReason h ≠ 6 →
        Sys2Proof.Machine.exec (.refuse qp m) s = .next (s.sealed (s.wake.lowCheck)))))

/-- The ring's messages (R279, R280, R285, R286, R289, R290, R292) in every case. RING_HELLO (ringHello) is held and the join looks
again. A message of a ring that the node is not a member of is answered with LAP_ABORT, REASON 1. STOOK (stook): one that is too long or
fails its header check aborts the lap; one of an ended lap is dropped, its buffer free; any other waits in a buffer, and a STOPPING member
seals its lap. CREDIT (credit) counts. LAP_MARK (lapMark): member 0 commits the lap whose mark returns; another holds it until
it is done. LAP_COMMIT (lapCommit) is passed on and commits, and stops at member 0. LAP_ABORT (lapAbort) is passed on once and aborts a lap not yet committed here, or
the open one where a member is lost. RING_STOP (ringStop) is passed on, or taken by its issuer. RING_END (ringEnd) is passed
on and ends the ring here. -/
def Obligations.RingMessagesGoRound : Prop :=
  (∀ (s : State) (qp : BitVec 16) (m : SvcMsg), s.svcQp qp.toNat = true →
    Sys2Proof.Machine.exec (.ringHello qp m) s = .next (s.sealed
      (((s.modRing fun r => { r with hellos := aput r.hellos qp.toNat (padTo 96 m.payload) }).tryJoin).wake.lowCheck)))
  ∧ (∀ (i : Instr) (s : State) (q svc : Nat) (m : SvcMsg), serviceRow i = some (q, svc, m) → s.svcQp q = true →
    0x21 ≤ svc → svc ≤ 0x27 → (s.ringMember = false ∨ s.ring.ringId ≠ fld (rowHdr svc m) 64 32) →
    Sys2Proof.Machine.exec i s = .next (s.sealed
      ((s.sendSvc q (svcHdr 0x25 1 0 (fld (rowHdr svc m) 32 32) (BitVec.ofNat 64 (fld (rowHdr svc m) 64 32)) 0 0)
        []).wake.lowCheck)))
  ∧ (∀ (s : State) (qp : BitVec 16) (m : SvcMsg) (p : List Byte), s.svcQp qp.toNat = true → s.ringMember = true →
    s.ring.ringId = fld (rowHdr 0x21 m) 64 32 → p = m.payload →
    (s.ring.bufBytes < p.length → Sys2Proof.Machine.exec (.stook qp m) s = .next (s.sealed ((s.detectAbort 2 none).wake.lowCheck)))
    ∧ (p.length ≤ s.ring.bufBytes → stookHeadOk s.pr p = false →
      Sys2Proof.Machine.exec (.stook qp m) s = .next (s.sealed ((s.detectAbort 4 none).wake.lowCheck)))
    ∧ (p.length ≤ s.ring.bufBytes → stookHeadOk s.pr p = true → newer 32 (stookLap p) s.ring.doneLap = false →
      Sys2Proof.Machine.exec (.stook qp m) s = .next (s.sealed ((s.creditBack 1).wake.lowCheck)))
    ∧ (p.length ≤ s.ring.bufBytes → stookHeadOk s.pr p = true → newer 32 (stookLap p) s.ring.doneLap = true → ∀ t : State,
      t = (s.modRing fun r => { r with buffers := r.buffers ++ [{ bytes := p, origin := stookOrigin p, lap := stookLap p }] }) →
      (s.ring.st = ringStopping → s.ring.sealed = false →
        Sys2Proof.Machine.exec (.stook qp m) s = .next (s.sealed (t.autoSeal.wake.lowCheck)))
      ∧ (s.ring.st ≠ ringStopping ∨ s.ring.sealed = true →
        Sys2Proof.Machine.exec (.stook qp m) s = .next (s.sealed (t.ringStep.wake.lowCheck)))))
  ∧ (∀ (s : State) (qp : BitVec 16) (m : SvcMsg), s.svcQp qp.toNat = true → s.ringMember = true →
    s.ring.ringId = fld (rowHdr 0x22 m) 64 32 →
    Sys2Proof.Machine.exec (.credit qp m) s = .next (s.sealed
      (((s.modRing fun r => { r with credits := r.credits + hCount (rowHdr 0x22 m) }).ringStep).wake.lowCheck)))
  ∧ (∀ (s : State) (qp : BitVec 16) (m : SvcMsg) (lap : Nat), s.svcQp qp.toNat = true → s.ringMember = true →
    s.ring.ringId = fld (rowHdr 0x23 m) 64 32 → lap = hCount (rowHdr 0x23 m) →
    (s.ring.position ≠ 0 → Sys2Proof.Machine.exec (.lapMark qp m) s = .next (s.sealed
      (((s.modRing fun r => { r with markHeld := some lap }).ringStep).wake.lowCheck)))
    ∧ (s.ring.position = 0 → s.ring.sealed = true → s.ring.lap = lap → Sys2Proof.Machine.exec (.lapMark qp m) s = .next (s.sealed
      (((s.sendRing s.ring.nextQp 0x24 0 0 lap []).commitLap).wake.lowCheck)))
    ∧ (s.ring.position = 0 → (s.ring.sealed = false ∨ s.ring.lap ≠ lap) →
      Sys2Proof.Machine.exec (.lapMark qp m) s = .next (s.sealed (s.wake.lowCheck))))
  ∧ (∀ (s t : State) (qp : BitVec 16) (m : SvcMsg) (lap : Nat), s.svcQp qp.toNat = true → s.ringMember = true →
    s.ring.ringId = fld (rowHdr 0x24 m) 64 32 → lap = hCount (rowHdr 0x24 m) → t = s.sendRing s.ring.nextQp 0x24 0 0 lap [] →
    (s.ring.position = 0 → Sys2Proof.Machine.exec (.lapCommit qp m) s = .next (s.sealed (s.wake.lowCheck)))
    ∧ (s.ring.position ≠ 0 → s.ring.sealed = true → s.ring.lap = lap →
      Sys2Proof.Machine.exec (.lapCommit qp m) s = .next (s.sealed (t.commitLap.wake.lowCheck)))
    ∧ (s.ring.position ≠ 0 → (s.ring.sealed = false ∨ s.ring.lap ≠ lap) →
      Sys2Proof.Machine.exec (.lapCommit qp m) s = .next (s.sealed (t.wake.lowCheck))))
  ∧ (∀ (s t : State) (qp : BitVec 16) (m : SvcMsg) (cause pos lap : Nat), s.svcQp qp.toNat = true → s.ringMember = true →
    s.ring.ringId = fld (rowHdr 0x25 m) 64 32 → cause = hReason (rowHdr 0x25 m) → pos = hTag (rowHdr 0x25 m) % 64 →
    lap = hCount (rowHdr 0x25 m) →
    t = (s.modRing fun x => { x with abortSeen := x.abortSeen ++ [(lap, pos)] }).sendRing
      (if qp.toNat = s.ring.prevQp then s.ring.nextQp else s.ring.prevQp) 0x25 cause pos lap [] →
    ((lap, pos) ∈ s.ring.abortSeen → Sys2Proof.Machine.exec (.lapAbort qp m) s = .next (s.sealed (s.wake.lowCheck)))
    ∧ ((lap, pos) ∉ s.ring.abortSeen →
      (newer 32 lap s.ring.doneLap = true →
        Sys2Proof.Machine.exec (.lapAbort qp m) s = .next (s.sealed ((t.abortLap cause pos lap).wake.lowCheck)))
      ∧ (newer 32 lap s.ring.doneLap = false → cause = 1 → ∀ l : Nat,
        l = (if s.ring.sealed || s.ring.lapCmds.isEmpty then s.ring.lap else (s.ring.lap + 1) % 2 ^ 32) →
        Sys2Proof.Machine.exec (.lapAbort qp m) s = .next (s.sealed ((t.abortLap cause pos l).wake.lowCheck)))
      ∧ (newer 32 lap s.ring.doneLap = false → cause ≠ 1 →
        Sys2Proof.Machine.exec (.lapAbort qp m) s = .next (s.sealed (t.wake.lowCheck)))))
  ∧ (∀ (s t : State) (qp : BitVec 16) (m : SvcMsg) (pos lap : Nat), s.svcQp qp.toNat = true → s.ringMember = true →
    s.ring.ringId = fld (rowHdr 0x26 m) 64 32 → pos = hTag (rowHdr 0x26 m) % 64 → lap = hCount (rowHdr 0x26 m) →
    t = ((s.modRing fun x => { x with st := ringStopping }).sendRing s.ring.nextQp 0x26 0 pos (Nat.max lap s.ring.lap) []) →
    (pos = s.ring.position → Sys2Proof.Machine.exec (.ringStop qp m) s = .next (s.sealed
      (((s.modRing fun x => { x with stopping := some (lap, true) }).tryEnd).wake.lowCheck)))
    ∧ (pos ≠ s.ring.position → s.ring.sealed = false → t.nextStook ≠ none →
      Sys2Proof.Machine.exec (.ringStop qp m) s = .next (s.sealed (t.autoSeal.wake.lowCheck)))
    ∧ (pos ≠ s.ring.position → (s.ring.sealed = true ∨ t.nextStook = none) →
      Sys2Proof.Machine.exec (.ringStop qp m) s = .next (s.sealed (t.wake.lowCheck))))
  ∧ (∀ (s t : State) (qp : BitVec 16) (m : SvcMsg) (pos : Nat), s.svcQp qp.toNat = true → s.ringMember = true →
    s.ring.ringId = fld (rowHdr 0x27 m) 64 32 → pos = hTag (rowHdr 0x27 m) % 64 →
    t = s.sendRing s.ring.nextQp 0x27 0 pos (hCount (rowHdr 0x27 m)) [] →
    (pos = s.ring.position → Sys2Proof.Machine.exec (.ringEnd qp m) s = .next (s.sealed (s.ringLeft.wake.lowCheck)))
    ∧ (pos ≠ s.ring.position → (∃ c ∈ s.sched.cmds, dOp c.desc = 0x61) →
      Sys2Proof.Machine.exec (.ringEnd qp m) s = .next (s.sealed (t.ringLeft.wake.lowCheck)))
    ∧ (pos ≠ s.ring.position → (∀ c ∈ s.sched.cmds, dOp c.desc ≠ 0x61) →
      Sys2Proof.Machine.exec (.ringEnd qp m) s = .next (s.sealed (t.ringEnded.ringLeft.wake.lowCheck))))

/-- The shadow's messages over a DATA QP that acts on messages, and the timers of the exchanges (R225, R272, R279, R290, R351 to
R354), in every case. SHADOW_HELLO (shadowHello) over the QP of the lowest mirrored domain: a started shadow checks it, a copying one
learns that the session mirrors, any other node keeps it. SHADOW_CMD (shadowCmd) over a QP that mirrors its domain: the shadow runs the
command, the primary counts the match. SHADOW_COMMIT (shadowCommit) opens the domain's shadowed sequences. SHADOW_END (shadowEnd): one
sequence leaves the session, or the session fails. RING_PULSE_PERIOD (ringPulse): a pulse to each neighbour. RING_IDLE_LIMIT
(ringIdleLimit): the neighbour is lost. RING_JOIN_LIMIT (ringJoinLimit): the join ends with ST_BUSY. HELLO_HOLD_EXPIRY (helloHoldExpiry): a
held hello is gone. REMOTE_RELEASE_TIMEOUT (remoteReleaseTimeout): a release without answer is dropped and counted.
MOVE_FINAL_TIMEOUT (moveFinalTimeout): the command ends with ST_TIER_FAIL, held appends are busy and the move is unresolved.
MOVE_QUERY_TIMER (moveQueryTimer): MOVE_QUERY is sent. What finds nothing that it is for changes nothing. -/
def Obligations.ExchangesAndTheirTimers : Prop :=
  (∀ (s t : State) (qp : BitVec 16) (m : SvcMsg) (k : Nat), s.svcQp qp.toNat = true → k = shadowCheck m.payload s.shadowHelloBytes →
    t = (s.modShadow fun x =>
      { x with started := false, startCheck := k, matched := 0, dropped := 0, seqs := [], failCause := 0, failSeq := 0 }) →
    (s.shadowQp ≠ some qp.toNat → Sys2Proof.Machine.exec (.shadowHello qp m) s = .next (s.sealed (s.wake.lowCheck)))
    ∧ (s.shadowQp = some qp.toNat →
      (s.shadow.started = true → k = 0 →
        Sys2Proof.Machine.exec (.shadowHello qp m) s = .next (s.sealed ((t.shadowState 1).wake.lowCheck)))
      ∧ (s.shadow.started = true → k ≠ 0 → Sys2Proof.Machine.exec (.shadowHello qp m) s = .next (s.sealed (t.wake.lowCheck)))
      ∧ (s.shadow.started = false → s.shadowOn = true → s.shadow.isShadow = true →
        (hReason (rowHdr 0x30 m) = 2 → s.shadow.st = 1 →
          Sys2Proof.Machine.exec (.shadowHello qp m) s = .next (s.sealed ((s.shadowState 2).wake.lowCheck)))
        ∧ (hReason (rowHdr 0x30 m) ≠ 2 ∨ s.shadow.st ≠ 1 →
          Sys2Proof.Machine.exec (.shadowHello qp m) s = .next (s.sealed (s.wake.lowCheck))))
      ∧ (s.shadow.started = false → (s.shadowOn = false ∨ s.shadow.isShadow = false) →
        Sys2Proof.Machine.exec (.shadowHello qp m) s = .next (s.sealed
          ((s.modShadow fun x => { x with hello := padTo 98 m.payload }).wake.lowCheck)))))
  ∧ (∀ (s : State) (qp : BitVec 16) (m : SvcMsg) (n : Nat), s.svcQp qp.toNat = true → n = hCount (rowHdr 0x31 m) →
    ((s.shadowOn = false ∨ s.mirrorsOn qp.toNat = false ∨ (s.shadow.isShadow = true ∧ n ≠ 0) ∨ (s.shadow.isShadow = false ∧ n ≠ 1)) →
      Sys2Proof.Machine.exec (.shadowCmd qp m) s = .next (s.sealed (s.wake.lowCheck)))
    ∧ (s.shadowOn = true → s.mirrorsOn qp.toNat = true → s.shadow.isShadow = true → n = 0 →
      Sys2Proof.Machine.exec (.shadowCmd qp m) s = .next (s.sealed
        ((s.runMirror qp.toNat (hTag (rowHdr 0x31 m)) m.payload).wake.lowCheck)))
    ∧ (s.shadowOn = true → s.mirrorsOn qp.toNat = true → s.shadow.isShadow = false → n = 1 →
      Sys2Proof.Machine.exec (.shadowCmd qp m) s = .next (s.sealed
        (((s.modShadow fun x => { x with matched := x.matched + 1, lag := x.lag - 1 }).shadowReady).wake.lowCheck))))
  ∧ (∀ (s t : State) (qp : BitVec 16) (m : SvcMsg) (d : Nat), s.svcQp qp.toNat = true → d = (s.qp qp.toNat).dom →
    t = ((s.shadow.seqs.filter fun id => sidDom id == d).foldl (fun t id => if (t.seq (sidIndex id)).st = .shadowed then
      t.setSeq (sidIndex id) { t.seq (sidIndex id) with st := .open_ } else t) s).modShadow
        (fun x => { x with seqs := x.seqs.filter fun id => sidDom id != d }) →
    ((s.shadowOn = false ∨ s.shadow.isShadow = false ∨ s.mirrorsOn qp.toNat = false) →
      Sys2Proof.Machine.exec (.shadowCommit qp m) s = .next (s.sealed (s.wake.lowCheck)))
    ∧ (s.shadowOn = true → s.shadow.isShadow = true → s.mirrorsOn qp.toNat = true →
      (t.shadow.seqs = [] → Sys2Proof.Machine.exec (.shadowCommit qp m) s = .next (s.sealed ((t.shadowState 5).wake.lowCheck)))
      ∧ (t.shadow.seqs ≠ [] → Sys2Proof.Machine.exec (.shadowCommit qp m) s = .next (s.sealed (t.wake.lowCheck)))))
  ∧ (∀ (s : State) (qp : BitVec 16) (m : SvcMsg) (h : BitVec 256) (id : BitVec 64), s.svcQp qp.toNat = true → h = rowHdr 0x33 m →
    id = hSeq h →
    ((s.shadowOn = false ∨ s.mirrorsOn qp.toNat = false) →
      Sys2Proof.Machine.exec (.shadowEnd qp m) s = .next (s.sealed (s.wake.lowCheck)))
    ∧ (s.shadowOn = true → s.mirrorsOn qp.toNat = true → hCount h = 1 →
      (s.shadow.isShadow = true → sidDom id = (s.qp qp.toNat).dom → id ∈ s.shadow.seqs →
        Sys2Proof.Machine.exec (.shadowEnd qp m) s = .next (s.sealed
          (((if (s.seq (sidIndex id)).st = .shadowed then s.closeSeq (sidIndex id) else s).modShadow fun x =>
            { x with seqs := x.seqs.filter (· ≠ id), dropped := x.dropped + 1 }).wake.lowCheck)))
      ∧ ((s.shadow.isShadow = false ∨ sidDom id ≠ (s.qp qp.toNat).dom ∨ id ∉ s.shadow.seqs) →
        Sys2Proof.Machine.exec (.shadowEnd qp m) s = .next (s.sealed (s.wake.lowCheck))))
    ∧ (s.shadowOn = true → s.mirrorsOn qp.toNat = true → hCount h ≠ 1 →
      (s.shadowQp ≠ some qp.toNat → Sys2Proof.Machine.exec (.shadowEnd qp m) s = .next (s.sealed (s.wake.lowCheck)))
      ∧ (s.shadowQp = some qp.toNat → Sys2Proof.Machine.exec (.shadowEnd qp m) s = .next (s.sealed
        ((s.shadowFail (if hReason h = 0 then 5 else hReason h)).wake.lowCheck)))))
  ∧ (∀ (s t : State), t = s.sendRing s.ring.prevQp 0x28 0 0 0 [] →
    (s.ring.st = ringNone → Sys2Proof.Machine.exec .ringPulse s = .next (s.sealed s))
    ∧ (s.ring.st ≠ ringNone → s.ring.nextQp = s.ring.prevQp → Sys2Proof.Machine.exec .ringPulse s = .next (s.sealed t))
    ∧ (s.ring.st ≠ ringNone → s.ring.nextQp ≠ s.ring.prevQp →
      Sys2Proof.Machine.exec .ringPulse s = .next (s.sealed (t.sendRing s.ring.nextQp 0x28 0 0 0 []))))
  ∧ (∀ (s : State) (qp : BitVec 16),
    (s.ringMember = true → (s.ring.prevQp = qp.toNat ∨ s.ring.nextQp = qp.toNat) →
      Sys2Proof.Machine.exec (.ringIdleLimit qp) s = .next (s.sealed (s.detectAbort 1 (some qp.toNat))))
    ∧ ((s.ringMember = false ∨ (s.ring.prevQp ≠ qp.toNat ∧ s.ring.nextQp ≠ qp.toNat)) →
      Sys2Proof.Machine.exec (.ringIdleLimit qp) s = .next (s.sealed s))
    ∧ Sys2Proof.Machine.exec (.helloHoldExpiry qp) s = .next (s.sealed
      (s.modRing fun r => { r with hellos := adel r.hellos qp.toNat })))
  ∧ (∀ (s : State) (id : Nat),
    (∀ c, s.cmd id = some c → dOp c.desc = 0x60 → Sys2Proof.Machine.exec (.ringJoinLimit id) s = .next (s.sealed
      ((s.modRing fun r => { abortCause := r.abortCause, abortPos := r.abortPos }).endCmd c ⟨stBusy, 0, 0, 0⟩)))
    ∧ ((∀ c, s.cmd id = some c → dOp c.desc ≠ 0x60) → Sys2Proof.Machine.exec (.ringJoinLimit id) s = .next (s.sealed s)))
  ∧ (∀ (s : State) (node : BitVec 12) (page : BitVec 25),
    ((∃ r ∈ s.tier.releases, r.node = node.toNat ∧ r.page = page.toNat) →
      Sys2Proof.Machine.exec (.remoteReleaseTimeout node page) s = .next (s.sealed
        ((s.modTier fun t => { t with releases := t.releases.filter fun r =>
          ¬ (r.node = node.toNat ∧ r.page = page.toNat) }).bump 0x3500 0xC)))
    ∧ ((∀ r ∈ s.tier.releases, ¬ (r.node = node.toNat ∧ r.page = page.toNat)) →
      Sys2Proof.Machine.exec (.remoteReleaseTimeout node page) s = .next (s.sealed s)))
  ∧ (∀ (s : State) (i : BitVec 24) (n : Nat) (r : Option MoveSt), n = i.toNat →
    r = (s.xnt.moves.find? fun m => m.seq == n && m.final && !m.unresolved) →
    (r = none → Sys2Proof.Machine.exec (.moveFinalTimeout i) s = .next (s.sealed s))
    ∧ (∀ v, r = some v → v.shadow = true → Sys2Proof.Machine.exec (.moveFinalTimeout i) s = .next (s.sealed (s.shadowFail 5)))
    ∧ (∀ (v : MoveSt) (t u : State), r = some v → v.shadow = false →
      t = (s.setMove n false fun x => { x with unresolved := true, cmd := none }) →
      (∀ c, v.cmd.bind s.cmd = some c → u = t.endCmd c ⟨stTierFail, 4, s.firstPage n, 0⟩) → (v.cmd.bind s.cmd = none → u = t) →
      Sys2Proof.Machine.exec (.moveFinalTimeout i) s = .next (s.sealed
        (((u.pendingAppends n none).foldl (fun t c => t.endCmd c ⟨stBusy, 0, 0, 0⟩) u).note 0x0109 (some (s.seq n).dom) islEdge 0
          [(seqIdOf n (s.seq n)).toNat, v.node]).wake)))
  ∧ (∀ (s : State) (i : BitVec 24) (n : Nat) (r : Option MoveSt), n = i.toNat →
    r = (s.xnt.moves.find? fun m => m.seq == n && m.unresolved) →
    (r = none → Sys2Proof.Machine.exec (.moveQueryTimer i) s = .next (s.sealed s))
    ∧ (∀ v, r = some v → s.qpTo (s.seq n).dom v.node = none → Sys2Proof.Machine.exec (.moveQueryTimer i) s = .next (s.sealed s))
    ∧ (∀ (v : MoveSt) (q : Nat), r = some v → s.qpTo (s.seq n).dom v.node = some q →
      Sys2Proof.Machine.exec (.moveQueryTimer i) s = .next (s.sealed
        ((s.sendSvc q (svcHdr 0x0C 0 (n % 65536) 0 (seqIdOf n (s.seq n)) 0 0) []).setMove n false fun x => { x with qp := q }))))

/-! ## Faults and self-tests -/

/-- Faults, clocks, ERR_N, the watchdog, event frames, queue samples and the ends of self-tests (R86, R97, R148, R153, R154, R318, R322,
R323, R327, R329, R348, R349, R403, R419, R420, R427, R428), in every case. FAULT_EVENT (faultEvent) by its source: the event is raised
as the island reported it, with the containment of R322. ERRN_PULSE_END (errnPulseEnd): ERR_N stays latched or is released.
ISLAND_LINK_TIMEOUT and CLOCK_CHECK (islandLinkTimeout, clockCheck): CLOCK_ISLAND once for each island. MGMT_HANG and MGMT_RESTARTED
(mgmtHang, mgmtRestarted): the firmware restarts, and is back. EVENT_FRAME (eventFrame): at most 64 gathered records go out, or are
counted as dropped. QUEUE_SAMPLE (queueSample): every ACTIVE or ERROR queue is sampled, and QUEUE_DELAY posted when its delay first
exceeds the alarm. LBIST_DONE (lbistDone): the tile is idle, or retired. ASB_DONE (asbDone): failing awns and channels are retired, failing
slots withdrawn, passing ones returned and scrubbed. -/
def Obligations.FaultsAreTakenIn : Prop :=
  (∀ (s : State) (f : FaultIn) (isl u : Nat), isl = f.island.toNat → u = f.unit.toNat →
    (s.romUp = false → Sys2Proof.Machine.exec (.faultEvent f) s = .next (s.sealed s))
    ∧ (s.romUp = true →
      ((f.source = .linkCe ∨ f.source = .tableUe ∨ f.source = .powerFault ∨ f.source = .collector ∨ f.source = .mgmtImage) →
        Sys2Proof.Machine.exec (.faultEvent f) s = .next (s.sealed (s.raiseIn f fun _ t => t)))
      ∧ ((f.source = .arrayCe ∨ f.source = .arrayUe ∨ f.source = .pageCrc) → f.slot = none →
        Sys2Proof.Machine.exec (.faultEvent f) s = .next (s.sealed (s.raiseIn f fun _ t => t)))
      ∧ (∀ n, f.slot = some n →
        (f.source = .arrayCe → Sys2Proof.Machine.exec (.faultEvent f) s = .next (s.sealed (s.arrayCe n.toNat f.injected)))
        ∧ (f.source = .arrayUe → Sys2Proof.Machine.exec (.faultEvent f) s = .next (s.sealed (s.arrayUe n.toNat f.injected)))
        ∧ (f.source = .pageCrc → Sys2Proof.Machine.exec (.faultEvent f) s = .next (s.sealed (s.pageCrc n.toNat f.injected))))
      ∧ ((f.source = .channelPredict ∨ f.source = .channelLoss) → s.faultChan f = none →
        Sys2Proof.Machine.exec (.faultEvent f) s = .next (s.sealed (s.raiseIn f fun _ t => t)))
      ∧ (∀ a b, s.faultChan f = some (a, b) →
        (f.source = .channelPredict →
          Sys2Proof.Machine.exec (.faultEvent f) s = .next (s.sealed (s.raiseIn f fun _ t => t.predictChan a b)))
        ∧ (f.source = .channelLoss →
          Sys2Proof.Machine.exec (.faultEvent f) s = .next (s.sealed (s.raiseIn f fun _ t => (t.loseChan a b).lowCheck))))
      ∧ (f.source = .awnCheck → ∀ r : Option Stripe,
        r = (s.awns.stripes.find? fun x => some (stripeItem x.tag) == f.tag.map BitVec.toNat && x.awn == u) →
        (r = none → awnExists u = true →
          Sys2Proof.Machine.exec (.faultEvent f) s = .next (s.sealed (s.raiseIn f fun l t => t.detectAwn u l f.injected)))
        ∧ (r = none → awnExists u = false →
          Sys2Proof.Machine.exec (.faultEvent f) s = .next (s.sealed (s.raiseIn f fun _ t => t)))
        ∧ (∀ x, r = some x → Sys2Proof.Machine.exec (.faultEvent f) s = .next (s.sealed
          ((((((s.modAwns fun a => { a with stripes := a.stripes.filter fun y => y.tag ≠ x.tag }).stripeFails x true true
            f.injected).freeTag x.tag).boundary x.stack x.ch x.bp).pump x.stack)))))
      ∧ (f.source = .awnSweep →
        (awnExists u = true →
          Sys2Proof.Machine.exec (.faultEvent f) s = .next (s.sealed (s.raiseIn f fun l t => t.sweptAwn u l f.injected)))
        ∧ (awnExists u = false → Sys2Proof.Machine.exec (.faultEvent f) s = .next (s.sealed (s.raiseIn f fun _ t => t))))
      ∧ ((f.source = .tileCheck ∨ f.source = .outputCrc) →
        (∀ it, s.itemOf f = some it → s.collectsHit f = [] →
          Sys2Proof.Machine.exec (.faultEvent f) s = .next (s.sealed (s.tileFails (srcId f.source) it f.injected)))
        ∧ (s.itemOf f = none ∨ s.collectsHit f ≠ [] → ∀ hit : State → State,
          (∀ t, hit t = if f.tag.isSome then (s.collectsHit f).foldl (fun v c => v.collectFails c) t else t) →
          Sys2Proof.Machine.exec (.faultEvent f) s = .next (s.sealed
            (s.raiseIn f fun l t => if isl < 72 then (hit t).detectTile isl l f.injected else hit t))))
      ∧ (f.source = .tileSweep → Sys2Proof.Machine.exec (.faultEvent f) s = .next (s.sealed
        (s.raiseIn f fun l t => if isl < 72 then t.sweptTile isl l f.injected else t)))
      ∧ (f.source = .sramCe → ∀ again : Bool, again = (s.faults.detects.any fun d => d.source == 0x08 && d.island == isl && d.unit == u) →
        Sys2Proof.Machine.exec (.faultEvent f) s = .next (s.sealed ((if isl < 72 then s.bump 0xB100 9 else s).raiseIn f fun l t =>
          if again && !f.injected then
            ((t.detect 0x08 isl u l f.injected).modFaults fun q =>
              { q with detects := q.detects.filter fun d => ¬ (d.source = 0x08 ∧ d.island = isl ∧ d.unit = u) }).repairRow
          else t.detect 0x08 isl u l f.injected)))
      ∧ (f.source = .sramUe → ∀ (hit : List Item) (sets : List Collect) (lost : State → State),
        (f.constStore = true → hit = [] ∧ sets = []) → (72 ≤ isl → sets = []) →
        (f.constStore = false → f.tag ≠ none → hit = ((s.itemOf f).filter fun it => s.physTile it.tile == isl).toList) →
        (f.constStore = false → f.tag = none → hit = if isl < 72 then s.itemsOn isl else []) →
        (f.constStore = false → isl < 72 → sets = s.collectsHit f) →
        (∀ t, lost t = (sets.foldl (fun v c => v.collectFails c) (hit.foldl State.failsOnTile t)).repairRow) →
        Sys2Proof.Machine.exec (.faultEvent f) s = .next (s.sealed ((if isl < 72 then s.bump 0xB100 0xA else s).raiseIn f fun l t =>
          if isl < 72 then (lost t).detectTile isl l f.injected else lost t)))
      ∧ (f.source = .identity → ∀ (slot : Option Nat) (mark own : State → State),
        slot = (f.page.bind fun p => (s.page p.toNat).bind fun e => if e.inHbm then some e.loc else none) →
        (slot = none → ∀ t, mark t = t) →
        (∀ n, slot = some n → ∀ t, mark t = t.modPages fun p => { p with suspects := p.suspects ++ [(n, noUnit)] }) →
        (s.itemOf f = none → ∀ t, own t = t) →
        (∀ it, s.itemOf f = some it → ∀ t, own t = (t.suspectPages it [noUnit]).failPart it.cmd) →
        (f.page = none →
          Sys2Proof.Machine.exec (.faultEvent f) s = .next (s.sealed (s.raiseIn f fun _ t => (own (mark t)).wake)))
        ∧ (∀ p, f.page = some p → Sys2Proof.Machine.exec (.faultEvent f) s = .next (s.sealed (s.raiseIn f fun _ t =>
          ((((own (mark t)).sched.cmds.filter fun c => (own (mark t)).needsPage c p.toNat).map fun c => c.id).foldl (fun v id =>
            match v.cmd id with
            | some c => if c.jobs.any fun j => j.page == p.toNat && !j.done then v.tierFailed c stTierFail 3 p.toNat else v.failPart id
            | none => v) (own (mark t))).wake))))
      ∧ (f.source = .coverage →
        (s.itemNamed f = none → Sys2Proof.Machine.exec (.faultEvent f) s = .next (s.sealed (s.raiseIn f fun _ t => t)))
        ∧ (∀ it, s.itemNamed f = some it →
          Sys2Proof.Machine.exec (.faultEvent f) s = .next (s.sealed (s.raiseIn f fun _ t => t.setFails it it.tile []))))
      ∧ (f.source = .linkUe → ∀ hit : List Item, (f.tag ≠ none → hit = (s.itemOf f).toList) →
        (f.tag = none → hit = if isl < 72 then s.itemsOn isl else if 0x100 ≤ isl ∧ isl < 0x10C then s.itemsOnStack (isl - 0x100)
          else []) →
        Sys2Proof.Machine.exec (.faultEvent f) s = .next (s.sealed (s.raiseIn f fun _ t => t.requeueAll hit)))
      ∧ (f.source = .indexDigest →
        (aget s.index.entries u = none → Sys2Proof.Machine.exec (.faultEvent f) s = .next (s.sealed (s.raiseIn f fun _ t => t)))
        ∧ (aget s.index.entries u ≠ none →
          Sys2Proof.Machine.exec (.faultEvent f) s = .next (s.sealed (s.quarantine u f.injected))))
      ∧ (f.source = .domainStateUe →
        (f.dom = none → Sys2Proof.Machine.exec (.faultEvent f) s = .next (s.sealed (s.raiseIn f fun _ t => t)))
        ∧ (∀ d (down : State → State), f.dom = some d →
          (∀ t, down t = if t.domActive d.toNat then (t.teardown d.toNat).teardownDone d.toNat else t) →
          (f.keyWord = false → Sys2Proof.Machine.exec (.faultEvent f) s = .next (s.sealed (s.raiseIn f fun _ t => down t)))
          ∧ (f.keyWord = true → f.unit = 0 → Sys2Proof.Machine.exec (.faultEvent f) s = .next (s.sealed (s.raiseIn f fun _ t =>
            (down t).modDom fun y => { y with doms := amod y.doms d.toNat fun z => { z with xtsKey := [] } })))
          ∧ (f.keyWord = true → f.unit ≠ 0 → Sys2Proof.Machine.exec (.faultEvent f) s = .next (s.sealed (s.raiseIn f fun _ t =>
            ((down t).modDom fun y =>
              { y with doms := amod y.doms d.toNat fun z => { z with fabricKey := [] } }).clearNonce d.toNat)))))
      ∧ (f.source = .checkerLate → Sys2Proof.Machine.exec (.faultEvent f) s = .next (s.sealed
        ((s.bump 0x8000 0x10).raiseIn f fun _ t => if isl < 72 then t.retireTile isl else if isl < 0x200 then t.retireAwn u
          else t.modFaults fun q => { q with late := if q.late.contains u then q.late else q.late ++ [u] })))
      ∧ (f.source = .clockIsland →
        ((islandOk isl = false ∨ isl ∈ s.faults.deadIslands) → Sys2Proof.Machine.exec (.faultEvent f) s = .next (s.sealed s))
        ∧ (islandOk isl = true → isl ∉ s.faults.deadIslands → Sys2Proof.Machine.exec (.faultEvent f) s = .next (s.sealed
          (s.raise 0x14 isl 0 none [] f.injected fun _ t => t.clockLost isl))))
      ∧ (f.source = .hostLink → Sys2Proof.Machine.exec (.faultEvent f) s = .next (s.sealed (s.hostLinkFault f.injected)))
      ∧ (f.source = .mgmtHang →
        (s.mgmtUp = true →
          Sys2Proof.Machine.exec (.faultEvent f) s = .next (s.sealed ((s.raiseIn f fun _ t => t).restartAll 0 true)))
        ∧ (s.mgmtUp = false → Sys2Proof.Machine.exec (.faultEvent f) s = .next (s.sealed (s.raiseIn f fun _ t => t))))
      ∧ (f.source = .mgmtStorm →
        (s.boot.st = .running → Sys2Proof.Machine.exec (.faultEvent f) s = .next (s.sealed s.storm))
        ∧ (s.boot.st ≠ .running → Sys2Proof.Machine.exec (.faultEvent f) s = .next (s.sealed (s.raiseIn f fun _ t => t))))
      ∧ (f.source = .thermalCrit → Sys2Proof.Machine.exec (.faultEvent f) s = .next (s.sealed
        ((s.raiseIn f fun _ t => t.modTherm fun x => { x with crit := true }).thermPin)))))
  ∧ (∀ (s : State), Sys2Proof.Machine.exec .errnPulseEnd s = .next (s.sealed (s.modFaults fun f =>
    { f with errn := if f.errn = 1 then (if s.num 0x8000 3 = 1 then 2 else 0) else if f.errn = 3 then 0 else f.errn })))
  ∧ (∀ (s : State) (k : BitVec 12),
    (s.romUp = true → islandOk k.toNat = true → k.toNat ∉ s.faults.deadIslands →
      Sys2Proof.Machine.exec (.islandLinkTimeout k) s = .next (s.sealed
        (s.raise 0x14 k.toNat 0 none [] false fun _ t => t.clockLost k.toNat)))
    ∧ ((s.romUp = false ∨ islandOk k.toNat = false ∨ k.toNat ∈ s.faults.deadIslands) →
      Sys2Proof.Machine.exec (.islandLinkTimeout k) s = .next (s.sealed s)))
  ∧ (∀ (s : State) (l : List (BitVec 12)),
    (s.romUp = true → Sys2Proof.Machine.exec (.clockCheck l) s = .next (s.sealed ((l.map BitVec.toNat).foldl (fun t k => t.clockFault k false)
      (s.modFaults fun f =>
        { f with time := f.time + 1, ceLogged := if (f.time + 1) % 10000 = 0 then [] else f.ceLogged }))))
    ∧ (s.romUp = false → Sys2Proof.Machine.exec (.clockCheck l) s = .next (s.sealed s)))
  ∧ (∀ (s : State) (r : RestartOutcome),
    (s.mgmtUp = true → Sys2Proof.Machine.exec (.mgmtHang r) s = .next (s.sealed
      ((s.raise 0x16 islMgmt 0 none [] false fun _ t => t).restartAll r.failedCores r.imageOk)))
    ∧ (s.mgmtUp = false → Sys2Proof.Machine.exec (.mgmtHang r) s = .next (s.sealed s)))
  ∧ (∀ (s : State),
    (s.boot.st = .running → s.boot.mgmtRestarting = true → Sys2Proof.Machine.exec .mgmtRestarted s = .next (s.sealed
      ((s.modBoot fun b => { b with mgmtRestarting := false }).note 0x0110 none islMgmt 0
        [s.counter 0x8300 3, s.boot.coresWorking])))
    ∧ ((s.boot.st ≠ .running ∨ s.boot.mgmtRestarting = false) →
      Sys2Proof.Machine.exec .mgmtRestarted s = .next (s.sealed s)))
  ∧ (∀ (s t : State) (l : List EventRec) (n : Nat), l = s.faults.gather.take 64 → n = s.num 0x8200 5 →
    t = (s.modFaults fun f => { f with gather := f.gather.drop 64 }) →
    (l = [] → Sys2Proof.Machine.exec .eventFrame s = .next (s.sealed s))
    ∧ (l ≠ [] → (s.qp n).isMgmt = true → (s.qp n).st = .rts → Sys2Proof.Machine.exec .eventFrame s = .next (s.sealed
      (t.sendMgmt n (leBytes 8 3 ++ leBytes 2 l.length ++ leBytes 6 0 ++ l.flatMap fun e => e.bytes false))))
    ∧ (l ≠ [] → ((s.qp n).isMgmt = false ∨ (s.qp n).st ≠ .rts) →
      Sys2Proof.Machine.exec .eventFrame s = .next (s.sealed (t.bump 0x8200 7))))
  ∧ (∀ (s : State) (l : List QueueDelay),
    (s.alive = true → Sys2Proof.Machine.exec (.queueSample l) s = .next (s.sealed
      ((akeys s.queues.sqs).foldl (fun t n => t.sampleSq l n) s)))
    ∧ (s.alive = false → Sys2Proof.Machine.exec (.queueSample l) s = .next (s.sealed s))
    ∧ (∀ (n : Nat) (q : Sq), aget s.queues.sqs n = some q → (q.st = .active ∨ q.st = .error) → ∀ (mine delay alarm : Nat) (t : State),
      mine = (s.sched.cmds.filter fun c => c.sq == n).length →
      delay = (if mine = 0 then 0 else ((l.find? fun x => x.sq.toNat == n).map fun x => x.delayNs.toNat).getD 0) →
      alarm = 1000 * s.num 0x7140 1 (sqDom q.cfg) →
      t = (s.modSq n fun _ => { sampled q mine delay with
        alarmed := alarm != 0 && decide (alarm < delay) || (q.alarmed && decide (alarm ≤ 2 * delay) && alarm != 0) }) →
      (0 < alarm → alarm < delay → q.alarmed = false →
        s.sampleSq l n = t.note 0x010B (some (sqDom q.cfg)) islSched n [n, delay])
      ∧ ((alarm = 0 ∨ delay ≤ alarm ∨ q.alarmed = true) → s.sampleSq l n = t)))
  ∧ (∀ (s t : State) (r : LbistOutcome) (logic mem : Bool),
    logic = (s.test.lbModes.testBit 0 && r.signature.toNat != s.test.lbExp) → mem = (s.test.lbModes.testBit 1 && r.memoryFail) →
    t = ((s.modTest fun y =>
      { y with lbState := if logic || mem then 3 else 2, lbFails := b2n logic + 2 * b2n mem, lbSig := r.signature.toNat
               lbRows := r.rows, rowsRepaired := y.rowsRepaired + r.rows, sparesFree := y.sparesFree - r.rows }).modTile
        s.test.lbTile fun t => { t with testing := false }) →
    (s.test.lbState ≠ 1 → Sys2Proof.Machine.exec (.lbistDone r) s = .next (s.sealed s))
    ∧ (s.test.lbState = 1 → logic = false → mem = false →
      Sys2Proof.Machine.exec (.lbistDone r) s = .next (s.sealed (t.modTile s.test.lbTile fun t => { t with st := 1 })))
    ∧ (s.test.lbState = 1 → (logic = true ∨ mem = true) →
      Sys2Proof.Machine.exec (.lbistDone r) s = .next (s.sealed (t.retireTile s.test.lbTile))))
  ∧ (∀ (s s2 t : State) (n : BitVec 4) (r : AsbOutcome) (k : Nat) (awns chans fails : List Nat), k = n.toNat →
    awns = ((r.awns.map BitVec.toNat).filter fun u => (s.awn u).st != 2) →
    chans = ((r.channels.map BitVec.toNat).filter fun p => !s.chanGone k p) → fails = r.slots.map BitVec.toNat →
    s2 = chans.foldl (fun t p => t.asbChan k p) (awns.foldl (fun t u => (t.retireAwn u).mapAwn u) s) →
    t = fails.foldl (fun t n => t.setUse n .withdrawn) (s2.modPages fun p =>
      { p with use := p.use.filter fun u => slotStack u.1 != k || (u.2 == .withdrawn && (!s2.slotWorks u.1 || fails.contains u.1))
               slots := p.slots.filter fun u => slotStack u.1 != k
               lost := p.lost.filter fun x => slotStack x != k }) →
    (((s.asbOf k).st ≠ 2 ∨ s.power.brownOut = true) → Sys2Proof.Machine.exec (.asbDone n r) s = .next (s.sealed s))
    ∧ ((s.asbOf k).st = 2 → s.power.brownOut = false → Sys2Proof.Machine.exec (.asbDone n r) s = .next (s.sealed
      ((t.setAsb k { st := 3, awns := awns.length, channels := chans.length, withdrawn := t.stackWithdrawn k
                     restored := s.stackWithdrawn k - t.stackWithdrawn k }).lowCheck))))

/-! ## Frames -/

/-- What stores nothing (the commands named by `quiet`): no byte that a reader of either memory sees changes. -/
def Obligations.QuietCommandsStoreNothing : Prop :=
  ∀ (i : Instr) (s t : State), quiet i = true → Sys2Proof.Machine.exec i s = .next t → s.SameMemory t

/-- A completion goes to its slot (R168, R175, R176). Posted to a HOST ring with room, while the link allows DMA, it changes no byte of
either memory but the 32 of the entry at the tail, where it stands with the ring's phase, the tail moves on, and one MSI-X message
goes out where interrupts are enabled and none has gone since the last doorbell. Posted to a FABRIC ring with room it leaves as one
write-with-immediate that names its ring index and STATUS, and no byte of either memory changes. With no room, or behind held ones, it
waits (log 26). -/
def Obligations.CompletionsGoToTheirSlot : Prop :=
  (∀ (s : State) (n : Nat) (q : Cq) (e : BitVec 256), aget s.queues.cqs n = some q → bit q.cfg 21 = false → s.cqTakes q = true →
    q.held = [] →
    (∀ a, a < fld q.cfg 64 64 + 32 * q.tail ∨ fld q.cfg 64 64 + 32 * q.tail + 32 ≤ a →
      Memory.read (s.post n e).hostMem a = Memory.read s.hostMem a)
    ∧ (s.post n e).nodeMem = s.nodeMem
    ∧ Memory.readBytes (s.post n e).hostMem (fld q.cfg 64 64 + 32 * q.tail) 32 = withPhase e q.phase
    ∧ (s.post n e).out = s.out ++ (if bit q.cfg 22 && q.msi then [.msix (fld q.cfg 48 11)] else [])
    ∧ ∃ r, aget (s.post n e).queues.cqs n = some r ∧ r.tail = (if q.tail + 1 = cqDepth q.cfg then 0 else q.tail + 1)
        ∧ r.phase = (if q.tail + 1 = cqDepth q.cfg then !q.phase else q.phase) ∧ r.msi = (q.msi && !bit q.cfg 22))
  ∧ (∀ (s : State) (n : Nat) (q : Cq) (e : BitVec 256), aget s.queues.cqs n = some q → bit q.cfg 21 = true → s.cqTakes q = true →
    q.held = [] →
    (s.post n e).hostMem = s.hostMem ∧ (s.post n e).nodeMem = s.nodeMem ∧ (s.post n e).out = s.out
    ∧ (s.post n e).xnt = (s.sendImm (fld q.cfg 32 16) (fld q.cfg 128 16) (fld q.cfg 144 8) (fld q.cfg 64 64 + 32 * q.tail)
        (q.tail + fld e 48 8 * 2 ^ 16) (withPhase e q.phase)).xnt
    ∧ ∃ r, aget (s.post n e).queues.cqs n = some r ∧ r.tail = (if q.tail + 1 = cqDepth q.cfg then 0 else q.tail + 1)
        ∧ r.phase = (if q.tail + 1 = cqDepth q.cfg then !q.phase else q.phase))
  ∧ (∀ (s : State) (n : Nat) (q : Cq) (e : BitVec 256), aget s.queues.cqs n = some q → (s.cqTakes q = false ∨ q.held ≠ []) →
    s.post n e = s.modCq n fun x => { x with held := x.held ++ [e] })
end

