-- ==== Sys2Proof/Laws/Memory.lean ====
section
/-! SUPPORT. Tables and sparse memory: what a read gives after a write, and that every memory operation keeps the canonical
form. -/

namespace Sys2Proof.Machine

/-! ## Tables -/

theorem aget_aput_self {α : Type} (l : List (Nat × α)) (n : Nat) (v : α) : aget (aput l n v) n = some v := by
  induction l with
  | nil => simp [aput, aget]
  | cons p r ih =>
    obtain ⟨k, w⟩ := p
    simp only [aput]
    split
    · simp [aget]
    · split
      · simp [aget]
      · next h1 h2 => simp [aget, Ne.symm h2, ih]

theorem aget_aput_ne {α : Type} (l : List (Nat × α)) {n m : Nat} (v : α) (h : m ≠ n) :
    aget (aput l n v) m = aget l m := by
  induction l with
  | nil => simp [aput, aget, Ne.symm h]
  | cons p r ih =>
    obtain ⟨k, w⟩ := p
    simp only [aput]
    split
    · simp [aget, Ne.symm h]
    · split
      · next h2 => subst h2; simp [aget, Ne.symm h]
      · simp [aget, ih]

theorem aget_adel_self {α : Type} (l : List (Nat × α)) (n : Nat) : aget (adel l n) n = none := by
  induction l with
  | nil => rfl
  | cons p r ih =>
    obtain ⟨k, w⟩ := p
    by_cases hk : k = n
    · simpa [adel, hk] using ih
    · simpa [adel, hk, aget] using ih

theorem aget_adel_ne {α : Type} (l : List (Nat × α)) {n m : Nat} (h : m ≠ n) : aget (adel l n) m = aget l m := by
  induction l with
  | nil => rfl
  | cons p r ih =>
    obtain ⟨k, w⟩ := p
    by_cases hk : k = n
    · subst hk; simpa [adel, aget, Ne.symm h] using ih
    · by_cases hm : k = m
      · simp [adel, aget, hm, h]
      · simpa [adel, hk, aget, hm] using ih

theorem aget_mem {α : Type} {l : List (Nat × α)} {n : Nat} {v : α} (h : aget l n = some v) : (n, v) ∈ l := by
  induction l with
  | nil => simp [aget] at h
  | cons p r ih =>
    obtain ⟨k, w⟩ := p
    simp only [aget] at h
    split at h
    · next hk => subst hk; cases h; simp
    · exact List.mem_cons_of_mem _ (ih h)

theorem mem_aput {α : Type} {l : List (Nat × α)} {n : Nat} {v : α} {x : Nat × α} (h : x ∈ aput l n v) :
    x = (n, v) ∨ x ∈ l := by
  induction l with
  | nil => simp [aput] at h; exact .inl h
  | cons p r ih =>
    obtain ⟨k, w⟩ := p
    simp only [aput] at h
    split at h
    · simpa using h
    · split at h
      · rcases List.mem_cons.1 h with h | h
        · exact .inl h
        · exact .inr (List.mem_cons_of_mem _ h)
      · rcases List.mem_cons.1 h with h | h
        · exact .inr (by simp [h])
        · rcases ih h with h | h
          · exact .inl h
          · exact .inr (List.mem_cons_of_mem _ h)

theorem aput_pairwise {α : Type} {l : List (Nat × α)} (n : Nat) (v : α) (h : l.Pairwise fun a b => a.1 < b.1) :
    (aput l n v).Pairwise fun a b => a.1 < b.1 := by
  induction l with
  | nil => simp [aput]
  | cons p r ih =>
    obtain ⟨k, w⟩ := p
    rw [List.pairwise_cons] at h
    simp only [aput]
    split
    · next hn =>
      refine List.pairwise_cons.2 ⟨fun x hx => ?_, List.pairwise_cons.2 h⟩
      rcases List.mem_cons.1 hx with rfl | hx
      · exact hn
      · exact lt_trans hn (h.1 x hx)
    · split
      · next _ he => subst he; exact List.pairwise_cons.2 ⟨h.1, h.2⟩
      · next h1 h2 =>
        refine List.pairwise_cons.2 ⟨fun x hx => ?_, ih h.2⟩
        rcases mem_aput hx with rfl | hx
        · simp only; omega
        · exact h.1 x hx

/-! ## Canonical form -/

theorem Memory.wf_iff (m : List Host.Cell) :
    Memory.wf m = true ↔ (m.Pairwise fun a b => a.1 < b.1) ∧ ∀ c ∈ m, c.2 ≠ 0 := by
  simp [Memory.wf]

theorem Memory.wf_nil : Memory.wf [] = true := by simp [Memory.wf_iff]

theorem Memory.wf_filter {m : List Host.Cell} (p : Host.Cell → Bool) (h : Memory.wf m = true) :
    Memory.wf (m.filter p) = true := by
  rw [Memory.wf_iff] at h ⊢
  exact ⟨h.1.sublist List.filter_sublist, fun c hc => h.2 c (List.mem_filter.1 hc).1⟩

theorem Memory.wf_write {m : List Host.Cell} (a : Nat) (b : Byte) (h : Memory.wf m = true) :
    Memory.wf (Memory.write m a b) = true := by
  unfold Memory.write
  split
  · exact Memory.wf_filter _ h
  · next hb =>
    rw [Memory.wf_iff] at h ⊢
    refine ⟨aput_pairwise a b h.1, fun c hc => ?_⟩
    rcases mem_aput hc with rfl | hc
    · exact hb
    · exact h.2 c hc

theorem Memory.wf_writeBytes {m : List Host.Cell} (a : Nat) (l : List Byte) (h : Memory.wf m = true) :
    Memory.wf (Memory.writeBytes m a l) = true := by
  induction l generalizing m a with
  | nil => exact h
  | cons b r ih => exact ih (a + 1) (Memory.wf_write a b h)

theorem Memory.wf_clear {m : List Host.Cell} (a n : Nat) (h : Memory.wf m = true) :
    Memory.wf (Memory.clear m a n) = true := Memory.wf_filter _ h

theorem Memory.wf_canon (m : List Host.Cell) : Memory.wf (Memory.canon m) = true := by
  induction m with
  | nil => exact Memory.wf_nil
  | cons c r ih => exact Memory.wf_write c.1 c.2 ih

/-! ## Reads -/

theorem Memory.read_write_self (m : List Host.Cell) (a : Nat) (b : Byte) :
    Memory.read (Memory.write m a b) a = b := by
  unfold Memory.write Memory.read
  split
  · next h => simp [aget_adel_self, h]
  · simp [aget_aput_self]

theorem Memory.read_write_ne (m : List Host.Cell) {a x : Nat} (b : Byte) (h : x ≠ a) :
    Memory.read (Memory.write m a b) x = Memory.read m x := by
  unfold Memory.write Memory.read
  split
  · rw [aget_adel_ne _ h]
  · rw [aget_aput_ne _ _ h]

theorem Memory.read_writeBytes_out (m : List Host.Cell) (l : List Byte) (a x : Nat) (h : x < a ∨ a + l.length ≤ x) :
    Memory.read (Memory.writeBytes m a l) x = Memory.read m x := by
  induction l generalizing m a with
  | nil => rfl
  | cons b r ih =>
    simp only [List.length_cons] at h
    simp only [Memory.writeBytes]
    rw [ih _ _ (by omega), Memory.read_write_ne _ _ (by omega)]

theorem Memory.read_writeBytes_in (m : List Host.Cell) (l : List Byte) (a i : Nat) (h : i < l.length) :
    Memory.read (Memory.writeBytes m a l) (a + i) = l[i] := by
  induction l generalizing m a i with
  | nil => simp at h
  | cons b r ih =>
    simp only [Memory.writeBytes]
    cases i with
    | zero => rw [Memory.read_writeBytes_out _ _ _ _ (by omega)]; simp [Memory.read_write_self]
    | succ j =>
      have h2 : j < r.length := by simpa using h
      have := ih (Memory.write m a b) (a + 1) j h2
      rw [show a + (j + 1) = a + 1 + j by omega, this]
      simp

theorem Memory.read_cons (c : Host.Cell) (m : List Host.Cell) (a : Nat) :
    Memory.read (c :: m) a = if c.1 = a then c.2 else Memory.read m a := by
  unfold Memory.read
  simp only [aget]
  split <;> simp_all

theorem Memory.read_canon (m : List Host.Cell) (a : Nat) : Memory.read (Memory.canon m) a = Memory.read m a := by
  induction m with
  | nil => rfl
  | cons c r ih =>
    change Memory.read (Memory.write (Memory.canon r) c.1 c.2) a = _
    rw [Memory.read_cons]
    by_cases h : c.1 = a
    · subst h; simp [Memory.read_write_self]
    · rw [Memory.read_write_ne _ _ (Ne.symm h)]; simp [h, ih]

theorem aput_eq_cons {c : Host.Cell} {m : List Host.Cell} (h : ∀ x ∈ m, c.1 < x.1) : aput m c.1 c.2 = c :: m := by
  cases m with
  | nil => rfl
  | cons x r =>
    have := h x (by simp)
    simp [aput, this]

/-- A memory in canonical form is its own canonical form: equal memories are equal data. -/
theorem Memory.canon_eq {m : List Host.Cell} (h : Memory.wf m = true) : Memory.canon m = m := by
  rw [Memory.wf_iff] at h
  induction m with
  | nil => rfl
  | cons c r ih =>
    have h1 := List.pairwise_cons.1 h.1
    have hr : Memory.canon r = r := ih ⟨h1.2, fun x hx => h.2 x (List.mem_cons_of_mem _ hx)⟩
    change Memory.write (Memory.canon r) c.1 c.2 = c :: r
    rw [hr, Memory.write, if_neg (h.2 c (by simp)), aput_eq_cons h1.1]

/-! ## Bytes of numbers -/

@[simp] theorem leBytes_length (n v : Nat) : (leBytes n v).length = n := by
  induction n generalizing v with
  | zero => rfl
  | succ n ih => simp [leBytes, ih]

theorem leNat_leBytes (n v : Nat) : leNat (leBytes n v) = v % 256 ^ n := by
  induction n generalizing v with
  | zero => simp [leBytes, leNat, Nat.mod_one]
  | succ n ih =>
    have hb : (BitVec.ofNat 8 (v % 256)).toNat = v % 256 := by
      rw [BitVec.toNat_ofNat, show 2 ^ 8 = 256 from rfl, Nat.mod_mod]
    rw [leBytes, leNat, ih, hb, Nat.pow_succ, Nat.mul_comm (256 ^ n) 256, Nat.mod_mul]

end Sys2Proof.Machine
end

