-- ==== Sys2Proof/Laws/Bytes.lean ====
section
/-! SUPPORT. Lengths of byte strings, and cutting out their parts. -/

namespace Sys2Proof.Machine

@[simp] theorem slice_length (l : List Byte) (off n : Nat) : (slice l off n).length = n := by
  unfold slice
  have h := List.length_take_le n (l.drop off)
  simp only [List.length_append, List.length_replicate]
  omega

@[simp] theorem padTo_length (n : Nat) (l : List Byte) : (padTo n l).length = n := slice_length l 0 n

@[simp] theorem beBytes_length (n v : Nat) : (beBytes n v).length = n := by
  unfold beBytes
  rw [List.length_reverse, leBytes_length]

@[simp] theorem sha256_length (l : List Byte) : (sha256 l).length = 32 := by
  simp [sha256, List.flatMap_cons]

/-- What stands behind a prefix of known length. -/
theorem slice_append (a b : List Byte) (off n : Nat) (h : a.length = off) : slice (a ++ b) off n = slice b 0 n := by
  unfold slice
  rw [← h, List.drop_left, List.drop_zero]

end Sys2Proof.Machine
end

