-- ==== Sys2Proof/Laws/Desc.lean ====
section
/-! SUPPORT. Bits of descriptors: what a field holds, and which bits a row's descriptor fixes. -/

namespace Sys2Proof.Machine

theorem onesAt_getLsbD (lo n k : Nat) : (onesAt lo n).getLsbD k = (decide (k < 1024) && decide (lo ≤ k) && decide (k < lo + n)) := by
  unfold onesAt
  rw [BitVec.getLsbD_ofNat]
  by_cases hk : k < 1024
  · simp only [hk, decide_true, Bool.true_and, Nat.testBit_mul_two_pow, Nat.testBit_two_pow_sub_one]
    by_cases h : lo ≤ k
    · simp only [h, decide_true, Bool.true_and]
      congr 1
      apply propext
      omega
    · simp [h]
  · simp [hk]

theorem rowDesc_getLsbD (op : Nat) (set clear : BitVec 1024) (d : Desc) (k : Nat) (hk : k < 1024) :
    (rowDesc op set clear d).getLsbD k =
      ((((d.getLsbD k && !decide (k < 8)) || op.testBit k) && !clear.getLsbD k) || set.getLsbD k) := by
  unfold rowDesc
  rw [BitVec.getLsbD_or, BitVec.getLsbD_and, BitVec.getLsbD_or, BitVec.getLsbD_and, BitVec.getLsbD_not, BitVec.getLsbD_not,
    BitVec.getLsbD_ofNat, onesAt_getLsbD]
  simp only [hk, decide_true, Bool.true_and, Nat.zero_le, Nat.zero_add]

/-- A field holds a number when its bits are the number's. -/
theorem fld_eq {w : Nat} (x : BitVec w) (lo len n : Nat) (hn : n < 2 ^ len) (h : ∀ k < len, x.getLsbD (lo + k) = n.testBit k) :
    fld x lo len = n := by
  apply Nat.eq_of_testBit_eq
  intro k
  have : (fld x lo len).testBit k = (x.extractLsb' lo len).getLsbD k := rfl
  rw [this, BitVec.getLsbD_extractLsb']
  by_cases hk : k < len
  · simp [hk, h k hk]
  · have : n.testBit k = false := Nat.testBit_lt_two_pow (Nat.lt_of_lt_of_le hn (Nat.pow_le_pow_right (by decide) (by omega)))
    simp [hk, this]

/-- The opcode of a row's descriptor. -/
theorem rowDesc_op (op : Nat) (set clear : BitVec 1024) (d : Desc) (ho : op < 256) (hs : ∀ k < 8, set.getLsbD k = false)
    (hc : ∀ k < 8, clear.getLsbD k = false) : dOp (rowDesc op set clear d) = op := by
  refine fld_eq _ 0 8 op ho fun k hk => ?_
  rw [Nat.zero_add, rowDesc_getLsbD _ _ _ _ _ (by omega), hs k hk, hc k hk]
  simp [hk]

end Sys2Proof.Machine
end

