-- ==== Sys2Proof/Laws/Exec.lean ====
section
/-! SUPPORT. What a step and each kind of command come down to. -/

namespace Sys2Proof.Machine

/-- A step with a command in front is that command's effect on the rest. -/
theorem step_cons {s : State} {c : Instr} {r : List Instr} (h : s.pending = c :: r) :
    step s = exec c { s with pending := r } := by
  simp [step, h]

/-- A step with no command in the queue changes nothing. -/
theorem step_nil {s : State} (h : s.pending = []) : step s = .next s := by
  simp [step, h]

/-- Every command answers a next state whose memories are put in canonical form. -/
theorem exec_sealed (c : Instr) (s : State) : ∃ t, exec c s = .next (s.sealed t) := by
  cases c <;> exact ⟨_, rfl⟩

/-- A command that submits a descriptor runs it on its queue (R178). -/
theorem submitted_exec {i : Instr} {n : Nat} {d : Desc} (s : State) (h : submitted i = some (n, d)) :
    Sys2Proof.Machine.exec i s = .next (s.sealed (s.runOp n d)) := by
  cases i <;> first | (cases h; rfl) | (exact absurd h (by simp [submitted]))

/-- A write of one entry goes by the one write path (R390). -/
theorem write_exec {i : Instr} {w : EntryWrite} (s : State) (h : entryWrite i = some w) :
    Sys2Proof.Machine.exec i s = .next (s.sealed (s.oneWrite w.ch w.dom w.idx w.sub w.value)) := by
  cases i <;> first | (cases h; rfl) | (exact absurd h (by simp [entryWrite]))

/-- A row of a packet receives it where its opcode is the row's (R243). -/
theorem packet_exec {i : Instr} {p : RxPacket} {ok : Nat → Bool} (h : packetRow i = some (p, ok)) (s : State) :
    Sys2Proof.Machine.exec i s = .next (s.sealed (s.rxRow ok p)) := by
  cases i <;> simp [packetRow] at h <;> obtain ⟨rfl, rfl⟩ := h <;> rfl

/-- A row of a SERVICE message acts where the QP takes it (R270). -/
theorem serviceRow_exec {i : Instr} {q svc : Nat} {m : SvcMsg} (h : serviceRow i = some (q, svc, m)) (s : State) :
    Sys2Proof.Machine.exec i s = .next (s.sealed (if s.svcQp q then (s.onService q (rowHdr svc m) m.payload).wake.lowCheck else s)) := by
  cases i <;> simp only [serviceRow, Option.some.injEq, Prod.mk.injEq, reduceCtorEq] at h <;> obtain ⟨rfl, rfl, rfl⟩ := h <;> rfl

/-- The SVC of a row fits in its field. -/
theorem svc_lt {i : Instr} {q svc : Nat} {m : SvcMsg} (h : serviceRow i = some (q, svc, m)) : svc < 256 := by
  cases i <;> simp only [serviceRow, Option.some.injEq, Prod.mk.injEq, reduceCtorEq] at h <;> obtain ⟨_, rfl, _⟩ := h <;> decide

/-- Two words with the same bits in a field have the same field. -/
theorem fld_ext {w : Nat} (a b : BitVec w) (lo len : Nat) (h : ∀ k < len, a.getLsbD (lo + k) = b.getLsbD (lo + k)) :
    fld a lo len = fld b lo len := by
  apply fld_eq
  · exact (b.extractLsb' lo len).isLt
  · intro k hk
    have : (fld b lo len).testBit k = (b.extractLsb' lo len).getLsbD k := rfl
    rw [this, BitVec.getLsbD_extractLsb', h k hk]; simp [hk]

/-- The header of a row's message: SVC is the row's, every other bit the message's. -/
theorem rowHdr_bit (svc : Nat) (m : SvcMsg) (k : Nat) (hs : svc < 256) :
    (rowHdr svc m).getLsbD k = if k < 8 then svc.testBit k else m.hdr.getLsbD k := by
  have hd : (rowHdr svc m).getLsbD k = ((m.hdr.getLsbD k && (decide (k < 256) && !(0xFF#256).getLsbD k)) || (BitVec.ofNat 256 svc).getLsbD k) := by
    unfold rowHdr
    rw [BitVec.getLsbD_or, BitVec.getLsbD_and, BitVec.getLsbD_not]
  rw [hd, BitVec.getLsbD_ofNat, BitVec.getLsbD_ofNat]
  by_cases h8 : k < 8
  · have : (0xFF : Nat).testBit k = true := by interval_cases k <;> rfl
    rw [if_pos h8, this]
    have : k < 256 := by omega
    simp only [this, decide_true, Bool.not_true, Bool.and_false, Bool.false_or, Bool.true_and]
  · have h1 : (255 : Nat).testBit k = false := Nat.testBit_lt_two_pow (Nat.lt_of_lt_of_le (by decide : 255 < 2^8) (Nat.pow_le_pow_right (by decide) (by omega)))
    have h2 : svc.testBit k = false := Nat.testBit_lt_two_pow (Nat.lt_of_lt_of_le hs (Nat.pow_le_pow_right (by decide : 0 < 2) (by omega : 8 ≤ k)))
    rw [if_neg h8, h1, h2]
    by_cases hk : k < 256
    · simp only [hk, decide_true, Bool.and_false, Bool.not_false, Bool.and_true, Bool.or_false]
    · simp only [hk, decide_false, Bool.false_and, Bool.and_false, Bool.or_false]
      exact (BitVec.getLsbD_of_ge _ _ (by omega)).symm

theorem rowHdr_fld (svc : Nat) (m : SvcMsg) (hs : svc < 256) (lo len : Nat) (h : 8 ≤ lo) :
    fld (rowHdr svc m) lo len = fld m.hdr lo len := by
  apply fld_ext; intro k _; rw [rowHdr_bit svc m _ hs, if_neg (by omega)]

theorem rowHdr_svc (svc : Nat) (m : SvcMsg) (hs : svc < 256) : hSvc (rowHdr svc m) = svc := by
  unfold hSvc
  apply fld_eq _ _ _ _ hs
  intro k hk; rw [rowHdr_bit svc m _ hs]; simp [hk]

end Sys2Proof.Machine
end

