-- ==== Sys2Proof/Laws/Ram.lean ====
section
/-! SUPPORT. What sending and the shapers leave alone: both memories. -/

namespace Sys2Proof.Machine

/-- Neither memory of the node differs between two states. -/
def sameRam (s t : State) : Prop := t.hostMem = s.hostMem ∧ t.nodeMem = s.nodeMem
theorem sameRam_refl (s : State) : sameRam s s := ⟨rfl, rfl⟩
theorem sameRam_trans {s t u : State} (h : sameRam s t) (k : sameRam t u) : sameRam s u := ⟨k.1.trans h.1, k.2.trans h.2⟩
theorem sameRam_foldl {α : Type} (f : State → α → State) (hf : ∀ s x, sameRam s (f s x)) (l : List α) (s : State) :
    sameRam s (l.foldl f s) := by
  induction l generalizing s with
  | nil => exact sameRam_refl s
  | cons x r ih => exact sameRam_trans (hf s x) (ih _)
theorem sameRam_emitPkt (s : State) (n op path : Nat) (p : TxPkt) (a : Bool) (c : Nat) : sameRam s (s.emitPkt n op path p a c) := by
  unfold State.emitPkt; dsimp only; split <;> exact ⟨rfl, rfl⟩
theorem sameRam_modQp (s : State) (n : Nat) (f : Qp → Qp) : sameRam s (s.modQp n f) := ⟨rfl, rfl⟩
theorem sameRam_sendUn (s : State) (n op : Nat) (e : List Byte) (c : Nat) : sameRam s (s.sendUn n op e c) := by
  unfold State.sendUn; exact sameRam_trans (sameRam_emitPkt _ _ _ _ _ _ _) (sameRam_modQp _ _ _)
theorem sameRam_sendAck (s : State) (n : Nat) (b : Bool) : sameRam s (s.sendAck n b) := by
  unfold State.sendAck; dsimp only; split
  · exact sameRam_trans (sameRam_sendUn _ _ _ _ _) (sameRam_modQp _ _ _)
  · exact sameRam_refl s
theorem sameRam_bump (s : State) (a b c d : Nat) : sameRam s (s.bump a b c d) := ⟨rfl, rfl⟩
theorem sameRam_leave (s : State) (d k n : Nat) (h : Leave) : sameRam s (s.leave d k n h) := by
  unfold State.leave; dsimp only; split
  · exact sameRam_refl s
  · split <;> exact ⟨rfl, rfl⟩
theorem sameRam_readEnds (s : State) (p : TxPkt) : sameRam s (s.readEnds p) := by
  unfold State.readEnds; split <;> exact ⟨rfl, rfl⟩
theorem sameRam_sendFront {s t : State} {n : Nat} {b : Bool} (h : s.sendFront n b = some t) : sameRam s t := by
  unfold State.sendFront at h
  dsimp only at h
  cases hf : (s.qp n).front with
  | none => rw [hf] at h; cases h
  | some p =>
    rw [hf] at h
    dsimp only at h
    generalize (s.qp n).nextPath (if p.resent = true then some p.path else none) = path at h
    generalize s.frameBytes (s.qp n) ((s.qp n).portOf path) p.ext.length p.payload.length = bytes at h
    generalize (if (s.qp n).isMgmt = true then Leave.committed else s.eligible (s.qp n).dom 0 bytes) = how at h
    split at h
    · cases h
    · injection h with h
      subst h
      refine sameRam_trans ?_ (sameRam_modQp _ _ _)
      refine sameRam_trans ?_ (sameRam_emitPkt _ _ _ _ _ _ _)
      refine sameRam_trans ?_ (sameRam_readEnds _ _)
      have h1 : sameRam s (if (s.qp n).isMgmt = true then s else s.leave (s.qp n).dom 0 bytes how) := by
        split
        · exact sameRam_refl s
        · exact sameRam_leave _ _ _ _ _
      split
      · exact sameRam_trans h1 (sameRam_bump _ _ _ _ _)
      · exact h1
theorem sameRam_sendQp (n : Nat) (b : Bool) (f : Nat) (s : State) : sameRam s (s.sendQp n b f) := by
  induction f generalizing s with
  | zero => exact sameRam_refl s
  | succ f ih =>
    unfold State.sendQp
    split
    · rename_i t h; exact sameRam_trans (sameRam_sendFront h) (ih _)
    · exact sameRam_refl s
theorem sameRam_sendAll (s : State) (b : Bool) : sameRam s (s.sendAll b) := by
  unfold State.sendAll
  exact sameRam_foldl _ (fun s p => sameRam_sendQp _ _ _ s) _ s
theorem sameRam_refill (s : State) (d n dt : Nat) : sameRam s (s.refill d n dt) := by
  unfold State.refill; dsimp only; split <;> exact ⟨rfl, rfl⟩
theorem sameRam_tick (s : State) (dt : Nat) : sameRam s (s.tick dt) := by
  unfold State.tick
  dsimp only
  have h1 : ∀ (l : List Nat) (t : State), sameRam t (l.foldl (fun t d => (t.refill d 0 dt).refill d 1 dt) t) :=
    fun l t => sameRam_foldl _ (fun s d => sameRam_trans (sameRam_refill s d 0 dt) (sameRam_refill _ d 1 dt)) l t
  split
  · refine sameRam_trans ?_ (sameRam_sendAll _ _)
    refine sameRam_trans ?_ (h1 _ _)
    exact ⟨rfl, rfl⟩
  · refine sameRam_trans ?_ (sameRam_sendAll _ _)
    refine sameRam_trans ?_ (sameRam_sendAll _ _)
    refine sameRam_trans ?_ (h1 _ _)
    exact ⟨rfl, rfl⟩
theorem sameRam_of {s t u : State} (h : Host.Outcome.next (φ := Fault) (ρ := Refusal) (s.sealed u) = .next t) (k : sameRam s u) : s.SameMemory t := by
  simp only [Host.Outcome.next.injEq] at h
  subst h
  intro a
  obtain ⟨k1, k2⟩ := k
  exact ⟨(Memory.read_canon _ _).trans (by rw [k1]), (Memory.read_canon _ _).trans (by rw [k2])⟩
theorem sameRam_echo (s : State) (n : Nat) (b : Bool) (t a : BitVec 128) (v : Option (BitVec 12)) (l : List Byte) :
    sameRam s (s.echo n b t a v l) := by
  unfold State.echo State.answered; split
  · exact sameRam_refl s
  · split <;> exact ⟨rfl, rfl⟩
theorem sameRam_send (s : State) (q op : Nat) (e : Nat → Bool → List Byte) (l : List Byte) : sameRam s (s.send q op e l) := by
  unfold State.send; dsimp only; split
  · exact ⟨rfl, rfl⟩
  · exact sameRam_refl s

end Sys2Proof.Machine
end

