-- ==== Sys2Proof/Laws/Receive.lean ====
section
/-! SUPPORT. A packet on its way in (R243, R252, R257). -/

namespace Sys2Proof.Machine

theorem rxOpen_received (s : State) (p : RxPacket) (q : Qp) : (s.received p).rxOpen q p = s.rxOpen q p := rfl

/-- A packet that opens goes to its QP: a sequenced one in PSN order, another at once. -/
theorem receive_ok {s : State} {p : RxPacket} {pl : List Byte} (h : s.Receives p pl) :
    s.receive p = if seqOp (bOp p.base) then ((s.received p).rxSeq (bDstQp p.base) p pl).drainStep (bDstQp p.base)
      else (s.received p).rxUn (bDstQp p.base) p := by
  obtain ⟨h1, h2, h3, h4, h5, h6, h7⟩ := h
  have hk : (s.qpKey (s.qp (bDstQp p.base))).isEmpty = false := by
    by_contra hk
    simp only [Bool.not_eq_false] at hk
    simp [State.rxOpen, hk] at h7
  have h8 := (rxOpen_received s p (s.qp (bDstQp p.base))).trans h7
  simp only [State.receive, h1, h2, h3, h4, h5, h6, hk]
  simp only [State.received] at h8
  simp [h7]
  rfl

/-- A duplicate is acknowledged and does nothing else (R257). -/
theorem rxSeq_dup (s : State) (n : Nat) (p : RxPacket) (pl : List Byte) (hce : p.ce = false)
    (h : (newer 24 (s.qp n).cpsn (bPsn p.base) || (s.qp n).done.contains (bPsn p.base)) = true) :
    s.rxSeq n p pl = (s.bump 0x6400 3).sendAck n false := by
  unfold State.rxSeq
  rw [hce]
  exact if_pos h

/-- A packet beyond the window is counted and dropped (R257). -/
theorem rxSeq_window (s : State) (n : Nat) (p : RxPacket) (pl : List Byte) (hce : p.ce = false)
    (h : (newer 24 (s.qp n).cpsn (bPsn p.base) || (s.qp n).done.contains (bPsn p.base)) = false)
    (hw : 1024 ≤ (bPsn p.base + 2 ^ 24 - (s.qp n).cpsn) % 2 ^ 24) :
    s.rxSeq n p pl = s.bump 0x6400 4 := by
  unfold State.rxSeq
  rw [hce]
  simp only [Bool.false_eq_true, if_false, h]
  exact if_pos hw

/-- A new packet of a message not refused is taken (R257). -/
theorem rxSeq_new (s : State) (n : Nat) (p : RxPacket) (pl : List Byte) (hce : p.ce = false)
    (h : (newer 24 (s.qp n).cpsn (bPsn p.base) || (s.qp n).done.contains (bPsn p.base)) = false)
    (hw : ¬ 1024 ≤ (bPsn p.base + 2 ^ 24 - (s.qp n).cpsn) % 2 ^ 24)
    (hr : ((s.qp n).refused.any fun r => r.msn == bMsn p.base) = false) :
    s.rxSeq n p pl = (s.modQp n fun x => x.begin (bMsn p.base)).rxNew n p pl := by
  unfold State.rxSeq
  rw [hce]
  simp only [Bool.false_eq_true, if_false, h]
  rw [if_neg hw]
  simp only [hr, Bool.false_eq_true, if_false]

end Sys2Proof.Machine
end

