-- ==== Sys2Proof/Laws/Seqs.lean ====
section
/-! SUPPORT. Sequences and their granules: what leaves the sequence table alone, and the pool of runs (R38, R43, R56). -/

namespace Sys2Proof.Machine

/-- A fold of steps that leave the sequence table alone leaves it alone. -/
theorem table_foldl {α : Type} (f : State → α → State) (hf : ∀ s x, (f s x).seqs.table = s.seqs.table) (l : List α) (s : State) : (l.foldl f s).seqs.table = s.seqs.table := by
  induction l generalizing s with
  | nil => rfl
  | cons x r ih => exact (ih _).trans (hf s x)

theorem send_seqs (s : State) (q op : Nat) (e : Nat → Bool → List Byte) (l : List Byte) : (s.send q op e l).seqs = s.seqs := by
  unfold State.send; dsimp only; split <;> rfl
theorem releaseHold_table (s : State) (a b c : Nat) : (s.releaseHold a b c).seqs.table = s.seqs.table := by
  unfold State.releaseHold; dsimp only; split
  · exact congrArg _ (send_seqs _ _ _ _ _)
  · rfl
theorem dropCold_table (s : State) (a : Nat) (d : PageData) : (s.dropCold a d).seqs.table = s.seqs.table := by
  unfold State.dropCold; split
  · rfl
  · split
    · exact releaseHold_table _ _ _ _
    · rfl
theorem dropRef_table (s : State) (p : Nat) : (s.dropRef p).seqs.table = s.seqs.table := by
  unfold State.dropRef
  split
  · split
    · unfold State.freePage; dsimp only
      split <;> first | rfl | exact dropCold_table _ _ _ | exact releaseHold_table _ _ _ _
    · rfl
  · rfl
theorem freeGrains_table (s : State) (p : Nat) : (s.freeGrains p).seqs.table = s.seqs.table := rfl
theorem freeSeqGrains_table (s : State) (e : SeqEntry) : (s.freeSeqGrains e).seqs.table = s.seqs.table := by
  unfold State.freeSeqGrains; dsimp only
  split
  · exact table_foldl _ freeGrains_table _ _
  · exact (freeGrains_table _ _).trans (table_foldl _ freeGrains_table _ _)
theorem sweepTables_seqs (s : State) : (s.sweepTables).seqs = s.seqs := rfl
theorem seq_of_table {s t : State} (h : s.seqs.table = t.seqs.table) (i : Nat) : s.seq i = t.seq i := by unfold State.seq; rw [h]

/-- A run added to the pool is there, with the others. -/
theorem mem_poolAdd (x y : Nat × Nat × Nat) (l : List (Nat × Nat × Nat)) : y ∈ poolAdd x l ↔ y = x ∨ y ∈ l := by
  induction l with
  | nil => simp [poolAdd]
  | cons z r ih =>
    unfold poolAdd
    split
    · simp
    · rw [List.mem_cons, List.mem_cons, ih]
      constructor
      · rintro (h | h | h)
        · exact .inr (.inl h)
        · exact .inl h
        · exact .inr (.inr h)
      · rintro (h | h | h)
        · exact .inr (.inl h)
        · exact .inl h
        · exact .inr (.inr h)

/-- A run that meets no other keeps the pool in ascending order without overlap. -/
theorem poolAdd_pairwise (x : Nat × Nat × Nat) (l : List (Nat × Nat × Nat)) (hn : 0 < x.2.1)
    (hp : l.Pairwise fun x y => x.1 + x.2.1 ≤ y.1) (h3 : ∀ p ∈ l, x.1 + x.2.1 ≤ p.1 ∨ p.1 + p.2.1 ≤ x.1) :
    (poolAdd x l).Pairwise fun x y => x.1 + x.2.1 ≤ y.1 := by
  induction l with
  | nil => simp [poolAdd]
  | cons y r ih =>
    rw [List.pairwise_cons] at hp
    have hy := h3 y (List.mem_cons_self ..)
    unfold poolAdd
    split
    · rename_i hlt
      rw [List.pairwise_cons]
      have hay : x.1 + x.2.1 ≤ y.1 := by rcases hy with h | h <;> omega
      refine ⟨?_, List.pairwise_cons.mpr hp⟩
      intro z hz
      rcases List.mem_cons.mp hz with rfl | hz
      · exact hay
      · have := hp.1 z hz; omega
    · rename_i hlt
      rw [List.pairwise_cons]
      refine ⟨?_, ih hp.2 (fun p hp => h3 p (List.mem_cons_of_mem _ hp))⟩
      intro z hz
      rcases (mem_poolAdd x z r).mp hz with rfl | hz
      · rcases hy with h | h <;> omega
      · exact hp.1 z hz

end Sys2Proof.Machine
end

