-- ==== Sys2Proof/Laws/State.lean ====
section
/-! SUPPORT. What each update of a part of the state leaves and changes: one lemma per field and update. -/

namespace Sys2Proof.Machine

@[simp] theorem State.modPower_pending (s : State) (f : Power → Power) : (s.modPower f).pending = s.pending := rfl
@[simp] theorem State.modPower_power (s : State) (f : Power → Power) : (s.modPower f).power = f s.power := rfl
@[simp] theorem State.modPower_boot (s : State) (f : Power → Power) : (s.modPower f).boot = s.boot := rfl
@[simp] theorem State.modPower_link (s : State) (f : Power → Power) : (s.modPower f).link = s.link := rfl
@[simp] theorem State.modPower_dict (s : State) (f : Power → Power) : (s.modPower f).dict = s.dict := rfl
@[simp] theorem State.modPower_prof (s : State) (f : Power → Power) : (s.modPower f).prof = s.prof := rfl
@[simp] theorem State.modPower_pages (s : State) (f : Power → Power) : (s.modPower f).pages = s.pages := rfl
@[simp] theorem State.modPower_seqs (s : State) (f : Power → Power) : (s.modPower f).seqs = s.seqs := rfl
@[simp] theorem State.modPower_queues (s : State) (f : Power → Power) : (s.modPower f).queues = s.queues := rfl
@[simp] theorem State.modPower_sched (s : State) (f : Power → Power) : (s.modPower f).sched = s.sched := rfl
@[simp] theorem State.modPower_awns (s : State) (f : Power → Power) : (s.modPower f).awns = s.awns := rfl
@[simp] theorem State.modPower_tiles (s : State) (f : Power → Power) : (s.modPower f).tiles = s.tiles := rfl
@[simp] theorem State.modPower_index (s : State) (f : Power → Power) : (s.modPower f).index = s.index := rfl
@[simp] theorem State.modPower_tier (s : State) (f : Power → Power) : (s.modPower f).tier = s.tier := rfl
@[simp] theorem State.modPower_masks (s : State) (f : Power → Power) : (s.modPower f).masks = s.masks := rfl
@[simp] theorem State.modPower_win (s : State) (f : Power → Power) : (s.modPower f).win = s.win := rfl
@[simp] theorem State.modPower_dom (s : State) (f : Power → Power) : (s.modPower f).dom = s.dom := rfl
@[simp] theorem State.modPower_xnt (s : State) (f : Power → Power) : (s.modPower f).xnt = s.xnt := rfl
@[simp] theorem State.modPower_ring (s : State) (f : Power → Power) : (s.modPower f).ring = s.ring := rfl
@[simp] theorem State.modPower_shadow (s : State) (f : Power → Power) : (s.modPower f).shadow = s.shadow := rfl
@[simp] theorem State.modPower_faults (s : State) (f : Power → Power) : (s.modPower f).faults = s.faults := rfl
@[simp] theorem State.modPower_therm (s : State) (f : Power → Power) : (s.modPower f).therm = s.therm := rfl
@[simp] theorem State.modPower_test (s : State) (f : Power → Power) : (s.modPower f).test = s.test := rfl
@[simp] theorem State.modPower_hostMem (s : State) (f : Power → Power) : (s.modPower f).hostMem = s.hostMem := rfl
@[simp] theorem State.modPower_nodeMem (s : State) (f : Power → Power) : (s.modPower f).nodeMem = s.nodeMem := rfl
@[simp] theorem State.modPower_out (s : State) (f : Power → Power) : (s.modPower f).out = s.out := rfl

@[simp] theorem State.modBoot_pending (s : State) (f : Boot → Boot) : (s.modBoot f).pending = s.pending := rfl
@[simp] theorem State.modBoot_power (s : State) (f : Boot → Boot) : (s.modBoot f).power = s.power := rfl
@[simp] theorem State.modBoot_boot (s : State) (f : Boot → Boot) : (s.modBoot f).boot = f s.boot := rfl
@[simp] theorem State.modBoot_link (s : State) (f : Boot → Boot) : (s.modBoot f).link = s.link := rfl
@[simp] theorem State.modBoot_dict (s : State) (f : Boot → Boot) : (s.modBoot f).dict = s.dict := rfl
@[simp] theorem State.modBoot_prof (s : State) (f : Boot → Boot) : (s.modBoot f).prof = s.prof := rfl
@[simp] theorem State.modBoot_pages (s : State) (f : Boot → Boot) : (s.modBoot f).pages = s.pages := rfl
@[simp] theorem State.modBoot_seqs (s : State) (f : Boot → Boot) : (s.modBoot f).seqs = s.seqs := rfl
@[simp] theorem State.modBoot_queues (s : State) (f : Boot → Boot) : (s.modBoot f).queues = s.queues := rfl
@[simp] theorem State.modBoot_sched (s : State) (f : Boot → Boot) : (s.modBoot f).sched = s.sched := rfl
@[simp] theorem State.modBoot_awns (s : State) (f : Boot → Boot) : (s.modBoot f).awns = s.awns := rfl
@[simp] theorem State.modBoot_tiles (s : State) (f : Boot → Boot) : (s.modBoot f).tiles = s.tiles := rfl
@[simp] theorem State.modBoot_index (s : State) (f : Boot → Boot) : (s.modBoot f).index = s.index := rfl
@[simp] theorem State.modBoot_tier (s : State) (f : Boot → Boot) : (s.modBoot f).tier = s.tier := rfl
@[simp] theorem State.modBoot_masks (s : State) (f : Boot → Boot) : (s.modBoot f).masks = s.masks := rfl
@[simp] theorem State.modBoot_win (s : State) (f : Boot → Boot) : (s.modBoot f).win = s.win := rfl
@[simp] theorem State.modBoot_dom (s : State) (f : Boot → Boot) : (s.modBoot f).dom = s.dom := rfl
@[simp] theorem State.modBoot_xnt (s : State) (f : Boot → Boot) : (s.modBoot f).xnt = s.xnt := rfl
@[simp] theorem State.modBoot_ring (s : State) (f : Boot → Boot) : (s.modBoot f).ring = s.ring := rfl
@[simp] theorem State.modBoot_shadow (s : State) (f : Boot → Boot) : (s.modBoot f).shadow = s.shadow := rfl
@[simp] theorem State.modBoot_faults (s : State) (f : Boot → Boot) : (s.modBoot f).faults = s.faults := rfl
@[simp] theorem State.modBoot_therm (s : State) (f : Boot → Boot) : (s.modBoot f).therm = s.therm := rfl
@[simp] theorem State.modBoot_test (s : State) (f : Boot → Boot) : (s.modBoot f).test = s.test := rfl
@[simp] theorem State.modBoot_hostMem (s : State) (f : Boot → Boot) : (s.modBoot f).hostMem = s.hostMem := rfl
@[simp] theorem State.modBoot_nodeMem (s : State) (f : Boot → Boot) : (s.modBoot f).nodeMem = s.nodeMem := rfl
@[simp] theorem State.modBoot_out (s : State) (f : Boot → Boot) : (s.modBoot f).out = s.out := rfl

@[simp] theorem State.modLink_pending (s : State) (f : Link → Link) : (s.modLink f).pending = s.pending := rfl
@[simp] theorem State.modLink_power (s : State) (f : Link → Link) : (s.modLink f).power = s.power := rfl
@[simp] theorem State.modLink_boot (s : State) (f : Link → Link) : (s.modLink f).boot = s.boot := rfl
@[simp] theorem State.modLink_link (s : State) (f : Link → Link) : (s.modLink f).link = f s.link := rfl
@[simp] theorem State.modLink_dict (s : State) (f : Link → Link) : (s.modLink f).dict = s.dict := rfl
@[simp] theorem State.modLink_prof (s : State) (f : Link → Link) : (s.modLink f).prof = s.prof := rfl
@[simp] theorem State.modLink_pages (s : State) (f : Link → Link) : (s.modLink f).pages = s.pages := rfl
@[simp] theorem State.modLink_seqs (s : State) (f : Link → Link) : (s.modLink f).seqs = s.seqs := rfl
@[simp] theorem State.modLink_queues (s : State) (f : Link → Link) : (s.modLink f).queues = s.queues := rfl
@[simp] theorem State.modLink_sched (s : State) (f : Link → Link) : (s.modLink f).sched = s.sched := rfl
@[simp] theorem State.modLink_awns (s : State) (f : Link → Link) : (s.modLink f).awns = s.awns := rfl
@[simp] theorem State.modLink_tiles (s : State) (f : Link → Link) : (s.modLink f).tiles = s.tiles := rfl
@[simp] theorem State.modLink_index (s : State) (f : Link → Link) : (s.modLink f).index = s.index := rfl
@[simp] theorem State.modLink_tier (s : State) (f : Link → Link) : (s.modLink f).tier = s.tier := rfl
@[simp] theorem State.modLink_masks (s : State) (f : Link → Link) : (s.modLink f).masks = s.masks := rfl
@[simp] theorem State.modLink_win (s : State) (f : Link → Link) : (s.modLink f).win = s.win := rfl
@[simp] theorem State.modLink_dom (s : State) (f : Link → Link) : (s.modLink f).dom = s.dom := rfl
@[simp] theorem State.modLink_xnt (s : State) (f : Link → Link) : (s.modLink f).xnt = s.xnt := rfl
@[simp] theorem State.modLink_ring (s : State) (f : Link → Link) : (s.modLink f).ring = s.ring := rfl
@[simp] theorem State.modLink_shadow (s : State) (f : Link → Link) : (s.modLink f).shadow = s.shadow := rfl
@[simp] theorem State.modLink_faults (s : State) (f : Link → Link) : (s.modLink f).faults = s.faults := rfl
@[simp] theorem State.modLink_therm (s : State) (f : Link → Link) : (s.modLink f).therm = s.therm := rfl
@[simp] theorem State.modLink_test (s : State) (f : Link → Link) : (s.modLink f).test = s.test := rfl
@[simp] theorem State.modLink_hostMem (s : State) (f : Link → Link) : (s.modLink f).hostMem = s.hostMem := rfl
@[simp] theorem State.modLink_nodeMem (s : State) (f : Link → Link) : (s.modLink f).nodeMem = s.nodeMem := rfl
@[simp] theorem State.modLink_out (s : State) (f : Link → Link) : (s.modLink f).out = s.out := rfl

@[simp] theorem State.modDict_pending (s : State) (f : Dict → Dict) : (s.modDict f).pending = s.pending := rfl
@[simp] theorem State.modDict_power (s : State) (f : Dict → Dict) : (s.modDict f).power = s.power := rfl
@[simp] theorem State.modDict_boot (s : State) (f : Dict → Dict) : (s.modDict f).boot = s.boot := rfl
@[simp] theorem State.modDict_link (s : State) (f : Dict → Dict) : (s.modDict f).link = s.link := rfl
@[simp] theorem State.modDict_dict (s : State) (f : Dict → Dict) : (s.modDict f).dict = f s.dict := rfl
@[simp] theorem State.modDict_prof (s : State) (f : Dict → Dict) : (s.modDict f).prof = s.prof := rfl
@[simp] theorem State.modDict_pages (s : State) (f : Dict → Dict) : (s.modDict f).pages = s.pages := rfl
@[simp] theorem State.modDict_seqs (s : State) (f : Dict → Dict) : (s.modDict f).seqs = s.seqs := rfl
@[simp] theorem State.modDict_queues (s : State) (f : Dict → Dict) : (s.modDict f).queues = s.queues := rfl
@[simp] theorem State.modDict_sched (s : State) (f : Dict → Dict) : (s.modDict f).sched = s.sched := rfl
@[simp] theorem State.modDict_awns (s : State) (f : Dict → Dict) : (s.modDict f).awns = s.awns := rfl
@[simp] theorem State.modDict_tiles (s : State) (f : Dict → Dict) : (s.modDict f).tiles = s.tiles := rfl
@[simp] theorem State.modDict_index (s : State) (f : Dict → Dict) : (s.modDict f).index = s.index := rfl
@[simp] theorem State.modDict_tier (s : State) (f : Dict → Dict) : (s.modDict f).tier = s.tier := rfl
@[simp] theorem State.modDict_masks (s : State) (f : Dict → Dict) : (s.modDict f).masks = s.masks := rfl
@[simp] theorem State.modDict_win (s : State) (f : Dict → Dict) : (s.modDict f).win = s.win := rfl
@[simp] theorem State.modDict_dom (s : State) (f : Dict → Dict) : (s.modDict f).dom = s.dom := rfl
@[simp] theorem State.modDict_xnt (s : State) (f : Dict → Dict) : (s.modDict f).xnt = s.xnt := rfl
@[simp] theorem State.modDict_ring (s : State) (f : Dict → Dict) : (s.modDict f).ring = s.ring := rfl
@[simp] theorem State.modDict_shadow (s : State) (f : Dict → Dict) : (s.modDict f).shadow = s.shadow := rfl
@[simp] theorem State.modDict_faults (s : State) (f : Dict → Dict) : (s.modDict f).faults = s.faults := rfl
@[simp] theorem State.modDict_therm (s : State) (f : Dict → Dict) : (s.modDict f).therm = s.therm := rfl
@[simp] theorem State.modDict_test (s : State) (f : Dict → Dict) : (s.modDict f).test = s.test := rfl
@[simp] theorem State.modDict_hostMem (s : State) (f : Dict → Dict) : (s.modDict f).hostMem = s.hostMem := rfl
@[simp] theorem State.modDict_nodeMem (s : State) (f : Dict → Dict) : (s.modDict f).nodeMem = s.nodeMem := rfl
@[simp] theorem State.modDict_out (s : State) (f : Dict → Dict) : (s.modDict f).out = s.out := rfl

@[simp] theorem State.modProf_pending (s : State) (f : Profile → Profile) : (s.modProf f).pending = s.pending := rfl
@[simp] theorem State.modProf_power (s : State) (f : Profile → Profile) : (s.modProf f).power = s.power := rfl
@[simp] theorem State.modProf_boot (s : State) (f : Profile → Profile) : (s.modProf f).boot = s.boot := rfl
@[simp] theorem State.modProf_link (s : State) (f : Profile → Profile) : (s.modProf f).link = s.link := rfl
@[simp] theorem State.modProf_dict (s : State) (f : Profile → Profile) : (s.modProf f).dict = s.dict := rfl
@[simp] theorem State.modProf_prof (s : State) (f : Profile → Profile) : (s.modProf f).prof = f s.prof := rfl
@[simp] theorem State.modProf_pages (s : State) (f : Profile → Profile) : (s.modProf f).pages = s.pages := rfl
@[simp] theorem State.modProf_seqs (s : State) (f : Profile → Profile) : (s.modProf f).seqs = s.seqs := rfl
@[simp] theorem State.modProf_queues (s : State) (f : Profile → Profile) : (s.modProf f).queues = s.queues := rfl
@[simp] theorem State.modProf_sched (s : State) (f : Profile → Profile) : (s.modProf f).sched = s.sched := rfl
@[simp] theorem State.modProf_awns (s : State) (f : Profile → Profile) : (s.modProf f).awns = s.awns := rfl
@[simp] theorem State.modProf_tiles (s : State) (f : Profile → Profile) : (s.modProf f).tiles = s.tiles := rfl
@[simp] theorem State.modProf_index (s : State) (f : Profile → Profile) : (s.modProf f).index = s.index := rfl
@[simp] theorem State.modProf_tier (s : State) (f : Profile → Profile) : (s.modProf f).tier = s.tier := rfl
@[simp] theorem State.modProf_masks (s : State) (f : Profile → Profile) : (s.modProf f).masks = s.masks := rfl
@[simp] theorem State.modProf_win (s : State) (f : Profile → Profile) : (s.modProf f).win = s.win := rfl
@[simp] theorem State.modProf_dom (s : State) (f : Profile → Profile) : (s.modProf f).dom = s.dom := rfl
@[simp] theorem State.modProf_xnt (s : State) (f : Profile → Profile) : (s.modProf f).xnt = s.xnt := rfl
@[simp] theorem State.modProf_ring (s : State) (f : Profile → Profile) : (s.modProf f).ring = s.ring := rfl
@[simp] theorem State.modProf_shadow (s : State) (f : Profile → Profile) : (s.modProf f).shadow = s.shadow := rfl
@[simp] theorem State.modProf_faults (s : State) (f : Profile → Profile) : (s.modProf f).faults = s.faults := rfl
@[simp] theorem State.modProf_therm (s : State) (f : Profile → Profile) : (s.modProf f).therm = s.therm := rfl
@[simp] theorem State.modProf_test (s : State) (f : Profile → Profile) : (s.modProf f).test = s.test := rfl
@[simp] theorem State.modProf_hostMem (s : State) (f : Profile → Profile) : (s.modProf f).hostMem = s.hostMem := rfl
@[simp] theorem State.modProf_nodeMem (s : State) (f : Profile → Profile) : (s.modProf f).nodeMem = s.nodeMem := rfl
@[simp] theorem State.modProf_out (s : State) (f : Profile → Profile) : (s.modProf f).out = s.out := rfl

@[simp] theorem State.modPages_pending (s : State) (f : Pages → Pages) : (s.modPages f).pending = s.pending := rfl
@[simp] theorem State.modPages_power (s : State) (f : Pages → Pages) : (s.modPages f).power = s.power := rfl
@[simp] theorem State.modPages_boot (s : State) (f : Pages → Pages) : (s.modPages f).boot = s.boot := rfl
@[simp] theorem State.modPages_link (s : State) (f : Pages → Pages) : (s.modPages f).link = s.link := rfl
@[simp] theorem State.modPages_dict (s : State) (f : Pages → Pages) : (s.modPages f).dict = s.dict := rfl
@[simp] theorem State.modPages_prof (s : State) (f : Pages → Pages) : (s.modPages f).prof = s.prof := rfl
@[simp] theorem State.modPages_pages (s : State) (f : Pages → Pages) : (s.modPages f).pages = f s.pages := rfl
@[simp] theorem State.modPages_seqs (s : State) (f : Pages → Pages) : (s.modPages f).seqs = s.seqs := rfl
@[simp] theorem State.modPages_queues (s : State) (f : Pages → Pages) : (s.modPages f).queues = s.queues := rfl
@[simp] theorem State.modPages_sched (s : State) (f : Pages → Pages) : (s.modPages f).sched = s.sched := rfl
@[simp] theorem State.modPages_awns (s : State) (f : Pages → Pages) : (s.modPages f).awns = s.awns := rfl
@[simp] theorem State.modPages_tiles (s : State) (f : Pages → Pages) : (s.modPages f).tiles = s.tiles := rfl
@[simp] theorem State.modPages_index (s : State) (f : Pages → Pages) : (s.modPages f).index = s.index := rfl
@[simp] theorem State.modPages_tier (s : State) (f : Pages → Pages) : (s.modPages f).tier = s.tier := rfl
@[simp] theorem State.modPages_masks (s : State) (f : Pages → Pages) : (s.modPages f).masks = s.masks := rfl
@[simp] theorem State.modPages_win (s : State) (f : Pages → Pages) : (s.modPages f).win = s.win := rfl
@[simp] theorem State.modPages_dom (s : State) (f : Pages → Pages) : (s.modPages f).dom = s.dom := rfl
@[simp] theorem State.modPages_xnt (s : State) (f : Pages → Pages) : (s.modPages f).xnt = s.xnt := rfl
@[simp] theorem State.modPages_ring (s : State) (f : Pages → Pages) : (s.modPages f).ring = s.ring := rfl
@[simp] theorem State.modPages_shadow (s : State) (f : Pages → Pages) : (s.modPages f).shadow = s.shadow := rfl
@[simp] theorem State.modPages_faults (s : State) (f : Pages → Pages) : (s.modPages f).faults = s.faults := rfl
@[simp] theorem State.modPages_therm (s : State) (f : Pages → Pages) : (s.modPages f).therm = s.therm := rfl
@[simp] theorem State.modPages_test (s : State) (f : Pages → Pages) : (s.modPages f).test = s.test := rfl
@[simp] theorem State.modPages_hostMem (s : State) (f : Pages → Pages) : (s.modPages f).hostMem = s.hostMem := rfl
@[simp] theorem State.modPages_nodeMem (s : State) (f : Pages → Pages) : (s.modPages f).nodeMem = s.nodeMem := rfl
@[simp] theorem State.modPages_out (s : State) (f : Pages → Pages) : (s.modPages f).out = s.out := rfl

@[simp] theorem State.modSeqs_pending (s : State) (f : Seqs → Seqs) : (s.modSeqs f).pending = s.pending := rfl
@[simp] theorem State.modSeqs_power (s : State) (f : Seqs → Seqs) : (s.modSeqs f).power = s.power := rfl
@[simp] theorem State.modSeqs_boot (s : State) (f : Seqs → Seqs) : (s.modSeqs f).boot = s.boot := rfl
@[simp] theorem State.modSeqs_link (s : State) (f : Seqs → Seqs) : (s.modSeqs f).link = s.link := rfl
@[simp] theorem State.modSeqs_dict (s : State) (f : Seqs → Seqs) : (s.modSeqs f).dict = s.dict := rfl
@[simp] theorem State.modSeqs_prof (s : State) (f : Seqs → Seqs) : (s.modSeqs f).prof = s.prof := rfl
@[simp] theorem State.modSeqs_pages (s : State) (f : Seqs → Seqs) : (s.modSeqs f).pages = s.pages := rfl
@[simp] theorem State.modSeqs_seqs (s : State) (f : Seqs → Seqs) : (s.modSeqs f).seqs = f s.seqs := rfl
@[simp] theorem State.modSeqs_queues (s : State) (f : Seqs → Seqs) : (s.modSeqs f).queues = s.queues := rfl
@[simp] theorem State.modSeqs_sched (s : State) (f : Seqs → Seqs) : (s.modSeqs f).sched = s.sched := rfl
@[simp] theorem State.modSeqs_awns (s : State) (f : Seqs → Seqs) : (s.modSeqs f).awns = s.awns := rfl
@[simp] theorem State.modSeqs_tiles (s : State) (f : Seqs → Seqs) : (s.modSeqs f).tiles = s.tiles := rfl
@[simp] theorem State.modSeqs_index (s : State) (f : Seqs → Seqs) : (s.modSeqs f).index = s.index := rfl
@[simp] theorem State.modSeqs_tier (s : State) (f : Seqs → Seqs) : (s.modSeqs f).tier = s.tier := rfl
@[simp] theorem State.modSeqs_masks (s : State) (f : Seqs → Seqs) : (s.modSeqs f).masks = s.masks := rfl
@[simp] theorem State.modSeqs_win (s : State) (f : Seqs → Seqs) : (s.modSeqs f).win = s.win := rfl
@[simp] theorem State.modSeqs_dom (s : State) (f : Seqs → Seqs) : (s.modSeqs f).dom = s.dom := rfl
@[simp] theorem State.modSeqs_xnt (s : State) (f : Seqs → Seqs) : (s.modSeqs f).xnt = s.xnt := rfl
@[simp] theorem State.modSeqs_ring (s : State) (f : Seqs → Seqs) : (s.modSeqs f).ring = s.ring := rfl
@[simp] theorem State.modSeqs_shadow (s : State) (f : Seqs → Seqs) : (s.modSeqs f).shadow = s.shadow := rfl
@[simp] theorem State.modSeqs_faults (s : State) (f : Seqs → Seqs) : (s.modSeqs f).faults = s.faults := rfl
@[simp] theorem State.modSeqs_therm (s : State) (f : Seqs → Seqs) : (s.modSeqs f).therm = s.therm := rfl
@[simp] theorem State.modSeqs_test (s : State) (f : Seqs → Seqs) : (s.modSeqs f).test = s.test := rfl
@[simp] theorem State.modSeqs_hostMem (s : State) (f : Seqs → Seqs) : (s.modSeqs f).hostMem = s.hostMem := rfl
@[simp] theorem State.modSeqs_nodeMem (s : State) (f : Seqs → Seqs) : (s.modSeqs f).nodeMem = s.nodeMem := rfl
@[simp] theorem State.modSeqs_out (s : State) (f : Seqs → Seqs) : (s.modSeqs f).out = s.out := rfl

@[simp] theorem State.modQueues_pending (s : State) (f : Queues → Queues) : (s.modQueues f).pending = s.pending := rfl
@[simp] theorem State.modQueues_power (s : State) (f : Queues → Queues) : (s.modQueues f).power = s.power := rfl
@[simp] theorem State.modQueues_boot (s : State) (f : Queues → Queues) : (s.modQueues f).boot = s.boot := rfl
@[simp] theorem State.modQueues_link (s : State) (f : Queues → Queues) : (s.modQueues f).link = s.link := rfl
@[simp] theorem State.modQueues_dict (s : State) (f : Queues → Queues) : (s.modQueues f).dict = s.dict := rfl
@[simp] theorem State.modQueues_prof (s : State) (f : Queues → Queues) : (s.modQueues f).prof = s.prof := rfl
@[simp] theorem State.modQueues_pages (s : State) (f : Queues → Queues) : (s.modQueues f).pages = s.pages := rfl
@[simp] theorem State.modQueues_seqs (s : State) (f : Queues → Queues) : (s.modQueues f).seqs = s.seqs := rfl
@[simp] theorem State.modQueues_queues (s : State) (f : Queues → Queues) : (s.modQueues f).queues = f s.queues := rfl
@[simp] theorem State.modQueues_sched (s : State) (f : Queues → Queues) : (s.modQueues f).sched = s.sched := rfl
@[simp] theorem State.modQueues_awns (s : State) (f : Queues → Queues) : (s.modQueues f).awns = s.awns := rfl
@[simp] theorem State.modQueues_tiles (s : State) (f : Queues → Queues) : (s.modQueues f).tiles = s.tiles := rfl
@[simp] theorem State.modQueues_index (s : State) (f : Queues → Queues) : (s.modQueues f).index = s.index := rfl
@[simp] theorem State.modQueues_tier (s : State) (f : Queues → Queues) : (s.modQueues f).tier = s.tier := rfl
@[simp] theorem State.modQueues_masks (s : State) (f : Queues → Queues) : (s.modQueues f).masks = s.masks := rfl
@[simp] theorem State.modQueues_win (s : State) (f : Queues → Queues) : (s.modQueues f).win = s.win := rfl
@[simp] theorem State.modQueues_dom (s : State) (f : Queues → Queues) : (s.modQueues f).dom = s.dom := rfl
@[simp] theorem State.modQueues_xnt (s : State) (f : Queues → Queues) : (s.modQueues f).xnt = s.xnt := rfl
@[simp] theorem State.modQueues_ring (s : State) (f : Queues → Queues) : (s.modQueues f).ring = s.ring := rfl
@[simp] theorem State.modQueues_shadow (s : State) (f : Queues → Queues) : (s.modQueues f).shadow = s.shadow := rfl
@[simp] theorem State.modQueues_faults (s : State) (f : Queues → Queues) : (s.modQueues f).faults = s.faults := rfl
@[simp] theorem State.modQueues_therm (s : State) (f : Queues → Queues) : (s.modQueues f).therm = s.therm := rfl
@[simp] theorem State.modQueues_test (s : State) (f : Queues → Queues) : (s.modQueues f).test = s.test := rfl
@[simp] theorem State.modQueues_hostMem (s : State) (f : Queues → Queues) : (s.modQueues f).hostMem = s.hostMem := rfl
@[simp] theorem State.modQueues_nodeMem (s : State) (f : Queues → Queues) : (s.modQueues f).nodeMem = s.nodeMem := rfl
@[simp] theorem State.modQueues_out (s : State) (f : Queues → Queues) : (s.modQueues f).out = s.out := rfl

@[simp] theorem State.modSched_pending (s : State) (f : Sched → Sched) : (s.modSched f).pending = s.pending := rfl
@[simp] theorem State.modSched_power (s : State) (f : Sched → Sched) : (s.modSched f).power = s.power := rfl
@[simp] theorem State.modSched_boot (s : State) (f : Sched → Sched) : (s.modSched f).boot = s.boot := rfl
@[simp] theorem State.modSched_link (s : State) (f : Sched → Sched) : (s.modSched f).link = s.link := rfl
@[simp] theorem State.modSched_dict (s : State) (f : Sched → Sched) : (s.modSched f).dict = s.dict := rfl
@[simp] theorem State.modSched_prof (s : State) (f : Sched → Sched) : (s.modSched f).prof = s.prof := rfl
@[simp] theorem State.modSched_pages (s : State) (f : Sched → Sched) : (s.modSched f).pages = s.pages := rfl
@[simp] theorem State.modSched_seqs (s : State) (f : Sched → Sched) : (s.modSched f).seqs = s.seqs := rfl
@[simp] theorem State.modSched_queues (s : State) (f : Sched → Sched) : (s.modSched f).queues = s.queues := rfl
@[simp] theorem State.modSched_sched (s : State) (f : Sched → Sched) : (s.modSched f).sched = f s.sched := rfl
@[simp] theorem State.modSched_awns (s : State) (f : Sched → Sched) : (s.modSched f).awns = s.awns := rfl
@[simp] theorem State.modSched_tiles (s : State) (f : Sched → Sched) : (s.modSched f).tiles = s.tiles := rfl
@[simp] theorem State.modSched_index (s : State) (f : Sched → Sched) : (s.modSched f).index = s.index := rfl
@[simp] theorem State.modSched_tier (s : State) (f : Sched → Sched) : (s.modSched f).tier = s.tier := rfl
@[simp] theorem State.modSched_masks (s : State) (f : Sched → Sched) : (s.modSched f).masks = s.masks := rfl
@[simp] theorem State.modSched_win (s : State) (f : Sched → Sched) : (s.modSched f).win = s.win := rfl
@[simp] theorem State.modSched_dom (s : State) (f : Sched → Sched) : (s.modSched f).dom = s.dom := rfl
@[simp] theorem State.modSched_xnt (s : State) (f : Sched → Sched) : (s.modSched f).xnt = s.xnt := rfl
@[simp] theorem State.modSched_ring (s : State) (f : Sched → Sched) : (s.modSched f).ring = s.ring := rfl
@[simp] theorem State.modSched_shadow (s : State) (f : Sched → Sched) : (s.modSched f).shadow = s.shadow := rfl
@[simp] theorem State.modSched_faults (s : State) (f : Sched → Sched) : (s.modSched f).faults = s.faults := rfl
@[simp] theorem State.modSched_therm (s : State) (f : Sched → Sched) : (s.modSched f).therm = s.therm := rfl
@[simp] theorem State.modSched_test (s : State) (f : Sched → Sched) : (s.modSched f).test = s.test := rfl
@[simp] theorem State.modSched_hostMem (s : State) (f : Sched → Sched) : (s.modSched f).hostMem = s.hostMem := rfl
@[simp] theorem State.modSched_nodeMem (s : State) (f : Sched → Sched) : (s.modSched f).nodeMem = s.nodeMem := rfl
@[simp] theorem State.modSched_out (s : State) (f : Sched → Sched) : (s.modSched f).out = s.out := rfl

@[simp] theorem State.modAwns_pending (s : State) (f : Awns → Awns) : (s.modAwns f).pending = s.pending := rfl
@[simp] theorem State.modAwns_power (s : State) (f : Awns → Awns) : (s.modAwns f).power = s.power := rfl
@[simp] theorem State.modAwns_boot (s : State) (f : Awns → Awns) : (s.modAwns f).boot = s.boot := rfl
@[simp] theorem State.modAwns_link (s : State) (f : Awns → Awns) : (s.modAwns f).link = s.link := rfl
@[simp] theorem State.modAwns_dict (s : State) (f : Awns → Awns) : (s.modAwns f).dict = s.dict := rfl
@[simp] theorem State.modAwns_prof (s : State) (f : Awns → Awns) : (s.modAwns f).prof = s.prof := rfl
@[simp] theorem State.modAwns_pages (s : State) (f : Awns → Awns) : (s.modAwns f).pages = s.pages := rfl
@[simp] theorem State.modAwns_seqs (s : State) (f : Awns → Awns) : (s.modAwns f).seqs = s.seqs := rfl
@[simp] theorem State.modAwns_queues (s : State) (f : Awns → Awns) : (s.modAwns f).queues = s.queues := rfl
@[simp] theorem State.modAwns_sched (s : State) (f : Awns → Awns) : (s.modAwns f).sched = s.sched := rfl
@[simp] theorem State.modAwns_awns (s : State) (f : Awns → Awns) : (s.modAwns f).awns = f s.awns := rfl
@[simp] theorem State.modAwns_tiles (s : State) (f : Awns → Awns) : (s.modAwns f).tiles = s.tiles := rfl
@[simp] theorem State.modAwns_index (s : State) (f : Awns → Awns) : (s.modAwns f).index = s.index := rfl
@[simp] theorem State.modAwns_tier (s : State) (f : Awns → Awns) : (s.modAwns f).tier = s.tier := rfl
@[simp] theorem State.modAwns_masks (s : State) (f : Awns → Awns) : (s.modAwns f).masks = s.masks := rfl
@[simp] theorem State.modAwns_win (s : State) (f : Awns → Awns) : (s.modAwns f).win = s.win := rfl
@[simp] theorem State.modAwns_dom (s : State) (f : Awns → Awns) : (s.modAwns f).dom = s.dom := rfl
@[simp] theorem State.modAwns_xnt (s : State) (f : Awns → Awns) : (s.modAwns f).xnt = s.xnt := rfl
@[simp] theorem State.modAwns_ring (s : State) (f : Awns → Awns) : (s.modAwns f).ring = s.ring := rfl
@[simp] theorem State.modAwns_shadow (s : State) (f : Awns → Awns) : (s.modAwns f).shadow = s.shadow := rfl
@[simp] theorem State.modAwns_faults (s : State) (f : Awns → Awns) : (s.modAwns f).faults = s.faults := rfl
@[simp] theorem State.modAwns_therm (s : State) (f : Awns → Awns) : (s.modAwns f).therm = s.therm := rfl
@[simp] theorem State.modAwns_test (s : State) (f : Awns → Awns) : (s.modAwns f).test = s.test := rfl
@[simp] theorem State.modAwns_hostMem (s : State) (f : Awns → Awns) : (s.modAwns f).hostMem = s.hostMem := rfl
@[simp] theorem State.modAwns_nodeMem (s : State) (f : Awns → Awns) : (s.modAwns f).nodeMem = s.nodeMem := rfl
@[simp] theorem State.modAwns_out (s : State) (f : Awns → Awns) : (s.modAwns f).out = s.out := rfl

@[simp] theorem State.modTiles_pending (s : State) (f : Tiles → Tiles) : (s.modTiles f).pending = s.pending := rfl
@[simp] theorem State.modTiles_power (s : State) (f : Tiles → Tiles) : (s.modTiles f).power = s.power := rfl
@[simp] theorem State.modTiles_boot (s : State) (f : Tiles → Tiles) : (s.modTiles f).boot = s.boot := rfl
@[simp] theorem State.modTiles_link (s : State) (f : Tiles → Tiles) : (s.modTiles f).link = s.link := rfl
@[simp] theorem State.modTiles_dict (s : State) (f : Tiles → Tiles) : (s.modTiles f).dict = s.dict := rfl
@[simp] theorem State.modTiles_prof (s : State) (f : Tiles → Tiles) : (s.modTiles f).prof = s.prof := rfl
@[simp] theorem State.modTiles_pages (s : State) (f : Tiles → Tiles) : (s.modTiles f).pages = s.pages := rfl
@[simp] theorem State.modTiles_seqs (s : State) (f : Tiles → Tiles) : (s.modTiles f).seqs = s.seqs := rfl
@[simp] theorem State.modTiles_queues (s : State) (f : Tiles → Tiles) : (s.modTiles f).queues = s.queues := rfl
@[simp] theorem State.modTiles_sched (s : State) (f : Tiles → Tiles) : (s.modTiles f).sched = s.sched := rfl
@[simp] theorem State.modTiles_awns (s : State) (f : Tiles → Tiles) : (s.modTiles f).awns = s.awns := rfl
@[simp] theorem State.modTiles_tiles (s : State) (f : Tiles → Tiles) : (s.modTiles f).tiles = f s.tiles := rfl
@[simp] theorem State.modTiles_index (s : State) (f : Tiles → Tiles) : (s.modTiles f).index = s.index := rfl
@[simp] theorem State.modTiles_tier (s : State) (f : Tiles → Tiles) : (s.modTiles f).tier = s.tier := rfl
@[simp] theorem State.modTiles_masks (s : State) (f : Tiles → Tiles) : (s.modTiles f).masks = s.masks := rfl
@[simp] theorem State.modTiles_win (s : State) (f : Tiles → Tiles) : (s.modTiles f).win = s.win := rfl
@[simp] theorem State.modTiles_dom (s : State) (f : Tiles → Tiles) : (s.modTiles f).dom = s.dom := rfl
@[simp] theorem State.modTiles_xnt (s : State) (f : Tiles → Tiles) : (s.modTiles f).xnt = s.xnt := rfl
@[simp] theorem State.modTiles_ring (s : State) (f : Tiles → Tiles) : (s.modTiles f).ring = s.ring := rfl
@[simp] theorem State.modTiles_shadow (s : State) (f : Tiles → Tiles) : (s.modTiles f).shadow = s.shadow := rfl
@[simp] theorem State.modTiles_faults (s : State) (f : Tiles → Tiles) : (s.modTiles f).faults = s.faults := rfl
@[simp] theorem State.modTiles_therm (s : State) (f : Tiles → Tiles) : (s.modTiles f).therm = s.therm := rfl
@[simp] theorem State.modTiles_test (s : State) (f : Tiles → Tiles) : (s.modTiles f).test = s.test := rfl
@[simp] theorem State.modTiles_hostMem (s : State) (f : Tiles → Tiles) : (s.modTiles f).hostMem = s.hostMem := rfl
@[simp] theorem State.modTiles_nodeMem (s : State) (f : Tiles → Tiles) : (s.modTiles f).nodeMem = s.nodeMem := rfl
@[simp] theorem State.modTiles_out (s : State) (f : Tiles → Tiles) : (s.modTiles f).out = s.out := rfl

@[simp] theorem State.modIndex_pending (s : State) (f : Index → Index) : (s.modIndex f).pending = s.pending := rfl
@[simp] theorem State.modIndex_power (s : State) (f : Index → Index) : (s.modIndex f).power = s.power := rfl
@[simp] theorem State.modIndex_boot (s : State) (f : Index → Index) : (s.modIndex f).boot = s.boot := rfl
@[simp] theorem State.modIndex_link (s : State) (f : Index → Index) : (s.modIndex f).link = s.link := rfl
@[simp] theorem State.modIndex_dict (s : State) (f : Index → Index) : (s.modIndex f).dict = s.dict := rfl
@[simp] theorem State.modIndex_prof (s : State) (f : Index → Index) : (s.modIndex f).prof = s.prof := rfl
@[simp] theorem State.modIndex_pages (s : State) (f : Index → Index) : (s.modIndex f).pages = s.pages := rfl
@[simp] theorem State.modIndex_seqs (s : State) (f : Index → Index) : (s.modIndex f).seqs = s.seqs := rfl
@[simp] theorem State.modIndex_queues (s : State) (f : Index → Index) : (s.modIndex f).queues = s.queues := rfl
@[simp] theorem State.modIndex_sched (s : State) (f : Index → Index) : (s.modIndex f).sched = s.sched := rfl
@[simp] theorem State.modIndex_awns (s : State) (f : Index → Index) : (s.modIndex f).awns = s.awns := rfl
@[simp] theorem State.modIndex_tiles (s : State) (f : Index → Index) : (s.modIndex f).tiles = s.tiles := rfl
@[simp] theorem State.modIndex_index (s : State) (f : Index → Index) : (s.modIndex f).index = f s.index := rfl
@[simp] theorem State.modIndex_tier (s : State) (f : Index → Index) : (s.modIndex f).tier = s.tier := rfl
@[simp] theorem State.modIndex_masks (s : State) (f : Index → Index) : (s.modIndex f).masks = s.masks := rfl
@[simp] theorem State.modIndex_win (s : State) (f : Index → Index) : (s.modIndex f).win = s.win := rfl
@[simp] theorem State.modIndex_dom (s : State) (f : Index → Index) : (s.modIndex f).dom = s.dom := rfl
@[simp] theorem State.modIndex_xnt (s : State) (f : Index → Index) : (s.modIndex f).xnt = s.xnt := rfl
@[simp] theorem State.modIndex_ring (s : State) (f : Index → Index) : (s.modIndex f).ring = s.ring := rfl
@[simp] theorem State.modIndex_shadow (s : State) (f : Index → Index) : (s.modIndex f).shadow = s.shadow := rfl
@[simp] theorem State.modIndex_faults (s : State) (f : Index → Index) : (s.modIndex f).faults = s.faults := rfl
@[simp] theorem State.modIndex_therm (s : State) (f : Index → Index) : (s.modIndex f).therm = s.therm := rfl
@[simp] theorem State.modIndex_test (s : State) (f : Index → Index) : (s.modIndex f).test = s.test := rfl
@[simp] theorem State.modIndex_hostMem (s : State) (f : Index → Index) : (s.modIndex f).hostMem = s.hostMem := rfl
@[simp] theorem State.modIndex_nodeMem (s : State) (f : Index → Index) : (s.modIndex f).nodeMem = s.nodeMem := rfl
@[simp] theorem State.modIndex_out (s : State) (f : Index → Index) : (s.modIndex f).out = s.out := rfl

@[simp] theorem State.modTier_pending (s : State) (f : Tier → Tier) : (s.modTier f).pending = s.pending := rfl
@[simp] theorem State.modTier_power (s : State) (f : Tier → Tier) : (s.modTier f).power = s.power := rfl
@[simp] theorem State.modTier_boot (s : State) (f : Tier → Tier) : (s.modTier f).boot = s.boot := rfl
@[simp] theorem State.modTier_link (s : State) (f : Tier → Tier) : (s.modTier f).link = s.link := rfl
@[simp] theorem State.modTier_dict (s : State) (f : Tier → Tier) : (s.modTier f).dict = s.dict := rfl
@[simp] theorem State.modTier_prof (s : State) (f : Tier → Tier) : (s.modTier f).prof = s.prof := rfl
@[simp] theorem State.modTier_pages (s : State) (f : Tier → Tier) : (s.modTier f).pages = s.pages := rfl
@[simp] theorem State.modTier_seqs (s : State) (f : Tier → Tier) : (s.modTier f).seqs = s.seqs := rfl
@[simp] theorem State.modTier_queues (s : State) (f : Tier → Tier) : (s.modTier f).queues = s.queues := rfl
@[simp] theorem State.modTier_sched (s : State) (f : Tier → Tier) : (s.modTier f).sched = s.sched := rfl
@[simp] theorem State.modTier_awns (s : State) (f : Tier → Tier) : (s.modTier f).awns = s.awns := rfl
@[simp] theorem State.modTier_tiles (s : State) (f : Tier → Tier) : (s.modTier f).tiles = s.tiles := rfl
@[simp] theorem State.modTier_index (s : State) (f : Tier → Tier) : (s.modTier f).index = s.index := rfl
@[simp] theorem State.modTier_tier (s : State) (f : Tier → Tier) : (s.modTier f).tier = f s.tier := rfl
@[simp] theorem State.modTier_masks (s : State) (f : Tier → Tier) : (s.modTier f).masks = s.masks := rfl
@[simp] theorem State.modTier_win (s : State) (f : Tier → Tier) : (s.modTier f).win = s.win := rfl
@[simp] theorem State.modTier_dom (s : State) (f : Tier → Tier) : (s.modTier f).dom = s.dom := rfl
@[simp] theorem State.modTier_xnt (s : State) (f : Tier → Tier) : (s.modTier f).xnt = s.xnt := rfl
@[simp] theorem State.modTier_ring (s : State) (f : Tier → Tier) : (s.modTier f).ring = s.ring := rfl
@[simp] theorem State.modTier_shadow (s : State) (f : Tier → Tier) : (s.modTier f).shadow = s.shadow := rfl
@[simp] theorem State.modTier_faults (s : State) (f : Tier → Tier) : (s.modTier f).faults = s.faults := rfl
@[simp] theorem State.modTier_therm (s : State) (f : Tier → Tier) : (s.modTier f).therm = s.therm := rfl
@[simp] theorem State.modTier_test (s : State) (f : Tier → Tier) : (s.modTier f).test = s.test := rfl
@[simp] theorem State.modTier_hostMem (s : State) (f : Tier → Tier) : (s.modTier f).hostMem = s.hostMem := rfl
@[simp] theorem State.modTier_nodeMem (s : State) (f : Tier → Tier) : (s.modTier f).nodeMem = s.nodeMem := rfl
@[simp] theorem State.modTier_out (s : State) (f : Tier → Tier) : (s.modTier f).out = s.out := rfl

@[simp] theorem State.modMasks_pending (s : State) (f : Masks → Masks) : (s.modMasks f).pending = s.pending := rfl
@[simp] theorem State.modMasks_power (s : State) (f : Masks → Masks) : (s.modMasks f).power = s.power := rfl
@[simp] theorem State.modMasks_boot (s : State) (f : Masks → Masks) : (s.modMasks f).boot = s.boot := rfl
@[simp] theorem State.modMasks_link (s : State) (f : Masks → Masks) : (s.modMasks f).link = s.link := rfl
@[simp] theorem State.modMasks_dict (s : State) (f : Masks → Masks) : (s.modMasks f).dict = s.dict := rfl
@[simp] theorem State.modMasks_prof (s : State) (f : Masks → Masks) : (s.modMasks f).prof = s.prof := rfl
@[simp] theorem State.modMasks_pages (s : State) (f : Masks → Masks) : (s.modMasks f).pages = s.pages := rfl
@[simp] theorem State.modMasks_seqs (s : State) (f : Masks → Masks) : (s.modMasks f).seqs = s.seqs := rfl
@[simp] theorem State.modMasks_queues (s : State) (f : Masks → Masks) : (s.modMasks f).queues = s.queues := rfl
@[simp] theorem State.modMasks_sched (s : State) (f : Masks → Masks) : (s.modMasks f).sched = s.sched := rfl
@[simp] theorem State.modMasks_awns (s : State) (f : Masks → Masks) : (s.modMasks f).awns = s.awns := rfl
@[simp] theorem State.modMasks_tiles (s : State) (f : Masks → Masks) : (s.modMasks f).tiles = s.tiles := rfl
@[simp] theorem State.modMasks_index (s : State) (f : Masks → Masks) : (s.modMasks f).index = s.index := rfl
@[simp] theorem State.modMasks_tier (s : State) (f : Masks → Masks) : (s.modMasks f).tier = s.tier := rfl
@[simp] theorem State.modMasks_masks (s : State) (f : Masks → Masks) : (s.modMasks f).masks = f s.masks := rfl
@[simp] theorem State.modMasks_win (s : State) (f : Masks → Masks) : (s.modMasks f).win = s.win := rfl
@[simp] theorem State.modMasks_dom (s : State) (f : Masks → Masks) : (s.modMasks f).dom = s.dom := rfl
@[simp] theorem State.modMasks_xnt (s : State) (f : Masks → Masks) : (s.modMasks f).xnt = s.xnt := rfl
@[simp] theorem State.modMasks_ring (s : State) (f : Masks → Masks) : (s.modMasks f).ring = s.ring := rfl
@[simp] theorem State.modMasks_shadow (s : State) (f : Masks → Masks) : (s.modMasks f).shadow = s.shadow := rfl
@[simp] theorem State.modMasks_faults (s : State) (f : Masks → Masks) : (s.modMasks f).faults = s.faults := rfl
@[simp] theorem State.modMasks_therm (s : State) (f : Masks → Masks) : (s.modMasks f).therm = s.therm := rfl
@[simp] theorem State.modMasks_test (s : State) (f : Masks → Masks) : (s.modMasks f).test = s.test := rfl
@[simp] theorem State.modMasks_hostMem (s : State) (f : Masks → Masks) : (s.modMasks f).hostMem = s.hostMem := rfl
@[simp] theorem State.modMasks_nodeMem (s : State) (f : Masks → Masks) : (s.modMasks f).nodeMem = s.nodeMem := rfl
@[simp] theorem State.modMasks_out (s : State) (f : Masks → Masks) : (s.modMasks f).out = s.out := rfl

@[simp] theorem State.modWin_pending (s : State) (f : Window → Window) : (s.modWin f).pending = s.pending := rfl
@[simp] theorem State.modWin_power (s : State) (f : Window → Window) : (s.modWin f).power = s.power := rfl
@[simp] theorem State.modWin_boot (s : State) (f : Window → Window) : (s.modWin f).boot = s.boot := rfl
@[simp] theorem State.modWin_link (s : State) (f : Window → Window) : (s.modWin f).link = s.link := rfl
@[simp] theorem State.modWin_dict (s : State) (f : Window → Window) : (s.modWin f).dict = s.dict := rfl
@[simp] theorem State.modWin_prof (s : State) (f : Window → Window) : (s.modWin f).prof = s.prof := rfl
@[simp] theorem State.modWin_pages (s : State) (f : Window → Window) : (s.modWin f).pages = s.pages := rfl
@[simp] theorem State.modWin_seqs (s : State) (f : Window → Window) : (s.modWin f).seqs = s.seqs := rfl
@[simp] theorem State.modWin_queues (s : State) (f : Window → Window) : (s.modWin f).queues = s.queues := rfl
@[simp] theorem State.modWin_sched (s : State) (f : Window → Window) : (s.modWin f).sched = s.sched := rfl
@[simp] theorem State.modWin_awns (s : State) (f : Window → Window) : (s.modWin f).awns = s.awns := rfl
@[simp] theorem State.modWin_tiles (s : State) (f : Window → Window) : (s.modWin f).tiles = s.tiles := rfl
@[simp] theorem State.modWin_index (s : State) (f : Window → Window) : (s.modWin f).index = s.index := rfl
@[simp] theorem State.modWin_tier (s : State) (f : Window → Window) : (s.modWin f).tier = s.tier := rfl
@[simp] theorem State.modWin_masks (s : State) (f : Window → Window) : (s.modWin f).masks = s.masks := rfl
@[simp] theorem State.modWin_win (s : State) (f : Window → Window) : (s.modWin f).win = f s.win := rfl
@[simp] theorem State.modWin_dom (s : State) (f : Window → Window) : (s.modWin f).dom = s.dom := rfl
@[simp] theorem State.modWin_xnt (s : State) (f : Window → Window) : (s.modWin f).xnt = s.xnt := rfl
@[simp] theorem State.modWin_ring (s : State) (f : Window → Window) : (s.modWin f).ring = s.ring := rfl
@[simp] theorem State.modWin_shadow (s : State) (f : Window → Window) : (s.modWin f).shadow = s.shadow := rfl
@[simp] theorem State.modWin_faults (s : State) (f : Window → Window) : (s.modWin f).faults = s.faults := rfl
@[simp] theorem State.modWin_therm (s : State) (f : Window → Window) : (s.modWin f).therm = s.therm := rfl
@[simp] theorem State.modWin_test (s : State) (f : Window → Window) : (s.modWin f).test = s.test := rfl
@[simp] theorem State.modWin_hostMem (s : State) (f : Window → Window) : (s.modWin f).hostMem = s.hostMem := rfl
@[simp] theorem State.modWin_nodeMem (s : State) (f : Window → Window) : (s.modWin f).nodeMem = s.nodeMem := rfl
@[simp] theorem State.modWin_out (s : State) (f : Window → Window) : (s.modWin f).out = s.out := rfl

@[simp] theorem State.modDom_pending (s : State) (f : Domains → Domains) : (s.modDom f).pending = s.pending := rfl
@[simp] theorem State.modDom_power (s : State) (f : Domains → Domains) : (s.modDom f).power = s.power := rfl
@[simp] theorem State.modDom_boot (s : State) (f : Domains → Domains) : (s.modDom f).boot = s.boot := rfl
@[simp] theorem State.modDom_link (s : State) (f : Domains → Domains) : (s.modDom f).link = s.link := rfl
@[simp] theorem State.modDom_dict (s : State) (f : Domains → Domains) : (s.modDom f).dict = s.dict := rfl
@[simp] theorem State.modDom_prof (s : State) (f : Domains → Domains) : (s.modDom f).prof = s.prof := rfl
@[simp] theorem State.modDom_pages (s : State) (f : Domains → Domains) : (s.modDom f).pages = s.pages := rfl
@[simp] theorem State.modDom_seqs (s : State) (f : Domains → Domains) : (s.modDom f).seqs = s.seqs := rfl
@[simp] theorem State.modDom_queues (s : State) (f : Domains → Domains) : (s.modDom f).queues = s.queues := rfl
@[simp] theorem State.modDom_sched (s : State) (f : Domains → Domains) : (s.modDom f).sched = s.sched := rfl
@[simp] theorem State.modDom_awns (s : State) (f : Domains → Domains) : (s.modDom f).awns = s.awns := rfl
@[simp] theorem State.modDom_tiles (s : State) (f : Domains → Domains) : (s.modDom f).tiles = s.tiles := rfl
@[simp] theorem State.modDom_index (s : State) (f : Domains → Domains) : (s.modDom f).index = s.index := rfl
@[simp] theorem State.modDom_tier (s : State) (f : Domains → Domains) : (s.modDom f).tier = s.tier := rfl
@[simp] theorem State.modDom_masks (s : State) (f : Domains → Domains) : (s.modDom f).masks = s.masks := rfl
@[simp] theorem State.modDom_win (s : State) (f : Domains → Domains) : (s.modDom f).win = s.win := rfl
@[simp] theorem State.modDom_dom (s : State) (f : Domains → Domains) : (s.modDom f).dom = f s.dom := rfl
@[simp] theorem State.modDom_xnt (s : State) (f : Domains → Domains) : (s.modDom f).xnt = s.xnt := rfl
@[simp] theorem State.modDom_ring (s : State) (f : Domains → Domains) : (s.modDom f).ring = s.ring := rfl
@[simp] theorem State.modDom_shadow (s : State) (f : Domains → Domains) : (s.modDom f).shadow = s.shadow := rfl
@[simp] theorem State.modDom_faults (s : State) (f : Domains → Domains) : (s.modDom f).faults = s.faults := rfl
@[simp] theorem State.modDom_therm (s : State) (f : Domains → Domains) : (s.modDom f).therm = s.therm := rfl
@[simp] theorem State.modDom_test (s : State) (f : Domains → Domains) : (s.modDom f).test = s.test := rfl
@[simp] theorem State.modDom_hostMem (s : State) (f : Domains → Domains) : (s.modDom f).hostMem = s.hostMem := rfl
@[simp] theorem State.modDom_nodeMem (s : State) (f : Domains → Domains) : (s.modDom f).nodeMem = s.nodeMem := rfl
@[simp] theorem State.modDom_out (s : State) (f : Domains → Domains) : (s.modDom f).out = s.out := rfl

@[simp] theorem State.modXnt_pending (s : State) (f : Xnt → Xnt) : (s.modXnt f).pending = s.pending := rfl
@[simp] theorem State.modXnt_power (s : State) (f : Xnt → Xnt) : (s.modXnt f).power = s.power := rfl
@[simp] theorem State.modXnt_boot (s : State) (f : Xnt → Xnt) : (s.modXnt f).boot = s.boot := rfl
@[simp] theorem State.modXnt_link (s : State) (f : Xnt → Xnt) : (s.modXnt f).link = s.link := rfl
@[simp] theorem State.modXnt_dict (s : State) (f : Xnt → Xnt) : (s.modXnt f).dict = s.dict := rfl
@[simp] theorem State.modXnt_prof (s : State) (f : Xnt → Xnt) : (s.modXnt f).prof = s.prof := rfl
@[simp] theorem State.modXnt_pages (s : State) (f : Xnt → Xnt) : (s.modXnt f).pages = s.pages := rfl
@[simp] theorem State.modXnt_seqs (s : State) (f : Xnt → Xnt) : (s.modXnt f).seqs = s.seqs := rfl
@[simp] theorem State.modXnt_queues (s : State) (f : Xnt → Xnt) : (s.modXnt f).queues = s.queues := rfl
@[simp] theorem State.modXnt_sched (s : State) (f : Xnt → Xnt) : (s.modXnt f).sched = s.sched := rfl
@[simp] theorem State.modXnt_awns (s : State) (f : Xnt → Xnt) : (s.modXnt f).awns = s.awns := rfl
@[simp] theorem State.modXnt_tiles (s : State) (f : Xnt → Xnt) : (s.modXnt f).tiles = s.tiles := rfl
@[simp] theorem State.modXnt_index (s : State) (f : Xnt → Xnt) : (s.modXnt f).index = s.index := rfl
@[simp] theorem State.modXnt_tier (s : State) (f : Xnt → Xnt) : (s.modXnt f).tier = s.tier := rfl
@[simp] theorem State.modXnt_masks (s : State) (f : Xnt → Xnt) : (s.modXnt f).masks = s.masks := rfl
@[simp] theorem State.modXnt_win (s : State) (f : Xnt → Xnt) : (s.modXnt f).win = s.win := rfl
@[simp] theorem State.modXnt_dom (s : State) (f : Xnt → Xnt) : (s.modXnt f).dom = s.dom := rfl
@[simp] theorem State.modXnt_xnt (s : State) (f : Xnt → Xnt) : (s.modXnt f).xnt = f s.xnt := rfl
@[simp] theorem State.modXnt_ring (s : State) (f : Xnt → Xnt) : (s.modXnt f).ring = s.ring := rfl
@[simp] theorem State.modXnt_shadow (s : State) (f : Xnt → Xnt) : (s.modXnt f).shadow = s.shadow := rfl
@[simp] theorem State.modXnt_faults (s : State) (f : Xnt → Xnt) : (s.modXnt f).faults = s.faults := rfl
@[simp] theorem State.modXnt_therm (s : State) (f : Xnt → Xnt) : (s.modXnt f).therm = s.therm := rfl
@[simp] theorem State.modXnt_test (s : State) (f : Xnt → Xnt) : (s.modXnt f).test = s.test := rfl
@[simp] theorem State.modXnt_hostMem (s : State) (f : Xnt → Xnt) : (s.modXnt f).hostMem = s.hostMem := rfl
@[simp] theorem State.modXnt_nodeMem (s : State) (f : Xnt → Xnt) : (s.modXnt f).nodeMem = s.nodeMem := rfl
@[simp] theorem State.modXnt_out (s : State) (f : Xnt → Xnt) : (s.modXnt f).out = s.out := rfl

@[simp] theorem State.modRing_pending (s : State) (f : Ring → Ring) : (s.modRing f).pending = s.pending := rfl
@[simp] theorem State.modRing_power (s : State) (f : Ring → Ring) : (s.modRing f).power = s.power := rfl
@[simp] theorem State.modRing_boot (s : State) (f : Ring → Ring) : (s.modRing f).boot = s.boot := rfl
@[simp] theorem State.modRing_link (s : State) (f : Ring → Ring) : (s.modRing f).link = s.link := rfl
@[simp] theorem State.modRing_dict (s : State) (f : Ring → Ring) : (s.modRing f).dict = s.dict := rfl
@[simp] theorem State.modRing_prof (s : State) (f : Ring → Ring) : (s.modRing f).prof = s.prof := rfl
@[simp] theorem State.modRing_pages (s : State) (f : Ring → Ring) : (s.modRing f).pages = s.pages := rfl
@[simp] theorem State.modRing_seqs (s : State) (f : Ring → Ring) : (s.modRing f).seqs = s.seqs := rfl
@[simp] theorem State.modRing_queues (s : State) (f : Ring → Ring) : (s.modRing f).queues = s.queues := rfl
@[simp] theorem State.modRing_sched (s : State) (f : Ring → Ring) : (s.modRing f).sched = s.sched := rfl
@[simp] theorem State.modRing_awns (s : State) (f : Ring → Ring) : (s.modRing f).awns = s.awns := rfl
@[simp] theorem State.modRing_tiles (s : State) (f : Ring → Ring) : (s.modRing f).tiles = s.tiles := rfl
@[simp] theorem State.modRing_index (s : State) (f : Ring → Ring) : (s.modRing f).index = s.index := rfl
@[simp] theorem State.modRing_tier (s : State) (f : Ring → Ring) : (s.modRing f).tier = s.tier := rfl
@[simp] theorem State.modRing_masks (s : State) (f : Ring → Ring) : (s.modRing f).masks = s.masks := rfl
@[simp] theorem State.modRing_win (s : State) (f : Ring → Ring) : (s.modRing f).win = s.win := rfl
@[simp] theorem State.modRing_dom (s : State) (f : Ring → Ring) : (s.modRing f).dom = s.dom := rfl
@[simp] theorem State.modRing_xnt (s : State) (f : Ring → Ring) : (s.modRing f).xnt = s.xnt := rfl
@[simp] theorem State.modRing_ring (s : State) (f : Ring → Ring) : (s.modRing f).ring = f s.ring := rfl
@[simp] theorem State.modRing_shadow (s : State) (f : Ring → Ring) : (s.modRing f).shadow = s.shadow := rfl
@[simp] theorem State.modRing_faults (s : State) (f : Ring → Ring) : (s.modRing f).faults = s.faults := rfl
@[simp] theorem State.modRing_therm (s : State) (f : Ring → Ring) : (s.modRing f).therm = s.therm := rfl
@[simp] theorem State.modRing_test (s : State) (f : Ring → Ring) : (s.modRing f).test = s.test := rfl
@[simp] theorem State.modRing_hostMem (s : State) (f : Ring → Ring) : (s.modRing f).hostMem = s.hostMem := rfl
@[simp] theorem State.modRing_nodeMem (s : State) (f : Ring → Ring) : (s.modRing f).nodeMem = s.nodeMem := rfl
@[simp] theorem State.modRing_out (s : State) (f : Ring → Ring) : (s.modRing f).out = s.out := rfl

@[simp] theorem State.modShadow_pending (s : State) (f : Shadow → Shadow) : (s.modShadow f).pending = s.pending := rfl
@[simp] theorem State.modShadow_power (s : State) (f : Shadow → Shadow) : (s.modShadow f).power = s.power := rfl
@[simp] theorem State.modShadow_boot (s : State) (f : Shadow → Shadow) : (s.modShadow f).boot = s.boot := rfl
@[simp] theorem State.modShadow_link (s : State) (f : Shadow → Shadow) : (s.modShadow f).link = s.link := rfl
@[simp] theorem State.modShadow_dict (s : State) (f : Shadow → Shadow) : (s.modShadow f).dict = s.dict := rfl
@[simp] theorem State.modShadow_prof (s : State) (f : Shadow → Shadow) : (s.modShadow f).prof = s.prof := rfl
@[simp] theorem State.modShadow_pages (s : State) (f : Shadow → Shadow) : (s.modShadow f).pages = s.pages := rfl
@[simp] theorem State.modShadow_seqs (s : State) (f : Shadow → Shadow) : (s.modShadow f).seqs = s.seqs := rfl
@[simp] theorem State.modShadow_queues (s : State) (f : Shadow → Shadow) : (s.modShadow f).queues = s.queues := rfl
@[simp] theorem State.modShadow_sched (s : State) (f : Shadow → Shadow) : (s.modShadow f).sched = s.sched := rfl
@[simp] theorem State.modShadow_awns (s : State) (f : Shadow → Shadow) : (s.modShadow f).awns = s.awns := rfl
@[simp] theorem State.modShadow_tiles (s : State) (f : Shadow → Shadow) : (s.modShadow f).tiles = s.tiles := rfl
@[simp] theorem State.modShadow_index (s : State) (f : Shadow → Shadow) : (s.modShadow f).index = s.index := rfl
@[simp] theorem State.modShadow_tier (s : State) (f : Shadow → Shadow) : (s.modShadow f).tier = s.tier := rfl
@[simp] theorem State.modShadow_masks (s : State) (f : Shadow → Shadow) : (s.modShadow f).masks = s.masks := rfl
@[simp] theorem State.modShadow_win (s : State) (f : Shadow → Shadow) : (s.modShadow f).win = s.win := rfl
@[simp] theorem State.modShadow_dom (s : State) (f : Shadow → Shadow) : (s.modShadow f).dom = s.dom := rfl
@[simp] theorem State.modShadow_xnt (s : State) (f : Shadow → Shadow) : (s.modShadow f).xnt = s.xnt := rfl
@[simp] theorem State.modShadow_ring (s : State) (f : Shadow → Shadow) : (s.modShadow f).ring = s.ring := rfl
@[simp] theorem State.modShadow_shadow (s : State) (f : Shadow → Shadow) : (s.modShadow f).shadow = f s.shadow := rfl
@[simp] theorem State.modShadow_faults (s : State) (f : Shadow → Shadow) : (s.modShadow f).faults = s.faults := rfl
@[simp] theorem State.modShadow_therm (s : State) (f : Shadow → Shadow) : (s.modShadow f).therm = s.therm := rfl
@[simp] theorem State.modShadow_test (s : State) (f : Shadow → Shadow) : (s.modShadow f).test = s.test := rfl
@[simp] theorem State.modShadow_hostMem (s : State) (f : Shadow → Shadow) : (s.modShadow f).hostMem = s.hostMem := rfl
@[simp] theorem State.modShadow_nodeMem (s : State) (f : Shadow → Shadow) : (s.modShadow f).nodeMem = s.nodeMem := rfl
@[simp] theorem State.modShadow_out (s : State) (f : Shadow → Shadow) : (s.modShadow f).out = s.out := rfl

@[simp] theorem State.modFaults_pending (s : State) (f : Faults → Faults) : (s.modFaults f).pending = s.pending := rfl
@[simp] theorem State.modFaults_power (s : State) (f : Faults → Faults) : (s.modFaults f).power = s.power := rfl
@[simp] theorem State.modFaults_boot (s : State) (f : Faults → Faults) : (s.modFaults f).boot = s.boot := rfl
@[simp] theorem State.modFaults_link (s : State) (f : Faults → Faults) : (s.modFaults f).link = s.link := rfl
@[simp] theorem State.modFaults_dict (s : State) (f : Faults → Faults) : (s.modFaults f).dict = s.dict := rfl
@[simp] theorem State.modFaults_prof (s : State) (f : Faults → Faults) : (s.modFaults f).prof = s.prof := rfl
@[simp] theorem State.modFaults_pages (s : State) (f : Faults → Faults) : (s.modFaults f).pages = s.pages := rfl
@[simp] theorem State.modFaults_seqs (s : State) (f : Faults → Faults) : (s.modFaults f).seqs = s.seqs := rfl
@[simp] theorem State.modFaults_queues (s : State) (f : Faults → Faults) : (s.modFaults f).queues = s.queues := rfl
@[simp] theorem State.modFaults_sched (s : State) (f : Faults → Faults) : (s.modFaults f).sched = s.sched := rfl
@[simp] theorem State.modFaults_awns (s : State) (f : Faults → Faults) : (s.modFaults f).awns = s.awns := rfl
@[simp] theorem State.modFaults_tiles (s : State) (f : Faults → Faults) : (s.modFaults f).tiles = s.tiles := rfl
@[simp] theorem State.modFaults_index (s : State) (f : Faults → Faults) : (s.modFaults f).index = s.index := rfl
@[simp] theorem State.modFaults_tier (s : State) (f : Faults → Faults) : (s.modFaults f).tier = s.tier := rfl
@[simp] theorem State.modFaults_masks (s : State) (f : Faults → Faults) : (s.modFaults f).masks = s.masks := rfl
@[simp] theorem State.modFaults_win (s : State) (f : Faults → Faults) : (s.modFaults f).win = s.win := rfl
@[simp] theorem State.modFaults_dom (s : State) (f : Faults → Faults) : (s.modFaults f).dom = s.dom := rfl
@[simp] theorem State.modFaults_xnt (s : State) (f : Faults → Faults) : (s.modFaults f).xnt = s.xnt := rfl
@[simp] theorem State.modFaults_ring (s : State) (f : Faults → Faults) : (s.modFaults f).ring = s.ring := rfl
@[simp] theorem State.modFaults_shadow (s : State) (f : Faults → Faults) : (s.modFaults f).shadow = s.shadow := rfl
@[simp] theorem State.modFaults_faults (s : State) (f : Faults → Faults) : (s.modFaults f).faults = f s.faults := rfl
@[simp] theorem State.modFaults_therm (s : State) (f : Faults → Faults) : (s.modFaults f).therm = s.therm := rfl
@[simp] theorem State.modFaults_test (s : State) (f : Faults → Faults) : (s.modFaults f).test = s.test := rfl
@[simp] theorem State.modFaults_hostMem (s : State) (f : Faults → Faults) : (s.modFaults f).hostMem = s.hostMem := rfl
@[simp] theorem State.modFaults_nodeMem (s : State) (f : Faults → Faults) : (s.modFaults f).nodeMem = s.nodeMem := rfl
@[simp] theorem State.modFaults_out (s : State) (f : Faults → Faults) : (s.modFaults f).out = s.out := rfl

@[simp] theorem State.modTherm_pending (s : State) (f : Therm → Therm) : (s.modTherm f).pending = s.pending := rfl
@[simp] theorem State.modTherm_power (s : State) (f : Therm → Therm) : (s.modTherm f).power = s.power := rfl
@[simp] theorem State.modTherm_boot (s : State) (f : Therm → Therm) : (s.modTherm f).boot = s.boot := rfl
@[simp] theorem State.modTherm_link (s : State) (f : Therm → Therm) : (s.modTherm f).link = s.link := rfl
@[simp] theorem State.modTherm_dict (s : State) (f : Therm → Therm) : (s.modTherm f).dict = s.dict := rfl
@[simp] theorem State.modTherm_prof (s : State) (f : Therm → Therm) : (s.modTherm f).prof = s.prof := rfl
@[simp] theorem State.modTherm_pages (s : State) (f : Therm → Therm) : (s.modTherm f).pages = s.pages := rfl
@[simp] theorem State.modTherm_seqs (s : State) (f : Therm → Therm) : (s.modTherm f).seqs = s.seqs := rfl
@[simp] theorem State.modTherm_queues (s : State) (f : Therm → Therm) : (s.modTherm f).queues = s.queues := rfl
@[simp] theorem State.modTherm_sched (s : State) (f : Therm → Therm) : (s.modTherm f).sched = s.sched := rfl
@[simp] theorem State.modTherm_awns (s : State) (f : Therm → Therm) : (s.modTherm f).awns = s.awns := rfl
@[simp] theorem State.modTherm_tiles (s : State) (f : Therm → Therm) : (s.modTherm f).tiles = s.tiles := rfl
@[simp] theorem State.modTherm_index (s : State) (f : Therm → Therm) : (s.modTherm f).index = s.index := rfl
@[simp] theorem State.modTherm_tier (s : State) (f : Therm → Therm) : (s.modTherm f).tier = s.tier := rfl
@[simp] theorem State.modTherm_masks (s : State) (f : Therm → Therm) : (s.modTherm f).masks = s.masks := rfl
@[simp] theorem State.modTherm_win (s : State) (f : Therm → Therm) : (s.modTherm f).win = s.win := rfl
@[simp] theorem State.modTherm_dom (s : State) (f : Therm → Therm) : (s.modTherm f).dom = s.dom := rfl
@[simp] theorem State.modTherm_xnt (s : State) (f : Therm → Therm) : (s.modTherm f).xnt = s.xnt := rfl
@[simp] theorem State.modTherm_ring (s : State) (f : Therm → Therm) : (s.modTherm f).ring = s.ring := rfl
@[simp] theorem State.modTherm_shadow (s : State) (f : Therm → Therm) : (s.modTherm f).shadow = s.shadow := rfl
@[simp] theorem State.modTherm_faults (s : State) (f : Therm → Therm) : (s.modTherm f).faults = s.faults := rfl
@[simp] theorem State.modTherm_therm (s : State) (f : Therm → Therm) : (s.modTherm f).therm = f s.therm := rfl
@[simp] theorem State.modTherm_test (s : State) (f : Therm → Therm) : (s.modTherm f).test = s.test := rfl
@[simp] theorem State.modTherm_hostMem (s : State) (f : Therm → Therm) : (s.modTherm f).hostMem = s.hostMem := rfl
@[simp] theorem State.modTherm_nodeMem (s : State) (f : Therm → Therm) : (s.modTherm f).nodeMem = s.nodeMem := rfl
@[simp] theorem State.modTherm_out (s : State) (f : Therm → Therm) : (s.modTherm f).out = s.out := rfl

@[simp] theorem State.modTest_pending (s : State) (f : Test → Test) : (s.modTest f).pending = s.pending := rfl
@[simp] theorem State.modTest_power (s : State) (f : Test → Test) : (s.modTest f).power = s.power := rfl
@[simp] theorem State.modTest_boot (s : State) (f : Test → Test) : (s.modTest f).boot = s.boot := rfl
@[simp] theorem State.modTest_link (s : State) (f : Test → Test) : (s.modTest f).link = s.link := rfl
@[simp] theorem State.modTest_dict (s : State) (f : Test → Test) : (s.modTest f).dict = s.dict := rfl
@[simp] theorem State.modTest_prof (s : State) (f : Test → Test) : (s.modTest f).prof = s.prof := rfl
@[simp] theorem State.modTest_pages (s : State) (f : Test → Test) : (s.modTest f).pages = s.pages := rfl
@[simp] theorem State.modTest_seqs (s : State) (f : Test → Test) : (s.modTest f).seqs = s.seqs := rfl
@[simp] theorem State.modTest_queues (s : State) (f : Test → Test) : (s.modTest f).queues = s.queues := rfl
@[simp] theorem State.modTest_sched (s : State) (f : Test → Test) : (s.modTest f).sched = s.sched := rfl
@[simp] theorem State.modTest_awns (s : State) (f : Test → Test) : (s.modTest f).awns = s.awns := rfl
@[simp] theorem State.modTest_tiles (s : State) (f : Test → Test) : (s.modTest f).tiles = s.tiles := rfl
@[simp] theorem State.modTest_index (s : State) (f : Test → Test) : (s.modTest f).index = s.index := rfl
@[simp] theorem State.modTest_tier (s : State) (f : Test → Test) : (s.modTest f).tier = s.tier := rfl
@[simp] theorem State.modTest_masks (s : State) (f : Test → Test) : (s.modTest f).masks = s.masks := rfl
@[simp] theorem State.modTest_win (s : State) (f : Test → Test) : (s.modTest f).win = s.win := rfl
@[simp] theorem State.modTest_dom (s : State) (f : Test → Test) : (s.modTest f).dom = s.dom := rfl
@[simp] theorem State.modTest_xnt (s : State) (f : Test → Test) : (s.modTest f).xnt = s.xnt := rfl
@[simp] theorem State.modTest_ring (s : State) (f : Test → Test) : (s.modTest f).ring = s.ring := rfl
@[simp] theorem State.modTest_shadow (s : State) (f : Test → Test) : (s.modTest f).shadow = s.shadow := rfl
@[simp] theorem State.modTest_faults (s : State) (f : Test → Test) : (s.modTest f).faults = s.faults := rfl
@[simp] theorem State.modTest_therm (s : State) (f : Test → Test) : (s.modTest f).therm = s.therm := rfl
@[simp] theorem State.modTest_test (s : State) (f : Test → Test) : (s.modTest f).test = f s.test := rfl
@[simp] theorem State.modTest_hostMem (s : State) (f : Test → Test) : (s.modTest f).hostMem = s.hostMem := rfl
@[simp] theorem State.modTest_nodeMem (s : State) (f : Test → Test) : (s.modTest f).nodeMem = s.nodeMem := rfl
@[simp] theorem State.modTest_out (s : State) (f : Test → Test) : (s.modTest f).out = s.out := rfl

@[simp] theorem State.emit_pending (s : State) (o : Output) : (s.emit o).pending = s.pending := rfl
@[simp] theorem State.emit_power (s : State) (o : Output) : (s.emit o).power = s.power := rfl
@[simp] theorem State.emit_boot (s : State) (o : Output) : (s.emit o).boot = s.boot := rfl
@[simp] theorem State.emit_link (s : State) (o : Output) : (s.emit o).link = s.link := rfl
@[simp] theorem State.emit_dict (s : State) (o : Output) : (s.emit o).dict = s.dict := rfl
@[simp] theorem State.emit_prof (s : State) (o : Output) : (s.emit o).prof = s.prof := rfl
@[simp] theorem State.emit_pages (s : State) (o : Output) : (s.emit o).pages = s.pages := rfl
@[simp] theorem State.emit_seqs (s : State) (o : Output) : (s.emit o).seqs = s.seqs := rfl
@[simp] theorem State.emit_queues (s : State) (o : Output) : (s.emit o).queues = s.queues := rfl
@[simp] theorem State.emit_sched (s : State) (o : Output) : (s.emit o).sched = s.sched := rfl
@[simp] theorem State.emit_awns (s : State) (o : Output) : (s.emit o).awns = s.awns := rfl
@[simp] theorem State.emit_tiles (s : State) (o : Output) : (s.emit o).tiles = s.tiles := rfl
@[simp] theorem State.emit_index (s : State) (o : Output) : (s.emit o).index = s.index := rfl
@[simp] theorem State.emit_tier (s : State) (o : Output) : (s.emit o).tier = s.tier := rfl
@[simp] theorem State.emit_masks (s : State) (o : Output) : (s.emit o).masks = s.masks := rfl
@[simp] theorem State.emit_win (s : State) (o : Output) : (s.emit o).win = s.win := rfl
@[simp] theorem State.emit_dom (s : State) (o : Output) : (s.emit o).dom = s.dom := rfl
@[simp] theorem State.emit_xnt (s : State) (o : Output) : (s.emit o).xnt = s.xnt := rfl
@[simp] theorem State.emit_ring (s : State) (o : Output) : (s.emit o).ring = s.ring := rfl
@[simp] theorem State.emit_shadow (s : State) (o : Output) : (s.emit o).shadow = s.shadow := rfl
@[simp] theorem State.emit_faults (s : State) (o : Output) : (s.emit o).faults = s.faults := rfl
@[simp] theorem State.emit_therm (s : State) (o : Output) : (s.emit o).therm = s.therm := rfl
@[simp] theorem State.emit_test (s : State) (o : Output) : (s.emit o).test = s.test := rfl
@[simp] theorem State.emit_hostMem (s : State) (o : Output) : (s.emit o).hostMem = s.hostMem := rfl
@[simp] theorem State.emit_nodeMem (s : State) (o : Output) : (s.emit o).nodeMem = s.nodeMem := rfl
@[simp] theorem State.emit_out (s : State) (o : Output) : (s.emit o).out = s.out ++ [o] := rfl

@[simp] theorem State.hostWrite_pending (s : State) (a : Nat) (l : List Byte) : (s.hostWrite a l).pending = s.pending := rfl
@[simp] theorem State.hostWrite_power (s : State) (a : Nat) (l : List Byte) : (s.hostWrite a l).power = s.power := rfl
@[simp] theorem State.hostWrite_boot (s : State) (a : Nat) (l : List Byte) : (s.hostWrite a l).boot = s.boot := rfl
@[simp] theorem State.hostWrite_link (s : State) (a : Nat) (l : List Byte) : (s.hostWrite a l).link = s.link := rfl
@[simp] theorem State.hostWrite_dict (s : State) (a : Nat) (l : List Byte) : (s.hostWrite a l).dict = s.dict := rfl
@[simp] theorem State.hostWrite_prof (s : State) (a : Nat) (l : List Byte) : (s.hostWrite a l).prof = s.prof := rfl
@[simp] theorem State.hostWrite_pages (s : State) (a : Nat) (l : List Byte) : (s.hostWrite a l).pages = s.pages := rfl
@[simp] theorem State.hostWrite_seqs (s : State) (a : Nat) (l : List Byte) : (s.hostWrite a l).seqs = s.seqs := rfl
@[simp] theorem State.hostWrite_queues (s : State) (a : Nat) (l : List Byte) : (s.hostWrite a l).queues = s.queues := rfl
@[simp] theorem State.hostWrite_sched (s : State) (a : Nat) (l : List Byte) : (s.hostWrite a l).sched = s.sched := rfl
@[simp] theorem State.hostWrite_awns (s : State) (a : Nat) (l : List Byte) : (s.hostWrite a l).awns = s.awns := rfl
@[simp] theorem State.hostWrite_tiles (s : State) (a : Nat) (l : List Byte) : (s.hostWrite a l).tiles = s.tiles := rfl
@[simp] theorem State.hostWrite_index (s : State) (a : Nat) (l : List Byte) : (s.hostWrite a l).index = s.index := rfl
@[simp] theorem State.hostWrite_tier (s : State) (a : Nat) (l : List Byte) : (s.hostWrite a l).tier = s.tier := rfl
@[simp] theorem State.hostWrite_masks (s : State) (a : Nat) (l : List Byte) : (s.hostWrite a l).masks = s.masks := rfl
@[simp] theorem State.hostWrite_win (s : State) (a : Nat) (l : List Byte) : (s.hostWrite a l).win = s.win := rfl
@[simp] theorem State.hostWrite_dom (s : State) (a : Nat) (l : List Byte) : (s.hostWrite a l).dom = s.dom := rfl
@[simp] theorem State.hostWrite_xnt (s : State) (a : Nat) (l : List Byte) : (s.hostWrite a l).xnt = s.xnt := rfl
@[simp] theorem State.hostWrite_ring (s : State) (a : Nat) (l : List Byte) : (s.hostWrite a l).ring = s.ring := rfl
@[simp] theorem State.hostWrite_shadow (s : State) (a : Nat) (l : List Byte) : (s.hostWrite a l).shadow = s.shadow := rfl
@[simp] theorem State.hostWrite_faults (s : State) (a : Nat) (l : List Byte) : (s.hostWrite a l).faults = s.faults := rfl
@[simp] theorem State.hostWrite_therm (s : State) (a : Nat) (l : List Byte) : (s.hostWrite a l).therm = s.therm := rfl
@[simp] theorem State.hostWrite_test (s : State) (a : Nat) (l : List Byte) : (s.hostWrite a l).test = s.test := rfl
@[simp] theorem State.hostWrite_hostMem (s : State) (a : Nat) (l : List Byte) : (s.hostWrite a l).hostMem = Memory.writeBytes s.hostMem a l := rfl
@[simp] theorem State.hostWrite_nodeMem (s : State) (a : Nat) (l : List Byte) : (s.hostWrite a l).nodeMem = s.nodeMem := rfl
@[simp] theorem State.hostWrite_out (s : State) (a : Nat) (l : List Byte) : (s.hostWrite a l).out = s.out := rfl

@[simp] theorem State.nodeWrite_pending (s : State) (a : Nat) (l : List Byte) : (s.nodeWrite a l).pending = s.pending := rfl
@[simp] theorem State.nodeWrite_power (s : State) (a : Nat) (l : List Byte) : (s.nodeWrite a l).power = s.power := rfl
@[simp] theorem State.nodeWrite_boot (s : State) (a : Nat) (l : List Byte) : (s.nodeWrite a l).boot = s.boot := rfl
@[simp] theorem State.nodeWrite_link (s : State) (a : Nat) (l : List Byte) : (s.nodeWrite a l).link = s.link := rfl
@[simp] theorem State.nodeWrite_dict (s : State) (a : Nat) (l : List Byte) : (s.nodeWrite a l).dict = s.dict := rfl
@[simp] theorem State.nodeWrite_prof (s : State) (a : Nat) (l : List Byte) : (s.nodeWrite a l).prof = s.prof := rfl
@[simp] theorem State.nodeWrite_pages (s : State) (a : Nat) (l : List Byte) : (s.nodeWrite a l).pages = s.pages := rfl
@[simp] theorem State.nodeWrite_seqs (s : State) (a : Nat) (l : List Byte) : (s.nodeWrite a l).seqs = s.seqs := rfl
@[simp] theorem State.nodeWrite_queues (s : State) (a : Nat) (l : List Byte) : (s.nodeWrite a l).queues = s.queues := rfl
@[simp] theorem State.nodeWrite_sched (s : State) (a : Nat) (l : List Byte) : (s.nodeWrite a l).sched = s.sched := rfl
@[simp] theorem State.nodeWrite_awns (s : State) (a : Nat) (l : List Byte) : (s.nodeWrite a l).awns = s.awns := rfl
@[simp] theorem State.nodeWrite_tiles (s : State) (a : Nat) (l : List Byte) : (s.nodeWrite a l).tiles = s.tiles := rfl
@[simp] theorem State.nodeWrite_index (s : State) (a : Nat) (l : List Byte) : (s.nodeWrite a l).index = s.index := rfl
@[simp] theorem State.nodeWrite_tier (s : State) (a : Nat) (l : List Byte) : (s.nodeWrite a l).tier = s.tier := rfl
@[simp] theorem State.nodeWrite_masks (s : State) (a : Nat) (l : List Byte) : (s.nodeWrite a l).masks = s.masks := rfl
@[simp] theorem State.nodeWrite_win (s : State) (a : Nat) (l : List Byte) : (s.nodeWrite a l).win = s.win := rfl
@[simp] theorem State.nodeWrite_dom (s : State) (a : Nat) (l : List Byte) : (s.nodeWrite a l).dom = s.dom := rfl
@[simp] theorem State.nodeWrite_xnt (s : State) (a : Nat) (l : List Byte) : (s.nodeWrite a l).xnt = s.xnt := rfl
@[simp] theorem State.nodeWrite_ring (s : State) (a : Nat) (l : List Byte) : (s.nodeWrite a l).ring = s.ring := rfl
@[simp] theorem State.nodeWrite_shadow (s : State) (a : Nat) (l : List Byte) : (s.nodeWrite a l).shadow = s.shadow := rfl
@[simp] theorem State.nodeWrite_faults (s : State) (a : Nat) (l : List Byte) : (s.nodeWrite a l).faults = s.faults := rfl
@[simp] theorem State.nodeWrite_therm (s : State) (a : Nat) (l : List Byte) : (s.nodeWrite a l).therm = s.therm := rfl
@[simp] theorem State.nodeWrite_test (s : State) (a : Nat) (l : List Byte) : (s.nodeWrite a l).test = s.test := rfl
@[simp] theorem State.nodeWrite_hostMem (s : State) (a : Nat) (l : List Byte) : (s.nodeWrite a l).hostMem = s.hostMem := rfl
@[simp] theorem State.nodeWrite_nodeMem (s : State) (a : Nat) (l : List Byte) : (s.nodeWrite a l).nodeMem = Memory.writeBytes s.nodeMem a l := rfl
@[simp] theorem State.nodeWrite_out (s : State) (a : Nat) (l : List Byte) : (s.nodeWrite a l).out = s.out := rfl

@[simp] theorem State.nodeClear_pending (s : State) (a n : Nat) : (s.nodeClear a n).pending = s.pending := rfl
@[simp] theorem State.nodeClear_power (s : State) (a n : Nat) : (s.nodeClear a n).power = s.power := rfl
@[simp] theorem State.nodeClear_boot (s : State) (a n : Nat) : (s.nodeClear a n).boot = s.boot := rfl
@[simp] theorem State.nodeClear_link (s : State) (a n : Nat) : (s.nodeClear a n).link = s.link := rfl
@[simp] theorem State.nodeClear_dict (s : State) (a n : Nat) : (s.nodeClear a n).dict = s.dict := rfl
@[simp] theorem State.nodeClear_prof (s : State) (a n : Nat) : (s.nodeClear a n).prof = s.prof := rfl
@[simp] theorem State.nodeClear_pages (s : State) (a n : Nat) : (s.nodeClear a n).pages = s.pages := rfl
@[simp] theorem State.nodeClear_seqs (s : State) (a n : Nat) : (s.nodeClear a n).seqs = s.seqs := rfl
@[simp] theorem State.nodeClear_queues (s : State) (a n : Nat) : (s.nodeClear a n).queues = s.queues := rfl
@[simp] theorem State.nodeClear_sched (s : State) (a n : Nat) : (s.nodeClear a n).sched = s.sched := rfl
@[simp] theorem State.nodeClear_awns (s : State) (a n : Nat) : (s.nodeClear a n).awns = s.awns := rfl
@[simp] theorem State.nodeClear_tiles (s : State) (a n : Nat) : (s.nodeClear a n).tiles = s.tiles := rfl
@[simp] theorem State.nodeClear_index (s : State) (a n : Nat) : (s.nodeClear a n).index = s.index := rfl
@[simp] theorem State.nodeClear_tier (s : State) (a n : Nat) : (s.nodeClear a n).tier = s.tier := rfl
@[simp] theorem State.nodeClear_masks (s : State) (a n : Nat) : (s.nodeClear a n).masks = s.masks := rfl
@[simp] theorem State.nodeClear_win (s : State) (a n : Nat) : (s.nodeClear a n).win = s.win := rfl
@[simp] theorem State.nodeClear_dom (s : State) (a n : Nat) : (s.nodeClear a n).dom = s.dom := rfl
@[simp] theorem State.nodeClear_xnt (s : State) (a n : Nat) : (s.nodeClear a n).xnt = s.xnt := rfl
@[simp] theorem State.nodeClear_ring (s : State) (a n : Nat) : (s.nodeClear a n).ring = s.ring := rfl
@[simp] theorem State.nodeClear_shadow (s : State) (a n : Nat) : (s.nodeClear a n).shadow = s.shadow := rfl
@[simp] theorem State.nodeClear_faults (s : State) (a n : Nat) : (s.nodeClear a n).faults = s.faults := rfl
@[simp] theorem State.nodeClear_therm (s : State) (a n : Nat) : (s.nodeClear a n).therm = s.therm := rfl
@[simp] theorem State.nodeClear_test (s : State) (a n : Nat) : (s.nodeClear a n).test = s.test := rfl
@[simp] theorem State.nodeClear_hostMem (s : State) (a n : Nat) : (s.nodeClear a n).hostMem = s.hostMem := rfl
@[simp] theorem State.nodeClear_nodeMem (s : State) (a n : Nat) : (s.nodeClear a n).nodeMem = Memory.clear s.nodeMem a n := rfl
@[simp] theorem State.nodeClear_out (s : State) (a n : Nat) : (s.nodeClear a n).out = s.out := rfl

@[simp] theorem State.sealed_pending (s : State) (t : State) : (s.sealed t).pending = s.pending := rfl
@[simp] theorem State.sealed_power (s : State) (t : State) : (s.sealed t).power = t.power := rfl
@[simp] theorem State.sealed_boot (s : State) (t : State) : (s.sealed t).boot = { t.boot with image := Memory.canon t.boot.image } := rfl
@[simp] theorem State.sealed_link (s : State) (t : State) : (s.sealed t).link = t.link := rfl
@[simp] theorem State.sealed_dict (s : State) (t : State) : (s.sealed t).dict = t.dict := rfl
@[simp] theorem State.sealed_prof (s : State) (t : State) : (s.sealed t).prof = t.prof := rfl
@[simp] theorem State.sealed_pages (s : State) (t : State) : (s.sealed t).pages = t.pages := rfl
@[simp] theorem State.sealed_seqs (s : State) (t : State) : (s.sealed t).seqs = t.seqs := rfl
@[simp] theorem State.sealed_queues (s : State) (t : State) : (s.sealed t).queues = t.queues := rfl
@[simp] theorem State.sealed_sched (s : State) (t : State) : (s.sealed t).sched = t.sched := rfl
@[simp] theorem State.sealed_awns (s : State) (t : State) : (s.sealed t).awns = t.awns := rfl
@[simp] theorem State.sealed_tiles (s : State) (t : State) : (s.sealed t).tiles = t.tiles := rfl
@[simp] theorem State.sealed_index (s : State) (t : State) : (s.sealed t).index = t.index := rfl
@[simp] theorem State.sealed_tier (s : State) (t : State) : (s.sealed t).tier = t.tier := rfl
@[simp] theorem State.sealed_masks (s : State) (t : State) : (s.sealed t).masks = t.masks := rfl
@[simp] theorem State.sealed_win (s : State) (t : State) : (s.sealed t).win = t.win := rfl
@[simp] theorem State.sealed_dom (s : State) (t : State) : (s.sealed t).dom = t.dom := rfl
@[simp] theorem State.sealed_xnt (s : State) (t : State) : (s.sealed t).xnt = t.xnt := rfl
@[simp] theorem State.sealed_ring (s : State) (t : State) : (s.sealed t).ring = t.ring := rfl
@[simp] theorem State.sealed_shadow (s : State) (t : State) : (s.sealed t).shadow = t.shadow := rfl
@[simp] theorem State.sealed_faults (s : State) (t : State) : (s.sealed t).faults = t.faults := rfl
@[simp] theorem State.sealed_therm (s : State) (t : State) : (s.sealed t).therm = t.therm := rfl
@[simp] theorem State.sealed_test (s : State) (t : State) : (s.sealed t).test = t.test := rfl
@[simp] theorem State.sealed_hostMem (s : State) (t : State) : (s.sealed t).hostMem = Memory.canon t.hostMem := rfl
@[simp] theorem State.sealed_nodeMem (s : State) (t : State) : (s.sealed t).nodeMem = Memory.canon t.nodeMem := rfl
@[simp] theorem State.sealed_out (s : State) (t : State) : (s.sealed t).out = t.out := rfl

end Sys2Proof.Machine
end

