-- ==== Sys2Proof/Laws/Tables.lean ====
section
/-! SUPPORT. Tables of the state: one record changed, a completion written, a bucket set. -/

namespace Sys2Proof.Machine

/-- A record changed in a table reads as changed. -/
theorem aget_amod {α : Type} (l : List (Nat × α)) (n : Nat) (f : α → α) (v : α) (h : aget l n = some v) :
    aget (amod l n f) n = some (f v) := by
  unfold amod
  rw [h]; exact aget_aput_self _ _ _

/-- A submission queue changed reads as changed. -/
theorem modSq_aget (s : State) (n : Nat) (f : Sq → Sq) (q : Sq) (h : aget s.queues.sqs n = some q) :
    aget (s.modSq n f).queues.sqs n = some (f q) := aget_amod s.queues.sqs n f q h

theorem emit_frame (s : State) (o : Output) : (s.emit o).hostMem = s.hostMem ∧ (s.emit o).nodeMem = s.nodeMem ∧ (s.emit o).queues = s.queues := ⟨rfl, rfl, rfl⟩
theorem modCq_frame (s : State) (n : Nat) (f : Cq → Cq) : (s.modCq n f).hostMem = s.hostMem ∧ (s.modCq n f).nodeMem = s.nodeMem := ⟨rfl, rfl⟩
theorem modCq_queues (s t : State) (n : Nat) (f : Cq → Cq) (h : s.queues = t.queues) : (s.modCq n f).queues = (t.modCq n f).queues := by
  unfold State.modCq State.modQueues; simp only [h]
theorem hostWrite_frame (s : State) (a : Nat) (l : List Byte) : (s.hostWrite a l).hostMem = Memory.writeBytes s.hostMem a l ∧ (s.hostWrite a l).nodeMem = s.nodeMem ∧ (s.hostWrite a l).queues = s.queues := ⟨rfl, rfl, rfl⟩

/-- What posting a completion to a HOST queue does (R173): 32 bytes at the tail, the tail and the arming of the MSI-X moved on. -/
theorem postHost_spec (s : State) (n : Nat) (q : Cq) (e : BitVec 256) :
    (s.postHost n q e).hostMem = Memory.writeBytes s.hostMem (fld q.cfg 64 64 + 32 * q.tail) (withPhase e q.phase)
    ∧ (s.postHost n q e).nodeMem = s.nodeMem
    ∧ (s.postHost n q e).queues = (s.modCq n fun x => { x.advance with msi := x.msi && !(bit q.cfg 22 && q.msi) }).queues := by
  unfold State.postHost
  dsimp only
  by_cases h : (bit q.cfg 22 && q.msi) = true
  · rw [if_pos h, (emit_frame _ _).1, (emit_frame _ _).2.1, (emit_frame _ _).2.2, (modCq_frame _ _ _).1, (modCq_frame _ _ _).2, (hostWrite_frame _ _ _).1, (hostWrite_frame _ _ _).2.1]
    exact ⟨rfl, rfl, modCq_queues _ _ _ _ (hostWrite_frame _ _ _).2.2⟩
  · rw [if_neg h, (modCq_frame _ _ _).1, (modCq_frame _ _ _).2, (hostWrite_frame _ _ _).1, (hostWrite_frame _ _ _).2.1]
    exact ⟨rfl, rfl, modCq_queues _ _ _ _ (hostWrite_frame _ _ _).2.2⟩

theorem withPhase_length (e : BitVec 256) (b : Bool) : (withPhase e b).length = 32 := by unfold withPhase; rw [leBytes_length]

theorem domain_setBuckets_buckets (x : Domain) (n c p : Nat) : (x.setBuckets n c p).buckets n = (c, p) := by
  unfold Domain.setBuckets Domain.buckets; split <;> rfl
theorem setBuckets_buckets (s : State) (d n c p : Nat) (x : Domain) (h : aget s.dom.doms d = some x) : (s.setBuckets d n c p).buckets d n = (c, p) := by
  unfold State.buckets
  have : aget (s.setBuckets d n c p).dom.doms d = some (x.setBuckets n c p) := aget_amod _ _ _ _ h
  rw [this]; exact domain_setBuckets_buckets x n c p
theorem bump_buckets (s : State) (a b c e d n : Nat) : (s.bump a b c e).buckets d n = s.buckets d n := rfl

/-- With nothing to inject, a check takes nothing. -/
theorem takeInject_none {s : State} (h : s.faults.inject = []) (a b c : Nat) : s.takeInject a b c = (false, s) := by
  simp [State.takeInject, h]

theorem checkOff_none {s : State} (h : s.faults.inject = []) (a b : Nat) : s.checkOff a b = (false, s) := by
  simp [State.checkOff, h]

theorem sweepOff_none {s : State} (h : s.faults.inject = []) (a b : Nat) : s.sweepOff a b = (false, s) := by
  simp [State.sweepOff, h]

theorem linkOff_none {s : State} (h : s.faults.inject = []) (a b : Nat) : s.linkOff a b = s := by
  simp [State.linkOff, takeInject_none h]

/-- A unit that leaves changes no command, page or slot. -/
theorem leave_frame (s : State) (d k n : Nat) (how : Leave) :
    (s.leave d k n how).sched = s.sched ∧ (s.leave d k n how).pages = s.pages := by
  unfold State.leave; split
  · exact ⟨rfl, rfl⟩
  · split <;> exact ⟨rfl, rfl⟩

/-- Units that leave change no command, page or slot, and no more are left than there were. -/
theorem crossUnits_frame (d : Nat) (x : Bool) : ∀ (n : Nat) (s : State), (s.crossUnits d x n).2 ≤ n
    ∧ (s.crossUnits d x n).1.sched = s.sched ∧ (s.crossUnits d x n).1.pages = s.pages
  | 0, _ => ⟨Nat.le_refl 0, rfl, rfl⟩
  | n + 1, s => by
    have go : ∀ how, ((s.leave d 1 4096 how).crossUnits d x n).2 ≤ n + 1
        ∧ ((s.leave d 1 4096 how).crossUnits d x n).1.sched = s.sched ∧ ((s.leave d 1 4096 how).crossUnits d x n).1.pages = s.pages :=
      fun how => by
        obtain ⟨h1, h2, h3⟩ := crossUnits_frame d x n (s.leave d 1 4096 how)
        obtain ⟨h4, h5⟩ := leave_frame s d 1 4096 how
        exact ⟨Nat.le_succ_of_le h1, h2.trans h4, h3.trans h5⟩
    unfold State.crossUnits
    split
    · exact go .committed
    · split
      · exact go .excess
      · exact ⟨Nat.le_refl _, rfl, rfl⟩
    · exact ⟨Nat.le_refl _, rfl, rfl⟩

/-- A move changed changes no command. -/
theorem setMove_cmd (s : State) (a : Nat) (b : Bool) (f : MoveSt → MoveSt) (id : Nat) : (s.setMove a b f).cmd id = s.cmd id := rfl

end Sys2Proof.Machine
end

