-- ==== Sys2Proof/Laws/Write.lean ====
section
/-! SUPPORT. Writes of parameter entries: what the access checks, the value checks and the entry come to (R390, R391). -/

namespace Sys2Proof.Machine

/-- An access that passes is one of a row of the dictionary. -/
theorem accessFail_row {s : State} {ch b k l r} (h : s.accessFail ch b k l = .ok r) : pdRow k.idx k.sub = some r := by
  unfold State.accessFail at h
  cases hr : pdRow k.idx k.sub with
  | none => simp [hr] at h
  | some r' =>
    simp only [hr] at h
    by_cases c1 : (!(r'.rights (chanClass ch)).testBit (if b then 1 else 0) || (b && s.writeDenied ch k l)) = true
    · rw [if_pos c1] at h; exact absurd h (by simp)
    · rw [if_neg c1] at h
      by_cases c2 : (pdScoped k.idx && k.idx != 0x7100 && (aget s.dom.doms k.dom).isNone) = true
      · rw [if_pos c2] at h; exact absurd h (by simp)
      · rw [if_neg c2] at h; cases h; rfl

/-- The row found for an entry is a row of the table, of that entry. -/
theorem pdRow_mem {idx sub : Nat} {r : PdRow} (h : pdRow idx sub = some r) : r ∈ pdTable ∧ r.idx = idx ∧ r.lo ≤ sub ∧ sub ≤ r.hi := by
  have h1 := List.mem_of_find?_eq_some h
  have h2 := List.find?_some h
  simp at h2
  exact ⟨h1, h2.1.1, h2.1.2, h2.2⟩

/-- A write on a channel that serves runs its one operation. -/
theorem oneWrite_serves {s : State} {w : EntryWrite} (h : s.Serves w.ch) :
    s.oneWrite w.ch w.dom w.idx w.sub w.value = (s.runOps (s.writeReq w) [] false (s.writeReq w).ops).settle := by
  obtain ⟨h1, h2, h3, h4⟩ := h
  have hw : s.dict.waiting.any (fun x => x.ch == w.ch) = false := by simpa using h4
  have hreq : ∀ q : PdReq, q.ch = w.ch → q.bad = none → s.request q = (s.runOps q [] false q.ops).settle := by
    intro q hq hb
    simp only [State.request, hq, h1, hw, State.runRequest, h2, hb]
    simp [Nat.not_le.mpr h3]
  exact hreq (s.writeReq w) rfl rfl

/-- The operation of a write that takes effect at once. -/
theorem pdOp_imm {s t : State} {w : EntryWrite} {r : PdRow} (ha : s.accessFail w.ch true (s.writeKey w) w.value = .ok r) (he : r.eff ≠ 2)
   (ht : s.writeEntry w.ch r (s.writeKey w) w.value = .ok t) :
   s.pdOp (s.writeReq w) ⟨2, w.idx, w.sub, w.value.length, w.value⟩ = .ok (t, .value []) := by
  have ha' : s.accessFail (s.writeReq w).ch true (pdKey w.idx w.sub (s.writeReq w).dom) w.value = .ok r := ha
  have ht' : s.writeEntry (s.writeReq w).ch r (pdKey w.idx w.sub (s.writeReq w).dom) w.value = .ok t := ht
  simp [State.pdOp, ha', he, ht', Except.map]

/-- An operation whose access is turned away fails. -/
theorem pdOp_denied {s : State} {w : EntryWrite} {f : Fail} (ha : s.accessFail w.ch true (s.writeKey w) w.value = .error f) :
    s.pdOp (s.writeReq w) ⟨2, w.idx, w.sub, w.value.length, w.value⟩ = .error f := by
  have ha' : s.accessFail (s.writeReq w).ch true (pdKey w.idx w.sub (s.writeReq w).dom) w.value = .error f := ha
  simp [State.pdOp, ha']

/-- An operation whose entry refuses the value fails. -/
theorem pdOp_refused {s : State} {w : EntryWrite} {r : PdRow} {f : Fail}
    (ha : s.accessFail w.ch true (s.writeKey w) w.value = .ok r) (he : r.eff ≠ 2)
    (ht : s.writeEntry w.ch r (s.writeKey w) w.value = .error f) :
    s.pdOp (s.writeReq w) ⟨2, w.idx, w.sub, w.value.length, w.value⟩ = .error f := by
  have ha' : s.accessFail (s.writeReq w).ch true (pdKey w.idx w.sub (s.writeReq w).dom) w.value = .ok r := ha
  have ht' : s.writeEntry (s.writeReq w).ch r (pdKey w.idx w.sub (s.writeReq w).dom) w.value = .error f := ht
  simp [State.pdOp, ha', he, ht', Except.map]

/-- An immediate entry whose value passes is given to the machine (R391). -/
theorem writeEntry_imm {s : State} {ch : Chan} {r : PdRow} {k : PdKey} {l : List Byte} (he : r.eff = 0)
    (hs : pdSelect k.idx k.sub = false) (hv : s.valueFail r k l = none) : s.writeEntry ch r k l = s.immWrite ch k l := by
  simp [State.writeEntry, hv, hs, he]

/-- A CMD entry whose value passes waits in its shadow (R392). -/
theorem writeEntry_cmd {s : State} {ch : Chan} {r : PdRow} {k : PdKey} {l : List Byte} (he : r.eff = 1)
    (hs : pdSelect k.idx k.sub = false) (hv : s.valueFail r k l = none)
    (ht : (if k.idx = 0x3510 then s.tierWrite k.sub k.dom (leNat l) else none) = none) :
    s.writeEntry ch r k l = .ok (s.setShadow k l) := by
  have he0 : r.eff ≠ 0 := by omega
  simp only [State.writeEntry, hv, hs, he0, ht]
  rfl

/-- A write without the right is denied (R390). -/
theorem accessFail_denied {s : State} {ch : Chan} {k : PdKey} {l : List Byte} {r : PdRow} (hr : pdRow k.idx k.sub = some r)
    (hd : (r.rights (chanClass ch)).testBit 1 = false ∨ s.writeDenied ch k l = true) :
    s.accessFail ch true k l = .error ⟨stDenied, 0, 0, 0⟩ := by
  simp only [State.accessFail, hr]
  rcases hd with hd | hd <;> simp [hd]

/-- A value without named bits passes where its length, its range and its own check pass. -/
theorem plain_value {s : State} (idx sub d : Nat) (l : List Byte) (r : PdRow) (h1 : lenOk r l = true) (h2 : namedBits idx sub = none)
   (h3 : r.ty ≠ 8) (h4 : r.ty < 8 → r.mn ≤ leNat l ∧ leNat l ≤ r.mx) (h5 : s.valueBad ⟨idx, sub, d⟩ l = none) (h6 : idx ≠ 0x7000)
   (h7 : inPartChecks ⟨idx, sub, d⟩ = false) : s.valueFail r ⟨idx, sub, d⟩ l = none := by
  have hp : s.partBroken ⟨idx, sub, d⟩ l = 0 := by simp [State.partBroken, h6, h7]
  have h4' : ¬ (r.ty < 8 ∧ (leNat l < r.mn ∨ r.mx < leNat l)) := by rintro ⟨a, b⟩; have := h4 a; omega
  simp only [State.valueFail, h1, h2, h3, h5, hp, h4']
  simp

/-- A value with named bits passes where, besides, no other bit is set. -/
theorem value_named {s : State} (idx sub d : Nat) (l : List Byte) (r : PdRow) (m : Nat) (h1 : lenOk r l = true) (h2 : namedBits idx sub = some m)
   (h2' : strayByte m l = none)
   (h3 : r.ty ≠ 8) (h4 : r.ty < 8 → r.mn ≤ leNat l ∧ leNat l ≤ r.mx) (h5 : s.valueBad ⟨idx, sub, d⟩ l = none) (h6 : idx ≠ 0x7000)
   (h7 : inPartChecks ⟨idx, sub, d⟩ = false) : s.valueFail r ⟨idx, sub, d⟩ l = none := by
  have hp : s.partBroken ⟨idx, sub, d⟩ l = 0 := by simp [State.partBroken, h6, h7]
  have h4' : ¬ (r.ty < 8 ∧ (leNat l < r.mn ∨ r.mx < leNat l)) := by rintro ⟨a, b⟩; have := h4 a; omega
  simp only [State.valueFail, h1, h2, h3, h5, hp, h4', Option.bind, h2']
  simp

/-- An entry that a DATA QP may not write is addressed by the domain that the write names. -/
theorem callerDom_of_mayWrite (s : State) (w : EntryWrite) (r : PdRow) (h : s.MayWrite w) (hp : pdRow w.idx w.sub = some r) (hd : r.dm.testBit 1 = false) :
    s.callerDom w.ch w.dom = w.dom := by
  obtain ⟨_, r', ha⟩ := h
  cases hc : w.ch <;> try rfl
  rename_i n
  rw [hc] at ha
  have := accessFail_row ha
  simp only [State.writeKey, pdKey] at this
  rw [hp] at this
  cases this
  simp [State.accessFail, State.writeKey, pdKey, hp, chanClass, PdRow.rights, hd] at ha

end Sys2Proof.Machine
end

