-- ==== Sys2Proof/Tests/Slice0.lean ====
section
/-! SUPPORT. The model's own tests: ill-formed commands are refused, the manual's worked examples come out, and every statement's
hypotheses are met by some state. -/

set_option Elab.async false

namespace Sys2Proof.Tests

open Sys2Proof Sys2Proof.Machine

/-! ## States to test on -/

/-- Configuration of an SQ of domain 1 with 16 entries, bound to CQ 1, HOME HOST, ring at 0x2000. -/
def sqCfg : BitVec 256 := BitVec.ofNat 256 (1 + 2 ^ 16 + 4 * 2 ^ 32 + 2 ^ 40 + 0x2000 * 2 ^ 64)

/-- Configuration of a CQ of domain 1 with 16 entries, HOME HOST, ring at 0x1000. -/
def cqCfg : BitVec 256 := BitVec.ofNat 256 (1 + 4 * 2 ^ 16 + 0x1000 * 2 ^ 64)

/-- A running node with its link up, both IDE streams Secure, and the domains 1 and 2. -/
def up : State :=
  { boot := { st := .running, bootId := 1, fwSvn := 5, minSvn := 1 }
    link := { width := 16, speed := 2, ideIo := 2, ideCm := 2 }
    dom := { doms := [(1, {}), (2, {})] } }

/-- The same with SQ 1 and CQ 1 of domain 1. -/
def qd : State := { up with queues := { sqs := [(1, { cfg := sqCfg })], cqs := [(1, { cfg := cqCfg })] } }

/-- Requests run at once on the channel, and the write passes the steps before its value is looked at. -/
def writable (s : State) (w : EntryWrite) : Bool :=
  s.chanOpen w.ch && s.mgmtUp && decide (s.inFlight w.ch < chanLimit w.ch) && s.dict.waiting.all (fun q => q.ch != w.ch)
    && (match s.accessFail w.ch true (s.writeKey w) w.value with | .ok _ => true | .error _ => false)

theorem serves_of {s : State} {ch : Chan} (h : (s.chanOpen ch && s.mgmtUp && decide (s.inFlight ch < chanLimit ch)
    && s.dict.waiting.all (fun q => q.ch != ch)) = true) : s.Serves ch := by
  simp only [Bool.and_eq_true, decide_eq_true_eq, List.all_eq_true, bne_iff_ne] at h
  exact ⟨h.1.1.1, h.1.1.2, h.1.2, h.2⟩

theorem mayWrite_of {s : State} {w : EntryWrite} (h : writable s w = true) : s.MayWrite w := by
  unfold writable at h
  rw [Bool.and_eq_true] at h
  refine ⟨serves_of h.1, ?_⟩
  have := h.2
  cases e : s.accessFail w.ch true (s.writeKey w) w.value with
  | ok r => exact ⟨r, rfl⟩
  | error f => rw [e] at this; cases this

/-! ## Ill-formed commands -/

theorem test_wf_stack : (Instr.asbPrepare .mailbox 12).wellFormed = false ∧ (Instr.asbPrepare .mailbox 11).wellFormed = true := by
  decide

theorem test_wf_slot : (Instr.scrub 22020096 false).wellFormed = false
    ∧ (Instr.scrub 22020095 false).wellFormed = true := by decide

theorem test_wf_tile : (Instr.granuleZeroFillDone 72).wellFormed = false ∧ (Instr.granuleZeroFillDone 71).wellFormed = true := by
  decide

theorem test_wf_awn : (Instr.sweep 0x00212200 ⟨true, true⟩).wellFormed = false
    ∧ (Instr.sweep 0x0021210B ⟨true, true⟩).wellFormed = true := by decide

theorem test_wf_bank_pair : (Instr.refreshDone ⟨15, 0, 0⟩).wellFormed = false
    ∧ (Instr.refreshDone ⟨0, 31, 15⟩).wellFormed = true := by decide

/-- An ACK with the given tag. -/
def ackWith (tag : List Byte) : RxPacket := ⟨0, true, false, 0, [], [], tag, 0, 0⟩

theorem test_wf_packet : (Instr.xntAck (ackWith [])).wellFormed = false
    ∧ (Instr.xntAck (ackWith (List.replicate 16 0))).wellFormed = true := by decide

theorem test_wf_readings : (Instr.tempReading ⟨[], [(12, 30)], [], 20, 25, 0, 0, 0, []⟩).wellFormed = false
    ∧ (Instr.tempReading ⟨[], [], [(13, 30)], 20, 25, 0, 0, 0, []⟩).wellFormed = false := by decide

theorem test_wf_nonce : (Instr.spdmRequest .doe (.challenge 0 [])).wellFormed = false
    ∧ (Instr.getMeasurements .doe 0 false []).wellFormed = false := by decide

theorem test_wf_spare : (Instr.spareMap (.tile 100)).wellFormed = false ∧ (Instr.spareMap (.awn 0xF)).wellFormed = false := by decide

theorem test_wf_late : (Instr.checkerLate (.tile 72)).wellFormed = false ∧ (Instr.checkerLate (.awn 0xD)).wellFormed = false := by
  decide

theorem test_wf_stack_outcome : (Instr.asbDone 0 ⟨[1], [], []⟩).wellFormed = false ∧ (Instr.asbDone 0 ⟨[], [34], []⟩).wellFormed = false
    ∧ (Instr.asbDone 0 ⟨[], [], [1835008]⟩).wellFormed = false ∧ (Instr.asbDone 12 ⟨[], [], []⟩).wellFormed = false := by decide

/-! ## Hypotheses met: the queue and the commands' lives -/

theorem wit_step : ({ up with pending := [.viral, .mgmtKick] } : State).pending = .viral :: [.mgmtKick] := rfl

theorem wit_idle : up.pending = [] := rfl

theorem wit_inv : ({ up with pending := [.viral] } : State).Inv := by
  refine ⟨by decide, by decide, by decide, ?_⟩
  decide

theorem wit_canonical : Memory.wf [(3, 7), (9, 1)] = true ∧ (9 < 10 ∨ 10 + 2 ≤ 9) ∧ (10 < 10 ∨ 8 + 2 ≤ 10) ∧ 65535 < 256 ^ 2 := by
  decide

theorem wit_serial : newer 24 0 0xFFFFFF = true ∧ newer 24 0x7FFFFF 0 = true ∧ newer 24 0x800000 0 = false
    ∧ newer 24 5 5 = false := by decide

theorem wit_sequence_id : (16777215 : Nat) < 16777216 ∧ ({ gen := 65535, dom := 4095 } : SeqEntry).gen < 65536
    ∧ ({ gen := 65535, dom := 4095 } : SeqEntry).dom < 4096 := by decide

theorem wit_shift : rshiftRne 5 2 = 1 ∧ rshiftRne 6 2 = 2 ∧ rshiftRne (-6) 2 = -2 ∧ rshiftRne (-20) 1 = -10 ∧ 41 > 40 := by decide

/-- R69's worked example and R74's: 3,016,405 / 2^14 rounds to 184. -/
theorem test_rshift_example : rshiftRne 3016405 14 = 184 ∧ rshiftRne 100 2 = 25 ∧ rshiftRne (-40) 1 = -20 := by decide

/-- Two partials of different pages. -/
def parts : List Partial := [{ first := 4 }, { first := 5 }]

theorem wit_merge : parts.Perm parts.reverse ∧ (parts.map Partial.first).Nodup := by
  exact ⟨(List.reverse_perm parts).symm, by decide⟩

theorem wit_row_desc : (0x70 : Nat) < 256 := by decide

/-- The FENCE of the tests, all other bits zero. -/
def fenceDesc : Desc := rowDesc 0x70 0 0 0

/-- The answer of an admission, without its state. -/
def admits (s : State) (n : Nat) (d : Desc) : Option Nat :=
  let t := ((s.submit n d).modSq n fun x => { x with fetched := [] }).takeEntries (sqDom (s.sqOf n).cfg)
  match t.admission (t.newCmd n d 1) false with
  | .ok (_, c) => some c.id
  | .error _ => none

/-- The status with which an admission is turned away. -/
def refuses (s : State) (n : Nat) (d : Desc) : Option Nat :=
  let t := ((s.submit n d).modSq n fun x => { x with fetched := [] }).takeEntries (sqDom (s.sqOf n).cfg)
  match t.admission (t.newCmd n d 1) false with
  | .ok _ => none
  | .error f => some f.st

theorem wit_admit : submitted (.nop 1 0) = some (1, rowDesc 0 0 0 0) ∧ aget qd.queues.sqs 1 = some { cfg := sqCfg }
    ∧ (sqFabric sqCfg = true ∨ qd.dmaOk = true) ∧ (qd.submit 1 (rowDesc 0 0 0 0)).canAdmit 1 (rowDesc 0 0 0 0) = true
    ∧ (0 + 1) % sqDepth sqCfg = 1 ∧ admits qd 1 (rowDesc 0 0 0 0) = some 0 := by decide +kernel

/-- A descriptor with a reserved bit set is refused before any work (R3, R173). -/
theorem wit_refuse : submitted (.nop 1 (1 <<< 1000)) = some (1, rowDesc 0 0 0 (1 <<< 1000))
    ∧ (qd.submit 1 (rowDesc 0 0 0 (1 <<< 1000))).canAdmit 1 (rowDesc 0 0 0 (1 <<< 1000)) = true
    ∧ refuses qd 1 (rowDesc 0 0 0 (1 <<< 1000)) = some 1 := by decide +kernel

/-- A NOP of SQ 1 that has been admitted and may commit. -/
def planned : Cmd := { id := 5, sq := 1, cq := 1, dom := 1, sqHead := 1 }

/-- The same as `qd` with that NOP in the command table. -/
def busy : State := { qd with sched := { cmds := [planned], nextId := 6 } }

theorem wit_commit : submitted (.fence 1 0) = some (1, fenceDesc)
    ∧ ((((qd.submit 1 fenceDesc).admitFront 1).runTransfers 0).runItems 0).cmd 0
        = some { sq := 1, cq := 1, dom := 1, desc := fenceDesc, sqHead := 1, waitLimit := qd.num 0x4000 7 }
    ∧ (let u := (((qd.submit 1 fenceDesc).admitFront 1).runTransfers 0).runItems 0
       let c : Cmd := { sq := 1, cq := 1, dom := 1, desc := fenceDesc, sqHead := 1, waitLimit := qd.num 0x4000 7 }
       u.heldEnded c = false ∧ u.commitReady c = true ∧ u.unitFails c = false ∧ u.seqGone c = none) := by decide +kernel

theorem wit_row_of_commit : ({ desc := rowDesc 0x42 moveBit 0 0, id := 7 } : Cmd).desc = rowDesc 0x42 moveBit 0 0
    ∧ (({ up with xnt := { moves := [{ cmd := some 7 }] } } : State).xnt.moves.find? fun x => x.cmd == some 7)
        = some { cmd := some 7 } := by decide +kernel

/-- Clause by clause: a tail just below the depth, at the depth; a queue in ERROR; no queue; heads at and past the tail. -/
theorem wit_doorbell : aget qd.queues.sqs 1 = some { cfg := sqCfg } ∧ qd.doorbellOpen (sqFabric sqCfg) = true
    ∧ 15 < sqDepth sqCfg ∧ sqDepth sqCfg ≤ 16 ∧ aget qd.queues.sqs 2 = none ∧ qd.doorbellOpen false = true
    ∧ ({ cfg := sqCfg, st := .error } : Sq).st ≠ .active ∧ aget qd.queues.cqs 1 = some { cfg := cqCfg }
    ∧ qd.doorbellOpen (bit cqCfg 21) = true ∧ (0 % cqDepth cqCfg + cqDepth cqCfg - 0) % cqDepth cqCfg ≤ (0 + cqDepth cqCfg - 0) % cqDepth cqCfg
    ∧ (0 + cqDepth cqCfg - 0) % cqDepth cqCfg < (1 % cqDepth cqCfg + cqDepth cqCfg - 0) % cqDepth cqCfg := by decide +kernel

theorem wit_doorbell_error : aget (qd.modSq 1 fun x => { x with st := .error }).queues.sqs 1 = some { cfg := sqCfg, st := .error }
    ∧ (qd.modSq 1 fun x => { x with st := .error }).doorbellOpen (sqFabric sqCfg) = true := by decide +kernel

theorem wit_fetch : aget (qd.modSq 1 fun x => { x with tail := 1 }).queues.sqs 1 = some { cfg := sqCfg, tail := 1 }
    ∧ qd.alive = true ∧ (0 : Nat) ≠ 1 ∧ qd.dmaOk = true := by decide +kernel

theorem wit_admit_event : ((qd.modSq 1 fun x => { x with fetched := [(fenceDesc, 1)] }).sqOf 1).fetched = (fenceDesc, 1) :: []
    ∧ (qd.modSq 1 fun x => { x with fetched := [(fenceDesc, 1)] }).canAdmit 1 fenceDesc = true := by decide +kernel

theorem wit_wait_limit : (busy.addItem { cmd := 5 }).cmd 5 = some planned
    ∧ (busy.addItem { cmd := 5 }).waitCounts planned = true := by decide +kernel

theorem wit_commit_event : busy.cmd 5 = some planned ∧ planned.stage = .planned ∧ busy.heldEnded planned = false
    ∧ busy.commitReady planned = true ∧ busy.unitFails planned = false ∧ busy.seqGone planned = none := by decide +kernel

theorem wit_deletion : aget (qd.modSq 1 fun x => { x with st := .deleting }).queues.sqs 1 = some { cfg := sqCfg, st := .deleting }
    ∧ (∀ c ∈ qd.sched.cmds, c.sq ≠ 1) ∧ aget ({ up with dom := { doms := [(1, { tearing := true })] } } : State).dom.doms 1
        = some { tearing := true } ∧ (∀ c ∈ up.sched.cmds, c.dom ≠ 1) := by decide +kernel

/-! The cases in which a command is not taken, is kept, or is one of several. -/

/-- As `qd`, with a FENCE of SQ 1 that has not completed, which holds its queue (R10, R172). -/
def fencing : State := { qd with sched := { cmds := [{ planned with desc := 0x70 }], nextId := 6 } }

/-- As `qd`, with a NOP fetched and one more in the ring. -/
def ahead : State := qd.modSq 1 fun x => { x with fetched := [(rowDesc 0 0 0 0, 1)], head := 1, tail := 2 }

/-- As `qd`, in ERROR; and with the link down. -/
def erred : State := qd.modSq 1 fun x => { x with st := .error }
def cut : State := { qd with link := {} }

theorem wit_not_admitted : (fencing.submit 1 fenceDesc).canAdmit 1 fenceDesc = false ∧ fencing.dmaOk = true
    ∧ submitted (.nop 9 0) = some (9, rowDesc 0 0 0 0) ∧ aget qd.queues.sqs 9 = none
    ∧ aget erred.queues.sqs 1 = some { cfg := sqCfg, st := .error } ∧ erred.dmaOk = true
    ∧ aget cut.queues.sqs 1 = some { cfg := sqCfg } ∧ sqFabric sqCfg = false ∧ cut.dmaOk = false
    ∧ aget ahead.queues.sqs 1 = some { cfg := sqCfg, fetched := [(rowDesc 0 0 0 0, 1)], head := 1, tail := 2 }
    ∧ ((ahead.submit 1 (rowDesc 0 0 0 0)).sqOf 1).fetched.length = 3
    ∧ ahead.canAdmit 1 (rowDesc 0 0 0 0) = true ∧ cut.canAdmit 1 fenceDesc = true
    ∧ ({ ahead with sched := fencing.sched } : State).canAdmit 1 (rowDesc 0 0 0 0) = false := by decide +kernel

theorem wit_doorbell_none : aget qd.queues.sqs (9 : BitVec 16).toNat = none ∧ aget qd.queues.cqs (9 : BitVec 16).toNat = none
    ∧ qd.doorbellOpen false = true
    ∧ cut.doorbellOpen (((aget cut.queues.sqs (1 : BitVec 16).toNat).map fun q => sqFabric q.cfg).getD false) = false
    ∧ cut.doorbellOpen (((aget cut.queues.cqs (1 : BitVec 16).toNat).map fun q => bit q.cfg 21).getD false) = false := by
  decide +kernel

theorem wit_fetch_none : ¬ (qd.alive = true ∧ ({ cfg := sqCfg } : Sq).st = .active ∧ (0 : Nat) ≠ 0 ∧ (sqFabric sqCfg = true ∨ qd.dmaOk = true))
    ∧ ((ahead.sqOf 1).fetched = (rowDesc 0 0 0 0, 1) :: []) ∧ (qd.sqOf 1).fetched = [] := by decide +kernel

/-- As `busy`, with that command a ring ATTEND of the open lap. -/
def ringBusy : State := { busy with ring := { st := 3, lapCmds := [5] } }

theorem wit_wait_other : (ringBusy.addItem { cmd := 5 }).waitCounts planned = true ∧ (ringBusy.addItem { cmd := 5 }).ringed 5 = true
    ∧ (busy.addItem { cmd := 5 }).ringed 5 = false ∧ busy.waitCounts planned = false ∧ busy.cmd 9 = none := by decide +kernel

/-- An append of a sequence whose move has ended without an answer, and which still has an item. -/
def heldAppend : Cmd := { planned with desc := 0x10, seq := some 9 }
def commitCases : State :=
  { busy with
      sched := { cmds := [heldAppend], items := [{ cmd := 5 }] }
      seqs := { table := [(9, { gen := 1, dom := 1, st := .moving })] } }

theorem wit_commit_other : commitCases.heldEnded heldAppend = true
    ∧ busy.heldEnded { planned with stage := .failed stBadSeq 1 2 3 } = false
    ∧ busy.commitReady { planned with desc := rowDesc 0x03 0 0 (1 <<< 64) } = true
    ∧ busy.unitFails { planned with desc := rowDesc 0x03 0 0 (1 <<< 64) } = false
    ∧ busy.seqGone { planned with desc := rowDesc 0x03 0 0 (1 <<< 64) } = some ⟨stBadSeq, 0, 0, 0⟩
    ∧ commitCases.commitReady planned = false ∧ busy.heldEnded planned = false := by decide +kernel

/-- A command that uses the unit of a late checker. -/
theorem wit_unit_fails : ({ busy with faults := { late := [0, 1, 2, 3, 4, 5, 6, 7, 8, 9, 10, 11, 12, 13, 14, 15] } } : State).unitFails
      { planned with desc := rowDesc 0x20 0 0 0 } = true
    ∧ ({ busy with faults := { late := [0, 1, 2, 3, 4, 5, 6, 7, 8, 9, 10, 11, 12, 13, 14, 15] } } : State).commitReady
      { planned with desc := rowDesc 0x20 0 0 0 } = true := by decide +kernel

theorem wit_deletion_none : ¬ (({ cfg := sqCfg } : Sq).st = .deleting ∧ ∀ c ∈ qd.sched.cmds, c.sq ≠ 1)
    ∧ aget up.queues.sqs 1 = none ∧ ¬ (({} : Domain).tearing = true ∧ ∀ c ∈ up.sched.cmds, c.dom ≠ 1)
    ∧ aget up.dom.doms 9 = none := by decide +kernel


/-! ## Sequences -/

/-- A node whose index 0 is open in domain 1, generation 3, index 1 INCOMING, index 2 on its last use. -/
def sq3 : State := { up with seqs := { table := [(0, { gen := 3, dom := 1, st := .open_ }),
  (1, { gen := 4, dom := 1, st := .incoming }), (2, { gen := 65535, dom := 1, st := .open_ })] } }

theorem wit_sequence : sq3.seqRef (seqIdOf 0 (sq3.seq 0)) 1 = .ok 0 ∧ sq3.seqRef (seqIdOf 1 (sq3.seq 1)) 1 = .ahead
    ∧ sq3.seqRef (seqIdOf 0 (sq3.seq 0)) 2 = .bad ∧ (sq3.seq 0).gen < 65535 ∧ (sq3.seq 2).gen = 65535
    ∧ ((sq3.closeSeq 2).seq 2).st = .retired := by decide +kernel

theorem wit_next_index : ∃ i, up.nextSeqIndex = some i := by
  refine ⟨Config.pick 0 % 16777216, ?_⟩
  have h : Config.pick 0 % 16777216 < 16777216 := Nat.mod_lt _ (Nat.succ_pos _)
  exact if_pos ⟨h, rfl⟩

theorem wit_granules : ∃ t a, up.allocGrains 1 1 = some (t, a) := by
  unfold State.allocGrains
  have h : poolFree up.seqs.pool 1 (up.choose 16777216 (poolFree up.seqs.pool 1) (poolFit 1 1 up.seqs.pool)) = true := by
    unfold State.choose
    simp only []
    split
    · assumption
    · decide
  rw [if_pos ⟨h, by decide +kernel⟩]
  exact ⟨_, _, rfl⟩
/-! ## Writes of entries -/

/-- The value that a write of one entry gives its entry is taken. -/
def taken (s : State) (w : EntryWrite) : Bool :=
  match s.accessFail w.ch true (s.writeKey w) w.value with
  | .ok r => match s.writeEntry w.ch r (s.writeKey w) w.value with | .ok _ => r.eff != 2 | .error _ => false
  | .error _ => false

theorem wit_entry_write : entryWrite (.mapEpochCurrent .mailbox 3) = some ⟨.mailbox, 0, 0x4300, 1, leBytes 4 3⟩
    ∧ writable up ⟨.mailbox, 0, 0x4300, 1, leBytes 4 3⟩ = true ∧ taken up ⟨.mailbox, 0, 0x4300, 1, leBytes 4 3⟩ = true := by
  decide +kernel

/-- A write of an entry that is turned away: an epoch that is not newer. -/
theorem wit_entry_refused : writable up ⟨.mailbox, 0, 0x4300, 1, leBytes 4 0⟩ = true
    ∧ taken up ⟨.mailbox, 0, 0x4300, 1, leBytes 4 0⟩ = false := by decide +kernel

/-- A node whose QP 4 is a DATA QP of domain 1 in RTS and whose QP 5 is a MGMT QP in RTS. -/
def qps : State :=
  { up with xnt := { qps := [(4, { cfg := 16, st := .rts }), (5, { cfg := 1, st := .rts })] } }

/-- Each caller class on a channel of its own; of FABRIC_MGR an entry that only HOST_ADMIN may write. -/
theorem wit_rights : entryWrite (.createSq (.dataQp 4)) = some ⟨.dataQp 4, 0, 0x4100, 4, [1]⟩ ∧ qps.Serves (.dataQp 4)
    ∧ qps.Serves .i3c ∧ qps.Serves (.mgmtQp 5) ∧ pdRow 0x4100 4 ≠ none ∧ pdRow 0x2000 0x15 ≠ none :=
  ⟨rfl, serves_of (by decide +kernel), serves_of (by decide +kernel), serves_of (by decide +kernel), by decide +kernel,
    by decide +kernel⟩

/-- A FABRIC SQ of domain 1 on QP 4, and its CQ. -/
def fabSqCfg : BitVec 256 := BitVec.ofNat 256 (1 + 2 ^ 16 + 4 * 2 ^ 32 + 2 ^ 37 + 2 ^ 40 + 4 * 2 ^ 48 + 2 ^ 128)
def fabCqCfg : BitVec 256 := BitVec.ofNat 256 (1 + 4 * 2 ^ 16 + 2 ^ 21 + 4 * 2 ^ 32)

/-- Queues staged under number 0, with the CQs 1 and 2 there already. -/
def staged (c : BitVec 256) (q : BitVec 256) : State :=
  { up with queues := { cqs := [(1, { cfg := q })], stagedSq := [(0, c)], stagedCq := [(0, cqCfg)] } }

theorem wit_create_sq : (staged sqCfg cqCfg).MayWrite ⟨.mailbox, 0, 0x4100, 4, [1]⟩
    ∧ (staged sqCfg cqCfg).sel .mailbox 0x4100 1 = 0 ∧ aget (staged sqCfg cqCfg).queues.cqs (fld sqCfg 0 16) = some { cfg := cqCfg }
    ∧ sqCfgOk sqCfg = true ∧ (staged sqCfg cqCfg).domActive (sqDom sqCfg) = true ∧ cqMatches sqCfg { cfg := cqCfg } = true
    ∧ sqFabric sqCfg = false ∧ (staged sqCfg cqCfg).createsFail = false ∧ aget (staged sqCfg cqCfg).queues.sqs 0 = none :=
  ⟨mayWrite_of (by decide +kernel), by decide +kernel⟩

theorem wit_new_key (s : State) (r : Rkey) (h : s.xnt.rkeys = []) (hq : 0 < s.num 0x7120 0x13 r.dom) :
    ∃ t k g, s.newKey r = some (t, k, g) := by
  unfold State.newKey State.choose
  simp only [h, akeys, List.map_nil, List.contains_nil, Bool.not_false, if_true, List.filter_nil, List.length_nil]
  rw [if_pos ⟨Nat.mod_lt _ (Nat.succ_pos _), hq⟩]
  exact ⟨_, _, _, rfl⟩

theorem wit_create_fabric_sq : (staged fabSqCfg fabCqCfg).MayWrite ⟨.mailbox, 0, 0x4100, 4, [1]⟩
    ∧ (∃ t k g, (staged fabSqCfg fabCqCfg).newKey { kind := .queue, dom := sqDom fabSqCfg, len := sqRegion fabSqCfg, place := 0 }
        = some (t, k, g))
    ∧ sqCfgOk fabSqCfg = true ∧ (staged fabSqCfg fabCqCfg).domActive (sqDom fabSqCfg) = true
    ∧ cqMatches fabSqCfg { cfg := fabCqCfg } = true ∧ sqFabric fabSqCfg = true
    ∧ (staged fabSqCfg fabCqCfg).queueMemory + sqRegion fabSqCfg ≤ (staged fabSqCfg fabCqCfg).num 0x4000 5 :=
  ⟨mayWrite_of (by decide +kernel), wit_new_key _ _ rfl (by decide +kernel), by decide +kernel⟩

theorem wit_create_cq : (staged 0 0).MayWrite ⟨.mailbox, 0, 0x4100, 4, [3]⟩ ∧ cqCfgOk cqCfg = true
    ∧ (staged 0 0).domActive (fld cqCfg 0 12) = true ∧ (staged 0 0).createsFail = false ∧ aget (staged 0 0).queues.cqs 0 = none :=
  ⟨mayWrite_of (by decide +kernel), by decide +kernel⟩

/-- Queues under number 0. -/
def zero : State := { up with queues := { sqs := [(0, { cfg := sqCfg })], cqs := [(0, { cfg := cqCfg }), (1, { cfg := cqCfg })] } }

theorem wit_delete : zero.MayWrite ⟨.mailbox, 0, 0x4100, 4, [4]⟩ ∧ zero.MayWrite ⟨.mailbox, 0, 0x4100, 4, [2]⟩
    ∧ aget zero.queues.cqs 0 = some { cfg := cqCfg } ∧ (∀ p ∈ zero.queues.sqs, fld p.2.cfg 0 16 ≠ 0)
    ∧ aget zero.queues.sqs 0 = some { cfg := sqCfg } ∧ ({ cfg := sqCfg } : Sq).st ≠ .deleting :=
  ⟨mayWrite_of (by decide +kernel), mayWrite_of (by decide +kernel), by decide +kernel⟩

/-- The node in strict partition mode. -/
def strict : State := { up with dict := { active := [(⟨0x7000, 3, 0⟩, [1])] } }

theorem wit_domains : up.MayWrite ⟨.mailbox, 3, 0x7100, 2, [1]⟩ ∧ strict.MayWrite ⟨.mailbox, 3, 0x7100, 2, [1]⟩
    ∧ up.MayWrite ⟨.mailbox, 1, 0x7100, 2, [2]⟩ ∧ up.MayWrite ⟨.mailbox, 1, 0x7100, 2, [3]⟩
    ∧ aget up.dom.doms 3 = none ∧ up.strict = false ∧ strict.strict = true ∧ up.domActive 1 = true ∧ up.domOwns 1 = false :=
  ⟨mayWrite_of (by decide +kernel), mayWrite_of (by decide +kernel), mayWrite_of (by decide +kernel),
    mayWrite_of (by decide +kernel), by decide +kernel⟩

/-- An XTS pair whose halves differ. -/
def pair : List Byte := List.replicate 32 1 ++ List.replicate 32 2

theorem wit_keys : up.MayWrite ⟨.mailbox, 1, 0x7110, 1, pair⟩ ∧ up.MayWrite ⟨.mailbox, 1, 0x7110, 2, List.replicate 32 7⟩
    ∧ up.MayWrite ⟨.mailbox, 0, 0x7010, 1, List.replicate 32 7⟩ ∧ pair.length = 64 ∧ pair.take 32 ≠ pair.drop 32
    ∧ up.unitsHeld 1 = 0 ∧ ((aget up.dom.doms 1).getD {}).xtsKey = [] ∧ keyValue (List.replicate 32 7) ≠ ((aget up.dom.doms 1).getD {}).fabricKey
    ∧ keyValue (List.replicate 32 7) ≠ up.dom.mgmtKey ∧ up.xnt.qps = [] ∧ (keyValue (List.replicate 64 0)).isEmpty = true :=
  ⟨mayWrite_of (by decide +kernel), mayWrite_of (by decide +kernel), mayWrite_of (by decide +kernel), by decide +kernel⟩

/-- A configuration of a DATA QP of domain 1: peer node 2, one path, version 1, sub-port 0. -/
def qpCfg : BitVec 512 := BitVec.ofNat 512 (1 * 16 + 2 * 2 ^ 16 + 9 * 2 ^ 32 + 1 * 2 ^ 56 + 2 ^ 80 + 2 ^ 88 + 2 ^ 256)

/-- A node whose QP 0 has this configuration, in the given state. -/
def qp0 (st : QpSt) : State :=
  { up with
      xnt := { qps := [(0, { cfg := qpCfg, st := st })], subports := [(0, { up := true })] } }

theorem wit_qp_operations : (qp0 .reset).MayWrite ⟨.mailbox, 0, 0x6100, 3, [1]⟩ ∧ (qp0 .reset).MayWrite ⟨.mailbox, 0, 0x6100, 3, [2]⟩
    ∧ (qp0 .rts).MayWrite ⟨.mailbox, 0, 0x6100, 3, [3]⟩ ∧ (qp0 .error).MayWrite ⟨.mailbox, 0, 0x6100, 3, [4]⟩
    ∧ (qp0 .reset).sel .mailbox 0x6100 1 = 0 ∧ (qp0 .reset).qpCfgOk ((qp0 .reset).qp 0) = true ∧ (qp0 .reset).createsFail = false
    ∧ (qp0 .rts).qpCfgOk ((qp0 .rts).qp 0) = true ∧ (qp0 .error).qpCfgOk ((qp0 .error).qp 0) = true :=
  ⟨mayWrite_of (by decide +kernel), mayWrite_of (by decide +kernel), mayWrite_of (by decide +kernel),
    mayWrite_of (by decide +kernel), by decide +kernel⟩

theorem wit_epochs : up.MayWrite ⟨.mailbox, 0, 0x4300, 1, leBytes 4 1⟩ ∧ up.MayWrite ⟨.mailbox, 0, 0x4300, 2, leBytes 4 0⟩
    ∧ newer 32 1 up.seqs.epochC.toNat = true ∧ newer 32 up.seqs.epochO.toNat 0 = false
    ∧ newer 32 0 up.seqs.epochC.toNat = false :=
  ⟨mayWrite_of (by decide +kernel), mayWrite_of (by decide +kernel), by decide +kernel⟩

/-- The sequence of index 0, named in HINT_SELECT of domain 1; and a move of index 9 that ended without an answer. -/
def hinted : State :=
  { sq3 with
      dict := { selects := [(⟨.mailbox, ⟨0x3520, 1, 1⟩⟩, (seqIdOf 0 { gen := 3, dom := 1 }).toNat)] }
      seqs := { table := [(0, { gen := 3, dom := 1, st := .open_ }), (9, { gen := 1, dom := 1, st := .moving })] } }

theorem wit_cache_entries : hinted.MayWrite ⟨.mailbox, 1, 0x3520, 2, leBytes 4 127⟩
    ∧ hinted.MayWrite ⟨.mailbox, 0, 0xA030, 2, List.replicate 512 0⟩ ∧ hinted.MayWrite ⟨.mailbox, 0, 0x3500, 0xD, leBytes 2 4095⟩
    ∧ hinted.MayWrite ⟨.mailbox, 0, 0x6500, 1, leBytes 4 9⟩
    ∧ hinted.seqRef (BitVec.ofNat 64 (hinted.sel .mailbox 0x3520 1 1)) 1 = .ok 0 ∧ hinted.moveEnded 9 = true :=
  ⟨mayWrite_of (by decide +kernel), mayWrite_of (by decide +kernel), mayWrite_of (by decide +kernel),
    mayWrite_of (by decide +kernel), by decide +kernel⟩

/-- FAULT_INJECT of ARRAY_CE, once. -/
def injectVal : BitVec 128 := BitVec.ofNat 128 (1 + 2 ^ 64)

theorem wit_fault_entries : up.MayWrite ⟨.mailbox, 0, 0x8000, 4, [1]⟩
    ∧ up.MayWrite ⟨.mailbox, 0, 0x8130, 1, leBytes 16 injectVal.toNat⟩ ∧ up.MayWrite ⟨.mailbox, 0, 0x8100, 4, leBytes 4 7⟩
    ∧ up.MayWrite ⟨.mailbox, 0, 0x8200, 4, leBytes 4 0⟩ ∧ up.MayWrite ⟨.mailbox, 0, 0x7300, 4, [1]⟩
    ∧ up.MayWrite ⟨.mailbox, 0, 0x1000, 7, leBytes 2 5⟩ ∧ fld injectVal 12 4 = 0 ∧ fld injectVal 48 4 < 4
    ∧ fld injectVal 58 6 = 0 ∧ fld injectVal 64 16 ≠ 0 ∧ fld injectVal 80 48 = 0 ∧ fld (7 : BitVec 32) 5 3 = 0
    ∧ fld (7 : BitVec 32) 13 3 = 0 ∧ fld (7 : BitVec 32) 18 14 = 0 ∧ srcForced 4 &&& (7 % 32) = srcForced 4
    ∧ srcBlock 4 = true ∧ 0 < up.ringDepth
    ∧ (0 + up.ringDepth - up.faults.ringHead) % up.ringDepth ≤ up.faults.ringCount
    ∧ up.hidden .mailbox (sqDom (up.sqOf (up.sel .mailbox 0x7300 2)).cfg) = false ∧ 5 ≤ up.boot.fwSvn :=
  ⟨mayWrite_of (by decide +kernel), mayWrite_of (by decide +kernel), mayWrite_of (by decide +kernel),
    mayWrite_of (by decide +kernel), mayWrite_of (by decide +kernel), mayWrite_of (by decide +kernel), by decide +kernel⟩

/-- One signature for tile logic of the pattern count in force, and stack 2 PREPARED. -/
def bist : State :=
  { up with
      boot := { up.boot with bistTable := leBytes 16 (up.num 0x5000 4 * 2 ^ 32 + 99 * 2 ^ 96) }
      test := { asb := [(2, { st := 1 }), (3, { st := 3 })] } }

/-- LBIST_START of the spare tile 21, logic and memory. -/
def lbistVal : BitVec 64 := 21 + 3 * 256

theorem wit_tests : bist.MayWrite ⟨.mailbox, 0, 0x5000, 1, leBytes 8 lbistVal.toNat⟩
    ∧ bist.MayWrite ⟨.mailbox, 0, 0x5200, 1, leBytes 1 (11 + 1 * 16)⟩ ∧ bist.MayWrite ⟨.mailbox, 0, 0x5200, 1, leBytes 1 (2 + 2 * 16)⟩
    ∧ bist.MayWrite ⟨.mailbox, 0, 0x5200, 1, leBytes 1 (2 + 3 * 16)⟩
    ∧ fld lbistVal 0 7 ≤ 71 ∧ bit lbistVal 7 = false ∧ fld lbistVal 10 54 = 0 ∧ fld lbistVal 8 2 ≠ 0
    ∧ (bist.bistEntry 0 (bist.num 0x5000 4)).isSome = true ∧ bist.test.lbState ≠ 1 ∧ (bist.tile (fld lbistVal 0 7)).st ≠ 0
    ∧ (bist.asbOf 11).st = 0 ∧ (bist.asbOf 3).st = 3 ∧ (bist.asbOf 2).st = 1 ∧ bist.stackHeld 2 = 0 :=
  ⟨mayWrite_of (by decide +kernel), mayWrite_of (by decide +kernel), mayWrite_of (by decide +kernel),
    mayWrite_of (by decide +kernel), by decide +kernel⟩
/-- Domain 1 is mirrored over QP 4, which is in RTS. -/
def mirror : State :=
  { qps with dict := { active := [(⟨0x8410, 1, 1⟩, leBytes 2 4)] } }

/-- The peer's hello is there. -/
def helloed : State := { mirror with shadow := { hello := mirror.shadowHelloBytes } }

/-- Another state of the session. -/
def session (x : Shadow) : State := { mirror with shadow := x }

theorem wit_shadow_start : mirror.MayWrite ⟨.mailbox, 0, 0x8400, 1, [1]⟩ ∧ mirror.shadow.st = 0 ∧ mirror.shadow.started = false
    ∧ mirror.shadowQp = some 4 ∧ (mirror.qp 4).st = .rts ∧ mirror.shadow.hello = [] :=
  ⟨mayWrite_of (by decide +kernel), by decide +kernel⟩

theorem wit_shadow_primary : helloed.MayWrite ⟨.mailbox, 0, 0x8400, 1, [1]⟩ ∧ helloed.shadowQp = some 4
    ∧ helloed.shadow.hello ≠ [] ∧ ∃ t, helloed.startPrimary = .ok t := by
  have hb : helloed.shadowHelloBytes = mirror.shadowHelloBytes := rfl
  have e : ∃ a, a.length = 96 ∧ mirror.shadowHelloBytes = a ++ ([1] ++ [1]) := by
    refine ⟨padTo 32 mirror.boot.fwMeas ++ padTo 32 mirror.prof.digest ++ mirror.scoreDigest, ?_, ?_⟩
    · simp [State.scoreDigest]
    · unfold State.shadowHelloBytes
      simp only [List.append_assoc]
      rfl
  obtain ⟨a, ha, e⟩ := e
  have h96 : slice mirror.shadowHelloBytes 96 1 = leBytes 1 1 := by rw [e, slice_append _ _ _ _ ha]; rfl
  have h97 : slice mirror.shadowHelloBytes 97 1 = leBytes 1 1 := by
    rw [e, ← List.append_assoc, slice_append _ _ 97 _ (by simp [ha])]; rfl
  have k : shadowCheck helloed.shadowHelloBytes helloed.shadow.hello = 0 := by
    unfold shadowCheck
    rw [hb, show helloed.shadow.hello = mirror.shadowHelloBytes from rfl, h96, h97]
    simp
  refine ⟨mayWrite_of (by decide +kernel), by decide +kernel, ?_, ?_⟩
  · rw [show helloed.shadow.hello = mirror.shadowHelloBytes from rfl, e]
    simp
  · unfold State.startPrimary
    rw [k]
    exact ⟨_, rfl⟩

theorem wit_shadow_operations : (session { st := 3 }).MayWrite ⟨.mailbox, 0, 0x8400, 1, [2]⟩
    ∧ (session { started := true }).MayWrite ⟨.mailbox, 0, 0x8400, 1, [3]⟩ ∧ (session { st := 1 }).MayWrite ⟨.mailbox, 0, 0x8400, 1, [3]⟩
    ∧ (session { st := 5 }).MayWrite ⟨.mailbox, 0, 0x8400, 1, [4]⟩ ∧ (session { st := 6 }).MayWrite ⟨.mailbox, 0, 0x8400, 1, [4]⟩
    ∧ (session { st := 1 }).shadowOn = true ∧ (session { st := 4 }).shadowOn = true ∧ up.MayWrite ⟨.mailbox, 0, 0x8300, 6, [1]⟩ :=
  ⟨mayWrite_of (by decide +kernel), mayWrite_of (by decide +kernel), mayWrite_of (by decide +kernel),
    mayWrite_of (by decide +kernel), mayWrite_of (by decide +kernel), by decide +kernel, by decide +kernel,
    mayWrite_of (by decide +kernel)⟩

/-- A shaper of 1 Gb/s with its peak, in shared mode. -/
def shaperVal : BitVec 256 := BitVec.ofNat 256 (1000000 + 65536 * 2 ^ 64 + 2000000 * 2 ^ 128 + 65536 * 2 ^ 192)

theorem wit_cmd_entries : up.MayWrite ⟨.mailbox, 1, 0x7130, 0, leBytes 32 0⟩ ∧ up.MayWrite ⟨.mailbox, 1, 0x7130, 1, leBytes 32 0⟩
    ∧ up.MayWrite ⟨.mailbox, 1, 0x3510, 1, leBytes 8 4096⟩ ∧ up.MayWrite ⟨.mailbox, 1, 0x3510, 2, leBytes 4 0⟩
    ∧ up.valueFail ⟨0x7130, 0, 0, 9, 32, true, 1, 3, 3, 0, 1, 0, 0, 0⟩ ⟨0x7130, 0, 1⟩ (leBytes 32 0) = none
    ∧ up.valueFail ⟨0x7130, 1, 1, 9, 32, true, 1, 3, 3, 0, 1, 0, 0, 0⟩ ⟨0x7130, 1, 1⟩ (leBytes 32 0) = none
    ∧ up.tierWrite 1 1 4096 = none ∧ up.tierWrite 2 1 0 = none :=
  ⟨mayWrite_of (by decide +kernel), mayWrite_of (by decide +kernel), mayWrite_of (by decide +kernel),
    mayWrite_of (by decide +kernel), by decide +kernel⟩

/-- Shadow copies that wait for their boundary. -/
def pendingCopies : State :=
  { up with dict := { shadow := [(⟨0x3510, 1, 1⟩, leBytes 8 4096), (⟨0x7130, 1, 1⟩, leBytes 32 0), (⟨0x8200, 1, 0⟩, leBytes 8 0)] } }

theorem wit_cmd_effect : (pendingCopies.dict.shadow.find? fun p => p.1 == ⟨0x3510, 1, 1⟩) = some (⟨0x3510, 1, 1⟩, leBytes 8 4096)
    ∧ (pendingCopies.dict.shadow.find? fun p => p.1 == ⟨0x7130, 1, 1⟩) = some (⟨0x7130, 1, 1⟩, leBytes 32 0)
    ∧ (pendingCopies.dict.shadow.find? fun p => p.1 == ⟨0x8200, 1, 0⟩) = some (⟨0x8200, 1, 0⟩, leBytes 8 0) := by decide +kernel

/-- DMA_REGION_15 of domain 1: 4,096 bytes from 4,096. -/
def regionWrite : EntryWrite := ⟨.mailbox, 1, 0x3710, 15, leBytes 16 (4096 + 2 ^ 64)⟩

/-- A write passes every check of a DRAIN entry. -/
def drains (s : State) (w : EntryWrite) : Bool :=
  match s.accessFail w.ch true (s.writeKey w) w.value with
  | .ok r => s.valueFail r (s.writeKey w) w.value == none && s.drainFail (s.writeKey w) w.value == none
  | .error _ => false

theorem wit_drain_write : entryWrite (.dmaRegion .mailbox 1 15 (BitVec.ofNat 128 (4096 + 2 ^ 64))) = some regionWrite
    ∧ up.Serves .mailbox ∧ drains up regionWrite = true :=
  ⟨by decide +kernel, serves_of (by decide +kernel), by decide +kernel⟩

/-- That write waiting; and PARTITION_MODE waiting. -/
def waiting (k : PdKey) (v : List Byte) : State :=
  { up with dict := { drains := [⟨{ ch := .mailbox }, k, v, []⟩] } }

theorem wit_drain_apply : (waiting ⟨0x3710, 15, 1⟩ regionWrite.value).quiesced ⟨0x3710, 15, 1⟩ = true
    ∧ (waiting ⟨0x3710, 15, 1⟩ regionWrite.value).drainFail ⟨0x3710, 15, 1⟩ regionWrite.value = none
    ∧ (waiting ⟨0x7000, 3, 0⟩ [0]).quiesced ⟨0x7000, 3, 0⟩ = true ∧ (waiting ⟨0x7000, 3, 0⟩ [0]).partBroken ⟨0x7000, 3, 0⟩ [0] = 0
    ∧ (waiting ⟨0x7000, 3, 0⟩ [0]).drainFail ⟨0x7000, 3, 0⟩ [0] = none := by decide +kernel

/-- A request with one READ of 0x1000.01 of 32 bytes, and one whose LENGTH is wrong. -/
def readReq : List Byte := leBytes 16 (1 + 256 + 32 * 2 ^ 64) ++ leBytes 16 (1 + 2 ^ 8 + 2 ^ 16 * 0x1000 + 32 * 2 ^ 32)
def shortReq : List Byte := leBytes 16 (1 + 256 + 99 * 2 ^ 64) ++ leBytes 16 (1 + 2 ^ 8 + 2 ^ 16 * 0x1000 + 32 * 2 ^ 32)

theorem wit_requests : (parseRequest .mailbox 0 0 readReq).bad = none ∧ (parseRequest .mailbox 0 0 shortReq).bad = some (1, 8)
    ∧ up.Serves .mailbox ∧ (waiting ⟨0x7000, 3, 0⟩ [0]).chanOpen .mailbox = true
    ∧ chanLimit .mailbox ≤ (waiting ⟨0x7000, 3, 0⟩ [0]).inFlight .mailbox :=
  ⟨by decide +kernel, by decide +kernel, serves_of (by decide +kernel), by decide +kernel⟩
/-! Writes that are turned away by the entry's own rule. -/

theorem mayWrite_all {l : List (State × EntryWrite)} (h : (l.all fun p => writable p.1 p.2) = true) :
    ∀ p ∈ l, p.1.MayWrite p.2 := fun p hp => mayWrite_of (List.all_eq_true.mp h p hp)

/-- A write by the mailbox. -/
def mbx (dom idx sub : Nat) (l : List Byte) : EntryWrite := ⟨.mailbox, dom, idx, sub, l⟩

/-- The queues of `staged` and `zero` in the states in which an operation on number 0 finds it busy. -/
def sqThere : State := (staged sqCfg cqCfg).modQueues fun x => { x with sqs := [(0, { cfg := sqCfg })] }
def cqThere : State := (staged 0 0).modQueues fun x => { x with cqs := [(0, { cfg := cqCfg })] }
def deleting : State := zero.modSq 0 fun x => { x with st := .deleting }
def served : State := up.modQueues fun _ => { sqs := [(1, { cfg := sqCfg - 1 })], cqs := [(0, { cfg := cqCfg })] }

theorem wit_queue_busy : (∀ p ∈ [(sqThere, mbx 0 0x4100 4 [1]), (cqThere, mbx 0 0x4100 4 [3]), (deleting, mbx 0 0x4100 4 [2]),
      (up, mbx 0 0x4100 4 [2]), (up, mbx 0 0x4100 4 [4]), (served, mbx 0 0x4100 4 [4])], p.1.MayWrite p.2)
    ∧ aget sqThere.queues.sqs 0 ≠ none ∧ aget sqThere.queues.cqs (fld sqCfg 0 16) = some { cfg := cqCfg }
    ∧ sqThere.domActive (sqDom sqCfg) = true ∧ sqThere.createsFail = false ∧ sqThere.sel .mailbox 0x4100 1 = 0
    ∧ cqThere.domActive (fld cqCfg 0 12) = true ∧ cqThere.createsFail = false ∧ aget cqThere.queues.cqs 0 ≠ none
    ∧ (aget deleting.queues.sqs 0).map Sq.st = some .deleting ∧ aget up.queues.sqs 0 = none ∧ aget up.queues.cqs 0 = none
    ∧ (∃ p ∈ served.queues.sqs, fld p.2.cfg 0 16 = 0) :=
  ⟨mayWrite_all (by decide +kernel), by decide +kernel⟩

/-- Domain 1 owns a queue; its XTS key is loaded while units are held; its fabric key and the management key are loaded, with a QP of
each role in RTS. -/
def ownsKeys : State :=
  { qps with
      queues := { cqs := [(1, { cfg := cqCfg })] }
      tier := { units := [(1, [⟨0, 1⟩])] }
      dom := { doms := [(1, { xtsKey := List.replicate 64 9, fabricKey := List.replicate 32 7 }), (2, {})]
               mgmtKey := List.replicate 32 8 } }

theorem wit_domain_busy : (∀ p ∈ [(up, mbx 1 0x7100 2 [1]), (up, mbx 9 0x7100 2 [2]), (ownsKeys, mbx 1 0x7100 2 [3])], p.1.MayWrite p.2)
    ∧ aget up.dom.doms 1 ≠ none ∧ up.domActive 9 = false ∧ ownsKeys.domOwns 1 = true :=
  ⟨mayWrite_all (by decide +kernel), by decide +kernel⟩

theorem wit_key_busy : (∀ p ∈ [(up, mbx 1 0x7110 1 (List.replicate 64 7)), (ownsKeys, mbx 1 0x7110 1 pair),
      (ownsKeys, mbx 1 0x7110 2 (List.replicate 32 7)), (ownsKeys, mbx 1 0x7110 2 (List.replicate 32 6)),
      (ownsKeys, mbx 0 0x7010 1 (List.replicate 32 8)), (ownsKeys, mbx 0 0x7010 1 (List.replicate 32 6))], p.1.MayWrite p.2)
    ∧ (keyValue (List.replicate 64 7)).isEmpty = false ∧ (List.replicate 64 (7 : Byte)).take 32 = (List.replicate 64 (7 : Byte)).drop 32
    ∧ keyValue pair ≠ List.replicate 64 9 ∧ 0 < ownsKeys.unitsHeld 1 ∧ keyValue (List.replicate 32 7) = List.replicate 32 7
    ∧ keyValue (List.replicate 32 6) ≠ List.replicate 32 7 ∧ keyValue (List.replicate 32 6) ≠ ownsKeys.dom.mgmtKey
    ∧ keyValue (List.replicate 32 8) = ownsKeys.dom.mgmtKey
    ∧ (∃ p ∈ ownsKeys.xnt.qps, p.2.isMgmt = false ∧ p.2.dom = 1 ∧ p.2.st ≠ .reset)
    ∧ (∃ p ∈ ownsKeys.xnt.qps, p.2.isMgmt = true ∧ p.2.st ≠ .reset) :=
  ⟨mayWrite_all (by decide +kernel), by decide +kernel⟩

/-- The node after a startup in which a unit of the fabric failed. -/
def partFailed : State := { qp0 .reset with boot := { up.boot with startupFail := [72] } }

theorem wit_qp_busy : (∀ p ∈ [1, 2, 3, 4].flatMap fun op => [(qp0 .listen, mbx 0 0x6100 3 [op]), (partFailed, mbx 0 0x6100 3 [op]),
      (up, mbx 0 0x6100 3 [op])], p.1.MayWrite p.2)
    ∧ (qp0 .listen).qpCfgOk ((qp0 .listen).qp 0) = true ∧ (qp0 .listen).createsFail = false
    ∧ ((qp0 .listen).qp 0).st = .listen ∧ partFailed.createsFail = true ∧ partFailed.qpCfgOk (partFailed.qp 0) = true
    ∧ up.qpCfgOk (up.qp 0) = false ∧ up.sel .mailbox 0x6100 1 = 0 :=
  ⟨mayWrite_all (by decide +kernel), by decide +kernel⟩

/-- C at 5 and O at 3. -/
def epochs : State := { up with seqs := { epochC := 5, epochO := 3 } }

theorem wit_cache_refused : (∀ p ∈ [(epochs, mbx 0 0x4300 1 (leBytes 4 5)), (epochs, mbx 0 0x4300 2 (leBytes 4 2)),
      (epochs, mbx 0 0x4300 2 (leBytes 4 6)), (up, mbx 0 0x6500 1 (leBytes 4 9)), (up, mbx 1 0x3520 2 (leBytes 4 127))], p.1.MayWrite p.2)
    ∧ newer 32 5 epochs.seqs.epochC.toNat = false ∧ newer 32 epochs.seqs.epochO.toNat 2 = true
    ∧ newer 32 6 epochs.seqs.epochC.toNat = true ∧ up.moveEnded 9 = false ∧ up.callerDom .mailbox 1 = 1
    ∧ up.seqRef (BitVec.ofNat 64 (up.sel .mailbox 0x3520 1 1)) 1 = .bad :=
  ⟨mayWrite_all (by decide +kernel), by decide +kernel⟩

/-- A DATA QP of domain 2 on which QP 4's queues do not show; a FAULT_INJECT and a SOURCE_REACTION that are out of range. -/
def other : State := { qps with queues := { sqs := [(0, { cfg := sqCfg + 65536 })] } }

theorem wit_fault_refused : (∀ p ∈ [(up, mbx 0 0x8130 1 (leBytes 16 (2 ^ 12 + 2 ^ 64))), (up, mbx 0 0x8100 4 (leBytes 4 32)),
      (up, mbx 0 0x8200 4 (leBytes 4 4096)), (up, mbx 0 0x8200 4 (leBytes 4 1)), (up, mbx 0 0x1000 7 (leBytes 2 6)),
      (other, ⟨.dataQp 4, 0, 0x7300, 4, [1]⟩)], p.1.MayWrite p.2)
    ∧ fld (BitVec.ofNat 128 (2 ^ 12 + 2 ^ 64)) 12 4 = 1 ∧ fld (32 : BitVec 32) 5 3 = 1 ∧ up.ringDepth ≤ 4096 ∧ 1 < up.ringDepth
    ∧ up.faults.ringCount < (1 + up.ringDepth - up.faults.ringHead) % up.ringDepth ∧ up.boot.fwSvn < 6
    ∧ other.hidden (.dataQp 4) (sqDom (other.sqOf (other.sel (.dataQp 4) 0x7300 2)).cfg) = true :=
  ⟨mayWrite_all (by decide +kernel), by decide +kernel⟩

/-- As `bist`, with no tile that may stand in for another. -/
def noSpares : State :=
  { bist with tiles := { status := (List.range 72).map fun k => { st := if k = 21 then 1 else 0, testing := k == 21, logical := some k } } }

theorem wit_tests_refused : (∀ p ∈ [(bist, mbx 0 0x5000 1 (leBytes 8 (3 * 256 + 5))), (noSpares, mbx 0 0x5000 1 (leBytes 8 (3 * 256 + 5))),
      (bist, mbx 0 0x5000 1 (leBytes 8 (3 * 256 + 72))), (up, mbx 0 0x5000 1 (leBytes 8 (3 * 256 + 5))),
      ({ bist with test := { bist.test with lbState := 1 } }, mbx 0 0x5000 1 (leBytes 8 lbistVal.toNat)),
      (bist, mbx 0 0x5200 1 (leBytes 1 (12 + 16))), (bist, mbx 0 0x5200 1 (leBytes 1 (12 + 32))), (bist, mbx 0 0x5200 1 (leBytes 1 (12 + 48))),
      (bist, mbx 0 0x5200 1 (leBytes 1 (2 + 16))), (bist, mbx 0 0x5200 1 (leBytes 1 (3 + 32))), (bist, mbx 0 0x5200 1 (leBytes 1 (0 + 48)))],
        p.1.MayWrite p.2)
    ∧ (bist.tile 5).st = 0 ∧ bist.spareTile 5 ≠ none ∧ (noSpares.tile 5).st = 0 ∧ noSpares.spareTile 5 = none
    ∧ (noSpares.bistEntry 0 (noSpares.num 0x5000 4)).isSome = true ∧ up.bistEntry 0 (up.num 0x5000 4) = none
    ∧ (bist.asbOf 2).st = 1 ∧ (bist.asbOf 3).st = 3 ∧ (bist.asbOf 0).st = 0 :=
  ⟨mayWrite_all (by decide +kernel), by decide +kernel⟩

/-- As `helloed`, by a hello whose checks fail. -/
def wrongHello : State := { mirror with shadow := { hello := List.replicate 98 1 } }

theorem wit_shadow_refused : (∀ p ∈ [(up, mbx 0 0x8400 1 [1]), (session { st := 1 }, mbx 0 0x8400 1 [1]),
      (session { started := true }, mbx 0 0x8400 1 [1]), (up, mbx 0 0x8400 1 [2]), (session { st := 3, isShadow := true }, mbx 0 0x8400 1 [2]),
      (up, mbx 0 0x8400 1 [3]), (up, mbx 0 0x8400 1 [4])], p.1.MayWrite p.2)
    ∧ up.shadow.st = 0 ∧ up.shadow.started = false ∧ up.shadowQp = none ∧ up.shadowOn = false
    ∧ (session { st := 3 }).shadow.seqs = []
    ∧ (session { st := 3, isShadow := true }).shadow.isShadow = true :=
  ⟨mayWrite_all (by decide +kernel), by decide +kernel⟩

theorem wit_takeover : (session { st := 3 }).takeRecords 0 = some (session { st := 3 }) := rfl

theorem wit_shadow_check : wrongHello.MayWrite (mbx 0 0x8400 1 [1]) ∧ wrongHello.shadowQp = some 4 ∧ (wrongHello.qp 4).st = .rts
    ∧ wrongHello.shadow.hello ≠ [] ∧ shadowCheck wrongHello.shadowHelloBytes wrongHello.shadow.hello ≠ 0 := by
  have h : slice wrongHello.shadowHelloBytes 0 32 ≠ slice wrongHello.shadow.hello 0 32 := by decide +kernel
  refine ⟨mayWrite_of (by decide +kernel), by decide +kernel, by decide +kernel, by decide +kernel, ?_⟩
  unfold shadowCheck
  rw [if_pos h]
  decide

theorem wit_cmd_refused : (∀ p ∈ [(up, mbx 1 0x3510 1 (leBytes 8 1)), (up, mbx 1 0x3510 2 (leBytes 4 1))], p.1.MayWrite p.2)
    ∧ up.tierWrite 1 1 1 = some (bad 0) ∧ up.tierWrite 2 1 1 = some (bad 0) :=
  ⟨mayWrite_all (by decide +kernel), by decide +kernel⟩

/-- Shadow copies of one entry each of what a boundary does more for, and of none. -/
theorem wit_cmd_effects : (∀ k ∈ [(⟨0x7130, 1, 1⟩ : PdKey), ⟨0x8200, 1, 0⟩, ⟨0x3000, 8, 0⟩, ⟨0xA000, 4, 0⟩, ⟨0x3510, 1, 1⟩],
      governsRing k = false ∧ ∃ r, pdRow k.idx k.sub = some r ∧ r.eff = 1)
    ∧ (up.dict.shadow.find? fun p => p.1 == ⟨0x3510, 1, 1⟩) = none ∧ pdRow 0x9999 1 = none
    ∧ (∃ r, pdRow 0x2000 0x15 = some r ∧ r.eff ≠ 1) ∧ governsRing ⟨0x6600, 2, 0⟩ = true := by decide +kernel

/-- That DRAIN write with a command of the domain, and one whose region no longer fits; PARTITION_MODE 1 on a node that is not partitioned. -/
theorem wit_drain_refused : (waiting ⟨0x7000, 3, 0⟩ [1]).quiesced ⟨0x7000, 3, 0⟩ = true
    ∧ (waiting ⟨0x7000, 3, 0⟩ [1]).partBroken ⟨0x7000, 3, 0⟩ [1] ≠ 0
    ∧ ({ waiting ⟨0x3710, 15, 1⟩ regionWrite.value with sched := { cmds := [{ planned with desc := rowDesc 0x20 0 0 0 }] } } : State).quiesced
        ⟨0x3710, 15, 1⟩ = false
    ∧ up.dict.drains = [] := by decide +kernel

theorem wit_drain_value : up.Serves .mailbox ∧ ∃ r, up.accessFail .mailbox true (up.writeKey (mbx 0 0x7000 3 [2])) [2] = .ok r
        ∧ ((up.valueFail r (up.writeKey (mbx 0 0x7000 3 [2])) [2]).or (up.drainFail (up.writeKey (mbx 0 0x7000 3 [2])) [2])).isSome = true :=
  ⟨serves_of (by decide +kernel), _, rfl, by decide +kernel⟩

/-- Channels that are closed, busy with their requests, or whose firmware does not serve; halves of the ring's place that wait. -/
theorem wit_request_cases : (session {}).chanOpen (.dataQp 9) = false ∧ cut.chanOpen .mailbox = false
    ∧ ({ up with boot := { up.boot with mgmtRestarting := true } } : State).mgmtUp = false
    ∧ ({ up with boot := { up.boot with mgmtRestarting := true } } : State).chanOpen .mailbox = true
    ∧ ({ up with dict := { waiting := [{ ch := .mailbox }] } } : State).chanOpen .mailbox = true
    ∧ (pendingCopies.dict.shadow.find? fun p => p.1 == ⟨0x8200, 2, 0⟩) = none
    ∧ (({ up with dict := { shadow := [(⟨0x8200, 1, 0⟩, leBytes 8 0), (⟨0x8200, 2, 0⟩, leBytes 4 8)] } } : State).dict.shadow.find?
        fun p => p.1 == ⟨0x8200, 2, 0⟩) = some (⟨0x8200, 2, 0⟩, leBytes 4 8) := by decide +kernel

/-! ## Items, stripes, refresh -/

/-- An item of the command 5 on the tile path: two leaves, two rows. -/
def item : Item := { tag := 3, cmd := 5, dom := 1, tilePath := true, sets := 1, granules := 2, leaves := 2, rows := 2 }

/-- The node with one item. -/
def oneItem (it : Item) : State := { busy with sched := { cmds := [planned], nextId := 6, items := [it] } }

theorem wit_items : (∀ it ∈ busy.sched.items, it.slice = 0 → busy.itemReady it = false) ∧ (oneItem item).itemReady item = true
    ∧ (oneItem item).power.brownOut = false ∧ item.tilePath = true ∧ ((oneItem item).itemTiles item).head? = some 0
    ∧ (oneItem item).fits item 0 = true
    ∧ ((oneItem { item with st := .placed }).sched.items.find? fun it => it.tag == 3 && it.st == .placed)
        = some { item with st := .placed }
    ∧ (oneItem { item with st := .placed }).cmd 5 = some planned ∧ leafReady { item with st := .placed } (item.leaf0 + 1) = true
    ∧ ((oneItem { item with st := .running }).sched.items.find? fun it => it.tag == 3 && it.st == .running)
        = some { item with st := .running } ∧ (oneItem item).faults.inject = []
    ∧ (((((oneItem { item with st := .running }).bump 0xB100 0xB).requeueAll [{ item with st := .running }]).sched.items.find? fun x =>
        x.cmd == 5 && x.head == 0 && x.row0 == 0 && x.leaf0 == 0).isSome) = true := by decide +kernel

theorem wit_halves : 2 ≤ item.leaves ∧ 2 ≤ ({ item with leaves := 1 } : Item).rows := by decide

/-- Domain 2 has an item ready for the tile that domain 1 holds. -/
def turns : State :=
  { up with sched := { items := [{ item with dom := 2 }], turns := [(0, { holder := some 1 })] } }

/-- One tile group of one slice, full of items of priority 0, and one more of priority 15. -/
def crowded : State :=
  { up with
      tiles := { status := (List.range 72).map fun _ => { free := 0, logical := some 0 } }
      sched := { items := [{ item with tag := 8, prio := 15, granules := 1 },
        { item with tag := 9, granules := 64, st := .running }] } }

theorem wit_turn : turns.strict = false ∧ (turns.turn 0).holder = some 1
    ∧ ((turns.tileDoms 0).filter fun d => turns.sched.items.any fun it =>
        it.dom == d && turns.itemReady it && (turns.sliceTiles it.slice d).contains 0).find? (fun d => decide (1 < d)) = some 2 := by
  decide +kernel

theorem wit_preempt : (crowded.sched.items.find? fun it => it.tag == 8) = some { item with tag := 8, prio := 15, granules := 1 }
    ∧ crowded.preempts { item with tag := 8, prio := 15, granules := 1 } = true
    ∧ crowded.preemptTile { item with tag := 8, prio := 15, granules := 1 } = some 0
    ∧ crowded.killsOn { item with tag := 8, prio := 15, granules := 1 } 0 = some [{ item with tag := 9, granules := 64, st := .running }]
    ∧ takeVictims 3 [item, item, item] = some [item, item] := by decide +kernel

/-- A stripe of the item, on bank pair 0 of stack 0. -/
def stripes : State :=
  { oneItem { item with st := .running, slots := [{}], stripes := [0] } with
      awns := { stripes := [{ tag := 3 }], refresh := [(1, { running := true })], held := [(0, 3)] } }

theorem wit_stripe : (stripes.awns.stripes.find? fun y => y.tag == 3) = some { tag := 3 } ∧ stripes.faults.inject = []
    ∧ stripes.strict = false
    ∧ (stripes.modAwns fun a => { a with stripes := a.stripes.filter fun y => y.tag ≠ 3 }).stripeOwner 3
        = some { item with st := .running, slots := [{}], stripes := [0] }
    ∧ (stripes.awns.held.filter fun h => h.1 == 0) = [(0, 3)] := by decide +kernel

/-- Bank pair 0 under a stripe, bank pair 1 refreshing, bank pair 31 idle. -/
theorem wit_refresh : stripes.bpBusy 0 0 31 = false ∧ (stripes.refreshOf 0 0 31).running = false ∧ stripes.bpBusy 0 0 0 = true
    ∧ (stripes.refreshOf 0 0 1).running = true ∧ (stripes.refreshOf 0 0 1).due = false
    ∧ (stripes.refreshOf 0 0 1).management = false := by decide +kernel

/-! ## Sweeps, scrub, patrol, spares, narrowing -/

theorem wit_sweeps : up.faults.inject = [] ∧ (⟨true, false⟩ : SweepResult) ≠ ⟨true, true⟩ ∧ awnExists 0x21210B = true
    ∧ (up.awn 0x21210B).st ≠ 2 ∧ (up.tile 71).st ≠ 2 ∧ checkerNo .husk ∉ up.faults.late := by decide +kernel

/-- Slot 0 holds page 0 of sequence 0 of domain 1, slot 7 is queued for its scrub, slot 8 lies in a channel that has gone. -/
def paged : State :=
  { up with
      pages := { map := [(0, { dom := 1, refs := 1 })], slots := [(0, { format := 0x01 })],
                 use := [(0, .page 0), (7, .scrub [5]), (1778, .scrub []), (57344, .scrub [])], suspects := [(0, 0)] }
      seqs := { table := [(0, { gen := 3, dom := 1, st := .open_, preclean := true, handles := [(hkey 0 0, 0)] })] }
      awns := { chanDead := [(0, 1)] } }

theorem wit_scrub : aget paged.pages.use 7 = some (.scrub [5]) ∧ (∀ id ∈ [5], paged.cmd id = none) ∧ paged.slotWorks 7 = true
    ∧ aget paged.pages.use 57344 = some (.scrub []) ∧ paged.slotWorks 57344 = false := by decide +kernel

theorem wit_patrol : paged.faults.inject = [] ∧ (0 : Nat) + 1 < slotCount ∧ 22020095 + 1 = slotCount
    ∧ aget paged.pages.use 0 = some (.page 0) ∧ 0 ∉ paged.pages.lost ∧ (∃ x ∈ paged.pages.suspects, x.1 = 0) := by decide +kernel

/-- Awn 3 of stack 0, channel 0 retired; tile 5 retired; a channel copy to the spare 32. -/
def retired : State :=
  { up with
      awns := { awns := [(3 * 65536, { st := 2, servesA := 3 })], chanCopies := [(0, 4, 32)] }
      tiles := { status := defaultTiles.set 5 { st := 2, logical := some 5 } } }

theorem wit_spares : retired.awn (3 * 65536) = { st := 2, servesA := 3 } ∧ retired.logChan 0 0 = some 0 ∧ retired.bpBusy 0 0 3 = false
    ∧ retired.bpBusy 0 0 63 = false
    ∧ ((retired.modAwn (3 * 65536) fun y => { y with servesA := 63, servesB := 63, borrowed := false }).awn
        (awnUnit 0 0 (32 + awnGroup 3))).st = 1
    ∧ (retired.tile 5).logical = some 5 ∧ (retired.tile 5).st = 2 ∧ retired.spareTile 5 = some 21
    ∧ (retired.awns.chanCopies.find? fun c => c.1 == 0 && c.2.1 == 4) = some (0, 4, 32) ∧ retired.chanBusy 0 4 = false := by
  decide +kernel

theorem wit_next_page : ∃ q, paged.nextPage = some q := by
  have h : paged.choose 33554432 (fun i => !(akeys paged.pages.map ++ paged.pages.reservedIdx).contains i)
      (leastFree (akeys paged.pages.map ++ paged.pages.reservedIdx) 0
        ((akeys paged.pages.map ++ paged.pages.reservedIdx).length + 1)) < 33554432 := by
    unfold State.choose
    simp only []
    split
    · exact Nat.mod_lt _ (Nat.succ_pos _)
    · decide +kernel
  exact ⟨_, if_pos h⟩

theorem wit_narrow : paged.seqRef (seqIdOf 0 { gen := 3, dom := 1 }) 1 = .ok 0 ∧ (paged.seq 0).handle 0 0 = some 0
    ∧ paged.page 0 = some { dom := 1, refs := 1 } ∧ narrowTo (paged.slotData 0).format = some 2
    ∧ paged.freeIn (slotStack 0) (slotChan 0) (slotBp 0) = some 1 ∧ 0 ∉ paged.pages.lost ∧ paged.readersOf 0 = []
    ∧ paged.grantOk 1 = true ∧ paged.slotWorks 1 = true ∧ paged.viewPending 0 = false ∧ (∃ q, paged.nextPage = some q) := by
  refine ⟨by decide +kernel, by decide +kernel, by decide +kernel, by decide +kernel, by decide +kernel, by decide +kernel,
    by decide +kernel, by decide +kernel, by decide +kernel, by decide +kernel, wit_next_page⟩
/-! The cases in which an item does not go on, and what else can come of it. -/

/-- An item whose one stripe on stack 0 is to be placed, and one that runs with its stripe out. -/
def striped : Item := { item with tilePath := false, slots := [{}], leaves := 1 }
def out : Item := { striped with st := .running, stripes := [0] }

/-- The node in a brown-out; with no tokens; with no tile that takes an item; with its command gone. -/
def brown (it : Item) : State := { oneItem it with power := { (oneItem it).power with brownOut := true } }
def tokenless : State := { oneItem striped with dict := strict.dict }
def noTile : State := { oneItem item with tiles := { status := (List.range 72).map fun _ => { free := 0, logical := some 0 } } }
def orphan (it : Item) : State := { up with sched := { items := [it] } }

theorem wit_sheaf_cases : (brown item).power.brownOut = true ∧ (oneItem out).itemReady out = false ∧ 0 < 1 + item.positions
    ∧ striped.tilePath = false ∧ (oneItem striped).tokensFor striped = true ∧ tokenless.tokensFor striped = false
    ∧ (oneItem item).turnFree [item] item 0 = true ∧ (noTile.itemTiles item).all (fun k => !noTile.fits item k) = true
    ∧ (oneItem { item with st := .placed }).turnOk 0 1 = true ∧ (orphan { item with st := .placed }).leafIn { item with st := .placed } 0 = false
    ∧ (∀ it ∈ busy.sched.items, it.tag = 3 → it.st ≠ .placed ∧ it.st ≠ .running) ∧ out.stripes ≠ []
    ∧ (oneItem { item with st := .running }).leafIn { item with st := .running } 0 = true
    ∧ (oneItem { item with st := .running }).leafIn { item with st := .running } 1 = true := by decide +kernel

/-- An armed injection for tile 0; a CHAINED row set of two items, and one whose second has run. -/
def armed : State :=
  { oneItem { item with st := .running } with faults := { inject := [⟨BitVec.ofNat 128 (2 ^ 64), 1⟩] } }
def chain (st : ItemSt) : State :=
  { busy with sched := { cmds := [planned], nextId := 6, items :=
      [{ item with st := .running, chained := true }, { item with tag := 4, leaf0 := 2, chained := true, st := st }] } }

theorem wit_item_end_cases : (armed.takeInject 0 0 0).1 = true ∧ ((oneItem { item with st := .running }).takeInject 0 0 0).1 = false
    ∧ ((chain .waiting).chainNext { item with chained := true }).map Item.tag = some 4
    ∧ (chain .ended).chainNext { item with chained := true } = none ∧ ({ item with backfill := true } : Item).backfill = true := by
  decide +kernel

/-- The item's cut, with its command and without; an item of one leaf and one row. -/
theorem wit_overrun_cases : (∃ v, ((((oneItem { item with st := .running }).bump 0xB100 0xB).requeueAll [{ item with st := .running }]).itemCut
      planned item) = some v)
    ∧ ((((orphan { item with st := .running }).bump 0xB100 0xB).requeueAll [{ item with st := .running }]).cmd 5) = none
    ∧ ({ item with leaves := 1, rows := 1 } : Item).leaves < 2 := ⟨⟨_, rfl⟩, by decide +kernel⟩

/-- The strict partition with the tile 0 wholly given out, and in part; the turn of the last domain; no turn. -/
def strictTurns (share : Nat) : State :=
  { strict with
      dict := { active := strict.dict.active ++ [(⟨0x7120, 3, 1⟩, leBytes 1 32), (⟨0x7120, 3, 2⟩, leBytes 1 share)] }
      sched := { turns := [(0, { holder := some 2, charges := [(1, 100)] })] } }

theorem wit_turn_cases : (strictTurns 32).strict = true ∧ ((strictTurns 32).turn 0).holder = some 2
    ∧ (strictTurns 32).tileDoms 0 = [1, 2] ∧ (((strictTurns 32).tileDoms 0).map fun d => (strictTurns 32).num 0x7120 3 d).sum = 64
    ∧ (((strictTurns 16).tileDoms 0).map fun d => (strictTurns 16).num 0x7120 3 d).sum < 64
    ∧ (turns.turn 1).holder = none ∧ turns.strict = false ∧ (0 : BitVec 32).toNat = 0 ∧ 0 < (7 : BitVec 32).toNat
    ∧ (turns.tileDoms 1).filter (fun d => busy.sched.items.any fun it => it.dom == d) = [] := by decide +kernel

/-- The item 8 has begun to wait for tile 0; its entry names another command; it waits for nothing; its victims do not suffice. -/
def hungry : Item := { item with tag := 8, prio := 15, granules := 1 }
def barring (cmd : Nat) (l : List Item) : State :=
  { crowded with sched := { items := hungry :: l, barred := [(8, cmd, 0, 15)] } }

theorem wit_preempt_cases : ((barring 5 [{ item with tag := 9, granules := 64, st := .running }]).sched.barred.find? fun b => b.1 == 8)
      = some (8, 5, 0, 15) ∧ hungry.cmd = 5 ∧ (barring 5 [{ item with tag := 9, granules := 64, st := .running }]).preempts hungry = true
    ∧ (barring 5 [{ item with tag := 9, granules := 64, st := .running }]).killsOn hungry 0
        = some [{ item with tag := 9, granules := 64, st := .running }]
    ∧ (barring 6 []).sched.barred.find? (fun b => b.1 == 8) = some (8, 6, 0, 15) ∧ (barring 5 []).killsOn hungry 0 = none
    ∧ up.preempts { item with granules := 0 } = false ∧ (∀ b ∈ crowded.sched.barred, b.1 ≠ 8)
    ∧ (∀ it ∈ up.sched.items, it.tag ≠ 8)
    ∧ (∀ y ∈ busy.sched.items, y.tag = 9 → y.cmd = 5 → y.onTile = false) := by decide +kernel

/-- A stripe that runs for its item, with the tag of none, in strict partition mode, and under an injection of its awn's checker. -/
def running : State := { oneItem out with awns := { stripes := [{ tag := 3 }] } }
def injected : State := { running with faults := { inject := [⟨BitVec.ofNat 128 (0x100 + 2 ^ 64), 1⟩] } }

/-- A stripe of an append's page. -/
def writing : State := oneItem { out with op := .grow, st := .writing }

theorem wit_stripe_cases : (∀ x ∈ busy.awns.stripes, x.tag ≠ 3) ∧ running.stripeOwner 3 = some out ∧ running.stripeOwner 4 = none
    ∧ writing.stripeOwner 3 = some { out with op := .grow, st := .writing } ∧ (running.takeInject 0x100 0 0).1 = false
    ∧ strict.strict = true ∧ (stripes.awns.held.filter fun h => h.1 == 0) = [(0, 3)]
    ∧ stripes.stripeOwner (fld (3 : BitVec 128) 32 32) = none := by decide +kernel

/-- The trailer of a stripe whose result passes every check, and of one whose result does not. -/
theorem wit_trailer : bit ((orphan out).trailer out { tag := 3 } ⟨true, true, true, false, false⟩) 24 = true ∧ bit ((orphan out).trailer out { tag := 3 } ⟨true, true, true, false, false⟩) 25 = true
    ∧ bit ((orphan out).trailer out { tag := 3 } ⟨false, true, true, false, false⟩) 24 = false
    ∧ (running.takeInject 0x100 0 0).1 = false ∧ (injected.takeInject 0x100 0 0).1 = true := by decide +kernel

/-- The same stripe with its awn's checks disabled for one operation, and one with a stored word and a flit to be damaged. -/
def unchecked : State := { running with faults := { inject := [⟨BitVec.ofNat 128 (0x100 + 2 ^ 48 + 2 ^ 64), 1⟩] } }
def damaged : State :=
  { running with faults := { inject := [⟨BitVec.ofNat 128 (0x100 + 2 * 2 ^ 48 + 2 ^ 64), 1⟩, ⟨BitVec.ofNat 128 (0x100 + 3 * 2 ^ 48 + 2 ^ 64), 1⟩] } }

/-- R345: a disabled check passes one operation, and the next sweep of the checker fails, once. -/
theorem test_disabled_checker_fails_its_sweep : (unchecked.checkOff 0x100 0).1 = true
    ∧ ((unchecked.checkOff 0x100 0).2.checkOff 0x100 0).1 = false ∧ ((unchecked.checkOff 0x100 0).2.sweepOff 0x100 0).1 = true
    ∧ ((unchecked.checkOff 0x100 0).2.sweepOff 0x100 0).2.faults.inject = [] ∧ (running.sweepOff 0x100 0).1 = false
    ∧ bit ((orphan out).trailer out { tag := 3 } ⟨false, true, true, false, false⟩ ||| 0x3000000#128) 24 = true
    ∧ bit ((orphan out).trailer out { tag := 3 } ⟨false, true, true, false, false⟩ ||| 0x3000000#128) 25 = true := by decide +kernel

/-- R345: an injected error of a stored word and of a flit is corrected and counted at the end of a stripe. -/
theorem test_injected_words_and_flits : (damaged.stripeErrors { tag := 3 } ⟨true, true, true, false, false⟩).counter 0xB000 8 = 1
    ∧ (damaged.stripeErrors { tag := 3 } ⟨true, true, true, false, false⟩).counter 0x8110 0x0E = 1
    ∧ (damaged.stripeErrors { tag := 3 } ⟨true, true, true, false, false⟩).counter 0x8130 2 = 2 := by decide +kernel

/-- Refresh states: one that has been postponed already, one that runs with another due, and one that runs alone. -/
def refreshes : State :=
  { stripes with awns := { stripes.awns with refresh := [(1, { running := true }), (2, { running := true, due := true })] } }

theorem wit_refresh_cases : stripes.counter 0xB000 0xB = 0 ∧ (up.bump 0xB000 0xB).counter 0xB000 0xB ≠ 0
    ∧ refreshes.bpBusy 0 0 1 = false ∧ (refreshes.refreshOf 0 0 2).running = true ∧ (refreshes.refreshOf 0 0 2).due = true
    ∧ (refreshes.refreshOf 0 0 3).running = false ∧ (refreshes.refreshOf 0 0 1).due = false
    ∧ (refreshes.refreshOf 0 0 1).management = false := by decide +kernel

/-! Sweeps and scrubs that run, that wait, and that have nothing to do. -/

/-- Stack 2 dead; awn 0 of stack 0 under a stripe; tile 5 without a granule; checkers late; a lost slot; a withdrawn one. -/
def tired : State :=
  { up with
      faults := { deadIslands := [0x102], late := [0, 1, 2, 3, 4, 5, 6, 7] }
      awns := { awns := [(3 * 65536, { st := 2, servesA := 3 })], stripes := [{}] }
      tiles := { status := (defaultTiles.set 5 { free := 0, logical := some 5 }).set 6 { st := 2, logical := some 6 } }
      pages := { lost := [9], use := [(10, .withdrawn), (11, .scrub [])], suspects := [(9, 0), (12, 0)] } }

theorem wit_sweep_cases : tired.sweepRuns 2 = false ∧ awnExists 2 = true ∧ (tired.awn 2).st ≠ 2 ∧ (tired.awn (3 * 65536)).st = 2
    ∧ awnExists 0xFFFFFFFF = false ∧ up.sweepRuns 0 = true ∧ awnExists 0 = true ∧ up.tileSweeps 71 = true ∧ tired.tileSweeps 5 = false
    ∧ (tired.tile 6).st = 2 ∧ checkerNo .husk ∈ tired.faults.late ∧ (⟨true, true⟩ : SweepResult) = ⟨true, true⟩
    ∧ (72 : BitVec 7).toNat = 72 := by decide +kernel

/-- A reader of slot 7 that lives. -/
def readingSlot : State := { paged with sched := { cmds := [planned] } }

theorem wit_scrub_cases : (∃ id ∈ [5], readingSlot.cmd id ≠ none) ∧ (aget paged.pages.use 1000).isNone = true ∧ tired.slotWorks 11 = true
    ∧ (paged.stripeAwn (slotStack 7) (slotChan 7) (slotBp 7) none).isSome = true ∧ paged.backgroundRuns 7 true = true
    ∧ (paged.stripeAwn (slotStack 7) (slotChan 7) (slotBp 7) none).all (fun u => !paged.awnBusy u) = true
    ∧ (tired.stripeAwn (slotStack 11) (slotChan 11) (slotBp 11) none).all (fun u => tired.awnBusy u) = true
    ∧ tired.backgroundRuns 11 true = false := by decide +kernel

theorem wit_patrol_cases : paged.backgroundRuns 0 false = true ∧ slotCount ≤ (33554431 : BitVec 25).toNat
    ∧ ({ tired with awns := {} } : State).backgroundRuns 9 false = true ∧ 9 ∈ tired.pages.lost
    ∧ aget tired.pages.use 10 = some .withdrawn ∧ tired.backgroundRuns 12 false = false ∧ (∃ x ∈ tired.pages.suspects, x.1 = 12)
    ∧ 12 ∉ tired.pages.lost ∧ (∀ x ∈ up.pages.suspects, x.1 ≠ 12) ∧ aget paged.pages.use 12 = none
    ∧ aget paged.pages.use 7 = some (.scrub [5]) ∧ (paged.takeInject 0x100 (paged.awnOf 0 0 0) 2).1 = false := by decide +kernel

/-- All spares of group 0 in channel 0 of stack 0 are in use: awn 1 lends itself; it lends itself already; no awn has room. -/
def lent (b : Bool) (sb : Nat) : State :=
  { up with awns := { awns := [(awnUnit 0 0 32, { st := 0, servesA := 3, servesB := 40 }), (awnUnit 0 0 3, { st := 2, servesA := 3 })]
      ++ ((groupAwns 0).filter (fun a => a != 3 && a != 1)).map (fun a => (awnUnit 0 0 a, { servesA := a, servesB := 40 }))
      ++ [(awnUnit 0 0 1, { servesA := 1, servesB := sb, borrowed := b })] } }

theorem wit_spare_cases : (up.awn 3).st ≠ 2 ∧ ((lent false 63).awn (awnUnit 0 0 32)).st ≠ 1
    ∧ ((lent false 63).groupWorking 0 0 0).find? (fun a => ((lent false 63).awn (awnUnit 0 0 a)).servesB == 63) = some 1
    ∧ ((groupAwns 0).all fun b => !((lent false 63).awn (awnUnit 0 0 b)).borrowed) = true
    ∧ ((groupAwns 0).any fun b => ((lent true 63).awn (awnUnit 0 0 b)).borrowed) = true
    ∧ (((lent true 40).groupWorking 0 0 0).all fun a => ((lent true 40).awn (awnUnit 0 0 a)).servesB != 63) = true
    ∧ (up.awn (awnUnit 0 0 32)).st = 1 ∧ (up.tile 5).st ≠ 2 ∧ (∀ c ∈ up.awns.chanCopies, ¬ (c.1 = 0 ∧ c.2.1 = 4))
    ∧ noSpares.spareTile 5 = none := by decide +kernel

/-- A NARROW of page 0: of one sequence's, within the quota; of two; where the quota is used up. -/
def narrowing (refs slots entries : Nat) : State :=
  { paged with
      pages := { paged.pages with map := [(0, { dom := 1, refs := refs })] }
      dict := { active := [(⟨0x3200, 1, 1⟩, leBytes 8 slots), (⟨0x7120, 8, 1⟩, leBytes 8 entries)] } }

def narrowOf (s : State) : Cmd := s.narrowCmd 1 (seqIdOf 0 { gen := 3, dom := 1 }) 0 0

theorem wit_narrow_cases : up.alive = true ∧ State.reset.alive = false ∧ cut.alive = true
    ∧ ((narrowing 1 4096 4096).narrowTarget (narrowOf (narrowing 1 4096 4096))).toOption = some (0, { dom := 1, refs := 1 })
    ∧ ((narrowing 2 4096 0).narrowTarget (narrowOf (narrowing 2 4096 0))).toOption = some (0, { dom := 1, refs := 2 })
    ∧ (narrowing 1 4096 4096).slotsHeld 1 < (narrowing 1 4096 4096).num 0x3200 1 1
    ∧ (narrowing 1 0 0).num 0x3200 1 1 ≤ (narrowing 1 0 0).slotsHeld 1
    ∧ (narrowing 2 4096 0).num 0x7120 8 1 ≤ (narrowing 2 4096 0).mapHeld 1
    ∧ (narrowing 2 4096 4096).mapHeld 1 < (narrowing 2 4096 4096).num 0x7120 8 1
    ∧ (narrowing 1 4096 4096).grantOk 1 = true
    ∧ (narrowing 1 4096 4096).freeIn (slotStack 0) (slotChan 0) (slotBp 0) = some 1
    ∧ narrowTo ((narrowing 1 4096 4096).slotData 0).format = some 2
    ∧ (up.narrowTarget (narrowOf up)).toOption = none := by decide +kernel

/-! ## The index, the tier, the window -/

/-- A command of opcode `op` with one job on page 0, which is in state `st`. -/
def tierCmd (op : Nat) (j : PageJob) : Cmd := { planned with desc := rowDesc op 0 0 0, jobs := [j] }
def transfer (op : Nat) (st : PageSt) (j : PageJob) : State :=
  { paged with
      sched := { cmds := [tierCmd op j] }
      pages := { paged.pages with map := [(0, { dom := 1, refs := 1, st := st })] } }

/-- A job with its page buffer. -/
def bufJob : PageJob := { page := 0, buf := true }

theorem wit_transfer : (transfer 0x20 .device bufJob).cmd 5 = some (tierCmd 0x20 bufJob)
    ∧ ([bufJob].find? fun j => j.page == 0 && j.buf && !j.done) = some bufJob
    ∧ ((transfer 0x20 .device bufJob).page 0).map PageEntry.st ≠ some .remote ∧ (transfer 0x20 .device bufJob).dmaOk = true
    ∧ (transfer 0x20 .device bufJob).rekeying = false ∧ (transfer 0x20 .device bufJob).coldReady 0 = true
    ∧ (transfer 0x20 .swapped bufJob).coldReady 0 = false ∧ ((transfer 0x20 .remote bufJob).page 0).map PageEntry.st = some .remote
    ∧ ({ transfer 0x20 .device bufJob with link := {} } : State).dmaOk = false ∧ up.cmd 5 = none
    ∧ (∀ j ∈ ([{ page := 0 }] : List PageJob), ¬ (j.page = 0 ∧ j.buf = true ∧ j.done = false)) := by decide +kernel

/-- The last page of a swap-out and of another command. -/
theorem wit_transfer_last : (let t := ((transfer 0x40 .device bufJob).transferDone (tierCmd 0x40 bufJob) bufJob).wake
      (t.cmd 5).all (fun c => dOp c.desc == 0x40 && c.jobs.all PageJob.done) && (t.cmd 5).isSome) = true
    ∧ (((transfer 0x20 .swapped bufJob).tierFailed (tierCmd 0x20 bufJob) stTierFail 5 0).wake.cmd 5) = none
    ∧ bufJob.done = false := by decide +kernel

/-- A page of two units to read back whose domain's shaper holds one unit's worth. -/
def slow : State :=
  { transfer 0x20 .swapped bufJob with
      pages := { map := [(0, { dom := 1, refs := 1, st := .swapped, loc := hostLoc 0 2 })] }
      dom := { doms := [(1, { tierC := 4096 * 65536, tierP := 4096 * 65536 })] }
      dict := { active := [(⟨0x7130, 1, 1⟩, leBytes 32 (1 + 16384 * 2 ^ 96 + 16384 * 2 ^ 128))] } }

/-- R315: a unit leaves as the shaper lets it, and the transfer goes on. -/
theorem test_shaper_holds_a_transfer : (slow.crossTier (tierCmd 0x20 bufJob) bufJob).2 = 1 ∧ slow.tierHeld 1 = false
    ∧ (slow.crossTier (tierCmd 0x20 bufJob) bufJob).1.tierHeld 1 = true
    ∧ (slow.moveUnits (tierCmd 0x20 bufJob) bufJob).cmd 5 = some (tierCmd 0x20 { bufJob with left := some 1 }) := by decide +kernel

/-- R331: a page whose side record names another domain is no input of a request. -/
theorem test_identity : (transfer 0x20 .device bufJob).strangers { tierCmd 0x20 bufJob with snapPages := [(0, { dom := 2 })] } = [0]
    ∧ (transfer 0x20 .device bufJob).strangers { tierCmd 0x20 bufJob with snapPages := [(0, { dom := 1 })] } = [] := by decide +kernel

theorem wit_flush : (transfer 0x40 .device { page := 0, done := true }).cmd 5 = some (tierCmd 0x40 { page := 0, done := true })
    ∧ (transfer 0x40 .device bufJob).cmd 5 = some (tierCmd 0x40 bufJob) := by decide +kernel

theorem wit_late : (transfer 0x40 .device bufJob).limitOf (tierCmd 0x40 bufJob) bufJob = some .hostWrite
    ∧ (transfer 0x20 .swapped bufJob).limitOf (tierCmd 0x20 bufJob) bufJob = some .hostRead
    ∧ (transfer 0x20 .remote bufJob).limitOf (tierCmd 0x20 bufJob) bufJob = some .remote
    ∧ (transfer 0x20 .swapped { page := 0 }).limitOf (tierCmd 0x20 { page := 0 }) { page := 0 } = some .queue
    ∧ (transfer 0x20 .swapped { page := 0, done := true }).limitOf (tierCmd 0x20 { page := 0, done := true }) { page := 0, done := true }
        = none := by decide +kernel

/-- Page 0 as a copy finds it: full, clean in HBM, in domain 1 with its key and region, or not. -/
def cleaning (st : PageSt) (by_ : Option Nat) (d : PageData) (units : Nat) : State :=
  { paged with
      pages := { paged.pages with map := [(0, { dom := 1, refs := 1, st := st, busy := by_ })], slots := [(0, d)] }
      dom := { doms := [(1, { xtsKey := List.replicate 64 9 })] }
      dict := { active := [(⟨0x3510, 2, 1⟩, leBytes 4 units), (⟨0x3510, 1, 1⟩, leBytes 8 4096),
        (⟨0x3710, 0, 1⟩, leBytes 16 (4096 + (4096 + 3 * 2 ^ 40) * 2 ^ 64))] } }

/-- A full page and one that is not. -/
def full : PageData := { tokens := 1 }

theorem wit_preclean_cases : (cleaning .device none full 64).page 0 = some { dom := 1, refs := 1 }
    ∧ (cleaning .device none {} 64).precleanable ((cleaning .device none {} 64).seq 0) 0 = false
    ∧ (cleaning .device none full 64).precleanable ((cleaning .device none full 64).seq 0) 0 = true
    ∧ (cleaning .hostView none full 64).precleanable ((cleaning .hostView none full 64).seq 0) 0 = true
    ∧ (cleaning .device none full 64).viewPending 0 = false
    ∧ (cleaning .device (some 5) full 64).precleanWaits 0 { dom := 1, refs := 1, busy := some 5 } = true
    ∧ (cleaning .device none full 64).precleanWaits 0 { dom := 1, refs := 1 } = false
    ∧ (cleaning .device none full 64).tierReady 1 = true ∧ (cleaning .device none full 0).tierReady 1 = false
    ∧ ((cleaning .device none full 64).reserveUnits 1 (1 + ((cleaning .device none full 64).slotData 0).rawUnits up.pr)).isSome = true
    ∧ ((cleaning .device none full 64).reserveUnits 1 100).isNone = true
    ∧ (transfer 0x20 .device bufJob).willRead { tierCmd 0x20 bufJob with reads := [0] } 0 = true
    ∧ (∀ c ∈ paged.sched.cmds, paged.willRead c 0 = false)
    ∧ (∀ q ∈ up.seqs.table, (q.2.preclean && (q.2.handles.any fun h => h.2 == 0)
        && ((up.page 0).map PageEntry.dom == some q.2.dom)) = false) := by decide +kernel


theorem wit_preclean : (paged.seqs.table.find? fun q => q.2.preclean && (q.2.handles.any fun h => h.2 == 0)
    && ((paged.page 0).map PageEntry.dom == some q.2.dom)).map Prod.fst = some 0 := by decide +kernel

/-- Page 0 viewed in frame 1000, the decoder at 2^40. -/
def viewed : State :=
  { up with
      link := { up.link with decoder := some (2 ^ 40) }
      pages := { map := [(0, { dom := 1, refs := 1, st := .hostView, frame := 1000 })], use := [(0, .page 0)] }
      win := { frames := [(1000, 0)] } }

/-- R98's worked example: frame 1,000 shows its payload at 0x01F4_0000 and its side record at 0xE_003E_8000. -/
theorem test_window_example : winFrame 0x01F40000 = some 1000 ∧ winFrame 0xE003E8000 = some 1000 ∧ winFrame 0xFC0000000 = none := by
  decide

theorem wit_window : viewed.winOffset (2 ^ 40 + 0xE003E8000) = some 0xE003E8000 ∧ viewed.linkFull = true ∧ viewed.boot.st = .running
    ∧ viewed.winSlot (0xE003E8000 / 64 * 64) = some 0 ∧ viewed.bpIdle (slotStack 0) (slotChan 0) (slotBp 0) = true
    ∧ 0 ∉ viewed.pages.lost ∧ ({ viewed with awns := { stripes := [{}] } } : State).bpIdle (slotStack 0) (slotChan 0) (slotBp 0) = false
    ∧ viewed.winSlot 0 = none ∧ ({ viewed with boot := {} } : State).boot.st ≠ .running
    ∧ viewed.winOffset (2 ^ 40 + 0xFC0000000) = some 0xFC0000000 := by decide +kernel

theorem wit_window_layout : 1834999 < 1835008 ∧ 32767 < 32768 ∧ 4095 < 4096 ∧ 0xFC0000000 ≤ 0xFC0000000 ∧ 511 < 512 ∧ 63 < 64
    ∧ 0xFBFFFFFFF < 2 ^ 36 := by decide

/-! ## Link, boot, power -/

/-- A node whose DOE session 1 is open. -/
def doe : State := { up with boot := { up.boot with sessionsDoe := [1], certState := 1 } }

/-- The ROM with its link up, in a state of BOOT_STATUS. -/
def rom (st : BootSt) : State := { up with boot := { st := st } }

theorem wit_link : up.linkUp = true ∧ up.linkFull = true ∧ (2 ^ 36 : BitVec 64).toNat = 2 ^ 36 ∧ (1 : BitVec 8).toNat = 1
    ∧ ¬ ((2 ^ 36 : BitVec 64).toNat = 2 ^ 36 ∧ (2 : BitVec 8).toNat = 1) ∧ up.ideSt .io = 2 ∧ up.ideSt .cachemem = 2
    ∧ State.reset.romUp = true ∧ (1 : BitVec 5).toNat ≠ 0 ∧ State.reset.alive = false := by decide +kernel

theorem wit_ide : doe.linkUp = true ∧ doe.mgmtUp = true ∧ 1 ∈ doe.boot.sessionsDoe ∧ 2 ∉ doe.boot.sessionsDoe ∧ doe.ideSt .io ≠ 0
    ∧ doe.rekeySt .io ≠ 1 := by decide +kernel

theorem wit_attestation : doe.spdmCarries .doe = true ∧ doe.spdmCarries .mctp = true ∧ doe.mgmtUp = true
    ∧ (rom .loading).spdmCarries .doe = true ∧ (rom .loading).mgmtUp = false ∧ doe.boot.certState = 1
    ∧ (doe.sessions .doe).length < sessionLimit .doe ∧ (doe.sessions .mctp).length < sessionLimit .mctp ∧ 1 ∈ doe.sessions .doe
    ∧ doe.measured 0 ≠ [] ∧ doeProtocols[3]? = some (1, 2) ∧ (8 : Byte) ≠ 0 ∧ (8 : Byte) ≠ 0xFF := by decide +kernel

theorem wit_chain : doe.chain ≠ none := by
  unfold State.chain
  rw [if_pos (show doe.boot.certState = 1 from rfl)]
  exact Option.some_ne_none _

theorem wit_rom : (rom .awaitImage).linkUp = true ∧ (rom .loading).linkUp = true ∧ (rom .loading).dmaOk = true
    ∧ (List.replicate 4096 (0 : Byte)).length = (4096 : BitVec 32).toNat ∧ (4096 : BitVec 32).toNat % 4096 = 0
    ∧ (4096 : BitVec 32).toNat ≤ 1044480 ∧ (67104768 : BitVec 32).toNat + (4096 : BitVec 32).toNat ≤ imageMax
    ∧ (16384 : BitVec 32).toNat ≤ 16384 ∧ (rom .running).linkUp = true ∧ (rom .halted).linkUp = true
    ∧ (rom .verifying).linkUp = true ∧ (rom .starting).linkUp = true := by decide +kernel

theorem wit_ranges : (4 : Nat) < 8 ∧ (∀ r ∈ [(0, 2), (6, 9)], r.1 < r.2) ∧ [(0, 2), (6, 9)].Pairwise (fun p q => p.2 < q.1)
    ∧ rangeAdd 4 8 [(0, 2), (6, 9)] = [(0, 2), (4, 9)] ∧ rangeAdd 2 6 [(0, 2), (6, 9)] = [(0, 9)] := by decide

theorem wit_boot : (rom .verifying).boot.st = .verifying ∧ (rom .starting).boot.clearTables = false
    ∧ (rom .starting).boot.warm = false ∧ ({ rom .starting with boot := { st := .starting, warm := true } } : State).boot.warm = true
    ∧ (rom .awaitImage).romUp = true := by decide +kernel

/-- A node in a supply state. -/
def supply (x : Supply) : State := { State.reset with power := { supply := x } }

theorem wit_power : (supply .off).power.latchedOff = false ∧ 40000 ≤ (40000 : BitVec 32).toNat ∧ (supply .charging).power.supply ≠ .off
    ∧ (supply .good).power.supply = .good ∧ railKills .vbus = true ∧ railKills .vcore = false ∧ up.romUp = true ∧ up.test.lbState ≠ 1
    ∧ (({ up with therm := { step := 5 } } : State).modPower fun p => { p with inputLow := true, vinOk := 0 }).wantedStep ≤ 5 := by
  decide +kernel

theorem wit_resets : up.power.supply = .good ∧ up.power.resetEntry = false ∧ up.power.rstN = true
    ∧ ({ up with boot := { up.boot with chipReset := true } } : State).boot.chipReset = true
    ∧ (up.shadowOn && up.shadow.isShadow) = false := by decide +kernel

/-- Nine readings below step 5; and one more. -/
def hot (below step : Nat) : State := { up with therm := { step := step, below := below, powerTarget := 3 } }

theorem wit_throttle : (hot 0 1).therm.step < (hot 0 1).wantedStep ∧ (hot 8 5).wantedStep < (hot 8 5).therm.step
    ∧ (hot 8 5).therm.below < 9 ∧ (hot 9 5).therm.below = 9 ∧ (hot 9 5).wantedStep < (hot 9 5).therm.step
    ∧ (({ up with tiles := { status := defaultTiles.set 5 { want := some 1600 } } } : State).tile 5).want = some 1600
    ∧ up.itemsOn 5 = [] := by decide +kernel
/-! Commands that find the link, the ROM or the supply otherwise. -/

theorem wit_link_cases : cut.linkUp = false ∧ State.reset.linkUp = false ∧ ({ up with link := { up.link with speed := 1 } } : State).linkUp = true
    ∧ ({ up with link := { up.link with speed := 1 } } : State).linkFull = false ∧ ({ up with link := { up.link with ideIo := 1 } } : State).ideSt .io ≠ 2
    ∧ (supply .off).romUp = false ∧ (0 : BitVec 5).toNat = 0 := by decide +kernel

/-- A link that trains to eight lanes at full speed: of a running node that had sixteen, and of one that had those eight. -/
theorem wit_trained : (let t := (up.modLink fun l => { l with width := 8, speed := 2 }).modPower fun p => { p with perstN := true }
      t.alive && t.linkFull) = true ∧ up.link.width = 16
    ∧ (let t := (State.reset.modLink fun l => { l with width := 8, speed := 2 }).modPower fun p => { p with perstN := true }
      t.alive) = false := by decide +kernel

/-- Streams without keys, with keys that are awaited, and with keys. -/
theorem wit_ide_cases : cut.ideSt .io = 0 ∧ ({ doe with link := { doe.link with rekeyIo := 1 } } : State).rekeySt .io = 1
    ∧ ({ doe with link := { doe.link with ideIo := 0 } } : State).ideSt .io = 0
    ∧ ({ doe with link := { doe.link with ideIo := 0 } } : State).linkUp = true ∧ (rom .loading).linkUp = true ∧ (rom .loading).mgmtUp = false := by
  decide +kernel

theorem wit_attestation_cases : (supply .off).spdmCarries .doe = false ∧ doe.measured 9 = [] ∧ up.chain = none ∧ doeProtocols.length ≤ 200
    ∧ (0 : Byte) = 0 ∧ (supply .off).romUp = false := by decide +kernel

theorem wit_rom_cases : (1 : BitVec 64).toNat ≠ 0 ∧ ([0] : List Byte).length ≠ (2 : BitVec 32).toNat
    ∧ ([0] : List Byte).length = (1 : BitVec 32).toNat ∧ (1 : BitVec 32).toNat % 4096 ≠ 0 ∧ imageMax < (67108865 : BitVec 32).toNat
    ∧ ({ rom .loading with link := { width := 16, speed := 2, viral := true } } : State).linkUp = true
    ∧ ({ rom .loading with link := { width := 16, speed := 2, viral := true } } : State).dmaOk = false
    ∧ (List.replicate 16385 (0 : Byte)).length = (16385 : BitVec 32).toNat ∧ cut.linkUp = false := by decide +kernel

/-- An image that is not there fails the second check and no first. -/
theorem wit_boot_cases : ((rom .verifying).bootChecks true).idxOf? false = some 2
    ∧ (rom .running).boot.st ≠ .verifying ∧ (rom .running).boot.st ≠ .starting
    ∧ ({ rom .starting with boot := { st := .starting, clearTables := true } } : State).boot.clearTables = true
    ∧ (supply .off).romUp = false ∧ cut.linkUp = false := by decide +kernel

theorem wit_power_cases : (supply .good).power.supply ≠ .off ∧ (39999 : BitVec 32).toNat < 40000 ∧ (supply .off).power.supply ≠ .charging
    ∧ ({ supply .off with power := { (supply .off).power with latchedOff := true } } : State).power.latchedOff = true
    ∧ (supply .off).power.supply ≠ .good ∧ (supply .good).romUp = true
    ∧ ({ supply .good with power := { (supply .good).power with resetEntry := true } } : State).romUp = false
    ∧ ({ up with test := { lbState := 1 } } : State).test.lbState = 1 ∧ up.boot.chipReset = false
    ∧ ({ up with power := { up.power with rstN := false } } : State).power.rstN = false := by decide +kernel

/-- A low input at step 5 and at step 0. -/
theorem wit_vin_low : (let p := up.modPower fun p => { p with inputLow := true, vinOk := 0 }
      let t := p.modTherm fun x => { x with cause := p.throttleCause }
      decide (t.therm.step < t.wantedStep)) = true
    ∧ (let u : State := { up with therm := { step := 5 } }
      let p := u.modPower fun p => { p with inputLow := true, vinOk := 0 }
      let t := p.modTherm fun x => { x with cause := p.throttleCause }
      decide (t.wantedStep ≤ t.therm.step)) = true := by decide +kernel

theorem wit_throttle_cases : (up.tile 5).want = none ∧ (hot 0 3).wantedStep = (hot 0 3).therm.step := by
  decide +kernel

theorem wit_step_down_busy : (oneItem { item with st := .running }).itemsOn 0 ≠ [] := by decide +kernel


/-! ## Packets and the transport -/

/-- A base header: opcode, PSN, FIRST and LAST; from QP 9 of node 2 to QP 4 of node 0, domain 1, CONN_ID 0. -/
def base (op psn len : Nat) : BitVec 256 :=
  BitVec.ofNat 256 (1 + op * 2 ^ 8 + 3 * 2 ^ 16 + 2 * 2 ^ 32 + 9 * 2 ^ 64 + 4 * 2 ^ 80 + 1 * 2 ^ 112 + psn * 2 ^ 128 + len * 2 ^ 176)

/-- SUBPORT_0 with a MAC, and the addresses 10.0.0.1 and 1. -/
def portVal : List Byte := leBytes 64 (2 ^ 32 + 0x0A000001 * 2 ^ 128 + 1 * 2 ^ 160)

/-- A node with sub-port 0 up, a fabric key in domain 1 and the QP 4 in the given state. -/
def net (q : Qp) : State :=
  { up with
      dict := { active := [(⟨0x6010, 0, 0⟩, portVal)] }
      dom := { doms := [(1, { fabricKey := List.replicate 32 7 })] }
      xnt := { subports := [(0, { up := true })], qps := [(4, { q with cfg := qpCfg, version := 1 })]
               rkeys := [(3, { dom := 1, len := 65536 }), (5, { kind := .holds, dom := 1, len := 2 ^ 40, place := 2, readable := true }),
                         (6, { st := 2 }), (7, { st := 3 })] }
      tier := { holds := [⟨2, 1, 0⟩] } }

/-- The tag that its QP's key gives a packet of this base header, extension header and payload. -/
def ownTag (s : State) (h : BitVec 256) (ext payload : List Byte) : List Byte :=
  gcmTag (aesKeys (huskKey (s.qpKey (s.qp (bDstQp h))) (bSrcNode h)
    (if 0x20 ≤ bOp h ∧ bOp h ≤ 0x22 then connBoot ext else (s.qp (bDstQp h)).peerBoot))) (huskNonce h) (huskAad h ext) payload

/-- What a packet passes before its husk is opened. -/
def passes (s : State) (port : BitVec 5) (h : BitVec 256) : Bool :=
  s.portUp port.toNat && knownOp (bOp h) && s.rxVersion (s.qp (bDstQp h)) h && (s.qp (bDstQp h)).accepts h
    && rxFrom (s.qp (bDstQp h)) h && !(s.qpKey (s.qp (bDstQp h))).isEmpty

theorem gcm_opens_own (key iv aad ct : List Byte) : ∃ l, gcmOpen key iv aad ct (gcmTag (aesKeys key) iv aad ct) = some l :=
  ⟨_, if_pos rfl⟩

theorem receives_of {s : State} {p : RxPacket} (h : passes s p.subport p.base = true) (hf : p.frameOk = true)
    (ht : p.tag = ownTag s p.base p.ext p.payload) : ∃ l, s.Receives p l := by
  simp only [passes, Bool.and_eq_true, Bool.not_eq_true'] at h
  obtain ⟨⟨⟨⟨⟨h1, h3⟩, h4⟩, h5⟩, h6⟩, h7⟩ := h
  obtain ⟨l, hl⟩ := gcm_opens_own (huskKey (s.qpKey (s.qp (bDstQp p.base))) (bSrcNode p.base)
    (if 0x20 ≤ bOp p.base ∧ bOp p.base ≤ 0x22 then connBoot p.ext else (s.qp (bDstQp p.base)).peerBoot))
    (huskNonce p.base) (huskAad p.base p.ext) p.payload
  refine ⟨l, h1, hf, h3, h4, h5, h6, ?_⟩
  rw [State.rxOpen, if_neg (by rw [h7]; exact Bool.false_ne_true), ht, ownTag]
  exact hl

/-- A packet to QP 4 by sub-port 0. -/
def pkt (op psn : Nat) (ext payload : List Byte) : RxPacket := ⟨0, true, false, base op psn payload.length, ext, payload, [], 0, 0⟩

/-- A CONN header: versions 0 to 1, REASON 0, BOOT_ID 5, role DATA, PMTU 2. -/
def connExt (lo hi : Nat) : List Byte := leBytes 32 (lo + hi * 2 ^ 8 + 5 * 2 ^ 32 + 2 * 2 ^ 114)

/-- The key 5 of holds, 3 of a queue. -/
def addr (key off len : Nat) : List Byte := leBytes 16 (key + off * 2 ^ 32 + len * 2 ^ 96)

theorem wit_packets : (∃ ok, packetRow (.xntAck (pkt 0x10 0 [] [])) = some (pkt 0x10 0 [] [], ok) ∧ ok 0x10 = true)
    ∧ passes (net { st := .rts }) 0 (base 0x10 0 0) = true ∧ up.portUp 0 = false
    ∧ (net {}).portUp 0 = true ∧ knownOp 7 = false ∧ acceptsOp .reset 0x10 = false :=
  ⟨⟨_, rfl, rfl⟩, by decide +kernel⟩

/-- A packet to QP 4, which waits in LISTEN, of a domain without a key. -/
def noKey : State := { net { st := .listen } with dom := { doms := [(1, {})] } }

theorem wit_no_key : noKey.portUp 0 = true ∧ bOp (base 0x20 0 0) = 0x20 ∧ noKey.rxVersion (noKey.qp 4) (base 0x20 0 0) = true
    ∧ acceptsOp (noKey.qp 4).st 0x20 = true ∧ rxFrom (noKey.qp 4) (base 0x20 0 0) = true
    ∧ (noKey.qpKey (noKey.qp 4)).isEmpty = true ∧ (noKey.qp 4).guarded = false := by decide +kernel

theorem wit_unsequenced : passes (net { st := .rts }) 0 (base 0x12 0 0) = true
    ∧ passes (net { st := .rts }) 0 (base 0x13 0 0) = true
    ∧ passes (net { st := .listen }) 0 (base 0x20 0 0) = true
    ∧ passes (net { st := .rts }) 0 (base 0x20 0 0) = true
    ∧ passes (net { st := .connecting }) 0 (base 0x21 0 0) = true
    ∧ passes (net { st := .connecting }) 0 (base 0x22 0 0) = true
    ∧ passes (net { st := .draining, discSent := true }) 0 (base 0x23 0 0) = true
    ∧ passes (net { st := .draining, discSent := true }) 0 (base 0x24 0 0) = true := by decide +kernel

/-- The fields of the CONN header on which each clause rests. -/
theorem wit_conn : (connExt 1 1).length = 32 ∧ fld (ofBytes 256 (connExt 1 1)) 112 2 = b2n ((net {}).qp 4).isMgmt
    ∧ fld (ofBytes 256 (connExt 1 1)) 96 16 = bConn (base 0x20 0 0) ∧ (net {}).strict = false
    ∧ 1 ≤ fld (ofBytes 256 (connExt 1 1)) 8 8 ∧ fld (ofBytes 256 (connExt 1 1)) 0 8 ≤ 1 ∧ fld (ofBytes 256 (connExt 1 1)) 0 8 = 1
    ∧ fld (ofBytes 256 (connExt 1 1)) 8 8 = 1 ∧ (ofBytes 256 (connExt 1 1)).extractLsb' 32 64 ≠ ((net {}).qp 4).peerBoot
    ∧ bit ((net {}).qp 4).cfg 2 = false := by decide +kernel

/-- CPSN 10 with PSN 12 done; 10 to 12 and 1034 to come, at the borders of the window. -/
def seqQp : Qp := { st := .rts, cpsn := 10, done := [12] }

theorem wit_sequenced : passes (net seqQp) 0 (base 1 9 0) = true ∧ newer 24 10 9 = true
    ∧ seqQp.done.contains 12 = true ∧ newer 24 10 10 = false ∧ seqQp.done.contains 10 = false
    ∧ (1033 + 2 ^ 24 - 10) % 2 ^ 24 < 1024 ∧ 1024 ≤ (1034 + 2 ^ 24 - 10) % 2 ^ 24 ∧ newer 24 10 1034 = false
    ∧ roleOk ((net seqQp).qp 4) (pkt 6 10 [] []) = false ∧ roleOk ((net seqQp).qp 4) (pkt 1 10 (addr 3 0 64) []) = true
    ∧ (net seqQp).addrCheck ((net seqQp).qp 4) 1 (addr 3 0 64) 0 = none
    ∧ (net seqQp).addrCheck ((net seqQp).qp 4) 1 (addr 3 65537 64) 0 = some 1
    ∧ (net seqQp).addrCheck ((net seqQp).qp 4) 1 (addr 6 0 64) 0 = some 2 ∧ (net seqQp).landingOf 3 = none := by decide +kernel

theorem wit_sequenced_ops : roleOk ((net seqQp).qp 4) (pkt 2 10 (addr 3 0 0 ++ List.replicate 8 0) []) = true
    ∧ (net seqQp).addrCheck ((net seqQp).qp 4) 2 (addr 3 0 0) 0 = none
    ∧ roleOk ((net seqQp).qp 4) (pkt 3 10 (addr 5 0 unitBytes) []) = true
    ∧ (net seqQp).addrCheck ((net seqQp).qp 4) 3 (addr 5 0 unitBytes) 0 = none ∧ readsRunning ((net seqQp).qp 4) < 16
    ∧ 16 ≤ readsRunning { seqQp with acts := List.replicate 16 (1, 1, .read 0 0 0) }
    ∧ roleOk ((net seqQp).qp 4) (pkt 4 10 (List.replicate 16 0) []) = true
    ∧ roleOk ((net seqQp).qp 4) (pkt 5 10 (List.replicate 32 0) []) = true ∧ seqOp 1 = true ∧ seqOp 6 = true := by decide +kernel

theorem wit_ack : seqQp.cpsn < 2 ^ 24 ∧ ackCovers (ackExt seqQp) 9 = true ∧ ackCovers (ackExt seqQp) 10 = false
    ∧ ackCovers (ackExt seqQp) 12 = true ∧ ackCovers (ackExt { seqQp with done := [138, 139] }) 138 = true
    ∧ ackCovers (ackExt { seqQp with done := [138, 139] }) 139 = false := by decide +kernel

/-- A sender with a packet outstanding, one held by RNR, and one whose retries are used up. -/
def sender : State :=
  net { st := .rts, unacked := 1, sent := true,
        tx := [{ psn := 1, sent := true }, { psn := 2, rnr := true, held := true }, { psn := 3, sent := true, retries := 250 }] }

theorem wit_timers : (sender.qp 4).sends = true
    ∧ ((sender.qp 4).tx.find? fun t => t.psn == 1 && t.sent && !t.done && !t.held) = some { psn := 1, sent := true }
    ∧ 0 < sender.num 0x6300 6 ∧ ((sender.qp 4).tx.find? fun t => t.psn == 3 && t.sent && !t.done && !t.held)
        = some { psn := 3, sent := true, retries := 250 } ∧ sender.num 0x6300 6 ≤ 250
    ∧ (sender.qp 4).unacked ≠ 0 ∧ (sender.qp 4).sent = true ∧ (sender.qp 4).marked = 0
    ∧ { psn := 2, rnr := true, held := true } ∈ (sender.qp 4).tx ∧ ((net { st := .connecting }).qp 4).st = .connecting
    ∧ ((net { st := .connecting }).qp 4).attempts < 16 ∧ ((net { st := .connecting }).qp 4).guarded = false
    ∧ 16 ≤ ((net { st := .connecting, attempts := 16 }).qp 4).attempts ∧ ((net { st := .draining }).qp 4).st = .draining := by
  decide +kernel

theorem wit_rate : (sender.qp 4).rate + (if (sender.qp 4).steps + 1 ≤ 5 then sender.num 0x6300 0x13 else sender.num 0x6300 0x14 : Nat)
    ≤ ((sender.rateMax (sender.qp 4) : Nat) : Rat) := by decide +kernel

/-- A packet held for a unit of the landing region of key 8, and one whose region is gone. -/
def held : State :=
  { sender with xnt := { sender.xnt with
      fault := [⟨4, 1, 1, 8, 0, []⟩, ⟨4, 2, 1, 9, 0, []⟩], landings := [{ key := 8, dom := 1, units := 1, qp := 4 }] } }

theorem wit_placement : held.stalled 4 1 = some ⟨4, 1, 1, 8, 0, []⟩ ∧ held.landingOf 8 = some { key := 8, dom := 1, units := 1, qp := 4 }
    ∧ (held.bindUnits 8 (held.qp 4).slice (unitsOf 0 0)).isSome = true ∧ held.stalled 4 2 = some ⟨4, 2, 1, 9, 0, []⟩
    ∧ held.landingOf 9 = none ∧ held.rkey 6 = some { st := 2 } ∧ held.rkey 7 = some { st := 3 } ∧ held.portUp 0 = true
    ∧ held.ownAddr 0 false 0x0A000001 = true ∧ held.ownAddr 0 true 1 = true ∧ held.ownVlan 0 none = true
    ∧ anat held.xnt.echoes 0 < 1000 := by decide +kernel

/-- Both shapers of domain 1 enabled, with a burst of 64 KiB and what each bucket holds. -/
def shaped (c p : Nat) : State :=
  { up with
      dict := { active := [(⟨0x7130, 0, 1⟩, leBytes 32 (1 + 1000 * 2 ^ 32 + 2000 * 2 ^ 64 + 65536 * 2 ^ 96 + 65536 * 2 ^ 128))] }
      dom := { doms := [(1, { fabC := c * 65536, fabP := p * 65536 })] } }

theorem wit_shapers : aget (shaped 0 0).dom.doms 1 = some {} ∧ bit ((shaped 0 0).shaper 1 0) 0 = true
    ∧ (shaped 100 100).eligible 1 0 100 = .committed ∧ (shaped 99 100).eligible 1 0 100 = .excess
    ∧ (shaped 100 99).eligible 1 0 100 = .wait ∧ bit (up.shaper 1 0) 0 = false := by decide +kernel

/-- What passes is received once it carries the tag that its QP's key gives it. -/
theorem receives_made {s : State} {port : BitVec 5} {h : BitVec 256} (hp : passes s port h = true) (ext payload : List Byte) :
    ∃ p l, s.Receives p l ∧ p.base = h ∧ p.ext = ext ∧ p.payload = payload ∧ p.ce = false :=
  have ⟨l, hl⟩ := receives_of (p := ⟨port, true, false, h, ext, payload, ownTag s h ext payload, 0, 0⟩) hp rfl (by dsimp only)
  ⟨_, l, hl, rfl, rfl, rfl, rfl⟩

/-- A packet that is received. -/
theorem wit_received : ∃ p l, (net { st := .rts }).Receives p l ∧ p.base = base 0x12 0 0 ∧ p.ext = List.replicate 16 0
    ∧ p.payload = [] ∧ p.ce = false := receives_made (port := 0) (by decide +kernel) _ _

/-! Packets that are not taken, connections that do not rise, and what the receiver turns away. -/

/-- The packet of a CONN-like opcode with the given header to QP 4, which is in state `q`. -/
def connCase (q : Qp) (op : Nat) : Bool := passes (net q) 0 (base op 0 0)

/-- QP 4 with other configurations: one that listens again, one of the MGMT role, one whose peer is node 0 with a lower QP. -/
def netCfg (q : Qp) (cfg : BitVec 512) : State :=
  { net q with xnt := { (net q).xnt with qps := [(4, { q with cfg := cfg, version := 1 })] } }

theorem wit_packet_cases : ({ pkt 0x10 0 [] [] with frameOk := false } : RxPacket).frameOk = false
    ∧ (net { st := .rts }).rxVersion ((net { st := .rts }).qp 4) (base 0x10 0 0 + 1) = false
    ∧ ((net {}).qp 4).accepts (base 0x10 0 0) = false
    ∧ rxFrom ((net {}).qp 4) (base 0x10 0 0 + 2 ^ 64) = false ∧ (net { guarded := true }).portUp 0 = true
    ∧ ((net { guarded := true }).qp 4).guarded = true
    ∧ ({ noKey with xnt := (net { st := .rts }).xnt } : State).rxOpen (({ noKey with xnt := (net { st := .rts }).xnt } : State).qp 4)
        (pkt 0x10 0 [] []) = none ∧ seqOp 0x10 = false ∧ seqOp 1 = true := by decide +kernel

theorem wit_conn_cases : connCase { st := .rts } 0x12 = true ∧ connCase { st := .rts } 0x13 = true
    ∧ connCase { st := .listen, guarded := true } 0x20 = true ∧ connCase { st := .connecting } 0x20 = true
    ∧ connCase { st := .draining } 0x20 = true ∧ connCase { st := .draining } 0x24 = true ∧ connCase { st := .rts } 0x24 = true
    ∧ connCase { st := .rts } 0x22 = true ∧ connCase { st := .rts } 0x21 = true ∧ connCase { st := .rts } 0x23 = true
    ∧ connCase { st := .draining } 0x23 = true := by decide +kernel

/-- Headers of a CONNECT that are refused or not: another role, another CONN_ID, versions 2 up, versions 0 only. -/
theorem wit_conn_headers : fld (ofBytes 256 (connExt 1 1 ++ [])) 112 2 = 0
    ∧ fld (ofBytes 256 (leBytes 32 (1 + 2 ^ 8 + 2 ^ 112))) 112 2 ≠ b2n ((net {}).qp 4).isMgmt
    ∧ fld (ofBytes 256 (leBytes 32 (1 + 2 ^ 8 + 2 ^ 96))) 96 16 ≠ bConn (base 0x20 0 0)
    ∧ 1 < fld (ofBytes 256 (connExt 2 3)) 0 8 ∧ fld (ofBytes 256 (connExt 0 0)) 8 8 < 1
    ∧ ({ net {} with dict := { active := strict.dict.active } } : State).strict = true
    ∧ ({ net {} with dict := { active := strict.dict.active } } : State).provisioned ((net {}).qp 4).dom = false
    ∧ (ofBytes 256 (connExt 1 1)).extractLsb' 32 64 = ((net { peerBoot := 5 }).qp 4).peerBoot
    ∧ bConn (base 0x20 0 0) = ((net { st := .rts }).qp 4).connId ∧ bConn (base 0x20 0 0) ≠ ((net { st := .rts, connId := 3 }).qp 4).connId
    ∧ bit ((netCfg { st := .rts } (qpCfg + 4)).qp 4).cfg 2 = true ∧ (net {}).nodeId < ((net {}).qp 4).peerNode := by decide +kernel

/-- A node whose own number lies above its peer's: the higher of two that connect to each other. -/
def higher : State := { net { st := .connecting } with dict := { active := [(⟨0x6010, 0, 0⟩, portVal), (⟨0x6000, 1, 0⟩, leBytes 2 3)] } }

theorem wit_conn_higher : passes higher 0 (base 0x20 0 0 + 3 * 2 ^ 44) = true ∧ ¬ (higher.nodeId < (higher.qp 4).peerNode)
    ∧ higher.nodeId ≠ (higher.qp 4).peerNode := by decide +kernel

/-- QP 4 with a write to the landing region 8 to come, by what waits for a scrub, what the fault buffer may take and holds, and what has
been refused. -/
def landing (scrubs : List (Nat × SlotUse)) (room : Nat) (held : List Stalled) (refused : List Refused) : State :=
  { net { seqQp with refused := refused } with
      pages := { use := scrubs }
      dict := { active := [(⟨0x6010, 0, 0⟩, portVal), (⟨0x3200, 1, 1⟩, leBytes 8 0), (⟨0x7120, 0xF, 1⟩, leBytes 8 room)] }
      xnt := { (net { seqQp with refused := refused }).xnt with
                rkeys := [(8, { kind := .landing, dom := 1, len := 65536 })], fault := held
                landings := [{ key := 8, dom := 1, units := 1, qp := 4 }] } }

theorem wit_landing_cases : passes (landing [] 0 [] []) 0 (base 1 10 1) = true
    ∧ roleOk ((landing [] 0 [] []).qp 4) (pkt 1 10 (addr 8 0 1) [0]) = true
    ∧ (landing [] 0 [] []).addrCheck ((landing [] 0 [] []).qp 4) 1 (addr 8 0 1) 1 = none
    ∧ (landing [] 0 [] []).landingOf 8 ≠ none ∧ ((landing [] 0 [] []).bindUnits 8 0 (unitsOf 0 1)).isNone = true
    ∧ ((landing [] 0 [] []).bindUnits 8 0 (unitsOf 0 0)).isSome = true ∧ (landing [] 0 [] []).scrubCount = 0
    ∧ (landing [(7, .scrub [])] 0 [] []).scrubCount ≠ 0 ∧ (landing [(7, .scrub [])] 100 [] []).faultRoom 1 1 = true
    ∧ (landing [(7, .scrub [])] 0 [] []).faultRoom 1 1 = false
    ∧ (∃ f ∈ (landing [] 0 [⟨4, 10, 1, 8, 0, [0]⟩] []).xnt.fault, f.qp = 4 ∧ f.psn = 10)
    ∧ (∃ r ∈ ((landing [] 0 [] [⟨0, 0, 4⟩]).qp 4).refused, r.msn = bMsn (base 1 10 1)) ∧ bMsn (base 1 10 1) = 0 := by decide +kernel

/-- An acknowledgement of PSN 1 with one record and without, and one of a wrong length. -/
theorem wit_ack_cases : passes sender 0 (base 0x10 0 0) = true ∧ passes sender 0 (base 0x11 0 0) = true
    ∧ (leBytes 32 2).length = 32 + 8 * leNat (slice (leBytes 32 2) 3 1) ∧ leNat (slice (leBytes 32 2) 3 1) = 0
    ∧ (leBytes 40 (2 + 2 ^ 24)).length = 32 + 8 * leNat (slice (leBytes 40 (2 + 2 ^ 24)) 3 1)
    ∧ ([] : List Byte).length ≠ 32 + 8 * leNat (slice [] 3 1)
    ∧ ((sender.qp 4).tx.filter fun x => x.out && ackCovers (leBytes 32 2) x.psn) ≠ [] := by decide +kernel

theorem wit_timer_cases : ((net {}).qp 4).sends = false ∧ (∀ t ∈ (sender.qp 4).tx, (t.psn == 9 && t.sent && !t.done && !t.held) = false)
    ∧ ((net { st := .rts }).qp 4).unacked = 0 ∧ ((net { st := .rts }).qp 4).sent = false
    ∧ ((net { st := .connecting, guarded := true }).qp 4).guarded = true ∧ ((net { st := .rts }).qp 4).st ≠ .connecting
    ∧ ((net { st := .rts }).qp 4).st ≠ .draining
    ∧ (∀ t ∈ (sender.qp 4).tx, ¬ (t.psn = 1 ∧ t.rnr = true ∧ t.done = false))
    ∧ 0 < ((net { st := .rts, sent := true, marked := 2, acked := 4 }).qp 4).marked := by decide +kernel

theorem wit_key_cases : held.stalled 4 9 = none
    ∧ (∀ r, held.rkey 6 = some r → r.st = 2 ∧ r.inflight = 0) ∧ (∀ r, held.rkey 5 = some r → r.st ≠ 2 ∧ r.st ≠ 3)
    ∧ held.rkey 99 = none ∧ up.portUp 0 = false ∧ held.ownAddr 0 false 7 = false
    ∧ 1000 ≤ anat ({ held with xnt := { held.xnt with echoes := [(0, 1000)] } } : State).xnt.echoes 0 := by
  refine ⟨by decide +kernel, ?_, ?_, by decide +kernel⟩ <;>
    exact fun r h => by cases h; decide +kernel

theorem wit_shaper_cases : ({ shaped 99 100 with dict := { (shaped 99 100).dict with active := strict.dict.active ++ (shaped 99 100).dict.active } }
      : State).eligible 1 0 100 = .wait := by decide +kernel


/-! ## Messages, the ring, and faults -/

/-- A message with the given SVC header fields. -/
def msg (tag count : Nat) (seq : BitVec 64) : SvcMsg := ⟨ofBytes 256 (svcHdr 0 0 tag count seq 0 0), []⟩

theorem wit_service_message : serviceRow (.released 4 (msg 0 0 0)) = some (4, 6, msg 0 0 0) ∧ qps.svcQp 4 = true
    ∧ qps.svcQp 5 = false ∧ (0x33 : Nat) < 256 := by decide +kernel

/-- The same node with a profile, and what domain 1 may hold. -/
def holder : State :=
  { qps with prof := { qps.prof with state := 1 }
             dict := { active := [(⟨0x3200, 1, 1⟩, leBytes 8 4096), (⟨0x7120, 8, 1⟩, leBytes 8 4096),
               (⟨0x7120, 9, 1⟩, leBytes 4 16), (⟨0x7120, 0x13, 1⟩, leBytes 4 16)] } }

theorem wit_open_landing (s : State) (qp tag n : Nat) (seq : Option (BitVec 64)) (shadow : Bool) (h : s.xnt.rkeys = [])
    (hq : 0 < s.num 0x7120 0x13 (s.qp qp).dom) : ∃ t k g, s.openLanding qp tag n seq shadow = some (t, k, g) := by
  obtain ⟨t, k, g, e⟩ := wit_new_key s { kind := .landing, dom := (s.qp qp).dom, len := unitBytes * n, place := (s.qp qp).peerNode } h hq
  unfold State.openLanding
  simp only [e]
  exact ⟨_, _, _, rfl⟩

theorem wit_hold_offer : hCount (rowHdr 1 (msg 3 1024 0)) = 1024 ∧ holder.domActive (holder.qp 4).dom = true
    ∧ holder.slotsHeld (holder.qp 4).dom + 1024 ≤ holder.num 0x3200 1 (holder.qp 4).dom
    ∧ holder.mapHeld (holder.qp 4).dom + 1024 ≤ holder.num 0x7120 8 (holder.qp 4).dom ∧ holder.profOk = true
    ∧ (∃ t k g, holder.openLanding 4 3 1024 none false = some (t, k, g)) ∧ 1024 < hCount (rowHdr 1 (msg 3 1025 0)) := by
  refine ⟨by decide +kernel, by decide +kernel, by decide +kernel, by decide +kernel, by decide +kernel, ?_, by decide +kernel⟩
  exact wit_open_landing _ _ _ _ _ _ rfl (by decide +kernel)

/-- A PAGE_MIGRATE that names QP 4. -/
def migrateCmd : Cmd := { tag := 3, desc := 0x42 ||| (4 <<< 496), jobs := [{ page := 7 }] }

/-- A PAGE_MIGRATE of a page that is here, on QP 4 with tag 3; a landing region without units, and a hold that node 0 has. -/
def exchanging : State :=
  { holder with
      sched := { cmds := [migrateCmd] }
      pages := { holder.pages with map := [(7, { loc := 9 })] }
      xnt := { holder.xnt with rkeys := [(5, { st := 1, kind := .holds, dom := 1, place := 2 })]
                               landings := [{ key := 8, dom := 1, origin := 2, qp := 4 }] }
      tier := { holds := [⟨0, 1, 6⟩], releases := [⟨2, 6, 3⟩] } }

theorem wit_hold_exchange : exchanging.holdCmd 4 (hTag (rowHdr 2 (msg 3 1 0))) = some migrateCmd
    ∧ (((migrateCmd.jobs.filter fun j => !j.done).take (Nat.min 1024 1)).mapM fun j => exchanging.hbmPage j.page).isSome = true
    ∧ holder.holdCmd 4 (hTag (rowHdr 3 (msg 3 1 0))) = none
    ∧ (holder.xnt.landings.find? fun l => l.qp == 4 && l.tag == 0 && l.seq.isNone) = none
    ∧ (exchanging.xnt.landings.find? fun l => l.qp == 4 && l.tag == 0 && l.seq.isNone) = some { key := 8, dom := 1, origin := 2, qp := 4 } := by
  decide +kernel

theorem wit_landed : exchanging.landedPages { key := 8, dom := 1, origin := 2, qp := 4 } [] = .ok []
    ∧ exchanging.holdsRegion 2 1 = some (exchanging, 5, 0) := ⟨rfl, rfl⟩

theorem wit_release_ended : exchanging.tier.releases ≠ [] ∧ exchanging.tier.holds ≠ [] ∧ exchanging.moveOn 4 (hSeq (rowHdr 0xF (msg 3 1 0))) = none := by
  decide +kernel

/-- The Sequence ID of index 5, generation 1, domain 1. -/
def sid5 : BitVec 64 := BitVec.ofNat 64 (1 + 5 * 2 ^ 16 + 1 * 2 ^ 48)

/-- Sequence 5 in the given state. -/
def seq5 (st : SeqSt) : State := { holder with seqs := { table := [(5, { gen := 1, dom := 1, st := st })] } }

theorem wit_move_begin : sidDom 0 ≠ (holder.qp 4).dom ∧ hSeq (rowHdr 8 (msg 3 8 sid5)) = sid5 ∧ fld sid5 40 8 = 0 ∧ fld sid5 60 4 = 0
    ∧ sidDom sid5 = (holder.qp 4).dom ∧ (holder.seq (sidIndex sid5)).st = .free ∧ (holder.seq (sidIndex sid5)).gen ≤ sidGen sid5
    ∧ holder.seqFree (sidIndex sid5) = true ∧ holder.domActive (sidDom sid5) = true
    ∧ holder.seqsHeld (sidDom sid5) < holder.num 0x7120 9 (sidDom sid5)
    ∧ holder.slotsHeld (sidDom sid5) + hCount (rowHdr 8 (msg 3 8 sid5)) ≤ holder.num 0x3200 1 (sidDom sid5) ∧ holder.profOk = true
    ∧ ∃ t k g, holder.openLanding 4 3 8 (some sid5) false = some (t, k, g) := by
  refine ⟨by decide +kernel, by decide +kernel, by decide +kernel, by decide +kernel, by decide +kernel, by decide +kernel,
    by decide +kernel, by decide +kernel, by decide +kernel, by decide +kernel, by decide +kernel, by decide +kernel, ?_⟩
  exact wit_open_landing _ _ _ _ _ _ rfl (by decide +kernel)

/-- A move of sequence 5 over QP 4, with and without its command. -/
def moving (m : MoveSt) : State :=
  { seq5 .moving with
      sched := { cmds := [{ id := 2, desc := 0x42, seq := some 5 }] }
      xnt := { holder.xnt with moves := [m] } }

theorem wit_moves : (moving { seq := 5, qp := 4, cmd := some 2 }).moveOn 4 sid5 = some { seq := 5, qp := 4, cmd := some 2 }
    ∧ ((some 2).bind (moving { seq := 5, qp := 4, cmd := some 2 }).cmd).isSome = true
    ∧ (moving { seq := 5, qp := 4 }).moveOn 4 sid5 = some { seq := 5, qp := 4 }
    ∧ (holder.xnt.landings.find? fun l => l.seq == some sid5 && l.qp == 4) = none
    ∧ ((seq5 .incoming).seq (sidIndex sid5)).st = .incoming ∧ ((seq5 .incoming).seq (sidIndex sid5)).gen = sidGen sid5
    ∧ ((seq5 .open_).seq (sidIndex sid5)).st = .open_ ∧ ((seq5 .open_).seq (sidIndex sid5)).gen = sidGen sid5 := by decide +kernel

theorem wit_move_timers : (∃ v, ((moving { seq := 5, qp := 4, node := 2, final := true }).xnt.moves.find?
      fun m => m.seq == 5 && m.final && !m.unresolved) = some v ∧ v.shadow = false ∧ v.cmd = none)
    ∧ (moving { seq := 5, qp := 4, node := 2, final := true }).pendingAppends 5 none = []
    ∧ (∃ v, ((moving { seq := 5, qp := 4, unresolved := true }).xnt.moves.find? fun m => m.seq == 5 && m.unresolved) = some v)
    ∧ (moving { seq := 5, qp := 4, unresolved := true }).qpTo 1 ((qps.qp 4).peerNode) = some 4 :=
  ⟨⟨_, rfl, rfl, rfl⟩, by decide +kernel, ⟨_, rfl⟩, by decide +kernel⟩

/-- A member of the ring 9, at a position, with the lap 3 sealed, between QP 4 and QP 6. -/
def member (p : Nat) : State :=
  { qps with ring := { st := ringOpen, ringId := 9, position := p, prevQp := 4, nextQp := 6, lap := 3, sealed := true
                       bufBytes := 64, abortSeen := [(2, 1)] } }

/-- A stook of no rows, of position 1, with its check value. -/
def stookHead : List Byte := [1, 1] ++ List.replicate 6 0 ++ leBytes 4 3 ++ List.replicate 20 0 ++ leBytes 8 64 ++ List.replicate 20 0
def stookBytes : List Byte := stookHead ++ leBytes 4 (crc32c stookHead).toNat

theorem wit_ring : (member 1).svcQp 4 = true ∧ (member 1).ringMember = true ∧ qps.ringMember = false
    ∧ (member 1).ring.ringId = fld (rowHdr 0x22 (msg 1 3 9)) 64 32 ∧ (member 1).ring.ringId ≠ fld (rowHdr 0x22 (msg 1 3 8)) 64 32
    ∧ (member 1).ring.bufBytes < (List.replicate 65 (0 : Byte)).length ∧ stookBytes.length ≤ (member 1).ring.bufBytes
    ∧ stookHeadOk (member 1).pr stookBytes = true ∧ stookLap stookBytes ≠ (member 1).ring.doneLap
    ∧ (member 1).ring.st ≠ ringStopping := by decide +kernel

theorem wit_laps : (member 0).ring.position = 0 ∧ (member 0).ring.sealed = true ∧ (member 0).ring.lap = hCount (rowHdr 0x23 (msg 1 3 9))
    ∧ (member 1).ring.position ≠ 0 ∧ (hCount (rowHdr 0x25 (msg 1 2 9)), hTag (rowHdr 0x25 (msg 1 2 9)) % 64) ∈ (member 1).ring.abortSeen
    ∧ (hCount (rowHdr 0x25 (msg 1 3 9)), hTag (rowHdr 0x25 (msg 1 3 9)) % 64) ∉ (member 1).ring.abortSeen
    ∧ hTag (rowHdr 0x26 (msg 1 3 9)) % 64 = (member 1).ring.position ∧ (member 1).ring.st ≠ ringNone
    ∧ (member 1).ring.nextQp ≠ (member 1).ring.prevQp ∧ (member 1).ring.prevQp = 4 := by decide +kernel

theorem wit_exchanges : qps.shadow.started = false ∧ qps.shadowOn = false ∧ (session { st := 1 }).svcQp 4 = true
    ∧ (session { st := 1 }).shadowOn = true ∧ (session { st := 1 }).shadow.isShadow = false ∧ hCount (rowHdr 0x31 (msg 0 1 0)) = 1
    ∧ (session { st := 1, isShadow := true }).shadowOn = true ∧ hCount (rowHdr 0x33 (msg 0 2 0)) ≠ 1
    ∧ (({ up with sched := { cmds := [{ id := 2, desc := 0x60 }] } } : State).cmd 2).isSome = true
    ∧ dOp (0x60 : Desc) = 0x60 ∧ (⟨2, 6, 3⟩ : Release) ∈ exchanging.tier.releases := by decide +kernel

/-! Exchanges that are turned away, and what a message finds when it comes too late. -/

theorem wit_no_key_left (s : State) (qp tag n : Nat) (seq : Option (BitVec 64)) (shadow : Bool)
    (h : s.num 0x7120 0x13 (s.qp qp).dom = 0) : s.openLanding qp tag n seq shadow = none := by
  unfold State.openLanding State.newKey
  simp only []
  rw [if_neg fun x => Nat.not_lt_zero _ (h ▸ x.2)]

/-- As `holder`, with the profile gone; and with no region keys left. -/
def unprofiled : State := { holder with prof := {} }
def keyless : State :=
  { holder with dict := { active := [(⟨0x3200, 1, 1⟩, leBytes 8 4096), (⟨0x7120, 8, 1⟩, leBytes 8 4096),
      (⟨0x7120, 9, 1⟩, leBytes 4 16), (⟨0x7120, 0x13, 1⟩, leBytes 4 0)] } }

theorem wit_hold_refused : unprofiled.profOk = false ∧ unprofiled.domActive 1 = true ∧ unprofiled.svcQp 4 = true
    ∧ unprofiled.slotsHeld 1 + 1024 ≤ unprofiled.num 0x3200 1 1 ∧ keyless.profOk = true
    ∧ keyless.num 0x7120 0x13 (keyless.qp 4).dom = 0 ∧ keyless.slotsHeld 1 + 8 ≤ keyless.num 0x3200 1 1
    ∧ ¬ (1 ≤ hCount (rowHdr 1 (msg 3 0 0))) := by decide +kernel

/-- A hold whose page is no longer here, and one of two pages. -/
def holding (map : List (Nat × PageEntry)) (jobs : List PageJob) : State :=
  { exchanging with sched := { cmds := [{ migrateCmd with jobs := jobs }] }, pages := { exchanging.pages with map := map } }

theorem wit_hold_cases : (holding [] [{ page := 7 }]).holdCmd 4 3 = some { migrateCmd with jobs := [{ page := 7 }] }
    ∧ ((([{ page := 7 }] : List PageJob).mapM fun j => (holding [] [{ page := 7 }]).hbmPage j.page).isNone) = true
    ∧ ((([{ page := 7 }] : List PageJob).zip (svcWords 1 (leBytes 4 9))).foldl
        (fun (a : Cmd) p => a.setJob p.1.page fun x => { x with landing := p.2, done := true }) migrateCmd).jobs.all PageJob.done = true
    ∧ ((([{ page := 7 }, { page := 8 }] : List PageJob).zip (svcWords 1 (leBytes 4 9))).foldl
        (fun (a : Cmd) p => a.setJob p.1.page fun x => { x with landing := p.2, done := true })
        { migrateCmd with jobs := [{ page := 7 }, { page := 8 }] }).jobs.all PageJob.done = false
    ∧ (keyless.xnt.rkeys.find? fun r => r.2.kind == .holds) = none := by decide +kernel

/-- A unit of a region to which nothing has come. -/
theorem wit_landed_none (s : State) (l : Landing) (u : Nat) (h : l.binds = []) : ∃ e, s.landedPages l [u] = .error e := by
  unfold State.landedPages
  simp only [h, List.find?_nil]
  split
  · exact ⟨4, rfl⟩
  · exact ⟨5, rfl⟩

theorem wit_holds_none (s : State) (origin d : Nat) (hk : s.xnt.rkeys = []) (h : s.num 0x7120 0x13 d = 0) :
    s.holdsRegion origin d = none := by
  unfold State.holdsRegion State.newKey
  simp only [hk, List.find?_nil]
  rw [if_neg fun x => Nat.not_lt_zero _ (h ▸ x.2)]

/-- A node that is the shadow of domain 1 on QP 4, in COPYING; the offers of a copy to it and to another. -/
def copyTo : State := { holder with dict := { active := (⟨0x8410, 1, 1⟩, leBytes 2 4) :: holder.dict.active },
                                    shadow := { st := 1, isShadow := true } }

/-- MOVE_BEGIN of a copy. -/
def copyMsg : SvcMsg := ⟨ofBytes 256 (svcHdr 0 1 3 8 sid5 0 0), []⟩

theorem wit_begin_cases : hReason (rowHdr 8 copyMsg) = 1 ∧ (copyTo.shadow.st = 1 ∧ copyTo.shadow.isShadow = true ∧ copyTo.mirrorQp 1 = some 4)
    ∧ holder.shadow.st ≠ 1 ∧ copyTo.svcQp 4 = true ∧ hReason (rowHdr 8 (msg 3 8 sid5)) = 0
    ∧ ((seq5 .open_).seq (sidIndex sid5)).st ≠ .free ∧ holder.num 0x3200 1 1 < holder.slotsHeld 1 + hCount (rowHdr 8 (msg 3 5000 sid5)) := by
  decide +kernel

/-- A move that is ready; one of a copy; one whose command has gone. -/
theorem wit_move_cases : (moving { seq := 5, qp := 4, ready := true }).moveOn 4 sid5 = some { seq := 5, qp := 4, ready := true }
    ∧ (moving { seq := 5, qp := 4, shadow := true }).moveOn 4 sid5 = some { seq := 5, qp := 4, shadow := true }
    ∧ (moving { seq := 5, qp := 4, cmd := some 9 }).moveOn 4 sid5 = some { seq := 5, qp := 4, cmd := some 9 }
    ∧ ((moving { seq := 5, qp := 4, cmd := some 9 }).cmd 9) = none ∧ holder.moveOn 4 sid5 = none
    ∧ ((moving { seq := 5, qp := 4, cmd := some 2 }).cmd 2).isSome = true
    ∧ hReason (rowHdr 0xF ⟨ofBytes 256 (svcHdr 0 6 3 1 sid5 0 0), []⟩) = 6
    ∧ hReason (rowHdr 0xF ⟨ofBytes 256 (svcHdr 0 3 3 1 sid5 0 0), []⟩) = 3 := by decide +kernel

/-- A sequence of no rows, and one with a row record of no page, to a region of no units. -/
def landed : State := { seq5 .incoming with xnt := { holder.xnt with landings := [{ key := 8, dom := 1, qp := 4, seq := some sid5 }] } }
def rowPayload : List Byte := leBytes 64 (2 ^ 256)

theorem wit_final_cases : (landed.xnt.landings.find? fun l => l.seq == some sid5 && l.qp == 4)
      = some { key := 8, dom := 1, qp := 4, seq := some sid5 }
    ∧ parseRows landed.pr (fld (ofBytes 512 (slice [] 0 64)) 256 32) [] = []
    ∧ fld (ofBytes 512 (slice rowPayload 0 64)) 256 32 = 1
    ∧ (parseRows landed.pr 1 []).flatMap Prod.snd = [] ∧ (parseRows landed.pr 1 []).isEmpty = false := by decide +kernel

theorem wit_final_runs : landed.landedPages { key := 8, dom := 1, qp := 4, seq := some sid5 } [] = .ok []
    ∧ landed.takeRuns { dom := 1 } [] = .ok (landed, { dom := 1 }) := ⟨rfl, rfl⟩

theorem wit_query_cases : sidDom sid5 = (holder.qp 4).dom ∧ sidDom 0 ≠ (holder.qp 4).dom ∧ ((seq5 .incoming).seq 5).gen = sidGen sid5
    ∧ ((seq5 .open_).seq 5).st ≠ .incoming ∧ ((seq5 .open_).seq 5).st ≠ .free
    ∧ sidGen (BitVec.ofNat 64 (5 * 2 ^ 16 + 1 * 2 ^ 48)) < ((seq5 .open_).seq 5).gen ∧ ((seq5 .free).seq 5).st = .free
    ∧ ((seq5 .free).seq 5).gen = sidGen sid5 ∧ ((seq5 .open_).seq 5).gen < sidGen (BitVec.ofNat 64 (2 + 5 * 2 ^ 16 + 1 * 2 ^ 48)) := by
  decide +kernel

/-- The grain quota of its domain does not take the plane lengths of a sequence with a row. -/
theorem wit_final_no_runs (s : State) (c : Cmd) (k : Option Nat) (n : Nat) (h : s.num 0x7120 0xA c.dom = 0) (hn : 0 < n) :
    ∃ f, s.takeRuns c [(k, n)] = .error f := by
  simp only [State.takeRuns, State.takeGrains, State.allocGrains]
  rw [if_neg fun x => by have := x.2; omega]
  exact ⟨_, rfl⟩

/-! The ring, the shadow and the timers in their other cases. -/

/-- As `member`, its lap open; done with lap 7; stopping; with a stook to build; alone with its neighbour. -/
def ringCase (f : Ring → Ring) : State := { member 1 with ring := f (member 1).ring }

theorem wit_ring_cases : stookBytes.length ≤ (member 1).ring.bufBytes ∧ stookHeadOk (member 1).pr (stookBytes.take 63) = false
    ∧ newer 32 (stookLap stookBytes) (member 1).ring.doneLap = true
    ∧ newer 32 (stookLap stookBytes) (ringCase fun r => { r with doneLap := 7 }).ring.doneLap = false
    ∧ (ringCase fun r => { r with st := ringStopping, sealed := false }).ring.st = ringStopping
    ∧ (ringCase fun r => { r with st := ringStopping, sealed := false }).ringMember = true
    ∧ (member 1).svcQp 6 = false ∧ (1 : Nat) ≠ 0 := by decide +kernel

theorem wit_lap_cases : newer 32 3 (member 1).ring.doneLap = true ∧ newer 32 3 (ringCase fun r => { r with doneLap := 7 }).ring.doneLap = false
    ∧ hReason (rowHdr 0x25 ⟨ofBytes 256 (svcHdr 0 1 1 3 9 0 0), []⟩) = 1 ∧ hReason (rowHdr 0x25 (msg 1 3 9)) ≠ 1
    ∧ (ringCase fun r => { r with sealed := false }).ring.sealed = false ∧ hTag (rowHdr 0x26 (msg 2 3 9)) % 64 ≠ (member 1).ring.position
    ∧ ((ringCase fun r => { r with st := ringStopping, sealed := false, buffers := [{ bytes := stookBytes, origin := 1, lap := 0 }] }).nextStook
        != none) = true
    ∧ (∀ c ∈ (member 1).sched.cmds, dOp c.desc ≠ 0x61) ∧ (∃ c ∈ [{ planned with desc := 0x61 }], dOp c.desc = 0x61) := by decide +kernel

/-- A shadow in COPYING and in MIRRORING, a started one, and sequences that are shadowed. -/
def shadowed (st : Nat) (l : List (BitVec 64)) : State :=
  { session { st := st, isShadow := true, seqs := l } with seqs := { table := [(5, { gen := 1, dom := 1, st := .shadowed })] } }

theorem wit_shadow_messages : (shadowed 1 [sid5]).shadowQp = some 4 ∧ (shadowed 1 [sid5]).svcQp 4 = true ∧ (shadowed 1 [sid5]).mirrorsOn 4 = true
    ∧ (shadowed 1 [sid5]).shadowOn = true ∧ hReason (rowHdr 0x30 ⟨ofBytes 256 (svcHdr 0 2 0 0 0 0 0), []⟩) = 2
    ∧ hReason (rowHdr 0x30 (msg 0 0 0)) ≠ 2 ∧ (session { started := true }).shadow.started = true ∧ up.shadowQp ≠ some 4
    ∧ (session { st := 1 }).mirrorsOn 4 = true ∧ (session { st := 1 }).mirrorsOn 5 = false ∧ hCount (rowHdr 0x31 (msg 0 0 0)) = 0
    ∧ (shadowed 4 [sid5]).shadow.seqs.filter (fun id => sidDom id != 1) = [] ∧ (qps.qp 4).dom = 1
    ∧ (shadowed 4 [0]).shadow.seqs.filter (fun id => sidDom id != 1) ≠ [] ∧ sid5 ∈ (shadowed 1 [sid5]).shadow.seqs
    ∧ sidDom sid5 = 1 ∧ ((shadowed 1 [sid5]).seq (sidIndex sid5)).st = .shadowed ∧ hCount (rowHdr 0x33 (msg 0 1 sid5)) = 1 := by
  decide +kernel

/-- The hello that a started shadow waits for fails its check when the profile digests differ. -/
theorem wit_hello_check : shadowCheck (List.replicate 98 1) (List.replicate 98 0) ≠ 0 ∧ shadowCheck (List.replicate 98 1) (List.replicate 98 1) = 0 := by
  decide +kernel

theorem wit_timer_ends : up.ring.st = ringNone ∧ (ringCase fun r => { r with nextQp := 4 }).ring.nextQp = (member 1).ring.prevQp
    ∧ (member 1).ring.prevQp = 4 ∧ up.ringMember = false ∧ up.cmd 9 = none ∧ dOp planned.desc ≠ 0x60
    ∧ (∀ r ∈ up.tier.releases, ¬ (r.node = 2 ∧ r.page = 6))
    ∧ (up.xnt.moves.find? fun m => m.seq == 5 && m.final && !m.unresolved) = none
    ∧ ((moving { seq := 5, qp := 4, final := true, shadow := true }).xnt.moves.find? fun m => m.seq == 5 && m.final && !m.unresolved)
        = some { seq := 5, qp := 4, final := true, shadow := true }
    ∧ (up.xnt.moves.find? fun m => m.seq == 5 && m.unresolved) = none
    ∧ (moving { seq := 5, qp := 4, node := 77, unresolved := true }).qpTo 1 77 = none := by decide +kernel

/-- A node with an island whose clock is lost, events to send, and a BIST of tile 5 and of stack 3. -/
def faulty : State :=
  { qps with
      boot := { qps.boot with mgmtRestarting := true }
      faults := { deadIslands := [71], gather := [{}] }
      test := { lbState := 1, lbTile := 5, lbModes := 3, lbExp := 6, asb := [(3, { st := 2 })] } }

theorem wit_faults : qps.romUp = true ∧ islandOk 71 = true ∧ islandOk 72 = false ∧ islandOk 0x207 = true ∧ 71 ∉ qps.faults.deadIslands
    ∧ 71 ∈ faulty.faults.deadIslands ∧ qps.mgmtUp = true ∧ faulty.boot.st = .running ∧ faulty.boot.mgmtRestarting = true
    ∧ faulty.faults.gather = [{}] ∧ (faulty.qp (faulty.num 0x8200 5)).isMgmt = false ∧ faulty.alive = true
    ∧ faulty.test.lbState = 1 ∧ faulty.test.lbModes.testBit 0 = true ∧ faulty.test.lbModes.testBit 1 = true
    ∧ (6 : BitVec 32).toNat = faulty.test.lbExp ∧ (7 : BitVec 32).toNat ≠ faulty.test.lbExp
    ∧ (faulty.asbOf 3).st = 2 ∧ faulty.power.brownOut = false := by decide +kernel

theorem wit_event_frame : (({ faulty with dict := { active := [(⟨0x8200, 5, 0⟩, leBytes 2 5)] } } : State).num 0x8200 5) = 5
    ∧ (faulty.qp 5).isMgmt = true ∧ (faulty.qp 5).st = .rts := by decide +kernel

theorem wit_quiet : quiet (.pathHolddown 0 0) = true ∧ quiet .errnPulseEnd = true
    ∧ ∃ t, Sys2Proof.Machine.exec .errnPulseEnd up = .next t := ⟨rfl, rfl, _, rfl⟩

/-- A CQ of one page below its wrap, which holds nothing back. -/
theorem wit_completion : aget qd.queues.cqs 1 = some { cfg := cqCfg } ∧ bit cqCfg 21 = false
    ∧ qd.cqTakes { cfg := cqCfg } = true ∧ qd.cqTakes { cfg := cqCfg, tail := 15, head := 1 } = true
    ∧ ({ cfg := cqCfg } : Cq).held = [] ∧ ({ cfg := cqCfg, tail := 15 } : Cq).tail + 1 = cqDepth cqCfg := by decide +kernel

/-- A fault of island 0, with nothing else named. -/
def plainFault (src : FaultSource) : FaultIn := ⟨src, 0, 0, none, none, none, none, false, false, false⟩

/-- The collection of the item's row set, on its tile; the item as it ended. -/
def collected (it : Item) : State :=
  { oneItem it with sched := { (oneItem it).sched with collects := [⟨5, 0, 0, 0, 0, 0, 1⟩] } }

theorem wit_fault_cases : (supply .off).romUp = false ∧ qps.faultChan (plainFault .channelLoss) = some (0, 0)
    ∧ qps.faultChan { plainFault .channelLoss with unit := 0x3F00 } = none
    ∧ (running.awns.stripes.find? fun x => some (stripeItem x.tag) == ({ plainFault .awnCheck with tag := some 3 } : FaultIn).tag.map BitVec.toNat
        && x.awn == 0) = some { tag := 3 }
    ∧ (up.awns.stripes.find? fun x => some (stripeItem x.tag) == some 3 && x.awn == 0) = none ∧ awnExists 0 = true
    ∧ awnExists 0xFFFFFFFF = false
    ∧ (oneItem { item with st := .running }).itemOf { plainFault .tileCheck with tag := some 3 } = some { item with st := .running }
    ∧ (oneItem { item with st := .running }).collectsHit { plainFault .tileCheck with tag := some 3 } = []
    ∧ (collected { item with st := .ended }).itemOf { plainFault .tileCheck with tag := some 3 } = none
    ∧ (collected { item with st := .ended }).collectsHit { plainFault .tileCheck with tag := some 3 } ≠ []
    ∧ (collected { item with st := .ended }).itemNamed { plainFault .coverage with tag := some 3 } = some { item with st := .ended }
    ∧ up.itemNamed (plainFault .coverage) = none ∧ aget up.index.entries 0 = none
    ∧ aget ({ up with index := { entries := [(0, {})] } } : State).index.entries 0 ≠ none
    ∧ qps.mgmtUp = true ∧ faulty.mgmtUp = false ∧ (rom .starting).boot.st ≠ .running ∧ 71 ∈ faulty.faults.deadIslands := by decide +kernel

/-- A page in HBM that a fault names, with a command that needs it, one whose job is open, and one without. -/
theorem wit_identity_cases : ((some (0 : BitVec 25)).bind fun p => (paged.page p.toNat).bind fun e => if e.inHbm then some e.loc else none) = some 0
    ∧ ((none : Option (BitVec 25)).bind fun p => (paged.page p.toNat).bind fun e => if e.inHbm then some e.loc else none) = none
    ∧ (transfer 0x20 .device bufJob).needsPage (tierCmd 0x20 bufJob) 0 = true := by decide +kernel

theorem wit_fault_rest : qps.alive = true ∧ (supply .off).alive = false ∧ up.boot.mgmtRestarting = false ∧ up.faults.gather.take 64 = []
    ∧ aget qd.queues.sqs 1 = some { cfg := sqCfg } ∧ up.test.lbState ≠ 1 ∧ (up.asbOf 3).st ≠ 2
    ∧ ({ faulty with power := { faulty.power with brownOut := true } } : State).power.brownOut = true
    ∧ 0 < 1000 * ({ qd with dict := { active := [(⟨0x7140, 1, 1⟩, leBytes 4 5)] } } : State).num 0x7140 1 (sqDom sqCfg)
    ∧ ({ cfg := sqCfg } : Sq).alarmed = false ∧ (oneItem { item with st := .running }).itemsOn 0 ≠ [] := by decide +kernel

/-- A FABRIC CQ and a full one. -/
theorem wit_completion_cases : bit fabCqCfg 21 = true ∧ ({ up with queues := { cqs := [(1, { cfg := fabCqCfg })] } } : State).cqTakes { cfg := fabCqCfg } = true
    ∧ aget ({ up with queues := { cqs := [(1, { cfg := fabCqCfg })] } } : State).queues.cqs 1 = some { cfg := fabCqCfg }
    ∧ qd.cqTakes { cfg := cqCfg, tail := 15, head := 0 } = false ∧ ({ cfg := cqCfg, held := [0] } : Cq).held ≠ [] := by decide +kernel

theorem wit_window_lost : 0 ∈ ({ viewed with pages := { viewed.pages with lost := [0] } } : State).pages.lost
    ∧ ({ viewed with link := { viewed.link with decoder := none } } : State).winOffset (2 ^ 40) = none
    ∧ ({ viewed with link := { viewed.link with speed := 1 } } : State).linkFull = false := by decide +kernel

end Sys2Proof.Tests
end

section
/-! SUPPORT. Scope and conventions: serial comparison (R4), the sparse memories and their bytes (R2), and the safe states that
every step keeps. -/

namespace Sys2Proof.Machine

/-! ## Serial comparison -/

/-- The distance that `newer` computes in natural numbers is the difference of R4 modulo `2 ^ n`. -/
theorem serialDistance_eq_emod (n a b : Nat) :
    (((a + 2 ^ n - b % 2 ^ n) % 2 ^ n : Nat) : Int) = ((a : Int) - b) % 2 ^ n := by
  have hb : b % 2 ^ n ≤ a + 2 ^ n := ((Nat.mod_lt b (Nat.two_pow_pos n)).le).trans (Nat.le_add_left _ _)
  calc (((a + 2 ^ n - b % 2 ^ n) % 2 ^ n : Nat) : Int)
      = ((a : Int) - b % 2 ^ n + 2 ^ n) % 2 ^ n := by
        rw [Int.natCast_mod, Nat.cast_sub hb]
        push_cast
        congr 1
        ring
    _ = ((a : Int) - b) % 2 ^ n := by rw [Int.add_emod_right, Int.sub_emod_emod]

/-- `newer` says what R4 says. -/
theorem newer_iff (n a b : Nat) :
    newer n a b = true ↔ 1 ≤ ((a : Int) - b) % 2 ^ n ∧ ((a : Int) - b) % 2 ^ n < 2 ^ (n - 1) := by
  rw [← serialDistance_eq_emod]
  simp only [newer, Bool.and_eq_true, decide_eq_true_eq]
  norm_cast

/-- Settles O6: the distance that `newer` computes is the difference of R4. -/
theorem serialComparison : Obligations.SerialComparison := by
  refine ⟨fun n a b _ _ _ => ?_, fun n a => ?_, fun n a b _ _ _ half => ?_⟩
  · rw [newer_iff, Int.le_sub_one_iff]
  · rw [Bool.eq_false_iff, Ne, newer_iff, sub_self, Int.zero_emod]
    omega
  · rw [Bool.eq_false_iff, Ne, newer_iff, half]
    exact fun h => lt_irrefl _ h.2

/-! ## Sparse memory and byte strings -/

theorem Memory.readBytes_writeBytes (m : List Host.Cell) (l : List Byte) (a : Nat) :
    Memory.readBytes (Memory.writeBytes m a l) a l.length = l := by
  induction l generalizing m a with
  | nil => rfl
  | cons b r ih =>
    have first : Memory.read (Memory.writeBytes (Memory.write m a b) (a + 1) r) a = b := by
      rw [Memory.read_writeBytes_out _ _ _ _ (.inl (Nat.lt_succ_self a)), Memory.read_write_self]
    simp only [Memory.writeBytes, List.length_cons, Memory.readBytes, first, ih]

/-- A table filtered by its keys holds what it held at the keys that pass. -/
theorem aget_filter_key {α : Type} (l : List (Nat × α)) (p : Nat → Bool) (n : Nat) :
    aget (l.filter fun c => p c.1) n = if p n then aget l n else none := by
  induction l with
  | nil => simp [aget]
  | cons c r ih =>
    obtain ⟨k, v⟩ := c
    by_cases hk : k = n
    · subst hk
      by_cases hp : p k = true
      · simp [hp, aget]
      · simp [hp, ih]
    · by_cases hp : p k = true <;> simp [hp, aget, hk, ih]

theorem Memory.read_clear (m : List Host.Cell) (a n x : Nat) :
    Memory.read (Memory.clear m a n) x = if a ≤ x ∧ x < a + n then 0 else Memory.read m x := by
  unfold Memory.read Memory.clear
  rw [aget_filter_key m (fun k => decide ¬ (a ≤ k ∧ k < a + n))]
  by_cases h : a ≤ x ∧ x < a + n <;> simp [h]

/-- What a table of rising keys holds at a key is its entry of that key. -/
theorem mem_iff_aget {α : Type} {l : List (Nat × α)} (h : l.Pairwise fun a b => a.1 < b.1) (n : Nat) (v : α) :
    (n, v) ∈ l ↔ aget l n = some v := by
  refine ⟨fun hv => ?_, aget_mem⟩
  induction l with
  | nil => simp at hv
  | cons c r ih =>
    obtain ⟨k, w⟩ := c
    obtain ⟨below, rising⟩ := List.pairwise_cons.1 h
    rcases List.mem_cons.1 hv with heq | hr
    · cases heq
      simp [aget]
    · have : k ≠ n := (below _ hr).ne
      simp [aget, this, ih rising hr]

/-- The cells of a canonical memory are its bytes other than 0. -/
theorem Memory.mem_iff_read {m : List Host.Cell} (h : Memory.wf m = true) (a : Nat) (b : Byte) :
    (a, b) ∈ m ↔ Memory.read m a = b ∧ b ≠ 0 := by
  obtain ⟨rising, nonzero⟩ := (Memory.wf_iff m).1 h
  unfold Memory.read
  constructor
  · intro hm
    rw [(mem_iff_aget rising a b).1 hm]
    exact ⟨rfl, nonzero _ hm⟩
  · rintro ⟨hr, hb⟩
    rw [mem_iff_aget rising]
    cases hg : aget m a with
    | none => rw [hg] at hr; exact absurd hr.symm hb
    | some v => rw [hg] at hr; exact congrArg some hr

/-- Canonical memories that read the same everywhere have the same cells in the same order. -/
theorem Memory.wf_ext {m n : List Host.Cell} (hm : Memory.wf m = true) (hn : Memory.wf n = true)
    (h : ∀ a, Memory.read m a = Memory.read n a) : m = n := by
  have cells : ∀ c : Host.Cell, c ∈ m ↔ c ∈ n := fun c => by
    rw [Memory.mem_iff_read hm c.1 c.2, Memory.mem_iff_read hn c.1 c.2, h]
  have : Std.Irrefl fun a b : Host.Cell => a.1 < b.1 := ⟨fun a => lt_irrefl a.1⟩
  have : Std.Antisymm fun a b : Host.Cell => a.1 < b.1 := ⟨fun _ _ hab hba => absurd hab hba.not_gt⟩
  exact ((Memory.wf_iff m).1 hm).1.eq_of_mem_iff ((Memory.wf_iff n).1 hn).1 cells

theorem leBytes_leNat (l : List Byte) : leBytes l.length (leNat l) = l := by
  induction l with
  | nil => rfl
  | cons b r ih =>
    have low : (b.toNat + 256 * leNat r) % 256 = b.toNat := by have := b.isLt; omega
    have high : (b.toNat + 256 * leNat r) / 256 = leNat r := by have := b.isLt; omega
    rw [List.length_cons, leNat, leBytes, low, high, ih, BitVec.ofNat_toNat, BitVec.setWidth_eq]

/-- Settles O5: reads after writes, clears and sealing; bytes and their number; and canonical memories told apart by a read. -/
theorem writtenBytesReadBack : Obligations.WrittenBytesReadBack := by
  refine ⟨⟨Memory.readBytes_writeBytes, Memory.read_writeBytes_out, fun m a n x _ => Memory.read_clear m a n x, fun s t a => ?_⟩,
    ⟨fun n v hv => ?_, leBytes_leNat⟩, fun m n => Memory.wf_ext⟩
  · exact ⟨Memory.read_canon _ a, Memory.read_canon _ a, Memory.read_canon _ a⟩
  · rw [leNat_leBytes, Nat.mod_eq_of_lt hv]

/-! ## Safe states -/

/-- What a step can do: with an empty queue nothing, else it answers a sealed effect that has the rest of the queue (log 1). -/
theorem step_next_cases (s : State) :
    (s.pending = [] ∧ step s = .next s)
      ∨ ∃ c rest t, s.pending = c :: rest ∧ step s = .next (State.sealed { s with pending := rest } t) := by
  cases h : s.pending with
  | nil => exact .inl ⟨rfl, step_nil h⟩
  | cons c rest =>
    obtain ⟨t, ht⟩ := exec_sealed c { s with pending := rest }
    exact .inr ⟨c, rest, t, rfl, (step_cons h).trans ht⟩

/-- A sealed effect is safe where the commands left in the queue are well formed: sealing puts each memory in canonical form. -/
theorem State.inv_sealed {s : State} (t : State) (h : ∀ c ∈ s.pending, c.wellFormed = true) : (s.sealed t).Inv :=
  ⟨Memory.wf_canon _, Memory.wf_canon _, Memory.wf_canon _, h⟩

/-- A step of a safe state answers a safe state without the front command. -/
theorem State.Inv.exists_step {s : State} (h : s.Inv) : ∃ t, step s = .next t ∧ t.Inv ∧ t.pending = s.pending.tail := by
  rcases step_next_cases s with ⟨hp, hs⟩ | ⟨c, rest, t, hp, hs⟩
  · exact ⟨s, hs, h, by rw [hp, List.tail_nil]⟩
  · obtain ⟨_, _, _, formed⟩ := h
    rw [hp] at formed
    refine ⟨_, hs, State.inv_sealed t fun d hd => formed d (List.mem_cons_of_mem c hd), ?_⟩
    rw [State.sealed_pending, hp, List.tail_cons]

/-- As many steps as commands wait work off the queue of a safe state. -/
theorem State.Inv.exists_run {s : State} (h : s.Inv) {n : Nat} (hn : s.pending.length = n) :
    ∃ t, s.run n = some t ∧ t.Inv ∧ t.pending = [] := by
  induction n generalizing s with
  | zero => exact ⟨s, rfl, h, List.length_eq_zero_iff.1 hn⟩
  | succ n ih =>
    obtain ⟨u, hu, safe, rest⟩ := h.exists_step
    obtain ⟨t, ht⟩ := ih safe (by rw [rest, List.length_tail, hn, Nat.add_sub_cancel])
    exact ⟨t, by simpa only [State.run, hu] using ht⟩

/-- Settles O4: one step of a safe state, and induction on the length of its queue. -/
theorem everyStepKeepsSafety : Obligations.EveryStepKeepsSafety := by
  refine ⟨fun s t h hs => ?_, fun s h => ?_, fun s h => h.exists_run rfl⟩
  · obtain ⟨u, hu, safe, _⟩ := h.exists_step
    cases hs.symm.trans hu
    exact safe
  · obtain ⟨t, ht, _, rest⟩ := h.exists_step
    exact ⟨t, ht, rest⟩

end Sys2Proof.Machine
end

section
/-! SUPPORT. Writes of one entry from their channel to their answer (R394, R437), and the entries of the map epoch, of hints,
groups, holds and moves (R20, R25, R203, R225, R229, R272). -/

namespace Sys2Proof.Machine

/-! ## Bytes of a small number -/

theorem leBytes_getD (n v i : Nat) (hi : i < n) : ((leBytes n v).getD i 0).toNat = v / 256 ^ i % 256 := by
  induction n generalizing v i with
  | zero => omega
  | succ n ih =>
    cases i with
    | zero => simp [leBytes]
    | succ i =>
      have step : (leBytes (n + 1) v).getD (i + 1) 0 = (leBytes n (v / 256)).getD i 0 := by simp [leBytes]
      rw [step, ih _ _ (by omega), Nat.div_div_eq_div_mul, Nat.pow_succ, Nat.mul_comm]

/-- A bit of a byte of a number is a bit of the number. -/
theorem byte_testBit (x i j : Nat) : (x / 256 ^ i % 256).testBit j = (decide (j < 8) && x.testBit (8 * i + j)) := by
  rw [show (256 : Nat) = 2 ^ 8 from rfl, ← Nat.pow_mul, Nat.testBit_mod_two_pow, Nat.testBit_div_two_pow, Nat.add_comm]

/-- A number below `2 ^ k` has no bit outside the low `k` bits. -/
theorem strayByte_lowBits {n v k : Nat} (hv : v < 2 ^ k) : strayByte (2 ^ k - 1) (leBytes n v) = none := by
  refine List.find?_eq_none.2 fun i hi => ?_
  rw [List.mem_range, leBytes_length] at hi
  have free : v / 256 ^ i % 256 &&& (255 - (2 ^ k - 1) / 256 ^ i % 256) = 0 := by
    refine Nat.eq_of_testBit_eq fun j => ?_
    have low : (2 ^ k - 1) / 256 ^ i % 256 < 2 ^ 8 := Nat.mod_lt _ (by decide)
    rw [Nat.testBit_and, show 255 - (2 ^ k - 1) / 256 ^ i % 256 = 2 ^ 8 - ((2 ^ k - 1) / 256 ^ i % 256 + 1) by omega,
      Nat.testBit_two_pow_sub_succ low, byte_testBit, byte_testBit, Nat.testBit_two_pow_sub_one, Nat.zero_testBit]
    by_cases hb : 8 * i + j < k
    · cases decide (j < 8) <;> simp [hb]
    · have : v.testBit (8 * i + j) = false :=
        Nat.testBit_lt_two_pow (hv.trans_le (Nat.pow_le_pow_right (by decide) (by omega)))
      simp [this]
  rw [leBytes_getD n v i hi, free]
  decide

/-! ## One write of one entry (R394, R437) -/

/-- The operation that one write is. -/
def EntryWrite.op (w : EntryWrite) : PdOp := ⟨2, w.idx, w.sub, w.value.length, w.value⟩

theorem State.writeReq_ops (s : State) (w : EntryWrite) : (s.writeReq w).ops = [w.op] := rfl

/-- A write whose operation fails is answered with the failure, after the marks that the failure leaves. -/
theorem oneWrite_failed {s : State} {w : EntryWrite} {f : Fail} (serves : s.Serves w.ch)
    (failed : s.pdOp (s.writeReq w) w.op = .error f) :
    s.oneWrite w.ch w.dom w.idx w.sub w.value = (s.opFailed (s.writeReq w) w.op f).answer s w f.st f.cause := by
  rw [oneWrite_serves serves, State.writeReq_ops]
  simp only [State.runOps, failed]
  rfl

/-- A failure that is no denial and names no failed check leaves no mark where the entry is no session's. -/
theorem opFailed_unmarked {s : State} {w : EntryWrite} {f : Fail} (known : f.st ≠ stDenied)
    (cause : f.st = stBadParam → f.cause ≠ 0xFF) (other : w.idx ≠ 0x8400) : s.opFailed (s.writeReq w) w.op f = s := by
  have mark : ∀ k l, s.markFail k l f = s := fun k l => by
    by_cases h : f.st = stBadParam <;> simp [State.markFail, h, cause]
  simp [State.opFailed, EntryWrite.op, pdKey, mark, other, known]

/-- What the dictionary says of an immediate entry that is neither a select, nor the restart's, the session's or the
partition's: its length, and the largest value of a scalar. -/
abbrev ImmEntry (idx sub len : Nat) (top : Option Nat) : Prop :=
  pdSelect idx sub = false ∧ (idx ≠ 0x8300 ∧ idx ≠ 0x8400) ∧ (idx ≠ 0x7000 ∧ inPartChecks ⟨idx, sub, 0⟩ = false)
    ∧ ∀ r ∈ pdRow idx sub, r.eff = 0 ∧ (r.idx ≠ 0x2100 ∧ r.fixed = true ∧ r.len = len) ∧ r.ty ≠ 8 ∧ r.mn = 0
      ∧ (if r.ty < 8 then some r.mx else none) = top

/-- A write of an immediate entry comes as far as the entry's own rule and effect (R437, steps 1 to 5). -/
structure State.ReachesEntry (s : State) (w : EntryWrite) : Prop where
  serves : s.Serves w.ch
  row : ∃ r, s.accessFail w.ch true (s.writeKey w) w.value = .ok r ∧ r.eff = 0 ∧ s.valueFail r (s.writeKey w) w.value = none
  stored : pdSelect w.idx w.sub = false
  plain : w.idx ≠ 0x8300 ∧ w.idx ≠ 0x8400

theorem State.MayWrite.reachesEntry {s : State} {w : EntryWrite} {len : Nat} {top : Option Nat} (may : s.MayWrite w)
    (entry : ImmEntry w.idx w.sub len top) (length : w.value.length = len) (range : ∀ mx ∈ top, leNat w.value ≤ mx)
    (named : ∀ m ∈ namedBits w.idx w.sub, strayByte m w.value = none) (own : s.valueBad (s.writeKey w) w.value = none) :
    s.ReachesEntry w := by
  obtain ⟨serves, r, access⟩ := may
  obtain ⟨stored, plain, ⟨noPart, unchecked⟩, row⟩ := entry
  obtain ⟨imm, ⟨noProgram, fixed, len'⟩, noText, least, most⟩ := row r (accessFail_row access)
  have fits : lenOk r w.value = true := by simp [lenOk, noProgram, fixed, length, len']
  have inRange : r.ty < 8 → r.mn ≤ leNat w.value ∧ leNat w.value ≤ r.mx := fun h =>
    ⟨least ▸ Nat.zero_le _, range _ (by rw [← most, if_pos h]; rfl)⟩
  refine ⟨serves, ⟨r, access, imm, ?_⟩, stored, plain⟩
  cases bits : namedBits w.idx w.sub with
  | none => exact plain_value _ _ _ _ _ fits bits noText inRange own noPart unchecked
  | some m => exact value_named _ _ _ _ _ m fits bits (named m bits) noText inRange own noPart unchecked

/-- A write that its entry takes is answered with status 0 after the entry's effect. -/
theorem State.ReachesEntry.taken {s t : State} {i : Instr} {w : EntryWrite} (h : s.ReachesEntry w)
    (command : entryWrite i = some w) (taken : s.immWrite w.ch (s.writeKey w) w.value = .ok t) :
    Sys2Proof.Machine.exec i s = .next (s.sealed (t.answer s w 0 0)) := by
  obtain ⟨serves, ⟨r, access, imm, value⟩, stored, noRestart, _⟩ := h
  have op : s.pdOp (s.writeReq w) w.op = .ok (t, .value []) :=
    pdOp_imm access (by omega) ((writeEntry_imm imm stored value).trans taken)
  have stays : w.op.restarts = false := by simp [PdOp.restarts, EntryWrite.op, noRestart]
  rw [write_exec s command, oneWrite_serves serves, State.writeReq_ops]
  simp only [State.runOps, op, stays]
  rfl

/-- A write that its entry refuses is answered with the refusal, which leaves no mark. -/
theorem State.ReachesEntry.refused {s : State} {i : Instr} {w : EntryWrite} {f : Fail} (h : s.ReachesEntry w)
    (command : entryWrite i = some w) (refused : s.immWrite w.ch (s.writeKey w) w.value = .error f)
    (known : f.st ≠ stDenied) (cause : f.st = stBadParam → f.cause ≠ 0xFF) :
    Sys2Proof.Machine.exec i s = .next (s.sealed (s.answer s w f.st f.cause)) := by
  obtain ⟨serves, ⟨r, access, imm, value⟩, stored, _, noSession⟩ := h
  have op : s.pdOp (s.writeReq w) w.op = .error f :=
    pdOp_refused access (by omega) ((writeEntry_imm imm stored value).trans refused)
  rw [write_exec s command, oneWrite_failed serves op, opFailed_unmarked known cause noSession]

theorem leNat_leBytes_toNat {n m : Nat} (v : BitVec n) (h : 2 ^ n ≤ 256 ^ m) : leNat (leBytes m v.toNat) = v.toNat := by
  rw [leNat_leBytes, Nat.mod_eq_of_lt (v.isLt.trans_le h)]

/-- A value below a power of two reaches an entry that names those bits alone. -/
theorem State.MayWrite.reachesBits {s : State} {ch : Chan} {d idx sub len n k : Nat} {v : BitVec n}
    (may : s.MayWrite ⟨ch, d, idx, sub, leBytes len v.toNat⟩) (entry : ImmEntry idx sub len (some (2 ^ k - 1)))
    (fits : 2 ^ n ≤ 256 ^ len) (small : v.toNat < 2 ^ k) (named : ∀ m ∈ namedBits idx sub, m = 2 ^ k - 1)
    (own : ∀ d, s.valueBad ⟨idx, sub, d⟩ (leBytes len v.toNat) = none) :
    s.ReachesEntry ⟨ch, d, idx, sub, leBytes len v.toNat⟩ := by
  refine may.reachesEntry entry (leBytes_length _ _) ?_ ?_ (own _)
  · rintro _ ⟨⟩
    rw [leNat_leBytes_toNat v fits]
    omega
  · intro m hm
    rw [named m hm, strayByte_lowBits small]

/-! ## The map epoch (R20, R25) -/

theorem reaches_epochC {s : State} {ch : Chan} {v : BitVec 32} (may : s.MayWrite ⟨ch, 0, 0x4300, 1, leBytes 4 v.toNat⟩) :
    s.ReachesEntry ⟨ch, 0, 0x4300, 1, leBytes 4 v.toNat⟩ :=
  may.reachesBits (k := 32) (by decide) (by decide) v.isLt (by decide) fun _ => rfl

theorem reaches_epochO {s : State} {ch : Chan} {v : BitVec 32} (may : s.MayWrite ⟨ch, 0, 0x4300, 2, leBytes 4 v.toNat⟩) :
    s.ReachesEntry ⟨ch, 0, 0x4300, 2, leBytes 4 v.toNat⟩ :=
  may.reachesBits (k := 32) (by decide) (by decide) v.isLt (by decide) fun _ => rfl

theorem immWrite_epochC (s : State) (ch : Chan) (v : BitVec 32) :
    s.immWrite ch ⟨0x4300, 1, 0⟩ (leBytes 4 v.toNat) = s.setEpochC v := by
  simp [State.immWrite, leNat_leBytes_toNat]

theorem immWrite_epochO (s : State) (ch : Chan) (v : BitVec 32) :
    s.immWrite ch ⟨0x4300, 2, 0⟩ (leBytes 4 v.toNat) = s.setEpochO v := by
  simp [State.immWrite, leNat_leBytes_toNat]

theorem setEpochC_newer {s : State} {v : BitVec 32} (ahead : newer 32 v.toNat s.seqs.epochC.toNat = true) :
    s.setEpochC v = .ok (s.modSeqs fun q => { q with epochC := v }) := by simp [State.setEpochC, ahead]

theorem setEpochC_old {s : State} {v : BitVec 32} (old : newer 32 v.toNat s.seqs.epochC.toNat = false) :
    s.setEpochC v = .error (bad 0) := by simp [State.setEpochC, old]

theorem setEpochO_within {s : State} {v : BitVec 32} (forward : newer 32 s.seqs.epochO.toNat v.toNat = false)
    (notPast : newer 32 v.toNat s.seqs.epochC.toNat = false) :
    s.setEpochO v = .ok (s.modSeqs fun x =>
      { x with epochO := v, redirects := x.redirects.filter fun r => !newer 32 v.toNat r.epoch }) := by
  simp [State.setEpochO, forward, notPast]

theorem setEpochO_outside {s : State} {v : BitVec 32}
    (outside : newer 32 s.seqs.epochO.toNat v.toNat = true ∨ newer 32 v.toNat s.seqs.epochC.toNat = true) :
    s.setEpochO v = .error (bad 0) := by
  rcases outside with back | past <;> simp [State.setEpochO, *]

/-! ## Hints, groups, holds and moves (R203, R225, R229, R272) -/

theorem reaches_hints {s : State} {ch : Chan} {d : Nat} {v : BitVec 32}
    (may : s.MayWrite ⟨ch, d, 0x3520, 2, leBytes 4 v.toNat⟩) (small : v.toNat < 128) :
    s.ReachesEntry ⟨ch, d, 0x3520, 2, leBytes 4 v.toNat⟩ :=
  may.reachesBits (k := 7) (by decide) (by decide) small (by decide) fun _ => rfl

theorem reaches_group {s : State} {ch : Chan} {m : List Byte} (may : s.MayWrite ⟨ch, 0, 0xA030, 2, m⟩) (full : m.length = 512) :
    s.ReachesEntry ⟨ch, 0, 0xA030, 2, m⟩ :=
  may.reachesEntry (by decide : ImmEntry 0xA030 2 512 none) full (by simp) (by simp [namedBits]) rfl

theorem reaches_holdRelease {s : State} {ch : Chan} {v : BitVec 16}
    (may : s.MayWrite ⟨ch, 0, 0x3500, 0xD, leBytes 2 v.toNat⟩) (small : v.toNat < 4096) :
    s.ReachesEntry ⟨ch, 0, 0x3500, 0xD, leBytes 2 v.toNat⟩ :=
  may.reachesBits (k := 12) (by decide) (by decide) small (by decide) fun _ => rfl

theorem reaches_abandon {s : State} {ch : Chan} {v : BitVec 32} (may : s.MayWrite ⟨ch, 0, 0x6500, 1, leBytes 4 v.toNat⟩) :
    s.ReachesEntry ⟨ch, 0, 0x6500, 1, leBytes 4 v.toNat⟩ :=
  may.reachesBits (k := 32) (by decide) (by decide) v.isLt (by decide) fun _ => rfl

theorem immWrite_hints (s : State) (ch : Chan) (d : Nat) (v : BitVec 32) :
    s.immWrite ch ⟨0x3520, 2, d⟩ (leBytes 4 v.toNat)
      = s.setHints d (BitVec.ofNat 64 (s.sel ch 0x3520 1 d)) v.toNat := by
  simp [State.immWrite, leNat_leBytes_toNat]

theorem immWrite_holdRelease (s : State) (ch : Chan) (v : BitVec 16) :
    s.immWrite ch ⟨0x3500, 0xD, 0⟩ (leBytes 2 v.toNat) = .ok (s.releaseOrigin v.toNat) := by
  simp [State.immWrite, leNat_leBytes_toNat]

theorem immWrite_abandon (s : State) (ch : Chan) (v : BitVec 32) :
    s.immWrite ch ⟨0x6500, 1, 0⟩ (leBytes 4 v.toNat) = s.moveAbandon v.toNat := by
  simp [State.immWrite, leNat_leBytes_toNat]

theorem setHints_live {s : State} {d i v : Nat} {id : BitVec 64} (live : s.seqRef id d = .ok i) :
    s.setHints d id v = .ok (s.setSeq i { s.seq i with
      reclaimable := v.testBit 0, prio := v / 2 % 16, preclean := v.testBit 5, precleanCoded := v.testBit 6 }) := by
  simp [State.setHints, live]

theorem setHints_none {s : State} {d v : Nat} {id : BitVec 64} (noLive : ∀ i, s.seqRef id d ≠ .ok i) :
    s.setHints d id v = .error ⟨stBadSeq, 0, 0, 0⟩ := by
  cases ref : s.seqRef id d with
  | ok i => exact absurd ref (noLive i)
  | bad => simp [State.setHints, ref]
  | ahead => simp [State.setHints, ref]

theorem moveAbandon_ended {s : State} {i : Nat} (ended : s.moveEnded i = true) :
    s.moveAbandon i = .ok (s.abandonMove i).wake := by simp [State.moveAbandon, ended]

theorem moveAbandon_running {s : State} {i : Nat} (running : s.moveEnded i = false) :
    s.moveAbandon i = .error ⟨stBadSeq, 0, 0, 0⟩ := by simp [State.moveAbandon, running]

/-- A DATA QP may not write HINT_FLAGS: the domain addressed is the one that the write names. -/
theorem callerDom_hints {s : State} {ch : Chan} {d : Nat} {l : List Byte} (may : s.MayWrite ⟨ch, d, 0x3520, 2, l⟩) :
    s.callerDom ch d = d := callerDom_of_mayWrite s _ _ may rfl rfl

/-- Settles O22: each write reaches its entry, which takes the value or refuses it. -/
theorem epochAndCacheEntriesAct : Obligations.EpochAndCacheEntriesAct := by
  refine ⟨⟨fun s ch v may new => ?_, fun s ch v may forward notPast => ?_,
      fun s ch v => ⟨fun may old => ?_, fun may outside => ?_⟩⟩,
    fun s ch d v i may small live => ?_, fun s ch m may full => ?_, fun s ch v may small => ?_, fun s ch v may ended => ?_,
    fun s ch v may running => ?_, fun s ch d v may small noLive => ?_⟩
  · exact (reaches_epochC may).taken rfl ((immWrite_epochC s ch v).trans (setEpochC_newer new))
  · exact (reaches_epochO may).taken rfl ((immWrite_epochO s ch v).trans (setEpochO_within forward notPast))
  · exact (reaches_epochC may).refused (f := bad 0) rfl
      ((immWrite_epochC s ch v).trans (setEpochC_old old)) (by decide) (by decide)
  · exact (reaches_epochO may).refused (f := bad 0) rfl
      ((immWrite_epochO s ch v).trans (setEpochO_outside outside)) (by decide) (by decide)
  · exact (reaches_hints may small).taken rfl
      ((immWrite_hints s ch (s.callerDom ch d.toNat) v).trans (setHints_live (by rwa [callerDom_hints may])))
  · exact (reaches_group may full).taken rfl rfl
  · exact (reaches_holdRelease may small).taken rfl (immWrite_holdRelease s ch v)
  · exact (reaches_abandon may).taken rfl ((immWrite_abandon s ch v).trans (moveAbandon_ended ended))
  · exact (reaches_abandon may).refused (f := ⟨stBadSeq, 0, 0, 0⟩) rfl
      ((immWrite_abandon s ch v).trans (moveAbandon_running running)) (by decide) (by decide)
  · exact (reaches_hints may small).refused (f := ⟨stBadSeq, 0, 0, 0⟩) rfl
      ((immWrite_hints s ch _ v).trans (setHints_none noLive)) (by decide) (by decide)

end Sys2Proof.Machine
end

section
/-! SUPPORT. The writes that wait for the commands they must not change under (R17, R62, R117, R305, R366, R396). -/

namespace Sys2Proof.Machine

/-! ## Which entries wait -/

/-- The indexes of the score program, the slices and the DMA regions: every subindex waits. -/
abbrev drainIndexes : List Nat := [0x2100, 0x2101, 0x2102, 0x2103, 0x2104, 0x2105, 0x4310, 0x3710]

/-- The addresses of those entries, of the profile's commit and of the partition mode. -/
abbrev DrainAddress (idx sub : Nat) : Prop :=
  idx ∈ drainIndexes ∨ (idx = 0x2000 ∧ sub = 0x15) ∨ (idx = 0x7000 ∧ sub = 3)

theorem scoreEntry_drainAddress (e : ScoreEntry) : DrainAddress (scoreEntry e).1 (scoreEntry e).2 := by
  cases e <;> simp [DrainAddress, scoreEntry]

theorem pdTable_drain : ∀ r ∈ pdTable, (r.idx ∈ drainIndexes
    ∨ (r.idx = 0x2000 ∧ r.lo ≤ 0x15 ∧ 0x15 ≤ r.hi) ∨ (r.idx = 0x7000 ∧ r.lo ≤ 3 ∧ 3 ≤ r.hi)) → r.eff = 2 := by
  decide +kernel

/-- The row of an address that waits says DRAIN. -/
theorem DrainAddress.eff {idx sub : Nat} {r : PdRow} (h : DrainAddress idx sub) (row : pdRow idx sub = some r) : r.eff = 2 := by
  obtain ⟨mem, rfl, lo, hi⟩ := pdRow_mem row
  refine pdTable_drain r mem (h.imp_right (Or.imp ?_ ?_))
  · rintro ⟨profile, rfl⟩
    exact ⟨profile, lo, hi⟩
  · rintro ⟨partition, rfl⟩
    exact ⟨partition, lo, hi⟩

/-! ## A write that waits (R396) -/

/-- A DRAIN write that passes its checks joins those that wait. -/
theorem pdOp_drain {s : State} {w : EntryWrite} {r : PdRow} (access : s.accessFail w.ch true (s.writeKey w) w.value = .ok r)
    (drain : r.eff = 2) (value : s.valueFail r (s.writeKey w) w.value = none) (holds : s.drainFail (s.writeKey w) w.value = none) :
    s.pdOp (s.writeReq w) w.op = .ok (s, .drain) := by
  show s.pdOp (s.writeReq w) ⟨2, w.idx, w.sub, w.value.length, w.value⟩ = _
  simp only [State.writeKey] at access value holds
  simp [State.pdOp, State.writeReq, access, drain, value, holds]

/-- A DRAIN write that fails a check fails with it. -/
theorem pdOp_drainFail {s : State} {w : EntryWrite} {r : PdRow} {f : Fail}
    (access : s.accessFail w.ch true (s.writeKey w) w.value = .ok r) (drain : r.eff = 2)
    (fails : (s.valueFail r (s.writeKey w) w.value).or (s.drainFail (s.writeKey w) w.value) = some f) :
    s.pdOp (s.writeReq w) w.op = .error f := by
  show s.pdOp (s.writeReq w) ⟨2, w.idx, w.sub, w.value.length, w.value⟩ = _
  simp only [State.writeKey] at access fails
  simp [State.pdOp, State.writeReq, access, drain, fails]

/-- A write that waits is put behind the others, and those that can apply do. -/
theorem oneWrite_drain {s : State} {w : EntryWrite} (serves : s.Serves w.ch) (waits : s.pdOp (s.writeReq w) w.op = .ok (s, .drain)) :
    s.oneWrite w.ch w.dom w.idx w.sub w.value
      = (s.modDict fun d => { d with drains := d.drains ++ [⟨s.writeReq w, s.writeKey w, w.value, []⟩] }).settle := by
  rw [oneWrite_serves serves, State.writeReq_ops]
  simp only [State.runOps, waits]
  rfl

/-! ## Applying -/

theorem drainStepAll_idle {s : State} (n : Nat)
    (idle : s.dict.drains = [] ∨ ∃ w r, s.dict.drains = w :: r ∧ s.quiesced w.key = false) : s.drainStepAll n = s := by
  cases n with
  | zero => rfl
  | succ n =>
    rcases idle with empty | ⟨w, r, first, held⟩
    · simp [State.drainStepAll, empty]
    · simp [State.drainStepAll, first, held]

theorem drainStepAll_first {s : State} {w : DrainWrite} {r : List DrainWrite} (n : Nat) (first : s.dict.drains = w :: r)
    (free : s.quiesced w.key = true) : s.drainStepAll (n + 1) = (s.applyDrain w).drainStepAll n := by
  simp [State.drainStepAll, first, free]

/-- Settling looks at every waiting write, the first first. -/
theorem settle_first {s : State} {w : DrainWrite} {r : List DrainWrite} (first : s.dict.drains = w :: r)
    (free : s.quiesced w.key = true) :
    s.settle = ((s.applyDrain w).drainStepAll (r.length + 1)).serveWaiting
      ((s.applyDrain w).drainStepAll (r.length + 1)).dict.waiting := by
  rw [State.settle, drainStepAll_first _ first free, first, List.length_cons]

theorem settle_idle {s : State}
    (idle : s.dict.drains = [] ∨ ∃ w r, s.dict.drains = w :: r ∧ s.quiesced w.key = false) :
    s.settle = s.serveWaiting s.dict.waiting := by
  rw [State.settle, drainStepAll_idle _ idle]

/-- A waiting write whose conditions still hold takes effect and is answered (R62). -/
theorem applyDrain_effect {s : State} {w : DrainWrite} (part : w.key.idx = 0x7000 → s.partBroken w.key w.value = 0)
    (holds : s.drainFail w.key w.value = none) : s.applyDrain w = ((s.drainApply w.key w.value).endDrain w 0 0).wake := by
  have kept : ¬ (w.key.idx = 0x7000 ∧ s.partBroken w.key w.value ≠ 0) := fun h => h.2 (part h.1)
  simp only [State.applyDrain, if_neg kept, holds]
  rfl

/-- A waiting write whose conditions no longer hold is answered with the failure (R62). -/
theorem applyDrain_fails {s : State} {w : DrainWrite} {f : Fail}
    (fails : (if w.key.idx = 0x7000 ∧ s.partBroken w.key w.value ≠ 0 then some (bad 0xFF) else none).or
      (s.drainFail w.key w.value) = some f) : s.applyDrain w = (s.markFail w.key w.value f).endDrain w f.st f.cause := by
  simp only [State.applyDrain, fails]

theorem drainLimit_first {s : State} {w : DrainWrite} {r : List DrainWrite} (first : s.dict.drains = w :: r) :
    s.drainLimit = (s.endDrain w stBusy 1).settle := by simp [State.drainLimit, first]

theorem drainLimit_none {s : State} (empty : s.dict.drains = []) : s.drainLimit = s := by simp [State.drainLimit, empty]

theorem exec_drainApply (s : State) : Sys2Proof.Machine.exec .drainApply s = .next (s.sealed s.settle) := rfl

theorem exec_drainWaitLimit (s : State) : Sys2Proof.Machine.exec .drainWaitLimit s = .next (s.sealed s.drainLimit) := rfl

/-- The commands of the five DRAIN entries address entries that wait. -/
theorem drainAddress_of_command {i : Instr} {w : EntryWrite} (command : entryWrite i = some w)
    (kind : (∃ c, i = .profileCommit c) ∨ (∃ c e v, i = .scoreProgram c e v) ∨ (∃ c n v, i = .slice c n v)
      ∨ (∃ c v, i = .partitionMode c v) ∨ (∃ c d n v, i = .dmaRegion c d n v)) : DrainAddress w.idx w.sub := by
  rcases kind with ⟨c, rfl⟩ | ⟨c, e, v, rfl⟩ | ⟨c, n, v, rfl⟩ | ⟨c, v, rfl⟩ | ⟨c, d, n, v, rfl⟩ <;> cases command
  case inr.inl => exact scoreEntry_drainAddress e
  all_goals simp [DrainAddress]

/-- Settles O27: a write of the five joins the queue or fails, and the queue is worked off from its head. -/
theorem drainWritesWaitAndApply : Obligations.DrainWritesWaitAndApply := by
  refine ⟨fun i w s r command kind serves access value holds => ?_, fun i w s r f command kind serves access fails => ?_,
    fun s t w r first free part holds ht => ?_, fun s t w r f first free fails ht => ?_, fun s idle => ?_, fun s w r first => ?_,
    fun s empty => ?_, fun s l d n => ⟨rfl, rfl, rfl, rfl, rfl⟩⟩
  · have drain := (drainAddress_of_command command kind).eff (accessFail_row access)
    rw [write_exec s command, oneWrite_drain serves (pdOp_drain access drain value holds)]
  · have drain := (drainAddress_of_command command kind).eff (accessFail_row access)
    rw [write_exec s command, oneWrite_failed serves (pdOp_drainFail access drain fails)]
    rfl
  · rw [exec_drainApply, settle_first first free, applyDrain_effect part holds, ht]
  · rw [exec_drainApply, settle_first first free, applyDrain_fails fails, ht]
  · rw [exec_drainApply, settle_idle idle]
  · rw [exec_drainWaitLimit, drainLimit_first first]
  · rw [exec_drainWaitLimit, drainLimit_none empty]

end Sys2Proof.Machine
end

section
/-! SUPPORT. The SERVICE messages of remote holds and of moves (R22, R57, R65, R225, R228, R271, R272): the operation that each row
comes down to, and what that operation does in each case. -/

namespace Sys2Proof.Machine

/-! ## What each row comes down to (R270) -/

theorem exec_holdOffer {s : State} {qp : BitVec 16} (m : SvcMsg) (acts : s.svcQp qp.toNat = true) :
    Sys2Proof.Machine.exec (.holdOffer qp m) s = .next (s.sealed
      ((s.holdOffer qp.toNat (hTag (rowHdr 1 m)) (hCount (rowHdr 1 m))).wake.lowCheck)) := by
  rw [serviceRow_exec rfl, if_pos acts]
  simp only [State.onService, rowHdr_svc 1 m (by decide)]

theorem exec_holdReady {s : State} {qp : BitVec 16} (m : SvcMsg) (acts : s.svcQp qp.toNat = true) :
    Sys2Proof.Machine.exec (.holdReady qp m) s = .next (s.sealed ((s.holdReady qp.toNat (rowHdr 2 m)).wake.lowCheck)) := by
  rw [serviceRow_exec rfl, if_pos acts]
  simp only [State.onService, rowHdr_svc 2 m (by decide)]

theorem exec_holdDone {s : State} {qp : BitVec 16} (m : SvcMsg) (acts : s.svcQp qp.toNat = true) :
    Sys2Proof.Machine.exec (.holdDone qp m) s = .next (s.sealed
      ((s.holdDone qp.toNat (rowHdr 3 m) m.payload).wake.lowCheck)) := by
  rw [serviceRow_exec rfl, if_pos acts]
  simp only [State.onService, rowHdr_svc 3 m (by decide)]

theorem exec_holdCommit {s : State} {qp : BitVec 16} (m : SvcMsg) (acts : s.svcQp qp.toNat = true) :
    Sys2Proof.Machine.exec (.holdCommit qp m) s = .next (s.sealed
      ((s.holdCommit qp.toNat (hTag (rowHdr 4 m))).wake.lowCheck)) := by
  rw [serviceRow_exec rfl, if_pos acts]
  simp only [State.onService, rowHdr_svc 4 m (by decide)]

theorem exec_holdRelease {s : State} {qp : BitVec 16} (m : SvcMsg) (acts : s.svcQp qp.toNat = true) :
    Sys2Proof.Machine.exec (.holdRelease qp m) s = .next (s.sealed
      ((s.holdRelease qp.toNat (hTag (rowHdr 5 m)) (svcWords (hCount (rowHdr 5 m)) m.payload)).wake.lowCheck)) := by
  rw [serviceRow_exec rfl, if_pos acts]
  simp only [State.onService, rowHdr_svc 5 m (by decide)]

theorem exec_released {s : State} {qp : BitVec 16} (m : SvcMsg) (acts : s.svcQp qp.toNat = true) :
    Sys2Proof.Machine.exec (.released qp m) s = .next (s.sealed
      ((s.released qp.toNat (hTag (rowHdr 6 m))).wake.lowCheck)) := by
  rw [serviceRow_exec rfl, if_pos acts]
  simp only [State.onService, rowHdr_svc 6 m (by decide)]

theorem exec_moveBegin {s : State} {qp : BitVec 16} (m : SvcMsg) (acts : s.svcQp qp.toNat = true) :
    Sys2Proof.Machine.exec (.moveBegin qp m) s = .next (s.sealed
      ((s.moveBegin qp.toNat (hTag (rowHdr 8 m)) (hCount (rowHdr 8 m)) (hSeq (rowHdr 8 m))
        (hReason (rowHdr 8 m) == 1)).wake.lowCheck)) := by
  rw [serviceRow_exec rfl, if_pos acts]
  simp only [State.onService, rowHdr_svc 8 m (by decide)]

theorem exec_moveReady {s : State} {qp : BitVec 16} (m : SvcMsg) (acts : s.svcQp qp.toNat = true) :
    Sys2Proof.Machine.exec (.moveReady qp m) s = .next (s.sealed ((s.moveReady qp.toNat (rowHdr 9 m)).wake.lowCheck)) := by
  rw [serviceRow_exec rfl, if_pos acts]
  simp only [State.onService, rowHdr_svc 9 m (by decide)]

theorem exec_moveFinal {s : State} {qp : BitVec 16} (m : SvcMsg) (acts : s.svcQp qp.toNat = true) :
    Sys2Proof.Machine.exec (.moveFinal qp m) s = .next (s.sealed
      ((s.moveFinal qp.toNat (hTag (rowHdr 0xA m)) (hSeq (rowHdr 0xA m)) m.payload).wake.lowCheck)) := by
  rw [serviceRow_exec rfl, if_pos acts]
  simp only [State.onService, rowHdr_svc 0xA m (by decide)]

theorem exec_moveDone {s : State} {qp : BitVec 16} (m : SvcMsg) (acts : s.svcQp qp.toNat = true) :
    Sys2Proof.Machine.exec (.moveDone qp m) s = .next (s.sealed ((s.moveDone qp.toNat (rowHdr 0xB m)).wake.lowCheck)) := by
  rw [serviceRow_exec rfl, if_pos acts]
  simp only [State.onService, rowHdr_svc 0xB m (by decide)]

theorem exec_moveQuery {s : State} {qp : BitVec 16} (m : SvcMsg) (acts : s.svcQp qp.toNat = true) :
    Sys2Proof.Machine.exec (.moveQuery qp m) s = .next (s.sealed
      ((s.moveQuery qp.toNat (hTag (rowHdr 0xC m)) (hSeq (rowHdr 0xC m))).wake.lowCheck)) := by
  rw [serviceRow_exec rfl, if_pos acts]
  simp only [State.onService, rowHdr_svc 0xC m (by decide)]

theorem exec_refuse {s : State} {qp : BitVec 16} (m : SvcMsg) (acts : s.svcQp qp.toNat = true) :
    Sys2Proof.Machine.exec (.refuse qp m) s = .next (s.sealed ((s.refused qp.toNat (rowHdr 0xF m)).wake.lowCheck)) := by
  rw [serviceRow_exec rfl, if_pos acts]
  simp only [State.onService, rowHdr_svc 0xF m (by decide)]

/-! ## Holds (R225, R271) -/

section
variable {s : State} {n tag c : Nat}

/-- The quotas leave room for `c` holds of a domain. -/
def State.HoldRoom (s : State) (d c : Nat) : Prop :=
  1 ≤ c ∧ c ≤ 1024 ∧ s.domActive d = true ∧ s.slotsHeld d + c ≤ s.num 0x3200 1 d ∧ s.mapHeld d + c ≤ s.num 0x7120 8 d

theorem State.holdRoom_iff {d : Nat} : s.HoldRoom d c ↔ ¬ (c < 1 ∨ 1024 < c ∨ ¬ s.domActive d
    ∨ s.num 0x3200 1 d < s.slotsHeld d + c ∨ s.num 0x7120 8 d < s.mapHeld d + c) := by
  simp only [State.HoldRoom, not_or, not_lt, not_not]

theorem holdOffer_full (full : ¬ s.HoldRoom (s.qp n).dom c) : s.holdOffer n tag c = s.refuse n 1 tag 0 :=
  if_pos (not_not.1 (mt State.holdRoom_iff.2 full))

theorem holdOffer_noProfile (room : s.HoldRoom (s.qp n).dom c) (prof : s.profOk = false) :
    s.holdOffer n tag c = s.refuse n 4 tag 0 := by
  simp only [State.holdOffer, if_neg (State.holdRoom_iff.1 room), prof, Bool.not_false, if_true]

theorem holdOffer_noKey (room : s.HoldRoom (s.qp n).dom c) (prof : s.profOk = true)
    (noKey : s.openLanding n tag c none false = none) : s.holdOffer n tag c = s.refuse n 2 tag 0 := by
  simp only [State.holdOffer, if_neg (State.holdRoom_iff.1 room), prof, Bool.not_true, Bool.false_eq_true, if_false, noKey]

theorem holdOffer_opened {t : State} {k g : Nat} (room : s.HoldRoom (s.qp n).dom c) (prof : s.profOk = true)
    (opened : s.openLanding n tag c none false = some (t, k, g)) :
    s.holdOffer n tag c = t.sendSvc n (svcHdr 2 0 tag c 0 k g) [] := by
  simp only [State.holdOffer, if_neg (State.holdRoom_iff.1 room), prof, Bool.not_true, Bool.false_eq_true, if_false, opened]

end

section
variable {s : State} {n : Nat} {h : BitVec 256}

theorem holdReady_unknown (unknown : s.holdCmd n (hTag h) = none) : s.holdReady n h = s := by
  simp only [State.holdReady, unknown]

/-- The pages of an exchange: the first that are not held yet, as many as the target has room for. -/
def Cmd.offered (c : Cmd) (h : BitVec 256) : List PageJob := (c.jobs.filter fun j => !j.done).take (Nat.min 1024 (hCount h))

theorem holdReady_unread {c : Cmd} (found : s.holdCmd n (hTag h) = some c)
    (unread : ((c.offered h).mapM fun j => s.hbmPage j.page) = none) :
    s.holdReady n h = (s.endCmd c ⟨stPartFail, 0, 0, 0⟩).wake := by
  rw [Cmd.offered] at unread
  simp only [State.holdReady, found, unread]

theorem holdReady_written {c : Cmd} {ds : List PageData} (found : s.holdCmd n (hTag h) = some c)
    (read : ((c.offered h).mapM fun j => s.hbmPage j.page) = some ds) :
    s.holdReady n h = (ds.zipIdx.foldl (fun t p => t.sendWrite n (hKey h) (hGen h) (unitBytes * p.2) (pageUnit s.pr p.1) (c.id + 1))
      s).sendSvc n (svcHdr 4 0 (hTag h) (c.offered h).length 0 0 0) [] (c.id + 1) := by
  simp only [Cmd.offered] at read ⊢
  simp only [State.holdReady, found, read]

theorem holdDone_unknown {p : List Byte} (unknown : s.holdCmd n (hTag h) = none) : s.holdDone n h p = s := by
  simp only [State.holdDone, unknown]

/-- The command once the indices that the target answered stand at its pages. -/
def Cmd.landed (c : Cmd) (words : List Nat) : Cmd :=
  ((c.jobs.filter fun j => !j.done).zip words).foldl (fun a p => a.setJob p.1.page fun x => { x with landing := p.2, done := true }) c

/-- The state once an exchange's indices and the target's HOLDS key are kept. -/
def State.keepHolds (s : State) (n : Nat) (h : BitVec 256) (d : Nat) (c : Cmd) : State :=
  (s.modTier fun x => { x with remoteKeys := aput x.remoteKeys ((s.qp n).peerNode * 4096 + d) (hKey h + hGen h * 65536) }).setCmd c

theorem holdDone_found {p : List Byte} {c : Cmd} (found : s.holdCmd n (hTag h) = some c) :
    s.holdDone n h p = if (c.landed (svcWords (hCount h) p)).jobs.all PageJob.done
      then (s.keepHolds n h c.dom (c.landed (svcWords (hCount h) p))).tryCommit c.id
      else (s.keepHolds n h c.dom (c.landed (svcWords (hCount h) p))).offerHolds (c.landed (svcWords (hCount h) p)) := by
  simp only [State.holdDone, found]
  rfl

end

section
variable {s : State} {n tag : Nat}

/-- The region that an exchange of holds goes to. -/
def State.holdLanding (s : State) (n tag : Nat) : Option Landing :=
  s.xnt.landings.find? fun l => l.qp == n && l.tag == tag && l.seq.isNone

theorem holdCommit_unknown (unknown : s.holdLanding n tag = none) : s.holdCommit n tag = s.refuse n 5 tag 0 := by
  rw [State.holdLanding] at unknown
  simp only [State.holdCommit, unknown]

theorem holdCommit_unverified {l : Landing} {e : Nat} (found : s.holdLanding n tag = some l)
    (unverified : s.landedPages l (List.range l.units) = .error e) :
    s.holdCommit n tag = (s.closeLanding l.key).refuse n e tag 0 := by
  rw [State.holdLanding] at found
  simp only [State.holdCommit, found, unverified]

theorem holdCommit_noKey {l : Landing} {ps : List (PageData × Nat × Nat)} (found : s.holdLanding n tag = some l)
    (verified : s.landedPages l (List.range l.units) = .ok ps) (noKey : s.holdsRegion l.origin l.dom = none) :
    s.holdCommit n tag = (s.closeLanding l.key).refuse n 2 tag 0 := by
  rw [State.holdLanding] at found
  simp only [State.holdCommit, found, verified, noKey]

theorem holdCommit_held {l : Landing} {ps : List (PageData × Nat × Nat)} {t : State} {k g : Nat}
    (found : s.holdLanding n tag = some l) (verified : s.landedPages l (List.range l.units) = .ok ps)
    (key : s.holdsRegion l.origin l.dom = some (t, k, g)) :
    s.holdCommit n tag = (((ps.foldl State.bindLanded t).modTier fun x =>
      { x with holds := x.holds ++ ps.map fun p => ⟨l.origin, l.dom, p.2.1⟩ }).closeLanding l.key).sendSvc n
        (svcHdr 3 0 tag ps.length 0 k g) (ps.flatMap fun p => leBytes 4 p.2.1) := by
  rw [State.holdLanding] at found
  simp only [State.holdCommit, found, verified, key]

end

/-! ## Moves at the target (R57, R272) -/

section
variable {s : State} {n tag c : Nat} {id : BitVec 64} {copy : Bool}

/-- The node is the shadow that a copy over the QP is for. -/
def State.ShadowHere (s : State) (n : Nat) : Prop :=
  s.shadow.st = 1 ∧ s.shadow.isShadow = true ∧ s.mirrorQp (s.qp n).dom = some n

/-- A Sequence ID of the domain may be issued here as it stands. -/
def State.IdFits (s : State) (d : Nat) (id : BitVec 64) : Prop :=
  fld id 40 8 = 0 ∧ fld id 60 4 = 0 ∧ sidDom id = d ∧ (s.seq (sidIndex id)).st = .free ∧ (s.seq (sidIndex id)).gen ≤ sidGen id
    ∧ s.seqFree (sidIndex id) = true

/-- The quotas leave room for a sequence of `c` pages. -/
def State.MoveRoom (s : State) (d c : Nat) : Prop :=
  s.domActive d = true ∧ s.seqsHeld d < s.num 0x7120 9 d ∧ s.slotsHeld d + c ≤ s.num 0x3200 1 d

theorem State.idFits_iff {d : Nat} : s.IdFits d id ↔ ¬ (fld id 40 8 ≠ 0 ∨ fld id 60 4 ≠ 0 ∨ sidDom id ≠ d
    ∨ (s.seq (sidIndex id)).st ≠ .free ∨ sidGen id < (s.seq (sidIndex id)).gen ∨ !s.seqFree (sidIndex id)) := by
  simp only [State.IdFits, not_or, not_lt, not_not, ne_eq, Bool.not_eq_true', Bool.not_eq_false]

theorem State.moveRoom_iff {d : Nat} : s.MoveRoom d c ↔ ¬ (!s.domActive d || decide (s.num 0x7120 9 d ≤ s.seqsHeld d)
    || decide (s.num 0x3200 1 d < s.slotsHeld d + c)) = true := by
  simp only [State.MoveRoom, Bool.or_eq_true, decide_eq_true_eq, not_or, not_le, not_lt, Bool.not_eq_true', Bool.not_eq_false,
    and_assoc]

theorem moveBegin_noShadow (noShadow : ¬ s.ShadowHere n) : s.moveBegin n tag c id true = s.refuse n 6 tag id :=
  if_pos ⟨rfl, noShadow⟩

theorem State.not_noShadow (place : copy = true → s.ShadowHere n) :
    ¬ (copy = true ∧ ¬ (s.shadow.st = 1 ∧ s.shadow.isShadow = true ∧ s.mirrorQp (s.qp n).dom = some n)) :=
  fun ⟨isCopy, away⟩ => away (place isCopy)

theorem moveBegin_badId (place : copy = true → s.ShadowHere n) (badId : ¬ s.IdFits (s.qp n).dom id) :
    s.moveBegin n tag c id copy = s.refuse n 3 tag id := by
  unfold State.moveBegin
  rw [if_neg (State.not_noShadow place), if_pos (not_not.1 (mt State.idFits_iff.2 badId))]

theorem moveBegin_full (place : copy = true → s.ShadowHere n) (fits : s.IdFits (s.qp n).dom id)
    (full : ¬ s.MoveRoom (s.qp n).dom c) : s.moveBegin n tag c id copy = s.refuse n 1 tag id := by
  unfold State.moveBegin
  rw [if_neg (State.not_noShadow place), if_neg (State.idFits_iff.1 fits), if_pos (not_not.1 (mt State.moveRoom_iff.2 full))]

theorem moveBegin_noProfile (place : copy = true → s.ShadowHere n) (fits : s.IdFits (s.qp n).dom id)
    (room : s.MoveRoom (s.qp n).dom c) (prof : s.profOk = false) : s.moveBegin n tag c id copy = s.refuse n 4 tag id := by
  unfold State.moveBegin
  rw [if_neg (State.not_noShadow place), if_neg (State.idFits_iff.1 fits), if_neg (State.moveRoom_iff.1 room), prof]
  rfl

theorem moveBegin_noKey (place : copy = true → s.ShadowHere n) (fits : s.IdFits (s.qp n).dom id)
    (room : s.MoveRoom (s.qp n).dom c) (prof : s.profOk = true) (noKey : s.openLanding n tag c (some id) copy = none) :
    s.moveBegin n tag c id copy = s.refuse n 2 tag id := by
  unfold State.moveBegin
  rw [if_neg (State.not_noShadow place), if_neg (State.idFits_iff.1 fits), if_neg (State.moveRoom_iff.1 room), prof, noKey]
  rfl

theorem moveBegin_opened {t : State} {k g : Nat} (place : copy = true → s.ShadowHere n) (fits : s.IdFits (s.qp n).dom id)
    (room : s.MoveRoom (s.qp n).dom c) (prof : s.profOk = true) (opened : s.openLanding n tag c (some id) copy = some (t, k, g)) :
    s.moveBegin n tag c id copy = (t.setSeq (sidIndex id) { gen := sidGen id, dom := (s.qp n).dom, st := .incoming }).sendSvc n
      (svcHdr 9 0 tag c id k g) [] := by
  unfold State.moveBegin
  rw [if_neg (State.not_noShadow place), if_neg (State.idFits_iff.1 fits), if_neg (State.moveRoom_iff.1 room), prof, opened]
  rfl

end

section
variable {s : State} {n tag : Nat} {id : BitVec 64} {p : List Byte}

/-- The region that the images of a move come to. -/
def State.moveLanding (s : State) (n : Nat) (id : BitVec 64) : Option Landing :=
  s.xnt.landings.find? fun l => l.seq == some id && l.qp == n

/-- The row records of a MOVE_FINAL. -/
def finalRows (pr : Prof) (p : List Byte) : List (Nat × List (Nat × Nat)) :=
  parseRows pr (fld (ofBytes 512 (slice p 0 64) : BitVec 512) 256 32) (p.drop (64 + 256 * pr.lenGrains))

/-- The handles of a MOVE_FINAL, each with the unit that its page came in. -/
def finalHandles (pr : Prof) (p : List Byte) : List (Nat × Nat) :=
  ((finalRows pr p).flatMap Prod.snd).foldl (fun a x => aput a x.1 x.2) []

/-- The granule runs that the sequence of a MOVE_FINAL takes (R41). -/
def finalRuns (pr : Prof) (p : List Byte) : List (Option Nat × Nat) :=
  (if (finalRows pr p).isEmpty then [] else [(none, pr.lenGrains)]) ++ (finalRows pr p).map (fun r => (some r.1, pr.rowGrains))
    ++ (List.range (ceilDiv (finalRows pr p).length 1023)).map fun k => (indexKey k, 16)

/-- The verified page of a unit that the handles of a MOVE_FINAL name. -/
def landedAt (hs : List (Nat × Nat)) (ps : List (PageData × Nat × Nat)) (u : Nat) : Option (PageData × Nat × Nat) :=
  ps[(hs.map Prod.snd).idxOf u]?

/-- The sequence that a MOVE_FINAL spells, over its verified pages. -/
def finalSeq (pr : Prof) (p : List Byte) (id : BitVec 64) (copy : Bool) (ps : List (PageData × Nat × Nat)) : SeqEntry :=
  let e : BitVec 512 := ofBytes 512 (slice p 0 64)
  { gen := sidGen id, dom := sidDom id, st := if copy then .shadowed else .open_, reclaimable := bit e 67
    prio := fld e 68 4, group := fld e 72 12, slice := fld e 84 4, posBase := fld e 96 32
    lens := (chunks 4 pr.planes (slice p 64 (4 * pr.planes))).map leNat
    handles := (finalHandles pr p).filterMap fun x => (landedAt (finalHandles pr p) ps x.2).map fun q => (x.1, q.2.1)
    released := ((finalRows pr p).head?.map Prod.fst).getD 0 }

/-- The pages bound and the sequence issued; a copy joins the shadow's sequences. -/
def State.issueMoved (s : State) (t : State) (p : List Byte) (id : BitVec 64) (copy : Bool) (ps : List (PageData × Nat × Nat))
    (c : Cmd) : State :=
  let u := (ps.foldl State.bindLanded t).issueSeq (sidIndex id) (SeqEntry.withGrains (finalSeq s.pr p id copy ps) c.grains)
  if copy then u.modShadow fun x => { x with seqs := x.seqs ++ [id] } else u

/-- Every page of a MOVE_FINAL agrees with its place. -/
def finalPlaced (pr : Prof) (p : List Byte) (id : BitVec 64) (ps : List (PageData × Nat × Nat)) : Bool :=
  (finalHandles pr p).all fun x => match landedAt (finalHandles pr p) ps x.2 with | some q => placeOk pr id x.1 q.1 | none => false

theorem finalPlaced_iff {pr : Prof} {ps : List (PageData × Nat × Nat)} : finalPlaced pr p id ps = true ↔
    ∀ x ∈ finalHandles pr p, ∃ q, landedAt (finalHandles pr p) ps x.2 = some q ∧ placeOk pr id x.1 q.1 = true := by
  rw [finalPlaced, List.all_eq_true]
  refine forall₂_congr fun x _ => ?_
  cases landedAt (finalHandles pr p) ps x.2 <;> simp

theorem moveFinal_unknown (unknown : s.moveLanding n id = none) : s.moveFinal n tag id p = s.refuse n 6 tag id := by
  rw [State.moveLanding] at unknown
  simp only [State.moveFinal, unknown]

theorem moveFinal_unverified {l : Landing} {e : Nat} (found : s.moveLanding n id = some l)
    (unverified : s.landedPages l ((finalHandles s.pr p).map Prod.snd) = .error e) :
    s.moveFinal n tag id p = (s.discardMove id).refuse n e tag id := by
  simp only [State.moveLanding, finalHandles, finalRows] at found unverified
  simp only [State.moveFinal, found, unverified]

/-- What follows once every unit is verified. -/
theorem moveFinal_verified {l : Landing} {ps : List (PageData × Nat × Nat)} (found : s.moveLanding n id = some l)
    (verified : s.landedPages l ((finalHandles s.pr p).map Prod.snd) = .ok ps) :
    s.moveFinal n tag id p = if !finalPlaced s.pr p id ps then (s.discardMove id).refuse n 5 tag id
      else match s.takeRuns { dom := sidDom id } (finalRuns s.pr p) with
        | .error _ => (s.discardMove id).refuse n 1 tag id
        | .ok (t, c) => ((s.issueMoved t p id l.shadow ps c).closeLanding l.key).sendSvc n (svcHdr 0x0B 0 tag 0 id 0 0) [] := by
  simp only [State.moveLanding, finalHandles, finalRows] at found verified
  simp only [State.moveFinal, found, verified]
  rfl

theorem moveFinal_misplaced {l : Landing} {ps : List (PageData × Nat × Nat)} (found : s.moveLanding n id = some l)
    (verified : s.landedPages l ((finalHandles s.pr p).map Prod.snd) = .ok ps) (misplaced : ¬ finalPlaced s.pr p id ps = true) :
    s.moveFinal n tag id p = (s.discardMove id).refuse n 5 tag id := by
  rw [moveFinal_verified found verified, if_pos (by simpa using misplaced)]

theorem moveFinal_noRuns {l : Landing} {ps : List (PageData × Nat × Nat)} {f : Fail} (found : s.moveLanding n id = some l)
    (verified : s.landedPages l ((finalHandles s.pr p).map Prod.snd) = .ok ps) (placed : finalPlaced s.pr p id ps = true)
    (noRuns : s.takeRuns { dom := sidDom id } (finalRuns s.pr p) = .error f) :
    s.moveFinal n tag id p = (s.discardMove id).refuse n 1 tag id := by
  rw [moveFinal_verified found verified, placed, noRuns]
  rfl

theorem moveFinal_built {l : Landing} {ps : List (PageData × Nat × Nat)} {t : State} {c : Cmd} (found : s.moveLanding n id = some l)
    (verified : s.landedPages l ((finalHandles s.pr p).map Prod.snd) = .ok ps) (placed : finalPlaced s.pr p id ps = true)
    (runs : s.takeRuns { dom := sidDom id } (finalRuns s.pr p) = .ok (t, c)) :
    s.moveFinal n tag id p
      = ((s.issueMoved t p id l.shadow ps c).closeLanding l.key).sendSvc n (svcHdr 0x0B 0 tag 0 id 0 0) [] := by
  rw [moveFinal_verified found verified, placed, runs]
  rfl

theorem moveQuery_foreign (foreign : sidDom id ≠ (s.qp n).dom) : s.moveQuery n tag id = s.refuse n 6 tag id := if_pos foreign

theorem moveQuery_incoming (own : sidDom id = (s.qp n).dom) (incoming : (s.seq (sidIndex id)).st = .incoming)
    (current : (s.seq (sidIndex id)).gen = sidGen id) : s.moveQuery n tag id = (s.discardMove id).refuse n 6 tag id := by
  simp only [State.moveQuery, own, incoming, current, ne_eq, not_true_eq_false, if_false, and_self, if_true]

theorem moveQuery_committed (own : sidDom id = (s.qp n).dom)
    (committed : ((s.seq (sidIndex id)).st ≠ .incoming ∧ (s.seq (sidIndex id)).st ≠ .free ∧ (s.seq (sidIndex id)).gen = sidGen id)
      ∨ sidGen id < (s.seq (sidIndex id)).gen) :
    s.moveQuery n tag id = s.sendSvc n (svcHdr 0x0B 0 tag 0 id 0 0) [] := by
  unfold State.moveQuery
  rcases committed with ⟨notIncoming, notFree, current⟩ | later
  · rw [if_neg (not_not.2 own), if_neg (fun h => notIncoming h.1), if_pos (.inl ⟨current, notFree⟩)]
  · rw [if_neg (not_not.2 own), if_neg (fun h => later.ne' h.2), if_pos (.inr later)]

theorem moveQuery_uncommitted (own : sidDom id = (s.qp n).dom)
    (uncommitted : ((s.seq (sidIndex id)).st = .free ∧ (s.seq (sidIndex id)).gen = sidGen id)
      ∨ (s.seq (sidIndex id)).gen < sidGen id) : s.moveQuery n tag id = s.refuse n 6 tag id := by
  unfold State.moveQuery
  rcases uncommitted with ⟨free, current⟩ | earlier
  · rw [if_neg (not_not.2 own), if_neg (by simp [free]), if_neg (by simp [free, current])]
  · rw [if_neg (not_not.2 own), if_neg (fun h => earlier.ne h.2), if_neg (fun h => h.elim (fun k => earlier.ne k.1) (lt_asymm earlier))]

end

/-! ## Moves at the origin (R22, R272) -/

section
variable {s : State} {n : Nat} {h : BitVec 256} {v : MoveSt}

theorem moveReady_unknown (unknown : s.moveOn n (hSeq h) = none) : s.moveReady n h = s := by
  simp only [State.moveReady, unknown]

theorem moveReady_again (found : s.moveOn n (hSeq h) = some v) (again : v.ready = true) : s.moveReady n h = s := by
  simp only [State.moveReady, found, again, if_true]

/-- A move once its region is known. -/
def MoveSt.readied (v : MoveSt) (h : BitVec 256) : MoveSt := { v with ready := true, key := hKey h, gen := hGen h }

/-- The state with a move whose region is known. -/
def State.readyMove (s : State) (v : MoveSt) (h : BitVec 256) : State := s.setMove v.seq v.shadow fun _ => v.readied h

theorem moveReady_copy (found : s.moveOn n (hSeq h) = some v) (first : v.ready = false) (copy : v.shadow = true) :
    s.moveReady n h = (s.readyMove v h).copyReady (v.readied h) (hTag h) := by
  simp only [State.moveReady, found, first, Bool.false_eq_true, if_false, copy, if_true, State.readyMove, MoveSt.readied]

/-- Making a move ready leaves its command as it is. -/
theorem readyMove_cmd : v.cmd.bind (s.readyMove v h).cmd = v.cmd.bind s.cmd :=
  congrArg v.cmd.bind (funext fun id => setMove_cmd s v.seq v.shadow _ id)

theorem moveReady_command {c : Cmd} (found : s.moveOn n (hSeq h) = some v) (first : v.ready = false) (move : v.shadow = false)
    (command : v.cmd.bind s.cmd = some c) : s.moveReady n h = (s.readyMove v h).finalMove c := by
  rw [← readyMove_cmd (h := h)] at command
  simp only [State.readyMove, MoveSt.readied, move] at command ⊢
  simp only [State.moveReady, found, first, move, Bool.false_eq_true, if_false, command]

theorem moveReady_ended (found : s.moveOn n (hSeq h) = some v) (first : v.ready = false) (move : v.shadow = false)
    (ended : v.cmd.bind s.cmd = none) : s.moveReady n h = s.readyMove v h := by
  rw [← readyMove_cmd (h := h)] at ended
  simp only [State.readyMove, MoveSt.readied, move] at ended ⊢
  simp only [State.moveReady, found, first, move, Bool.false_eq_true, if_false, ended]

theorem moveDone_unknown (unknown : s.moveOn n (hSeq h) = none) : s.moveDone n h = s := by
  simp only [State.moveDone, unknown]

theorem moveDone_copy (found : s.moveOn n (hSeq h) = some v) (copy : v.shadow = true) : s.moveDone n h = s.copyDone v := by
  simp only [State.moveDone, found, copy, if_true]

theorem moveDone_command {i : Nat} {c : Cmd} (found : s.moveOn n (hSeq h) = some v) (move : v.shadow = false) (of : v.cmd = some i)
    (command : s.cmd i = some c) : s.moveDone n h = (s.setCmd { c with flushed := true }).tryCommit i := by
  simp only [State.moveDone, found, move, Bool.false_eq_true, if_false, of, command]

theorem moveDone_lost {i : Nat} (found : s.moveOn n (hSeq h) = some v) (move : v.shadow = false) (of : v.cmd = some i)
    (lost : s.cmd i = none) : s.moveDone n h = s := by
  simp only [State.moveDone, found, move, Bool.false_eq_true, if_false, of, lost]

theorem moveDone_unresolved (found : s.moveOn n (hSeq h) = some v) (move : v.shadow = false) (of : v.cmd = none) :
    s.moveDone n h = (s.moveOut v).wake.lowCheck := by
  simp only [State.moveDone, found, move, Bool.false_eq_true, if_false, of]

theorem refused_unknown (noMove : s.moveOn n (hSeq h) = none) (noHold : s.holdCmd n (hTag h) = none) : s.refused n h = s := by
  simp only [State.refused, noMove, noHold]

theorem refused_hold {c : Cmd} (noMove : s.moveOn n (hSeq h) = none) (hold : s.holdCmd n (hTag h) = some c) :
    s.refused n h = s.holdRefused c := by
  simp only [State.refused, noMove, hold]

theorem refused_move (found : s.moveOn n (hSeq h) = some v) : s.refused n h = s.moveRefused v (hReason h) := by
  simp only [State.refused, found]

theorem moveRefused_copy {r : Nat} (copy : v.shadow = true) : s.moveRefused v r = s.shadowFail (if r = 3 then 2 else 3) :=
  if_pos copy

theorem moveRefused_command {r i : Nat} {c : Cmd} (move : v.shadow = false) (of : v.cmd = some i) (command : s.cmd i = some c) :
    s.moveRefused v r
      = (s.endCmd c (if r = 3 then ⟨stBusy, 0, 0, 0⟩ else ⟨stTierFail, 4, s.firstPage v.seq, 0⟩)).wake := by
  simp only [State.moveRefused, move, Bool.false_eq_true, if_false, of, command]

theorem moveRefused_lost {r i : Nat} (move : v.shadow = false) (of : v.cmd = some i) (lost : s.cmd i = none) :
    s.moveRefused v r = s := by
  simp only [State.moveRefused, move, Bool.false_eq_true, if_false, of, lost]

theorem moveRefused_discarded (move : v.shadow = false) (of : v.cmd = none) : s.moveRefused v 6 = (s.abandonMove v.seq).wake := by
  simp only [State.moveRefused, move, Bool.false_eq_true, if_false, of, if_true]

theorem moveRefused_other {r : Nat} (move : v.shadow = false) (of : v.cmd = none) (other : r ≠ 6) : s.moveRefused v r = s := by
  simp only [State.moveRefused, move, Bool.false_eq_true, if_false, of, other]

end

/-! ## Every case -/

/-- Settles O55: each row comes down to its operation, whose cases are those of the statement. -/
theorem holdsAndMovesProceed : Obligations.HoldsAndMovesProceed := by
  refine ⟨?holdOffer, ?holdReady, ?holdDone, ?holdCommit, ?holdRelease, ?moveBegin, ?moveReady, ?moveFinal, ?moveDone, ?moveQuery,
    ?refuse⟩
  case holdOffer =>
    rintro s qp m _ _ _ _ acts rfl rfl rfl rfl room roomIff
    have full : ¬ room → ¬ s.HoldRoom _ _ := mt roomIff.2
    have fits : room → s.HoldRoom _ _ := roomIff.1
    refine ⟨fun h => ?_, fun h prof => ?_, fun h prof noKey => ?_, fun h prof t k g opened => ?_⟩ <;> rw [exec_holdOffer m acts]
    · rw [holdOffer_full (full h)]
    · rw [holdOffer_noProfile (fits h) prof]
    · rw [holdOffer_noKey (fits h) prof noKey]
    · rw [holdOffer_opened (fits h) prof opened]
  case holdReady =>
    rintro s qp m _ acts rfl
    refine ⟨fun unknown => ?_, ?_⟩
    · rw [exec_holdReady m acts, holdReady_unknown unknown]
    · rintro c _ found rfl
      refine ⟨fun unread => ?_, fun ds read => ?_⟩ <;> rw [exec_holdReady m acts]
      · rw [holdReady_unread found unread]
      · rw [holdReady_written found read, Cmd.offered]
  case holdDone =>
    rintro s qp m _ acts rfl
    refine ⟨fun unknown => ?_, ?_⟩
    · rw [exec_holdDone m acts, holdDone_unknown unknown]
    · rintro c c1 t found landed kept
      have done : s.holdDone qp.toNat (rowHdr 3 m) m.payload
          = if c1.jobs.all PageJob.done then t.tryCommit c.id else t.offerHolds c1 := by
        rw [holdDone_found found, kept, landed]
        rfl
      refine ⟨fun all => ?_, fun more => ?_⟩ <;> rw [exec_holdDone m acts, done]
      · rw [if_pos all]
      · rw [if_neg (by simp [more])]
  case holdCommit =>
    rintro s qp m _ _ acts rfl rfl
    refine ⟨fun unknown => ?_, fun l found => ⟨fun e unverified => ?_,
      fun ps verified => ⟨fun noKey => ?_, fun t k g key => ?_⟩⟩⟩ <;> rw [exec_holdCommit m acts]
    · rw [holdCommit_unknown unknown]
    · rw [holdCommit_unverified found unverified]
    · rw [holdCommit_noKey found verified noKey]
    · rw [holdCommit_held found verified key]
  case holdRelease =>
    intro s qp m acts
    refine ⟨?_, ?_⟩
    · rintro _ rfl
      rw [exec_holdRelease m acts, State.holdRelease]
    · rw [exec_released m acts, State.released]
  case moveBegin =>
    rintro s qp m _ _ _ _ _ _ copy acts rfl rfl rfl rfl rfl rfl copied shadowHere fits room hereIff fitsIff roomIff
    rw [exec_moveBegin m acts, ← copied]
    refine ⟨fun isCopy away => ?_, fun place => ?_⟩
    · rw [isCopy, moveBegin_noShadow (mt hereIff.2 away)]
    · have here : copy = true → s.ShadowHere qp.toNat := fun h => hereIff.1 (place h)
      have idFits := fitsIff.1
      have quota := roomIff.1
      refine ⟨fun bad => ?_, fun ok full => ?_, fun ok space prof => ?_, fun ok space prof noKey => ?_,
        fun ok space prof t k g opened => ?_⟩
      · rw [moveBegin_badId here (mt fitsIff.2 bad)]
      · rw [moveBegin_full here (idFits ok) (mt roomIff.2 full)]
      · rw [moveBegin_noProfile here (idFits ok) (quota space) prof]
      · rw [moveBegin_noKey here (idFits ok) (quota space) prof noKey]
      · rw [moveBegin_opened here (idFits ok) (quota space) prof opened]
  case moveReady =>
    rintro s qp m _ acts rfl
    refine ⟨fun unknown => ?_, ?_⟩
    · rw [exec_moveReady m acts, moveReady_unknown unknown]
    · rintro v _ _ found rfl rfl
      refine ⟨fun again => ?_, fun first copy => ?_, fun first move c command => ?_, fun first move ended => ?_⟩ <;>
        rw [exec_moveReady m acts]
      · rw [moveReady_again found again]
      · rw [moveReady_copy found first copy]
        rfl
      · rw [moveReady_command found first move command]
        rfl
      · rw [moveReady_ended found first move ended]
        rfl
  case moveFinal =>
    rintro s qp m _ _ _ acts rfl rfl rfl
    refine ⟨fun unknown => ?_, ?_⟩
    · rw [exec_moveFinal m acts, moveFinal_unknown unknown]
    · rintro l _ _ _ found rfl rfl rfl
      refine ⟨fun e unverified => ?_, fun ps at_ verified lookup => ⟨?_, ?_⟩⟩
      · rw [exec_moveFinal m acts, moveFinal_unverified found unverified]
      · rintro ⟨x, hx, wrong⟩
        have misplaced : ¬ finalPlaced s.pr m.payload (hSeq (rowHdr 0xA m)) ps = true := fun placed => by
          obtain ⟨q, hq, ok⟩ := finalPlaced_iff.1 placed x hx
          exact absurd ok (by simp [wrong q ((lookup _).trans hq)])
        rw [exec_moveFinal m acts, moveFinal_misplaced found verified misplaced]
      · rintro right _ rfl
        have placed : finalPlaced s.pr m.payload (hSeq (rowHdr 0xA m)) ps = true := finalPlaced_iff.2 fun x hx => by
          obtain ⟨q, hq, ok⟩ := right x hx
          exact ⟨q, (lookup _).symm.trans hq, ok⟩
        refine ⟨fun f noRuns => ?_, ?_⟩
        · rw [exec_moveFinal m acts, moveFinal_noRuns found verified placed noRuns]
        · rintro t _ _ c runs rfl rfl
          obtain rfl : at_ = landedAt (finalHandles s.pr m.payload) ps := funext lookup
          rw [exec_moveFinal m acts, moveFinal_built found verified placed runs]
          rfl
  case moveDone =>
    rintro s qp m _ acts rfl
    refine ⟨fun unknown => ?_, fun v found => ⟨fun copy => ?_, fun move i c of command => ?_, fun move i of lost => ?_,
      fun move of => ?_⟩⟩ <;> rw [exec_moveDone m acts]
    · rw [moveDone_unknown unknown]
    · rw [moveDone_copy found copy]
    · rw [moveDone_command found move of command]
    · rw [moveDone_lost found move of lost]
    · rw [moveDone_unresolved found move of]
  case moveQuery =>
    rintro s qp m _ _ _ acts rfl rfl rfl
    refine ⟨fun foreign => ?_, fun own => ⟨fun incoming current => ?_, fun committed => ?_, fun uncommitted => ?_⟩⟩ <;>
      rw [exec_moveQuery m acts]
    · rw [moveQuery_foreign foreign]
    · rw [moveQuery_incoming own incoming current]
    · rw [moveQuery_committed own committed]
    · rw [moveQuery_uncommitted own uncommitted]
  case refuse =>
    rintro s qp m _ acts rfl
    refine ⟨fun noMove => ⟨fun noHold => ?_, fun c hold => ?_⟩, fun v found => ⟨fun copy => ?_, ?_, fun move i of lost => ?_,
      fun move of six => ?_, fun move of other => ?_⟩⟩
    · rw [exec_refuse m acts, refused_unknown noMove noHold]
    · rw [exec_refuse m acts, refused_hold noMove hold, State.holdRefused]
    · rw [exec_refuse m acts, refused_move found, moveRefused_copy copy]
    · rintro move i c of command _ rfl
      rw [exec_refuse m acts, refused_move found, moveRefused_command move of command]
    · rw [exec_refuse m acts, refused_move found, moveRefused_lost move of lost]
    · rw [exec_refuse m acts, refused_move found, six, moveRefused_discarded move of]
    · rw [exec_refuse m acts, refused_move found, moveRefused_other move of other]

end Sys2Proof.Machine
end

section
/-! SUPPORT. Sequences and the pool (R36 to R38, R41, R306): the fields of a Sequence ID, what an ID names, how often an index is used,
and the runs of granules. -/

namespace Sys2Proof.Machine

/-! ## Fields of a Sequence ID (R36) -/

/-- A field of a word as digits of its number. -/
theorem fld_eq_div_mod {w : Nat} (x : BitVec w) (lo len : Nat) : fld x lo len = x.toNat / 2 ^ lo % 2 ^ len := by
  rw [fld, BitVec.extractLsb'_toNat, Nat.shiftRight_eq_div_pow]

/-- An ID is the sum of its fields where they fit: no field overflows into the next. -/
theorem seqIdOf_toNat {i : Nat} {e : SeqEntry} (hi : i < 16777216) (hg : e.gen < 65536) (hd : e.dom < 4096) :
    (seqIdOf i e).toNat = e.gen + i * 2 ^ 16 + e.dom * 2 ^ 48 := by
  rw [seqIdOf, BitVec.toNat_ofNat, Nat.mod_eq_of_lt (by omega)]

/-- Settles O7: each field is cut out of the sum that makes the ID. -/
theorem sequenceIdFields : Obligations.SequenceIdFields := by
  intro i e hi hg hd
  have sum := seqIdOf_toNat hi hg hd
  simp only [sidGen, sidIndex, sidDom, fld_eq_div_mod, sum]
  omega

/-! ## What an ID names (R37) -/

/-- The answer to an ID that fits its entry, by the entry's state. -/
def SeqSt.answer (i : Nat) : SeqSt → SeqRef
  | .open_ | .stalled | .moving => .ok i
  | .incoming => .ahead
  | .free | .closing | .shadowed | .retired => .bad

theorem SeqSt.answer_eq_ok {i j : Nat} {st : SeqSt} :
    st.answer i = .ok j ↔ j = i ∧ (st = .open_ ∨ st = .stalled ∨ st = .moving) := by
  cases st <;> simp [SeqSt.answer, eq_comm]

theorem SeqSt.answer_eq_ahead {i : Nat} {st : SeqSt} : st.answer i = .ahead ↔ st = .incoming := by
  cases st <;> simp [SeqSt.answer]

/-- An ID fits the entry at its index, for a domain: reserved bits zero, generation and domain the entry's, and the entry the
domain's. -/
def State.IdOf (s : State) (id : BitVec 64) (d : Nat) : Prop :=
  fld id 40 8 = 0 ∧ fld id 60 4 = 0 ∧ (s.seq (sidIndex id)).gen = sidGen id ∧ (s.seq (sidIndex id)).dom = sidDom id
    ∧ (s.seq (sidIndex id)).dom = d

theorem seqRef_of_idOf {s : State} {id : BitVec 64} {d : Nat} (fits : s.IdOf id d) :
    s.seqRef id d = (s.seq (sidIndex id)).st.answer (sidIndex id) := by
  obtain ⟨low, high, gen, dom, own⟩ := fits
  simp only [State.seqRef, low, high, gen, ← dom, own, ne_eq, not_true_eq_false, or_self, if_false, Bool.false_or, beq_self_eq_true,
    Bool.not_true, Bool.false_eq_true]
  cases (s.seq (sidIndex id)).st <;> rfl

theorem seqRef_of_not_idOf {s : State} {id : BitVec 64} {d : Nat} (stranger : ¬ s.IdOf id d) : s.seqRef id d = .bad := by
  unfold State.seqRef
  dsimp only
  split
  · rfl
  · next reserved =>
    split
    · rfl
    · next names =>
      refine if_pos ?_
      rw [Bool.false_or, Bool.not_eq_true', beq_eq_false_iff_ne]
      intro own
      simp only [not_or, not_not] at reserved names
      exact stranger ⟨reserved.1, reserved.2, names.1, names.2, own⟩

theorem seqRef_eq_ok {s : State} {id : BitVec 64} {d i : Nat} : s.seqRef id d = .ok i ↔ i = sidIndex id ∧ s.IdOf id d
    ∧ ((s.seq (sidIndex id)).st = .open_ ∨ (s.seq (sidIndex id)).st = .stalled ∨ (s.seq (sidIndex id)).st = .moving) := by
  by_cases fits : s.IdOf id d
  · rw [seqRef_of_idOf fits, SeqSt.answer_eq_ok]
    tauto
  · rw [seqRef_of_not_idOf fits]
    simp [fits]

theorem seqRef_eq_ahead {s : State} {id : BitVec 64} {d : Nat} :
    s.seqRef id d = .ahead ↔ s.IdOf id d ∧ (s.seq (sidIndex id)).st = .incoming := by
  by_cases fits : s.IdOf id d
  · rw [seqRef_of_idOf fits, SeqSt.answer_eq_ahead]
    tauto
  · rw [seqRef_of_not_idOf fits]
    simp [fits]

/-! ## How often an index is used (R38) -/

theorem aget_eq_none {α : Type} {l : List (Nat × α)} {n : Nat} (h : n ∉ akeys l) : aget l n = none :=
  Option.eq_none_iff_forall_not_mem.2 fun _ hv => h (List.mem_map_of_mem (aget_mem hv))

theorem seqFree_iff {s : State} {i : Nat} : s.seqFree i = true ↔ (s.seq i).st = .free ∧ ∀ r ∈ s.seqs.reserved, r.1 ≠ i := by
  simp [State.seqFree]

/-- An index that the table and the reservations do not name is free. -/
theorem seqFree_of_unused {s : State} {i : Nat} (h : i ∉ akeys s.seqs.table ++ s.seqs.reserved.map fun r => r.1) :
    s.seqFree i = true := by
  rw [List.mem_append, not_or] at h
  obtain ⟨absent, unreserved⟩ := h
  refine seqFree_iff.2 ⟨?_, fun r hr heq => unreserved (List.mem_map.2 ⟨r, hr, heq⟩)⟩
  rw [State.seq, aget_eq_none absent]
  rfl

theorem nextSeqIndex_seqFree {s : State} {i : Nat} (h : s.nextSeqIndex = some i) : s.seqFree i = true := by
  unfold State.nextSeqIndex at h
  dsimp only at h
  split at h
  · next fresh =>
    cases h
    exact seqFree_of_unused (by simpa using fresh.2)
  · exact List.find?_some h

/-- The entry that a closed sequence leaves. -/
def SeqEntry.closed (e : SeqEntry) : SeqEntry := if e.gen = 65535 then { gen := 65535, st := .retired } else { gen := e.gen + 1 }

theorem retireSeq_table (s : State) (i : Nat) : (s.retireSeq i).seqs.table = aput s.seqs.table i (s.seq i).closed := by
  unfold State.retireSeq SeqEntry.closed
  dsimp only
  split <;> rfl

theorem closeSeq_table (s : State) (i : Nat) : (s.closeSeq i).seqs.table = aput s.seqs.table i (s.seq i).closed := by
  have kept : ((s.dropRefs ((s.seq i).handles.map Prod.snd)).freeSeqGrains (s.seq i)).seqs.table = s.seqs.table :=
    (freeSeqGrains_table _ _).trans (table_foldl _ dropRef_table _ _)
  rw [State.closeSeq, sweepTables_seqs, retireSeq_table, kept, seq_of_table kept]

theorem closeSeq_seq_self (s : State) (i : Nat) : (s.closeSeq i).seq i = (s.seq i).closed := by
  rw [State.seq, closeSeq_table, aget_aput_self]
  rfl

theorem closeSeq_seq_ne (s : State) {i j : Nat} (h : j ≠ i) : (s.closeSeq i).seq j = s.seq j := by
  rw [State.seq, closeSeq_table, aget_aput_ne _ _ h]
  rfl

/-- Settles O15: the answers to an ID, the free index issued next, and the entry that a close leaves. -/
theorem sequenceIdsAreUsedOnce : Obligations.SequenceIdsAreUsedOnce := by
  refine ⟨fun s id d i => ?_, fun s id d => ?_, fun s i h => seqFree_iff.1 (nextSeqIndex_seqFree h),
    fun s i => ⟨fun more => ?_, fun last => ?_, fun j => closeSeq_seq_ne s⟩⟩
  · rw [seqRef_eq_ok, and_congr_right_iff]
    rintro rfl
    simp only [State.IdOf, and_assoc]
  · rw [seqRef_eq_ahead]
    simp only [State.IdOf, and_assoc]
  · rw [closeSeq_seq_self, SeqEntry.closed, if_neg more.ne]
    exact ⟨rfl, rfl⟩
  · rw [closeSeq_seq_self, SeqEntry.closed, if_pos last]

/-! ## Runs of granules (R41, R306) -/

theorem poolFree_iff {l : List (Nat × Nat × Nat)} {n a : Nat} : poolFree l n a = true ↔
    1 ≤ a ∧ a + n ≤ 16777216 ∧ ∀ p ∈ l, a + n ≤ p.1 ∨ p.1 + p.2.1 ≤ a := by
  simp [poolFree, and_assoc]

/-- A successful allocation: a run that fits, within the quota, is in the pool. -/
theorem allocGrains_eq_some {s t : State} {n d a : Nat} (h : s.allocGrains n d = some (t, a)) :
    poolFree s.seqs.pool n a = true ∧ ((s.seqs.pool.filter fun p => p.2.2 == d).map fun p => p.2.1).sum + n ≤ s.num 0x7120 0xA d
      ∧ t.seqs.pool = poolAdd (a, n, d) s.seqs.pool := by
  unfold State.allocGrains at h
  dsimp only at h
  split at h
  · next fits =>
    cases h
    exact ⟨fits.1, fits.2, rfl⟩
  · cases h

/-- Settles O16: the place that was found meets no run of the pool. -/
theorem granuleRunsStayDisjoint : Obligations.GranuleRunsStayDisjoint := by
  intro s t n d a hn alloc disjoint within
  obtain ⟨free, quota, pool⟩ := allocGrains_eq_some alloc
  obtain ⟨above, below, clear⟩ := poolFree_iff.1 free
  rw [pool]
  refine ⟨poolAdd_pairwise _ _ hn disjoint clear, fun x hx => ?_, fun x => mem_poolAdd _ _ _, quota⟩
  rcases (mem_poolAdd _ _ _).1 hx with rfl | old
  · exact ⟨above, below⟩
  · exact within x old

end Sys2Proof.Machine
end

section
/-! SUPPORT. Scrub and patrol of slots (R54, R79, R88, R91, R92, R97, R105, R336, R337): each case of a scrub, of a patrol's read and of a
suspect's. -/

namespace Sys2Proof.Machine

theorem exec_scrub (s : State) (n : BitVec 25) (ue : Bool) :
    Sys2Proof.Machine.exec (.scrub n ue) s = .next (s.sealed (s.scrubSlot n.toNat ue)) := rfl

theorem exec_patrol (s : State) (n : BitVec 25) (r : ReadResult) :
    Sys2Proof.Machine.exec (.patrol n r) s = .next (s.sealed (s.patrol n.toNat r)) := rfl

theorem exec_patrolSuspectVerify (s : State) (n : BitVec 25) (r : ReadResult) :
    Sys2Proof.Machine.exec (.patrolSuspectVerify n r) s = .next (s.sealed (s.verifySuspect n.toNat r)) := rfl

/-! ## Scrub (R54, R79, R91, R97, R105) -/

section
variable {s : State} {n : Nat} {ue : Bool} {readers : List Nat}

theorem scrubSlot_unqueued (unqueued : ∀ readers, aget s.pages.use n ≠ some (.scrub readers)) : s.scrubSlot n ue = s := by
  unfold State.scrubSlot
  dsimp only
  split
  · next readers queued => exact absurd queued (unqueued readers)
  · rfl

theorem scrubSlot_read (queued : aget s.pages.use n = some (.scrub readers)) (read : ∃ id ∈ readers, s.cmd id ≠ none) :
    s.scrubSlot n ue = s := by
  have reader : (readers.any fun id => (s.cmd id).isSome) = true := by
    simpa [Option.isSome_iff_ne_none] using read
  simp only [State.scrubSlot, queued, reader, if_true]

theorem unread_any (unread : ∀ id ∈ readers, s.cmd id = none) : (readers.any fun id => (s.cmd id).isSome) = false := by
  simpa using unread

theorem scrubSlot_broken (queued : aget s.pages.use n = some (.scrub readers)) (unread : ∀ id ∈ readers, s.cmd id = none)
    (broken : s.slotWorks n = false) : s.scrubSlot n ue = s.setUse n .withdrawn := by
  simp only [State.scrubSlot, queued, unread_any unread, broken, Bool.false_eq_true, if_false, Bool.not_false, if_true]

/-- A scrub can run now: the access may, and an awn that serves the slot's bank pair is free. -/
def State.ScrubRuns (s : State) (n : Nat) : Prop :=
  s.backgroundRuns n true = true ∧ ∃ u, s.stripeAwn (slotStack n) (slotChan n) (slotBp n) none = some u ∧ s.awnBusy u = false

theorem scrubSlot_waits (queued : aget s.pages.use n = some (.scrub readers)) (works : s.slotWorks n = true)
    (waits : ¬ s.ScrubRuns n) : s.scrubSlot n ue = s := by
  simp only [State.scrubSlot, queued, works, Bool.not_true, Bool.false_eq_true, if_false]
  split
  · rfl
  · refine if_pos ?_
    cases runs : s.backgroundRuns n true with
    | false => rfl
    | true =>
      cases awn : s.stripeAwn (slotStack n) (slotChan n) (slotBp n) none with
      | none => rfl
      | some u =>
        cases busy : s.awnBusy u with
        | false => exact absurd ⟨runs, u, awn, busy⟩ waits
        | true => simp [busy]

theorem scrubSlot_runs (queued : aget s.pages.use n = some (.scrub readers)) (unread : ∀ id ∈ readers, s.cmd id = none)
    (works : s.slotWorks n = true) (runs : s.ScrubRuns n) : s.scrubSlot n ue =
      if ue then (s.bump 0xB000 9).raise 0x01 (0x100 + slotStack n)
          (chanUnit (slotStack n) (s.physChan (slotStack n) (slotChan n))) none [] false fun _ t => t.setUse n .withdrawn
      else (s.modPages fun p =>
        { p with use := adel p.use n, slots := adel p.slots n, lost := p.lost.filter (· ≠ n) }).lowCheck := by
  obtain ⟨background, u, awn, free⟩ := runs
  simp only [State.scrubSlot, queued, unread_any unread, works, background, awn, free, Bool.false_eq_true, if_false, Bool.not_true,
    Bool.or_self]

end

/-! ## Reads of a slot (R88, R97, R336) -/

section
variable {s : State} {n : Nat} {r : ReadResult}

/-- What a read does once its corrected errors are counted. -/
def State.readChecked (s : State) (n : Nat) (r : ReadResult) : State :=
  if r.uncorrected then s.arrayUe n false
  else if r.mismatch then
    match aget s.pages.use n with
    | some (.page _) => s.pageCrc n false
    | none => s.queueScrub n []
    | _ => s
  else s

theorem readSlot_eq {t : State} {inj : Bool}
    (inject : s.takeInject (0x100 + slotStack n) (s.awnOf (slotStack n) (slotChan n) (slotBp n)) 2 = (inj, t)) :
    s.readSlot n r = (if r.corrected = true ∨ inj = true then t.arrayCe n inj else t).readChecked n r := by
  rw [State.readSlot, inject]
  rfl

theorem readChecked_uncorrected (ue : r.uncorrected = true) : s.readChecked n r = s.arrayUe n false := if_pos ue

theorem readChecked_good (noUe : r.uncorrected = false) (same : r.mismatch = false) : s.readChecked n r = s := by
  simp only [State.readChecked, noUe, same, Bool.false_eq_true, if_false]

theorem readChecked_page {p : Nat} (noUe : r.uncorrected = false) (differs : r.mismatch = true)
    (page : aget s.pages.use n = some (.page p)) : s.readChecked n r = s.pageCrc n false := by
  simp only [State.readChecked, noUe, differs, page, Bool.false_eq_true, if_false, if_true]

theorem readChecked_free (noUe : r.uncorrected = false) (differs : r.mismatch = true) (free : aget s.pages.use n = none) :
    s.readChecked n r = s.queueScrub n [] := by
  simp only [State.readChecked, noUe, differs, free, Bool.false_eq_true, if_false, if_true]

theorem readChecked_other (noUe : r.uncorrected = false) (used : aget s.pages.use n ≠ none)
    (noPage : ∀ p, aget s.pages.use n ≠ some (.page p)) : s.readChecked n r = s := by
  unfold State.readChecked
  rw [if_neg (Bool.eq_false_iff.1 noUe)]
  split
  · split
    · next p page => exact absurd page (noPage p)
    · next free => exact absurd free used
    · rfl
  · rfl

/-! ## Patrol (R92, R336) -/

/-- The patrol leaves a lost or withdrawn slot unread. -/
theorem patrol_waits (slot : n < slotCount) (waits : s.backgroundRuns n false = false) : s.patrol n r = s :=
  if_pos ⟨slot, by rw [waits, Bool.not_false]⟩

theorem patrol_beyond (beyond : slotCount ≤ n) : s.patrol n r = s := by
  have noSlot : ¬ n < slotCount := beyond.not_gt
  have notLast : ¬ n + 1 = slotCount := by omega
  simp only [State.patrol, noSlot, beyond, notLast, false_and, true_or, if_false, if_true]

/-- What the patrol makes of a slot: nothing where it is lost or withdrawn, else a read. -/
def State.patrolled (s : State) (n : Nat) (r : ReadResult) : State :=
  if n ∈ s.pages.lost ∨ aget s.pages.use n = some .withdrawn then s else (s.readSlot n r).lowCheck

theorem patrol_runs (slot : n < slotCount) (runs : s.backgroundRuns n false = true) :
    s.patrol n r = if n + 1 = slotCount then (s.patrolled n r).bump 0x8000 9 else s.patrolled n r := by
  simp only [State.patrol, State.patrolled, runs, slot.not_ge, Bool.not_true, Bool.false_eq_true, and_false, if_false, false_or,
    List.contains_iff_mem]

/-! ## Suspects (R337) -/

theorem verifySuspect_idle (idle : (∀ x ∈ s.pages.suspects, x.1 ≠ n) ∨ s.backgroundRuns n false = false) :
    s.verifySuspect n r = s := by
  refine if_pos ?_
  rcases idle with none | waits
  · have : (s.pages.suspects.any fun x => x.1 == n) = false := by simpa using none
    rw [this, Bool.not_false, Bool.true_or]
  · rw [waits, Bool.not_false, Bool.or_true]

/-- A suspect slot off the list, the detections made for it withdrawn where its read failed. -/
def State.cleared (s : State) (n : Nat) (r : ReadResult) : State :=
  (if r.uncorrected = true ∨ r.mismatch = true then s.undetect n else s).modPages fun p =>
    { p with suspects := p.suspects.filter fun x => x.1 ≠ n }

theorem verifySuspect_runs (suspect : ∃ x ∈ s.pages.suspects, x.1 = n) (runs : s.backgroundRuns n false = true) :
    s.verifySuspect n r = if (s.cleared n r).pages.lost.contains n then s.cleared n r else ((s.cleared n r).readSlot n r).lowCheck := by
  have listed : (s.pages.suspects.any fun x => x.1 == n) = true := by simpa using suspect
  refine if_neg ?_
  rw [listed, runs]
  exact Bool.false_ne_true

theorem verifySuspect_lost (suspect : ∃ x ∈ s.pages.suspects, x.1 = n) (runs : s.backgroundRuns n false = true)
    (lost : n ∈ (s.cleared n r).pages.lost) : s.verifySuspect n r = s.cleared n r :=
  (verifySuspect_runs suspect runs).trans (if_pos (List.contains_iff_mem.2 lost))

theorem verifySuspect_kept (suspect : ∃ x ∈ s.pages.suspects, x.1 = n) (runs : s.backgroundRuns n false = true)
    (kept : n ∉ (s.cleared n r).pages.lost) : s.verifySuspect n r = ((s.cleared n r).readSlot n r).lowCheck :=
  (verifySuspect_runs suspect runs).trans (if_neg (mt List.contains_iff_mem.1 kept))

end

/-! ## Every case -/

/-- Settles O34: a scrub, a patrol's read, a suspect's read, and what a read does, case by case. -/
theorem scrubAndPatrol : Obligations.ScrubAndPatrol := by
  refine ⟨fun s n ue => ⟨fun readers queued => ⟨fun read => ?_, fun unread => ⟨fun broken => ?_, fun works => ⟨fun waits => ?_,
      fun busy => ?_, fun u background awn free => ?_⟩⟩⟩, fun unqueued => ?_⟩,
    fun s n r => ⟨fun slot waits => ?_, fun beyond => ?_, fun slot runs t unread read => ?_⟩,
    fun s n r => ⟨fun idle => ?_, ?_⟩, ?_⟩
  · rw [exec_scrub, scrubSlot_read queued read]
  · rw [exec_scrub, scrubSlot_broken queued unread broken]
  · rw [exec_scrub, scrubSlot_waits queued works fun runs => Bool.eq_false_iff.1 waits runs.1]
  · rw [exec_scrub, scrubSlot_waits queued works fun ⟨_, u, awn, free⟩ => Bool.eq_false_iff.1 free (busy u awn)]
  · have runs : s.ScrubRuns n.toNat := ⟨background, u, awn, free⟩
    refine ⟨?_, ?_⟩ <;> rintro rfl <;> rw [exec_scrub, scrubSlot_runs queued unread works runs]
    · rw [if_neg Bool.false_ne_true]
    · rw [if_pos rfl]
  · rw [exec_scrub, scrubSlot_unqueued unqueued]
  · rw [exec_patrol, patrol_waits slot waits]
  · rw [exec_patrol, patrol_beyond beyond]
  · have made : s.patrolled n.toNat r = t := by
      unfold State.patrolled
      split
      · next known => exact (unread known).symm
      · next other =>
        rw [not_or] at other
        exact (read other.1 other.2).symm
    rw [exec_patrol, patrol_runs slot runs, made]
    exact ⟨fun last => by rw [if_pos last], fun more => by rw [if_neg more]⟩
  · rw [exec_patrolSuspectVerify, verifySuspect_idle idle]
  · intro suspect runs t made
    obtain rfl : t = s.cleared n.toNat r := made
    refine ⟨fun lost => ?_, fun kept => ?_⟩ <;> rw [exec_patrolSuspectVerify]
    · rw [verifySuspect_lost suspect runs lost]
    · rw [verifySuspect_kept suspect runs kept]
  · rintro s t _ n r inj inject rfl
    rw [readSlot_eq inject]
    exact ⟨readChecked_uncorrected, readChecked_good, fun noUe differs =>
      ⟨fun p => readChecked_page noUe differs, readChecked_free noUe differs, readChecked_other noUe⟩⟩

end Sys2Proof.Machine
end

section
/-! SUPPORT. The rounding shift of R69: it rounds to nearest with ties to even, up to a shift of 40. -/

namespace Sys2Proof.Machine

theorem rshiftRne_of_gt_forty (v : Int) {s : Nat} (beyond : 40 < s) : rshiftRne v s = 0 := by
  rw [rshiftRne, if_neg (by omega), if_pos beyond]

/-- The shift as a division: the floor is the quotient, and the part shifted out, the remainder, is compared with half of the
divisor. It covers the shift by 0 too, whose remainder is 0. -/
theorem rshiftRne_eq_div (v : Int) {s : Nat} (within : s ≤ 40) :
    rshiftRne v s = if 2 ^ s < 2 * (v % 2 ^ s) ∨ (2 * (v % 2 ^ s) = 2 ^ s ∧ v / 2 ^ s % 2 = 1)
      then v / 2 ^ s + 1 else v / 2 ^ s := by
  cases s with
  | zero => simp [rshiftRne]
  | succ k =>
    have double : (2 : Int) ^ (k + 1) = 2 * 2 ^ k := pow_succ' 2 k
    have remainder : v - v / 2 ^ (k + 1) * 2 ^ (k + 1) = v % 2 ^ (k + 1) := by rw [Int.emod_def, mul_comm]
    rw [rshiftRne, if_neg k.succ_ne_zero, if_neg (by omega), Int.shiftRight_eq_div_pow]
    push_cast [Nat.add_sub_cancel]
    rw [remainder]
    exact if_congr (by omega) rfl rfl

/-- The distance to the multiple of `2 ^ s` that the result stands for is the distance to the nearer of the two around `v`. -/
theorem abs_sub_rshiftRne_mul (v : Int) {s : Nat} (within : s ≤ 40) :
    |v - rshiftRne v s * 2 ^ s| = min (v % 2 ^ s) (2 ^ s - v % 2 ^ s) := by
  have nonneg : 0 ≤ v % 2 ^ s := Int.emod_nonneg v (by positivity)
  have below : v % 2 ^ s < 2 ^ s := Int.emod_lt_of_pos v (by positivity)
  have parts : v / 2 ^ s * 2 ^ s + v % 2 ^ s = v := Int.ediv_mul_add_emod v (2 ^ s)
  rw [rshiftRne_eq_div v within]
  split
  case isTrue up =>
    have error : v - (v / 2 ^ s + 1) * 2 ^ s = v % 2 ^ s - 2 ^ s := by linarith
    rw [error, abs_of_neg (by omega)]
    omega
  case isFalse down =>
    have error : v - v / 2 ^ s * 2 ^ s = v % 2 ^ s := by linarith
    rw [error, abs_of_nonneg nonneg]
    omega

theorem rshiftRne_even_of_half {v : Int} {s : Nat} (within : s ≤ 40) (half : 2 * (v % 2 ^ s) = 2 ^ s) :
    rshiftRne v s % 2 = 0 := by
  rw [rshiftRne_eq_div v within]
  split <;> omega

theorem rshiftRne_nearest (v : Int) {s : Nat} (within : s ≤ 40) : 2 * |v - rshiftRne v s * 2 ^ s| ≤ 2 ^ s := by
  rw [abs_sub_rshiftRne_mul v within]
  omega

theorem rshiftRne_even_of_tie (v : Int) {s : Nat} (within : s ≤ 40) (tie : 2 * |v - rshiftRne v s * 2 ^ s| = 2 ^ s) :
    rshiftRne v s % 2 = 0 := by
  rw [abs_sub_rshiftRne_mul v within] at tie
  exact rshiftRne_even_of_half within (by omega)

/-- Settles O8: the quotient's remainder decides between the two neighbours, and an exact half goes to the even one. -/
theorem shiftsRoundToNearestEven : Obligations.ShiftsRoundToNearestEven :=
  ⟨fun v _ within => rshiftRne_nearest v within, fun v _ within => rshiftRne_even_of_tie v within,
    fun v _ beyond => rshiftRne_of_gt_forty v beyond⟩

end Sys2Proof.Machine
end

section
/-! SUPPORT. Commands that store nothing (R101, R148, R152, R172, R237, R239, R250, R251, R262, R264, R266, R269, R279, R280, R315, R329,
R423): each of them leaves both memories alone. -/

namespace Sys2Proof.Machine

theorem sameRam_ackDelay (s : State) (n : Nat) : sameRam s (s.ackDelay n) := by
  unfold State.ackDelay
  split
  · exact sameRam_sendAck s n false
  · exact sameRam_refl s

theorem sameRam_ratePeriod (s : State) (n : Nat) : sameRam s (s.ratePeriod n) := by
  unfold State.ratePeriod
  dsimp only
  split
  · exact sameRam_refl s
  · exact sameRam_modQp s n _

theorem sameRam_revoked (s : State) (k : Nat) : sameRam s (s.revoked k) := by
  unfold State.revoked
  split
  · split
    · exact ⟨rfl, rfl⟩
    · exact sameRam_refl s
  · exact sameRam_refl s

theorem sameRam_freeKey (s : State) (k : Nat) : sameRam s (s.freeKey k) := by
  unfold State.freeKey
  split
  · split
    · exact ⟨rfl, rfl⟩
    · exact sameRam_refl s
  · exact sameRam_refl s

theorem sameRam_answered (s : State) (n : Nat) (o : Option Output) : sameRam s (s.answered n o) := by
  cases o <;> exact ⟨rfl, rfl⟩

theorem sameRam_arp (s : State) (n : Nat) (v6 : Bool) (target asker : BitVec 128) (vlan : Option (BitVec 12)) :
    sameRam s (s.arp n v6 target asker vlan) := by
  unfold State.arp
  split
  · exact sameRam_refl s
  · exact sameRam_answered s n _

theorem sameRam_sendRing (s : State) (qp svc reason tag count : Nat) (payload : List Byte) :
    sameRam s (s.sendRing qp svc reason tag count payload) := by
  unfold State.sendRing State.sendSvc
  exact sameRam_send s qp _ _ _

theorem sameRam_ringPulse (s : State) : sameRam s s.ringPulse := by
  unfold State.ringPulse
  dsimp only
  split
  · exact sameRam_refl s
  · split
    · exact sameRam_sendRing s _ _ _ _ _ _
    · exact sameRam_trans (sameRam_sendRing s _ _ _ _ _ _) (sameRam_sendRing _ _ _ _ _ _ _)

theorem sameRam_itemStart (s : State) (tag : Nat) : sameRam s (s.itemStart tag) := by
  unfold State.itemStart
  split
  · split
    · exact ⟨rfl, rfl⟩
    · exact sameRam_refl s
  · exact sameRam_refl s

theorem sameRam_stepDown (s : State) (t : Nat) : sameRam s (s.stepDown t) := by
  unfold State.stepDown
  split
  · split
    · exact ⟨rfl, rfl⟩
    · exact sameRam_refl s
  · exact sameRam_refl s

theorem sameRam_memWrite (s : State) (addr : Nat) : sameRam s (s.memWrite addr) := by
  unfold State.memWrite
  split
  · exact sameRam_refl s
  · split
    · exact ⟨rfl, rfl⟩
    · exact sameRam_refl s

/-- A fetch reads the ring and moves the head on. -/
theorem sameRam_fetch (s : State) (n : Nat) : sameRam s (s.fetch n) := by
  unfold State.fetch
  split
  · split
    · exact ⟨rfl, rfl⟩
    · exact sameRam_refl s
  · exact sameRam_refl s

/-- Settles O59: the effect of each quiet command, before it is sealed, keeps both memories. -/
theorem quietCommandsStoreNothing : Obligations.QuietCommandsStoreNothing := by
  intro i s t silent effect
  cases i
  case pathHolddown qp path => exact sameRam_of effect (sameRam_modQp s qp.toNat _)
  case psnGuard qp => exact sameRam_of effect (sameRam_modQp s qp.toNat _)
  case rnrResend qp psn => exact sameRam_of effect (sameRam_modQp s qp.toNat _)
  case ratePeriod qp => exact sameRam_of effect (sameRam_ratePeriod s qp.toNat)
  case ackDelay qp => exact sameRam_of effect (sameRam_ackDelay s qp.toNat)
  case revocationComplete rkey => exact sameRam_of effect (sameRam_revoked s rkey.toNat)
  case rkeyFree rkey => exact sameRam_of effect (sameRam_freeKey s rkey.toNat)
  case arpRequest subport v6 addrs vlan => exact sameRam_of effect (sameRam_arp s subport.toNat v6 addrs.target addrs.sender vlan)
  case icmpEcho subport v6 addrs data =>
    exact sameRam_of effect (sameRam_echo s subport.toNat v6 addrs.target addrs.sender data.vlan data.data)
  case subportLinkChange n up => exact sameRam_of (u := s.linkChange n.toNat up) effect ⟨rfl, rfl⟩
  case shaperTick dtNs => exact sameRam_of effect (sameRam_tick s dtNs.toNat)
  case errnPulseEnd => exact sameRam_of (u := s.pulseEnd) effect ⟨rfl, rfl⟩
  case helloHoldExpiry qp => exact sameRam_of (u := s.helloExpiry qp.toNat) effect ⟨rfl, rfl⟩
  case ringPulse => exact sameRam_of effect (sameRam_ringPulse s)
  case itemStart tag => exact sameRam_of effect (sameRam_itemStart s tag.toNat)
  case granuleZeroFillDone tile => exact sameRam_of (u := s.zeroFilled tile.toNat) effect ⟨rfl, rfl⟩
  case cxlMemWrite addr data => exact sameRam_of effect (sameRam_memWrite s addr.toNat)
  case tileFrequencyStepDown tile => exact sameRam_of effect (sameRam_stepDown s tile.toNat)
  case descriptorFetch sq => exact sameRam_of effect (sameRam_fetch s sq.toNat)
  all_goals exact absurd silent Bool.false_ne_true

end Sys2Proof.Machine
end

section
/-! SUPPORT. The inspection window (R94, R97, R98, R100, R101, R360, R362): where its frames stand, and what a read and a write of a line
come to. -/

namespace Sys2Proof.Machine

theorem exec_cxlMemRead (s : State) (addr : BitVec 64) (ue : Bool) :
    Sys2Proof.Machine.exec (.cxlMemRead addr ue) s = .next (s.sealed (s.memRead addr.toNat ue)) := rfl

theorem exec_cxlMemWrite (s : State) (addr : BitVec 64) (data : BitVec 512) :
    Sys2Proof.Machine.exec (.cxlMemWrite addr data) s = .next (s.sealed (s.memWrite addr.toNat)) := rfl

/-! ## Layout (R98) -/

theorem winFrame_payload {off : Nat} (below : off < 0xE00000000) : winFrame off = some (off / 32768) := if_pos below

theorem winFrame_side {off : Nat} (above : 0xE00000000 ≤ off) (below : off < 0xFC0000000) :
    winFrame off = some ((off - 0xE00000000) / 4096) := by
  rw [winFrame, if_neg (by omega), if_pos below]

theorem winFrame_beyond {off : Nat} (beyond : 0xFC0000000 ≤ off) : winFrame off = none := by
  rw [winFrame, if_neg (by omega), if_neg (by omega)]

/-- The frames that the window holds are those of the offsets below its last GiB. -/
theorem winFrame_some_iff {off : Nat} : (∃ f, winFrame off = some f ∧ f < 1835008) ↔ off < 0xFC0000000 := by
  rcases lt_or_ge off 0xE00000000 with payload | above
  · rw [winFrame_payload payload]
    simp only [Option.some.injEq, exists_eq_left']
    omega
  · rcases lt_or_ge off 0xFC0000000 with side | beyond
    · rw [winFrame_side above side]
      simp only [Option.some.injEq, exists_eq_left']
      omega
    · simp [winFrame_beyond beyond, beyond.not_gt]

theorem winLine_payload (s : State) (n : Nat) {off : Nat} (below : off < 0xE00000000) :
    s.winLine off n = slice (s.slotData n).full (off % 32768) 64 := if_pos below

theorem winLine_side (s : State) (n : Nat) {off : Nat} (above : 0xE00000000 ≤ off) :
    s.winLine off n = slice ((s.slotData n).sideRecord s.pr) (off % 4096) 64 := if_neg above.not_gt

theorem winSlot_beyond (s : State) {off : Nat} (beyond : 0xFC0000000 ≤ off) : s.winSlot off = none := by
  rw [State.winSlot, winFrame_beyond beyond]
  rfl

/-! ## Reads and writes of a line (R94, R97, R100, R101) -/

section
variable {s : State} {addr o n : Nat} {ue : Bool}

theorem memRead_foreign (foreign : s.winOffset addr = none ∨ s.linkFull = false) : s.memRead addr ue = s := by
  unfold State.memRead
  split
  · rfl
  · next o claimed =>
    rcases foreign with none | down
    · rw [claimed] at none
      exact absurd none (Option.some_ne_none o)
    · simp only [down, Bool.not_false, if_true]

theorem memWrite_foreign (foreign : s.winOffset addr = none ∨ s.linkFull = false) : s.memWrite addr = s := by
  unfold State.memWrite
  split
  · rfl
  · next o claimed =>
    rcases foreign with none | down
    · rw [claimed] at none
      exact absurd none (Option.some_ne_none o)
    · simp only [down, Bool.false_eq_true, if_false]

theorem memWrite_claimed (claimed : s.winOffset addr = some o) (full : s.linkFull = true) :
    s.memWrite addr = (s.bump 0x3300 3).emit .cxlWriteDone := by
  simp only [State.memWrite, claimed, full, if_true]

theorem memRead_unshown (claimed : s.winOffset addr = some o) (full : s.linkFull = true)
    (unshown : s.boot.st ≠ .running ∨ s.winSlot (o / 64 * 64) = none) : s.memRead addr ue = s.poison := by
  simp only [State.memRead, claimed, full, Bool.not_true, Bool.false_eq_true, if_false]
  split
  · rfl
  · next running => rw [unshown.resolve_left running]

theorem memRead_shown (claimed : s.winOffset addr = some o) (full : s.linkFull = true) (running : s.boot.st = .running)
    (shown : s.winSlot (o / 64 * 64) = some n) : s.memRead addr ue =
      if s.bpIdle (slotStack n) (slotChan n) (slotBp n) then s.serveRead (o / 64 * 64) ue
      else s.modWin fun w => { w with reads := w.reads ++ [(o / 64 * 64, ue)] } := by
  simp only [State.memRead, claimed, full, running, shown, Bool.not_true, Bool.false_eq_true, if_false, ne_eq, not_true_eq_false]

theorem serveRead_shown (shown : s.winSlot o = some n) : s.serveRead o ue =
    if n ∈ s.pages.lost then s.poison else if ue then (s.arrayUe n false).poison else s.emit (.cxlData (s.winLine o n)) := by
  simp only [State.serveRead, shown, List.contains_iff_mem]

end

/-- Settles O38: the frame and the line at each offset; from the last GiB no frame is shown. -/
theorem windowLayout : Obligations.WindowLayout := by
  refine ⟨fun f x frame within => ?_, fun f x frame within => ?_, fun o _ => winFrame_some_iff, fun s n f k frame line => ?_,
    fun s n f k frame line => ?_, fun s addr ue o claimed full beyond => ?_⟩
  · rw [winFrame_payload (by omega)]
    exact congrArg some (by omega)
  · rw [winFrame_side (by omega) (by omega)]
    exact congrArg some (by omega)
  · rw [winLine_payload s n (by omega), show (32768 * f + 64 * k) % 32768 = 64 * k by omega]
  · rw [winLine_side s n (by omega), show (0xE00000000 + 4096 * f + 64 * k) % 4096 = 64 * k by omega]
  · rw [exec_cxlMemRead, memRead_unshown claimed full (.inr (winSlot_beyond s (by omega)))]
    rfl

/-- Settles O37: an address that is not claimed; one that shows no page; one whose page can be read now or must wait; and a write. -/
theorem windowReadsAndWrites : Obligations.WindowReadsAndWrites := by
  refine ⟨fun s addr ue data foreign => ⟨?_, ?_⟩,
    fun s addr ue o claimed full => ⟨fun unshown => ?_, fun n running shown => ⟨fun busy => ?_, fun idle => ⟨fun lost => ?_,
      fun kept failed => ?_, fun kept good => ?_⟩⟩⟩,
    fun s addr data o claimed full => ?_⟩
  · rw [exec_cxlMemRead, memRead_foreign foreign]
  · rw [exec_cxlMemWrite, memWrite_foreign foreign]
  · rw [exec_cxlMemRead, memRead_unshown claimed full unshown]
    rfl
  · rw [exec_cxlMemRead, memRead_shown claimed full running shown, busy, if_neg Bool.false_ne_true]
  · rw [exec_cxlMemRead, memRead_shown claimed full running shown, idle, if_pos rfl, serveRead_shown shown, if_pos lost]
    rfl
  · rw [exec_cxlMemRead, memRead_shown claimed full running shown, idle, if_pos rfl, serveRead_shown shown, if_neg kept, failed,
      if_pos rfl]
    rfl
  · rw [exec_cxlMemRead, memRead_shown claimed full running shown, idle, if_pos rfl, serveRead_shown shown, if_neg kept, good,
      if_neg Bool.false_ne_true]
  · rw [exec_cxlMemWrite, memWrite_claimed claimed full]

end Sys2Proof.Machine
end

section
/-! SUPPORT. The end of a stripe (R79, R83 to R86, R97, R311, R330, R345), the slots of a stack's interface (R311), and the refresh of a
bank pair (R93). -/

namespace Sys2Proof.Machine

theorem exec_stripeEnd (s : State) (tag : BitVec 32) (r : StripeResult) :
    Sys2Proof.Machine.exec (.stripeEnd tag r) s = .next (s.sealed (s.stripeEnd tag.toNat r)) := rfl

theorem exec_refreshDue (s : State) (bp : BankPair) :
    Sys2Proof.Machine.exec (.refreshDue bp) s = .next (s.sealed (s.refreshDue bp.stack.toNat bp.ch.toNat bp.bp.toNat false)) := rfl

theorem exec_refreshManagement (s : State) (bp : BankPair) :
    Sys2Proof.Machine.exec (.refreshManagement bp) s = .next (s.sealed (s.refreshDue bp.stack.toNat bp.ch.toNat bp.bp.toNat true)) :=
  rfl

theorem exec_refreshDone (s : State) (bp : BankPair) :
    Sys2Proof.Machine.exec (.refreshDone bp) s = .next (s.sealed (s.refreshEnd bp.stack.toNat bp.ch.toNat bp.bp.toNat)) := rfl

/-! ## The result of a stripe (R83 to R86, R345) -/

section
variable {s : State} {x : Stripe} {it : Item} {r : StripeResult} {tag : Nat}

theorem stripeErrors_eq {w : Bool} {d : State} (inject : s.takeInject (0x100 + x.stack) x.awn 2 = (w, d)) :
    s.stripeErrors x r =
      if r.uncorrected
        then ((if r.corrected || w then d.arrayCe x.inp.slot (!r.corrected) else d).linkOff (0x100 + x.stack) x.awn).arrayUe x.inp.slot false
        else (if r.corrected || w then d.arrayCe x.inp.slot (!r.corrected) else d).linkOff (0x100 + x.stack) x.awn := by
  rw [State.stripeErrors, inject]

/-- What becomes of a stripe that has left its awn, its errors counted. -/
def State.stripeEnded (s : State) (tag : Nat) (x : Stripe) (r : StripeResult) : State :=
  match s.stripeOwner tag with
  | none => s
  | some it =>
    if r.uncorrected then s.failParts [it.cmd]
    else if it.op = AwnOp.score ∨ it.op = AwnOp.summary then s.scoreEnd x it r
    else s.stripeDone tag []

/-- A running stripe off its awn. -/
def State.stripeOff (s : State) (tag : Nat) : State :=
  s.modAwns fun a => { a with stripes := a.stripes.filter fun y => y.tag ≠ tag }

theorem stripeEnd_idle (idle : ∀ x ∈ s.awns.stripes, x.tag ≠ tag) : s.stripeEnd tag r = s := by
  have none : (s.awns.stripes.find? fun x => x.tag == tag) = none := by simpa using idle
  simp only [State.stripeEnd, none]

theorem stripeEnd_running (running : (s.awns.stripes.find? fun y => y.tag == tag) = some x) :
    s.stripeEnd tag r =
      (((((s.stripeOff tag).stripeErrors x r).stripeEnded tag x r).freeTag tag).boundary x.stack x.ch x.bp).pump x.stack := by
  simp only [State.stripeEnd, running]
  rfl

theorem stripeEnded_dead (dead : s.stripeOwner tag = none) : s.stripeEnded tag x r = s := by
  simp only [State.stripeEnded, dead]

theorem stripeEnded_uncorrected (owned : s.stripeOwner tag = some it) (ue : r.uncorrected = true) :
    s.stripeEnded tag x r = s.failParts [it.cmd] := by
  simp only [State.stripeEnded, owned, ue, if_true]

theorem stripeEnded_writes (owned : s.stripeOwner tag = some it) (noUe : r.uncorrected = false) (noScore : it.op ≠ .score)
    (noSummary : it.op ≠ .summary) : s.stripeEnded tag x r = s.stripeDone tag [] := by
  simp only [State.stripeEnded, owned, noUe, noScore, noSummary, or_self, Bool.false_eq_true, if_false]

theorem stripeEnded_scores (owned : s.stripeOwner tag = some it) (noUe : r.uncorrected = false)
    (scores : it.op = .score ∨ it.op = .summary) : s.stripeEnded tag x r = s.scoreEnd x it r := by
  simp only [State.stripeEnded, owned, noUe, scores, Bool.false_eq_true, if_false, if_true]

/-- The trailer that the scores of a stripe come with, whatever is injected into them and whether its checks are disabled. -/
def State.scoreTrailer (s : State) (x : Stripe) (it : Item) (r : StripeResult) (inj off : Bool) : BitVec 128 :=
  if off then s.trailer it x { r with abftOk := r.abftOk && !inj } ||| 0x3000000#128
  else s.trailer it x { r with abftOk := r.abftOk && !inj }

/-- A stripe that passes its checks has no second try left to make. -/
def State.endRerun (s : State) (x : Stripe) : State := s.modAwns fun a => { a with reruns := a.reruns.filter fun z => z.1 ≠ x.tag }

theorem trailerOk_iff (t : BitVec 128) (crcOk : Bool) :
    trailerOk t crcOk = true ↔ bit t 24 = true ∧ bit t 25 = true ∧ crcOk = true := by
  simp only [trailerOk, trAbft, trResidue, Bool.and_eq_true, and_assoc]

section
variable {inj off : Bool} {d v : State} (inject : s.takeInject (0x100 + x.stack) x.awn 0 = (inj, d))
  (check : d.checkOff (0x100 + x.stack) x.awn = (off, v))
include inject check

theorem scoreEnd_eq : s.scoreEnd x it r =
    if !trailerOk (v.scoreTrailer x it r inj off) r.crcOk
      then v.stripeFails x (bit (v.scoreTrailer x it r inj off) 24) (bit (v.scoreTrailer x it r inj off) 25) inj
    else if (v.endRerun x).strict
      then (v.endRerun x).modAwns fun a => { a with held := a.held ++ [(x.stack, v.scoreTrailer x it r inj off)] }
    else (v.endRerun x).stripeDone (fld (v.scoreTrailer x it r inj off) 32 32) [v.scoreTrailer x it r inj off] := by
  rw [State.scoreEnd, inject]
  dsimp only
  rw [check]
  rfl

theorem scoreEnd_passed (ok : trailerOk (v.scoreTrailer x it r inj off) r.crcOk = true) : s.scoreEnd x it r =
    if (v.endRerun x).strict
      then (v.endRerun x).modAwns fun a => { a with held := a.held ++ [(x.stack, v.scoreTrailer x it r inj off)] }
      else (v.endRerun x).stripeDone (fld (v.scoreTrailer x it r inj off) 32 32) [v.scoreTrailer x it r inj off] := by
  rw [scoreEnd_eq inject check, ok, Bool.not_true, if_neg Bool.false_ne_true]

theorem scoreEnd_failed (bad : trailerOk (v.scoreTrailer x it r inj off) r.crcOk = false) : s.scoreEnd x it r =
    v.stripeFails x (bit (v.scoreTrailer x it r inj off) 24) (bit (v.scoreTrailer x it r inj off) 25) inj := by
  rw [scoreEnd_eq inject check, bad, Bool.not_false, if_pos rfl]

end

end

/-! ## Refresh (R93) -/

section
variable {s : State} {k c p : Nat}

/-- A command of R93 that waits for the stripe under which it fell due. -/
def State.postpone (s : State) (k c p : Nat) (management : Bool) : State :=
  s.setRefresh k c p { s.refreshOf k c p with
    due := (s.refreshOf k c p).due || !management, management := (s.refreshOf k c p).management || management, postponed := 1 }

theorem postpone_refresh : s.postpone k c p false = s.setRefresh k c p { s.refreshOf k c p with due := true, postponed := 1 } := by
  simp only [State.postpone, Bool.not_false, Bool.or_true, Bool.or_false]

theorem postpone_management :
    s.postpone k c p true = s.setRefresh k c p { s.refreshOf k c p with management := true, postponed := 1 } := by
  simp only [State.postpone, Bool.not_true, Bool.or_true, Bool.or_false]

theorem refreshDue_busy (busy : s.bpBusy k c p = true) : s.refreshDue k c p false =
    if (s.postpone k c p false).counter 0xB000 0xB = 0 then (s.postpone k c p false).bump 0xB000 0xB else s.postpone k c p false := by
  simp only [State.refreshDue, State.postpone, busy, if_true, Bool.not_false, true_and]

theorem refreshManagement_busy (busy : s.bpBusy k c p = true) : s.refreshDue k c p true = s.postpone k c p true := by
  simp only [State.refreshDue, State.postpone, busy, if_true, Bool.not_true, Bool.false_eq_true, false_and, if_false]

theorem refreshDue_running (management : Bool) (free : s.bpBusy k c p = false) (running : (s.refreshOf k c p).running = true) :
    s.refreshDue k c p management = s.setRefresh k c p { s.refreshOf k c p with
      due := (s.refreshOf k c p).due || !management, management := (s.refreshOf k c p).management || management } := by
  simp only [State.refreshDue, free, running, Bool.false_eq_true, if_false, if_true]

theorem refreshDue_idle (management : Bool) (free : s.bpBusy k c p = false) (idle : (s.refreshOf k c p).running = false) :
    s.refreshDue k c p management = s.setRefresh k c p { running := true } := by
  simp only [State.refreshDue, free, idle, Bool.false_eq_true, if_false]

theorem refreshEnd_idle (idle : (s.refreshOf k c p).running = false) : s.refreshEnd k c p = s := by
  simp only [State.refreshEnd, idle, Bool.not_false, if_true]

theorem refreshEnd_running (running : (s.refreshOf k c p).running = true) : s.refreshEnd k c p =
    if (s.refreshOf k c p).due ∨ (s.refreshOf k c p).management
      then (s.setRefresh k c p { s.refreshOf k c p with running := false }).boundary k c p
      else (s.modAwns fun a => { a with refresh := adel a.refresh (bpKey k c p) }).boundary k c p := by
  simp only [State.refreshEnd, running, Bool.not_true, Bool.false_eq_true, if_false]

end

/-! ## Every case -/

/-- A stripe whose tag runs: what it leaves on its bank pair and stack, in each case of the statement. -/
theorem exec_stripeEnd_running {s a b t : State} {tag : BitVec 32} {r : StripeResult} {x : Stripe}
    (running : (s.awns.stripes.find? fun y => y.tag == tag.toNat) = some x) (off : a = s.stripeOff tag.toNat)
    (errors : ∀ (w : Bool) (d : State), a.takeInject (0x100 + x.stack) x.awn 2 = (w, d) →
      b = (if r.corrected || w then d.arrayCe x.inp.slot (!r.corrected) else d).linkOff (0x100 + x.stack) x.awn)
    (made : t = if r.uncorrected then b.arrayUe x.inp.slot false else b) :
    Sys2Proof.Machine.exec (.stripeEnd tag r) s = .next (s.sealed
      ((((t.stripeEnded tag.toNat x r).freeTag tag.toNat).boundary x.stack x.ch x.bp).pump x.stack)) := by
  have met : (s.stripeOff tag.toNat).stripeErrors x r = t := by
    rw [← off, stripeErrors_eq rfl, ← errors _ _ rfl, made]
  rw [exec_stripeEnd, stripeEnd_running running, met]

/-- Settles O32: a stripe's end by the cases of its result, a slot by its definition, and a refresh by what runs on its bank pair. -/
theorem stripesAndRefresh : Obligations.StripesAndRefresh := by
  refine ⟨⟨fun s tag r => ⟨fun idle => ?_, fun x a b t running off errors made =>
      ⟨t.stripeEnded tag.toNat x r, exec_stripeEnd_running running off errors made, stripeEnded_dead, fun it owned =>
        ⟨stripeEnded_uncorrected owned, stripeEnded_writes owned, ?_⟩⟩⟩, ?_⟩, ?_⟩
  · rw [exec_stripeEnd, stripeEnd_idle idle]
  · rintro inj off d v w tr noUe scores inject check made again
    obtain rfl : tr = v.scoreTrailer x it r inj off := made
    obtain rfl : w = v.endRerun x := again
    rw [stripeEnded_scores owned noUe scores]
    refine ⟨fun abft residue crc => ?_, fun fails => ?_⟩
    · rw [scoreEnd_passed inject check ((trailerOk_iff _ _).2 ⟨abft, residue, crc⟩)]
      exact ⟨fun shared => by rw [shared, if_neg Bool.false_ne_true], fun strict => by rw [strict, if_pos rfl]⟩
    · refine scoreEnd_failed inject check (Bool.eq_false_iff.2 fun ok => ?_)
      obtain ⟨abft, residue, crc⟩ := (trailerOk_iff _ _).1 ok
      simp [abft, residue, crc] at fails
  · intro s stack i mine takes
    obtain rfl : mine = _ := funext takes
    rfl
  · rintro s bp k c p r rfl rfl rfl rfl
    refine ⟨fun busy => ⟨fun t made => ?_, ?_⟩, fun free running => ⟨?_, ?_⟩, fun free idle => ⟨?_, ?_⟩, fun idle => ?_,
      fun running waiting => ?_, fun running noDue noManagement => ?_⟩
    · rw [exec_refreshDue, refreshDue_busy busy, postpone_refresh, ← made]
      exact ⟨fun first => by rw [if_pos first], fun again => by rw [if_neg again]⟩
    · rw [exec_refreshManagement, refreshManagement_busy busy, postpone_management]
    · rw [exec_refreshDue, refreshDue_running false free running]
      simp
    · rw [exec_refreshManagement, refreshDue_running true free running]
      simp
    · rw [exec_refreshDue, refreshDue_idle false free idle]
    · rw [exec_refreshManagement, refreshDue_idle true free idle]
    · rw [exec_refreshDone, refreshEnd_idle idle]
    · rw [exec_refreshDone, refreshEnd_running running, if_pos waiting]
    · rw [exec_refreshDone, refreshEnd_running running, if_neg (by simp [noDue, noManagement])]

end Sys2Proof.Machine
end

section
/-! SUPPORT. Sweeps of the checkers, and checkers that are late (R79, R87, R95, R96, R152, R155, R333, R334, R345). -/

namespace Sys2Proof.Machine

theorem exec_sweep (s : State) (u : BitVec 32) (r : SweepResult) :
    Sys2Proof.Machine.exec (.sweep u r) s = .next (s.sealed (s.sweepAwn u.toNat r)) := rfl

theorem exec_tileSweep (s : State) (k : BitVec 7) (r : SweepResult) :
    Sys2Proof.Machine.exec (.tileSweep k r) s = .next (s.sealed (s.sweepTile k.toNat r)) := rfl

theorem exec_checkerSweep (s : State) (c : Checker) (r : SweepResult) :
    Sys2Proof.Machine.exec (.checkerSweep c r) s = .next (s.sealed (s.sweepChecker (checkerNo c) r)) := rfl

theorem exec_checkerLate (s : State) (u : LateUnit) :
    Sys2Proof.Machine.exec (.checkerLate u) s = .next (s.sealed (s.late u)) := rfl

/-! ## What a sweep finds (R87, R345) -/

section
variable {r : SweepResult} {inj : Bool}

/-- A sweep passes where both its halves do and none of its checks has been disabled. -/
theorem sweepPasses_iff : (sweepOk r && !inj) = true ↔ r = ⟨true, true⟩ ∧ inj = false := by
  cases r
  simp [sweepOk]

theorem sweepPasses (good : r = ⟨true, true⟩) (enabled : inj = false) : (sweepOk r && !inj) = true :=
  sweepPasses_iff.2 ⟨good, enabled⟩

theorem sweepFails (bad : r ≠ ⟨true, true⟩ ∨ inj = true) : ¬ (sweepOk r && !inj) = true := by
  rw [sweepPasses_iff, not_and_or, Bool.not_eq_false]
  exact bad

variable {s t : State} {u k : Nat}

theorem sweepAwn_waits (waits : awnExists u = false ∨ (s.awn u).st = 2 ∨ s.sweepRuns u = false) : s.sweepAwn u r = s := by
  refine if_pos ?_
  simpa only [Bool.not_eq_true'] using waits

theorem sweepAwn_runs (unit : awnExists u = true) (works : (s.awn u).st ≠ 2) (runs : s.sweepRuns u = true)
    (disabled : s.sweepOff (0x100 + uStack u) u = (inj, t)) : s.sweepAwn u r =
      if sweepOk r && !inj then t else t.raise 0x05 (0x100 + uStack u) u none [] inj fun l t => t.sweptAwn u l inj := by
  rw [State.sweepAwn, if_neg (by simp [unit, works, runs])]
  dsimp only
  rw [disabled]

theorem sweepTile_waits (waits : 72 ≤ k ∨ (s.tile k).st = 2 ∨ s.tileSweeps k = false) : s.sweepTile k r = s := by
  refine if_pos ?_
  simpa only [Bool.not_eq_true'] using waits

/-- A tile after its sweep, whose granule is being cleared. -/
def State.sweptGranule (s : State) (k : Nat) : State := s.modTile k fun x => { x with free := x.free - 1, zeroing := x.zeroing + 1 }

theorem sweepTile_runs (tile : k < 72) (works : (s.tile k).st ≠ 2) (runs : s.tileSweeps k = true) (disabled : s.sweepOff k k = (inj, t)) :
    s.sweepTile k r = if sweepOk r && !inj then t.sweptGranule k
      else (t.sweptGranule k).raise 0x07 k k none [] inj fun l x => x.sweptTile k l inj := by
  rw [State.sweepTile, if_neg (by simp [works, runs, tile]), disabled]
  rfl

theorem sweepChecker_eq (disabled : s.sweepOff (checkerIsland k) k = (inj, t)) : s.sweepChecker k r =
    if sweepOk r && !inj then t.modFaults fun q => { q with late := q.late.filter (· ≠ k) } else t.checkerDown k inj := by
  rw [State.sweepChecker, disabled]

end

/-! ## Late checkers (R334) -/

section
variable {s : State} {k : Nat} {inj : Bool}

theorem checkerDown_again (late : k ∈ s.faults.late) : s.checkerDown k inj = s := if_pos (List.contains_iff_mem.2 late)

theorem checkerDown_first (first : k ∉ s.faults.late) : s.checkerDown k inj =
    (s.bump 0x8000 0x10).raise 0x13 (checkerIsland k) k none [] inj fun _ t =>
      t.modFaults fun q => { q with late := q.late ++ [k] } := if_neg (mt List.contains_iff_mem.1 first)

theorem late_awn_works {u : BitVec 32} (unit : awnExists u.toNat = true) (works : (s.awn u.toNat).st ≠ 2) : s.late (.awn u) =
    (s.bump 0x8000 0x10).raise 0x13 (0x100 + uStack u.toNat) u.toNat none [] false fun _ t => t.retireAwn u.toNat :=
  if_neg (by simp [unit, works])

theorem late_awn_retired {u : BitVec 32} (none : awnExists u.toNat = false ∨ (s.awn u.toNat).st = 2) : s.late (.awn u) = s := by
  refine if_pos ?_
  simpa only [Bool.not_eq_true'] using none

theorem late_tile_works {t : BitVec 7} (tile : t.toNat < 72) (works : (s.tile t.toNat).st ≠ 2) : s.late (.tile t) =
    (s.bump 0x8000 0x10).raise 0x13 t.toNat t.toNat none [] false fun _ x => x.retireTile t.toNat :=
  if_neg (by simp [works, tile])

theorem late_tile_retired {t : BitVec 7} (none : 72 ≤ t.toNat ∨ (s.tile t.toNat).st = 2) : s.late (.tile t) = s := if_pos none

theorem late_shared {c : Checker} : s.late (.shared c) = s.checkerDown (checkerNo c) false := rfl

end

/-- Settles O33: each sweep waits, passes or fails; each late unit is down for the first time or is down already. -/
theorem sweepsTestTheCheckers : Obligations.SweepsTestTheCheckers := by
  refine ⟨fun s t u r inj disabled => ⟨fun waits => ?_, fun unit works runs => ?_⟩,
    ?_, fun s t c r inj disabled => ⟨fun good enabled => ?_, fun bad => ⟨fun again => ?_, fun first => ?_⟩⟩,
    fun s => ⟨fun u => ⟨fun unit works => ?_, fun retired => ?_⟩, fun k => ⟨fun tile works => ?_, fun retired => ?_⟩,
      fun c => ⟨fun first => ?_, fun again => ?_⟩⟩⟩
  · rw [exec_sweep, sweepAwn_waits waits]
  · rw [exec_sweep, sweepAwn_runs unit works runs disabled]
    exact ⟨fun good enabled => by rw [if_pos (sweepPasses good enabled)], fun bad => by rw [if_neg (sweepFails bad)]; rfl⟩
  · rintro s t _ k r inj disabled rfl
    refine ⟨fun waits => ?_, fun tile works runs => ?_⟩ <;> rw [exec_tileSweep]
    · rw [sweepTile_waits waits]
    · rw [sweepTile_runs tile works runs disabled]
      exact ⟨fun good enabled => by rw [if_pos (sweepPasses good enabled)]; rfl, fun bad => by rw [if_neg (sweepFails bad)]; rfl⟩
  · rw [exec_checkerSweep, sweepChecker_eq disabled, if_pos (sweepPasses good enabled)]
  · rw [exec_checkerSweep, sweepChecker_eq disabled, if_neg (sweepFails bad), checkerDown_again again]
  · rw [exec_checkerSweep, sweepChecker_eq disabled, if_neg (sweepFails bad), checkerDown_first first]
  · rw [exec_checkerLate, late_awn_works unit works]
  · rw [exec_checkerLate, late_awn_retired retired]
  · rw [exec_checkerLate, late_tile_works tile works]
  · rw [exec_checkerLate, late_tile_retired retired]
  · rw [exec_checkerLate, late_shared, checkerDown_first first]
  · rw [exec_checkerLate, late_shared, checkerDown_again again]

end Sys2Proof.Machine
end

section
/-! SUPPORT. Spare awns, tiles and channels taking over (R104, R106, R107, R157, R158), and a NARROW's admission, target and commit (R48,
R51, R76, R89). -/

namespace Sys2Proof.Machine

theorem exec_spareMap_awn (s : State) (u : BitVec 32) :
    Sys2Proof.Machine.exec (.spareMap (.awn u)) s = .next (s.sealed ((s.mapAwn u.toNat).pump (uStack u.toNat))) := rfl

theorem exec_spareMap_tile (s : State) (k : BitVec 7) :
    Sys2Proof.Machine.exec (.spareMap (.tile k)) s = .next (s.sealed (s.mapTile k.toNat)) := rfl

theorem exec_channelCopySwitch (s : State) (stack : BitVec 4) (ch : BitVec 5) :
    Sys2Proof.Machine.exec (.channelCopySwitch stack ch) s = .next (s.sealed (s.switchChan stack.toNat ch.toNat)) := rfl

theorem exec_recodeNarrow (s : State) (d : BitVec 12) (id : BitVec 64) (pl : BitVec 13) (o : BitVec 32) :
    Sys2Proof.Machine.exec (.recodeNarrow d id pl o) s = .next (s.sealed (s.runNarrow d.toNat id pl.toNat o.toNat)) := rfl

/-! ## Awns (R104, R107) -/

section
variable {s : State} {u bp a : Nat}

/-- A stripe runs at one of the bank pairs that an awn serves. -/
def State.awnPairsBusy (s : State) (u : Nat) : Bool :=
  match s.logChan (uStack u) (uChan u) with
  | some l => s.bpBusy (uStack u) l (s.awn u).servesA || s.bpBusy (uStack u) l (s.awn u).servesB
  | none => false

theorem awnPairsBusy_iff : s.awnPairsBusy u = true ↔ ∃ l, s.logChan (uStack u) (uChan u) = some l
    ∧ (s.bpBusy (uStack u) l (s.awn u).servesA = true ∨ s.bpBusy (uStack u) l (s.awn u).servesB = true) := by
  unfold State.awnPairsBusy
  cases s.logChan (uStack u) (uChan u) <;> simp

theorem mapAwn_eq : s.mapAwn u = if (s.awn u).st ≠ 2 ∨ s.awnPairsBusy u = true then s
    else ((s.modAwn u fun y => { y with servesA := 63, servesB := 63, borrowed := false }).mapPair u (s.awn u).servesA).mapPair u
      (s.awn u).servesB := rfl

theorem mapAwn_waits (waits : (s.awn u).st ≠ 2 ∨ s.awnPairsBusy u = true) : s.mapAwn u = s := if_pos waits

theorem mapAwn_retired (retired : (s.awn u).st = 2) (free : s.awnPairsBusy u = false) : s.mapAwn u =
    ((s.modAwn u fun y => { y with servesA := 63, servesB := 63, borrowed := false }).mapPair u (s.awn u).servesA).mapPair u
      (s.awn u).servesB := by
  rw [mapAwn_eq, if_neg (by simp [retired, free])]

theorem mapPair_none : s.mapPair u 63 = s := by
  simp only [State.mapPair, if_true]

theorem mapPair_spare (pair : bp ≠ 63) (idle : (s.awn (awnUnit (uStack u) (uChan u) (32 + awnGroup (uAwn u)))).st = 1) :
    s.mapPair u bp = s.modAwn (awnUnit (uStack u) (uChan u) (32 + awnGroup (uAwn u))) fun x => { x with st := 0, servesA := bp } := by
  simp only [State.mapPair, pair, idle, if_false, if_true]

/-- The lowest working awn of a retired awn's group that serves only its own bank pair (R104). -/
def State.lender (s : State) (u : Nat) : Option Nat :=
  (s.groupWorking (uStack u) (uChan u) (awnGroup (uAwn u))).find? fun a => (s.awn (awnUnit (uStack u) (uChan u) a)).servesB == 63

/-- A bank pair lent to an awn of a retired awn's group. -/
def State.lend (s : State) (u bp a : Nat) : State :=
  s.modAwn (awnUnit (uStack u) (uChan u) a) fun x => { x with borrowed := true, servesB := bp }

theorem mapPair_unlent (pair : bp ≠ 63) (busy : (s.awn (awnUnit (uStack u) (uChan u) (32 + awnGroup (uAwn u)))).st ≠ 1)
    (none : s.lender u = none) : s.mapPair u bp = s := by
  unfold State.lender at none
  simp only [State.mapPair, pair, busy, none, if_false]

theorem mapPair_lent (pair : bp ≠ 63) (busy : (s.awn (awnUnit (uStack u) (uChan u) (32 + awnGroup (uAwn u)))).st ≠ 1)
    (found : s.lender u = some a) : s.mapPair u bp =
      if (groupAwns (awnGroup (uAwn u))).any fun b => (s.awn (awnUnit (uStack u) (uChan u) b)).borrowed then s.lend u bp a
      else (s.lend u bp a).note 0x0103 none (0x100 + uStack u) u
        [(s.groupWorking (uStack u) (uChan u) (awnGroup (uAwn u))).length] := by
  unfold State.lender at found
  simp only [State.mapPair, pair, busy, found, if_false]
  cases (groupAwns (awnGroup (uAwn u))).any fun b => (s.awn (awnUnit (uStack u) (uChan u) b)).borrowed <;> rfl

end

/-! ## Tiles and channels (R106, R157, R158) -/

section
variable {s : State} {k l p stack ch : Nat}

theorem mapTile_unretired (none : (s.tile k).logical = none ∨ (s.tile k).st ≠ 2) : s.mapTile k = s := by
  unfold State.mapTile
  split
  · rfl
  · next l number =>
    refine if_pos (none.resolve_left ?_)
    rw [number]
    exact Option.some_ne_none l

/-- A retired tile's logical number taken from it. -/
def State.unnumber (s : State) (k : Nat) : State := s.modTile k fun x => { x with logical := none }

theorem mapTile_spare (number : (s.tile k).logical = some l) (retired : (s.tile k).st = 2) (spare : s.spareTile k = some p) :
    s.mapTile k = ((s.unnumber k).modTile p fun x => { x with st := 0, logical := some l }).modTiles fun q =>
      { q with groupMap := q.groupMap.set l p } := by
  simp only [State.mapTile, number, retired, spare, ne_eq, not_true_eq_false, if_false]
  rfl

theorem mapTile_degraded (number : (s.tile k).logical = some l) (retired : (s.tile k).st = 2) (spare : s.spareTile k = none) :
    s.mapTile k = ((s.unnumber k).modTiles fun q => { q with groupMap := q.groupMap.set l 255 }).note 0x0105 none k k [l / 4] := by
  simp only [State.mapTile, number, retired, spare, ne_eq, not_true_eq_false, if_false]
  rfl

theorem switchChan_copied {c : Nat × Nat × Nat} (copied : (s.awns.chanCopies.find? fun c => c.1 == stack && c.2.1 == ch) = some c)
    (free : s.chanBusy stack ch = false) : s.switchChan stack ch =
      (s.modAwns fun a => { a with chanDead := a.chanDead ++ [(stack, s.physChan stack ch)] }).mapChan stack ch c.2.2 := by
  simp only [State.switchChan, copied, free, Bool.false_eq_true, if_false]

theorem switchChan_waits (waits : s.chanBusy stack ch = true ∨ ∀ c ∈ s.awns.chanCopies, ¬ (c.1 = stack ∧ c.2.1 = ch)) :
    s.switchChan stack ch = s := by
  unfold State.switchChan
  split
  · next c copied =>
    refine if_pos (waits.resolve_right fun none => none c (List.mem_of_find?_eq_some copied) ?_)
    simpa using List.find?_some copied
  · rfl

end

/-! ## NARROW (R48, R51, R76, R89) -/

section
variable {s t : State} {d pl o p n : Nat} {id : BitVec 64} {c c2 : Cmd} {x : PageEntry} {f : Fail}

/-- The node with a NARROW in its table, its descriptor not yet read. -/
def State.narrowing (s : State) (c : Cmd) : State := s.insertCmd { c with desc := 0 }

theorem runNarrow_down (down : s.alive = false) : s.runNarrow d id pl o = s := by
  simp only [State.runNarrow, down, Bool.not_false, if_true]

theorem runNarrow_refused (up : s.alive = true)
    (refused : (s.narrowing (s.narrowCmd d id pl o)).reserveNarrow (s.narrowCmd d id pl o) = .error f) :
    s.runNarrow d id pl o = s.recodeDone (s.narrowCmd d id pl o) f := by
  unfold State.narrowing at refused
  simp only [State.runNarrow, up, refused, Bool.not_true, Bool.false_eq_true, if_false]

theorem runNarrow_admitted (up : s.alive = true)
    (admitted : (s.narrowing (s.narrowCmd d id pl o)).reserveNarrow (s.narrowCmd d id pl o) = .ok (t, c2)) :
    s.runNarrow d id pl o =
      (((t.setCmd c2).progress (s.narrowCmd d id pl o).id).runCmd (s.narrowCmd d id pl o).id).lowCheck := by
  unfold State.narrowing at admitted
  simp only [State.runNarrow, up, admitted, Bool.not_true, Bool.false_eq_true, if_false]

section
variable (target : s.narrowTarget c = .ok (p, x))
include target

theorem reserveNarrow_quota (full : s.num 0x3200 1 c.dom ≤ s.slotsHeld c.dom) : s.reserveNarrow c = .error ⟨stNoPage, 2, 0, 0⟩ := by
  simp only [State.reserveNarrow, target, full, if_true]

variable (room : s.slotsHeld c.dom < s.num 0x3200 1 c.dom)
include room

theorem reserveNarrow_noSlot
    (none : s.grantOk c.dom = false ∨ s.freeIn (slotStack x.loc) (slotChan x.loc) (slotBp x.loc) = none) :
    s.reserveNarrow c = .error ⟨stNoPage, 1, 0, 0⟩ := by
  have noSlot : (if s.grantOk c.dom then s.freeIn (slotStack x.loc) (slotChan x.loc) (slotBp x.loc) else .none) = .none := by
    rcases none with grant | free
    · rw [grant, if_neg Bool.false_ne_true]
    · rw [free, ite_self]
  simp only [State.reserveNarrow, target, room.not_ge, noSlot, if_false]

variable (grant : s.grantOk c.dom = true) (free : s.freeIn (slotStack x.loc) (slotChan x.loc) (slotBp x.loc) = some n)
include grant free

theorem reserveNarrow_own (own : x.refs ≤ 1) : s.reserveNarrow c = .ok (s.setUse n (.reserved c.id),
    { c with seq := some (sidIndex (dSeq c.desc)), jobs := [{ page := p, slot := some n, done := true }] }) := by
  simp only [State.reserveNarrow, target, room.not_ge, grant, free, own, if_false, if_true]

theorem reserveNarrow_mapQuota (shared : 1 < x.refs) (full : s.num 0x7120 8 c.dom ≤ s.mapHeld c.dom) :
    s.reserveNarrow c = .error ⟨stNoPage, 2, 0, 0⟩ := by
  simp only [State.reserveNarrow, target, room.not_ge, grant, free, shared.not_ge, full, if_false, if_true]

theorem reserveNarrow_noEntry (shared : 1 < x.refs) (entries : s.mapHeld c.dom < s.num 0x7120 8 c.dom)
    (none : (s.setUse n (.reserved c.id)).nextPage = none) : s.reserveNarrow c = .error ⟨stNoPage, 3, 0, 0⟩ := by
  simp only [State.reserveNarrow, target, room.not_ge, grant, free, shared.not_ge, entries.not_ge, none, if_false, if_true]

end

/-- A page of one sequence moves to the target with its narrowed data. -/
theorem commitNarrow_own {j : PageJob} {g : Nat} (target : s.narrowTarget c = .ok (p, x)) (job : c.jobs.head? = some j)
    (same : j.page = p) (own : x.refs ≤ 1) (narrower : narrowTo (s.slotData x.loc).format = some g) :
    s.commitNarrow c = (((((s.setPage p { x with loc := j.slot.getD 0 }).setSlot (j.slot.getD 0)
      (((s.slotData x.loc).narrow s.pr g).touch)).setUse (j.slot.getD 0) (.page p)).queueScrub x.loc
        ((s.readersOf p).filter (· ≠ c.id))).endOk c 0 0 0) := by
  simp only [State.commitNarrow, target, job, same, own, narrower, ne_eq, not_true_eq_false, if_false, if_true, Option.getD_some]

end

/-- Settles O35: each bank pair, tile and channel goes to its spare, is lent or waits; a NARROW by its admission, target and commit. -/
theorem sparesAndNarrowing : Obligations.SparesAndNarrowing := by
  refine ⟨?_, ?_, fun s k => ⟨fun none => ?_, ?_⟩, fun s stack ch => ⟨fun c copied free => ?_, fun waits => ?_⟩, ?_,
    fun s c p n x target => ⟨reserveNarrow_quota target, fun room => ⟨reserveNarrow_noSlot target room, fun grant free =>
      ⟨reserveNarrow_own target room grant free, reserveNarrow_mapQuota target room grant free,
        reserveNarrow_noEntry target room grant free⟩⟩⟩,
    fun s c p f x j => commitNarrow_own⟩
  · rintro s u x rfl
    refine ⟨fun waits => ?_, fun retired free => ?_⟩ <;> rw [exec_spareMap_awn]
    · rw [mapAwn_waits (waits.imp_right awnPairsBusy_iff.2)]
    · rw [mapAwn_retired retired]
      refine Bool.eq_false_iff.2 fun busy => ?_
      obtain ⟨l, channel, served⟩ := awnPairsBusy_iff.1 busy
      simp [free l channel] at served
  · rintro s u bp sp rfl
    refine ⟨?_, mapPair_spare, ?_⟩
    · rintro rfl
      exact mapPair_none
    · rintro pair busy w rfl
      refine ⟨fun full => mapPair_unlent pair busy (by simpa [State.lender] using full), ?_⟩
      rintro a t found rfl
      rw [mapPair_lent pair busy found]
      exact ⟨fun again => if_pos (by simpa using again), fun first => if_neg (by simpa using first)⟩
  · rw [exec_spareMap_tile, mapTile_unretired none]
  · rintro l t number retired rfl
    refine ⟨fun p spare => ?_, fun none => ?_⟩ <;> rw [exec_spareMap_tile]
    · rw [mapTile_spare number retired spare]
      rfl
    · rw [mapTile_degraded number retired none]
      rfl
  · rw [exec_channelCopySwitch, switchChan_copied copied free]
  · rw [exec_channelCopySwitch, switchChan_waits waits]
  · rintro s d id pl o c t rfl rfl
    refine ⟨fun down => ?_, fun up => ⟨fun f refused => ?_, fun u c2 admitted => ?_⟩⟩ <;> rw [exec_recodeNarrow]
    · rw [runNarrow_down down]
    · rw [runNarrow_refused up refused]
    · rw [runNarrow_admitted up admitted]

end Sys2Proof.Machine
end

section
/-! SUPPORT. FAULT_EVENT (R86, R97, R153, R154, R322, R323, R327, R334, R348): what each source that an island reports comes to. -/

namespace Sys2Proof.Machine

theorem exec_faultEvent (s : State) (f : FaultIn) : Sys2Proof.Machine.exec (.faultEvent f) s = .next (s.sealed (s.faultEvent f)) := rfl

theorem faultEvent_down {s : State} {f : FaultIn} (down : s.romUp = false) : s.faultEvent f = s := by
  simp only [State.faultEvent, down, Bool.not_false, if_true]

/-! ## By source (R322) -/

section
variable {s : State} {f : FaultIn} (up : s.romUp = true)
include up

theorem faultEvent_reported
    (src : f.source = .linkCe ∨ f.source = .tableUe ∨ f.source = .powerFault ∨ f.source = .collector ∨ f.source = .mgmtImage) :
    s.faultEvent f = s.raiseIn f fun _ t => t := by
  rcases src with src | src | src | src | src <;>
    simp only [State.faultEvent, up, src, Bool.not_true, Bool.false_eq_true, if_false]

theorem faultEvent_noSlot (src : f.source = .arrayCe ∨ f.source = .arrayUe ∨ f.source = .pageCrc) (none : f.slot = none) :
    s.faultEvent f = s.raiseIn f fun _ t => t := by
  rcases src with src | src | src <;>
    simp only [State.faultEvent, up, src, none, Bool.not_true, Bool.false_eq_true, if_false]

theorem faultEvent_arrayCe {n : BitVec 25} (src : f.source = .arrayCe) (slot : f.slot = some n) :
    s.faultEvent f = s.arrayCe n.toNat f.injected := by
  simp only [State.faultEvent, up, src, slot, Bool.not_true, Bool.false_eq_true, if_false]

theorem faultEvent_arrayUe {n : BitVec 25} (src : f.source = .arrayUe) (slot : f.slot = some n) :
    s.faultEvent f = s.arrayUe n.toNat f.injected := by
  simp only [State.faultEvent, up, src, slot, Bool.not_true, Bool.false_eq_true, if_false]

theorem faultEvent_pageCrc {n : BitVec 25} (src : f.source = .pageCrc) (slot : f.slot = some n) :
    s.faultEvent f = s.pageCrc n.toNat f.injected := by
  simp only [State.faultEvent, up, src, slot, Bool.not_true, Bool.false_eq_true, if_false]

theorem faultEvent_noChan (src : f.source = .channelPredict ∨ f.source = .channelLoss) (none : s.faultChan f = none) :
    s.faultEvent f = s.raiseIn f fun _ t => t := by
  rcases src with src | src <;>
    simp only [State.faultEvent, up, src, none, Bool.not_true, Bool.false_eq_true, if_false]

theorem faultEvent_channelPredict {a b : Nat} (src : f.source = .channelPredict) (chan : s.faultChan f = some (a, b)) :
    s.faultEvent f = s.raiseIn f fun _ t => t.predictChan a b := by
  simp only [State.faultEvent, up, src, chan, Bool.not_true, Bool.false_eq_true, if_false]

theorem faultEvent_channelLoss {a b : Nat} (src : f.source = .channelLoss) (chan : s.faultChan f = some (a, b)) :
    s.faultEvent f = s.raiseIn f fun _ t => (t.loseChan a b).lowCheck := by
  simp only [State.faultEvent, up, src, chan, Bool.not_true, Bool.false_eq_true, if_false]

theorem faultEvent_awnCheck (src : f.source = .awnCheck) : s.faultEvent f = s.awnFault f := by
  simp only [State.faultEvent, up, src, Bool.not_true, Bool.false_eq_true, if_false]

theorem faultEvent_awnSweep (src : f.source = .awnSweep) : s.faultEvent f =
    s.raiseIn f fun l t => if awnExists f.unit.toNat then t.sweptAwn f.unit.toNat l f.injected else t := by
  simp only [State.faultEvent, up, src, Bool.not_true, Bool.false_eq_true, if_false]

theorem faultEvent_tile (src : f.source = .tileCheck ∨ f.source = .outputCrc) : s.faultEvent f = s.tileFault f := by
  rcases src with src | src <;> simp only [State.faultEvent, up, src, Bool.not_true, Bool.false_eq_true, if_false]

theorem faultEvent_tileSweep (src : f.source = .tileSweep) : s.faultEvent f =
    s.raiseIn f fun l t => if f.island.toNat < 72 then t.sweptTile f.island.toNat l f.injected else t := by
  simp only [State.faultEvent, up, src, Bool.not_true, Bool.false_eq_true, if_false]

theorem faultEvent_sramCe (src : f.source = .sramCe) : s.faultEvent f = s.sramCe f := by
  simp only [State.faultEvent, up, src, Bool.not_true, Bool.false_eq_true, if_false]

theorem faultEvent_sramUe (src : f.source = .sramUe) : s.faultEvent f = s.sramUe f := by
  simp only [State.faultEvent, up, src, Bool.not_true, Bool.false_eq_true, if_false]

theorem faultEvent_identity (src : f.source = .identity) : s.faultEvent f = s.identityFault f := by
  simp only [State.faultEvent, up, src, Bool.not_true, Bool.false_eq_true, if_false]

theorem faultEvent_coverage (src : f.source = .coverage) : s.faultEvent f = s.coverageFault f := by
  simp only [State.faultEvent, up, src, Bool.not_true, Bool.false_eq_true, if_false]

theorem faultEvent_linkUe (src : f.source = .linkUe) : s.faultEvent f = s.linkFault f := by
  simp only [State.faultEvent, up, src, Bool.not_true, Bool.false_eq_true, if_false]

theorem faultEvent_noEntry (src : f.source = .indexDigest) (none : aget s.index.entries f.unit.toNat = none) :
    s.faultEvent f = s.raiseIn f fun _ t => t := by
  simp only [State.faultEvent, up, src, none, Bool.not_true, Bool.false_eq_true, if_false]

theorem faultEvent_entry (src : f.source = .indexDigest) (entry : aget s.index.entries f.unit.toNat ≠ none) :
    s.faultEvent f = s.quarantine f.unit.toNat f.injected := by
  obtain ⟨x, found⟩ := Option.ne_none_iff_exists'.1 entry
  simp only [State.faultEvent, up, src, found, Bool.not_true, Bool.false_eq_true, if_false]

theorem faultEvent_domainStateUe (src : f.source = .domainStateUe) : s.faultEvent f = s.domainFault f := by
  simp only [State.faultEvent, up, src, Bool.not_true, Bool.false_eq_true, if_false]

theorem faultEvent_checkerLate (src : f.source = .checkerLate) : s.faultEvent f = s.lateFault f := by
  simp only [State.faultEvent, up, src, Bool.not_true, Bool.false_eq_true, if_false]

theorem faultEvent_clockIsland (src : f.source = .clockIsland) : s.faultEvent f = s.clockFault f.island.toNat f.injected := by
  simp only [State.faultEvent, up, src, Bool.not_true, Bool.false_eq_true, if_false]

theorem faultEvent_hostLink (src : f.source = .hostLink) : s.faultEvent f = s.hostLinkFault f.injected := by
  simp only [State.faultEvent, up, src, Bool.not_true, Bool.false_eq_true, if_false]

theorem faultEvent_mgmtHang (src : f.source = .mgmtHang) : s.faultEvent f =
    if s.mgmtUp then (s.raiseIn f fun _ t => t).restartAll 0 true else s.raiseIn f fun _ t => t := by
  simp only [State.faultEvent, up, src, Bool.not_true, Bool.false_eq_true, if_false]

theorem faultEvent_mgmtStorm (src : f.source = .mgmtStorm) : s.faultEvent f =
    if s.boot.st = .running then s.storm else s.raiseIn f fun _ t => t := by
  simp only [State.faultEvent, up, src, Bool.not_true, Bool.false_eq_true, if_false]

theorem faultEvent_thermalCrit (src : f.source = .thermalCrit) : s.faultEvent f =
    (s.raiseIn f fun _ t => t.modTherm fun x => { x with crit := true }).thermPin := by
  simp only [State.faultEvent, up, src, Bool.not_true, Bool.false_eq_true, if_false]

end

/-! ## Containment of the sources with cases of their own (R86, R153, R154, R323, R331, R332) -/

section
variable {s : State} {f : FaultIn}

/-- The running stripe that a failed awn check names. -/
def State.stripeNamed (s : State) (f : FaultIn) : Option Stripe :=
  s.awns.stripes.find? fun x => some (stripeItem x.tag) == f.tag.map BitVec.toNat && x.awn == f.unit.toNat

theorem awnFault_noStripe (none : s.stripeNamed f = none) : s.awnFault f =
    if awnExists f.unit.toNat then s.raiseIn f fun l t => t.detectAwn f.unit.toNat l f.injected else s.raiseIn f fun _ t => t := by
  unfold State.stripeNamed at none
  simp only [State.awnFault, none]

theorem awnFault_stripe {x : Stripe} (named : s.stripeNamed f = some x) : s.awnFault f =
    (((((s.stripeOff x.tag).stripeFails x true true f.injected).freeTag x.tag).boundary x.stack x.ch x.bp).pump x.stack) := by
  unfold State.stripeNamed at named
  simp only [State.awnFault, named]
  rfl

theorem tileFault_item {it : Item} (named : s.itemOf f = some it) (none : s.collectsHit f = []) :
    s.tileFault f = s.tileFails (srcId f.source) it f.injected := by
  simp only [State.tileFault, named, none]

/-- The collections that a fault hits, failed where it names an item. -/
def State.failCollects (f : FaultIn) (sets : List Collect) (t : State) : State :=
  if f.tag.isSome then sets.foldl (fun u c => u.collectFails c) t else t

theorem tileFault_sets (noItem : s.itemOf f = none ∨ s.collectsHit f ≠ []) : s.tileFault f = s.raiseIn f fun l t =>
    if f.island.toNat < 72 then (State.failCollects f (s.collectsHit f) t).detectTile f.island.toNat l f.injected
    else State.failCollects f (s.collectsHit f) t := by
  unfold State.tileFault
  dsimp only
  split
  · next it named none => simp [named, none] at noItem
  · rfl

/-- The items that an uncorrected SRAM error kills: none of the constant store, the named one of its tile, or all of its tile. -/
def State.sramItems (s : State) (f : FaultIn) : List Item :=
  if f.constStore then [] else match f.tag with
    | some _ => ((s.itemOf f).filter fun it => s.physTile it.tile == f.island.toNat).toList
    | none => if f.island.toNat < 72 then s.itemsOn f.island.toNat else []

theorem eq_sramItems {hit : List Item} (const : f.constStore = true → hit = [])
    (named : f.constStore = false → f.tag ≠ none →
      hit = ((s.itemOf f).filter fun it => s.physTile it.tile == f.island.toNat).toList)
    (unnamed : f.constStore = false → f.tag = none → hit = if f.island.toNat < 72 then s.itemsOn f.island.toNat else []) :
    hit = s.sramItems f := by
  unfold State.sramItems
  split
  · next store => exact const store
  · next store =>
    split
    · next t tag => exact named (Bool.eq_false_iff.2 store) (tag ▸ Option.some_ne_none t)
    · next tag => exact unnamed (Bool.eq_false_iff.2 store) tag

/-- The collections that an uncorrected SRAM error hits. -/
def State.sramSets (s : State) (f : FaultIn) : List Collect := if f.constStore ∨ 72 ≤ f.island.toNat then [] else s.collectsHit f

theorem eq_sramSets {sets : List Collect} (const : f.constStore = true → sets = []) (noTile : 72 ≤ f.island.toNat → sets = [])
    (tile : f.constStore = false → f.island.toNat < 72 → sets = s.collectsHit f) : sets = s.sramSets f := by
  unfold State.sramSets
  split
  · next none => exact none.elim const noTile
  · next some =>
    rw [not_or, Bool.not_eq_true, not_le] at some
    exact tile some.1 some.2

/-- The row of an uncorrected SRAM error replaced, and what it held run once more. -/
def State.sramLost (hit : List Item) (sets : List Collect) (t : State) : State :=
  (sets.foldl (fun v c => v.collectFails c) (hit.foldl State.failsOnTile t)).repairRow

theorem sramUe_eq : s.sramUe f = (if f.island.toNat < 72 then s.bump 0xB100 0xA else s).raiseIn f fun l t =>
    if f.island.toNat < 72 then (State.sramLost (s.sramItems f) (s.sramSets f) t).detectTile f.island.toNat l f.injected
    else State.sramLost (s.sramItems f) (s.sramSets f) t := rfl

/-- A slot queued for the patrol, against no unit. -/
def State.suspectAt (slot : Option Nat) (t : State) : State :=
  match slot with
  | some n => t.modPages fun p => { p with suspects := p.suspects ++ [(n, noUnit)] }
  | none => t

theorem eq_suspectAt {slot : Option Nat} {mark : State → State} (none : slot = none → ∀ t, mark t = t)
    (some : ∀ n, slot = some n → ∀ t, mark t = t.modPages fun p => { p with suspects := p.suspects ++ [(n, noUnit)] }) :
    mark = State.suspectAt slot := by
  funext t
  cases slot with
  | none => exact none rfl t
  | some n => exact some n rfl t

/-- The item that an identity fault names fails, with the pages that it reads queued for the patrol. -/
def State.ownerFails (owner : Option Item) (t : State) : State :=
  match owner with
  | some it => (t.suspectPages it [noUnit]).failPart it.cmd
  | none => t

theorem eq_ownerFails {owner : Option Item} {own : State → State} (none : owner = none → ∀ t, own t = t)
    (some : ∀ it, owner = some it → ∀ t, own t = (t.suspectPages it [noUnit]).failPart it.cmd) : own = State.ownerFails owner := by
  funext t
  cases owner with
  | none => exact none rfl t
  | some it => exact some it rfl t

/-- The slot of a page that lies in HBM. -/
def State.faultSlot (s : State) (f : FaultIn) : Option Nat :=
  f.page.bind fun p => (s.page p.toNat).bind fun e => if e.inHbm then some e.loc else none

/-- The commands that use a page fail. -/
def State.failPageUsers (p : Nat) (t : State) : State :=
  ((t.sched.cmds.filter fun c => t.needsPage c p).map fun c => c.id).foldl (fun v id =>
    match v.cmd id with
    | some c => if c.jobs.any fun j => j.page == p && !j.done then v.tierFailed c stTierFail 3 p else v.failPart id
    | none => v) t

theorem identityFault_noPage (none : f.page = none) : s.identityFault f =
    s.raiseIn f fun _ t => (State.ownerFails (s.itemOf f) (State.suspectAt (s.faultSlot f) t)).wake := by
  simp only [State.identityFault, State.faultSlot, none]
  rfl

theorem identityFault_page {p : BitVec 25} (page : f.page = some p) : s.identityFault f =
    s.raiseIn f fun _ t =>
      (State.failPageUsers p.toNat (State.ownerFails (s.itemOf f) (State.suspectAt (s.faultSlot f) t))).wake := by
  simp only [State.identityFault, State.faultSlot, page]
  rfl

theorem coverageFault_noItem (none : s.itemNamed f = none) : s.coverageFault f = s.raiseIn f fun _ t => t := by
  simp only [State.coverageFault, none]

theorem coverageFault_item {it : Item} (named : s.itemNamed f = some it) :
    s.coverageFault f = s.raiseIn f fun _ t => t.setFails it it.tile [] := by
  simp only [State.coverageFault, named]

/-- The items with data on a link that failed. -/
def State.linkItems (s : State) (f : FaultIn) : List Item :=
  match f.tag with
  | some _ => (s.itemOf f).toList
  | none => if f.island.toNat < 72 then s.itemsOn f.island.toNat
    else if 0x100 ≤ f.island.toNat ∧ f.island.toNat < 0x10C then s.itemsOnStack (f.island.toNat - 0x100) else []

theorem eq_linkItems {hit : List Item} (named : f.tag ≠ none → hit = (s.itemOf f).toList)
    (unnamed : f.tag = none → hit = if f.island.toNat < 72 then s.itemsOn f.island.toNat
      else if 0x100 ≤ f.island.toNat ∧ f.island.toNat < 0x10C then s.itemsOnStack (f.island.toNat - 0x100) else []) :
    hit = s.linkItems f := by
  unfold State.linkItems
  split
  · next t tag => exact named (tag ▸ Option.some_ne_none t)
  · next tag => exact unnamed tag

theorem linkFault_eq : s.linkFault f = s.raiseIn f fun _ t => t.requeueAll (s.linkItems f) := rfl

/-- A damaged domain torn down. -/
def State.domDown (d : Nat) (t : State) : State := if t.domActive d then (t.teardown d).teardownDone d else t

theorem domainFault_none (none : f.dom = none) : s.domainFault f = s.raiseIn f fun _ t => t := by
  simp only [State.domainFault, none]

section
variable {d : BitVec 12} (dom : f.dom = some d)
include dom

theorem domainFault_state (state : f.keyWord = false) : s.domainFault f = s.raiseIn f fun _ t => t.domDown d.toNat := by
  simp only [State.domainFault, dom, state, Bool.not_false, if_true]
  rfl

theorem domainFault_xtsKey (key : f.keyWord = true) (xts : f.unit = 0) : s.domainFault f = s.raiseIn f fun _ t =>
    (t.domDown d.toNat).modDom fun y => { y with doms := amod y.doms d.toNat fun z => { z with xtsKey := [] } } := by
  simp only [State.domainFault, dom, key, xts, Bool.not_true, Bool.false_eq_true, if_false, if_true]
  rfl

theorem domainFault_fabricKey (key : f.keyWord = true) (fabric : f.unit ≠ 0) : s.domainFault f = s.raiseIn f fun _ t =>
    ((t.domDown d.toNat).modDom fun y => { y with doms := amod y.doms d.toNat fun z => { z with fabricKey := [] } }).clearNonce
      d.toNat := by
  simp only [State.domainFault, dom, key, fabric, Bool.not_true, Bool.false_eq_true, if_false]
  rfl

end

/-! ## Clocks (R419, R420) -/

variable {k : Nat} {inj : Bool}

theorem clockFault_known (known : islandOk k = false ∨ k ∈ s.faults.deadIslands) : s.clockFault k inj = s := by
  refine if_pos ?_
  rcases known with none | dead
  · rw [none, Bool.not_false, Bool.true_or]
  · rw [List.contains_iff_mem.2 dead, Bool.or_true]

theorem clockFault_first (island : islandOk k = true) (first : k ∉ s.faults.deadIslands) :
    s.clockFault k inj = s.raise 0x14 k 0 none [] inj fun _ t => t.clockLost k :=
  if_neg (by simp [island, first])

end

end Sys2Proof.Machine
end

section
/-! SUPPORT. Clocks, ERR_N, the watchdog, event frames, queue samples and the ends of self-tests (R97, R148, R318, R329, R348, R349, R403,
R419, R420, R427, R428), and with FAULT_EVENT every case of them. -/

namespace Sys2Proof.Machine

theorem exec_errnPulseEnd (s : State) : Sys2Proof.Machine.exec .errnPulseEnd s = .next (s.sealed s.pulseEnd) := rfl

theorem exec_islandLinkTimeout (s : State) (k : BitVec 12) : Sys2Proof.Machine.exec (.islandLinkTimeout k) s =
    .next (s.sealed (if s.romUp then s.clockFault k.toNat false else s)) := rfl

theorem exec_clockCheck (s : State) (l : List (BitVec 12)) :
    Sys2Proof.Machine.exec (.clockCheck l) s = .next (s.sealed (s.clockCheck (l.map BitVec.toNat))) := rfl

theorem exec_mgmtHang (s : State) (r : RestartOutcome) : Sys2Proof.Machine.exec (.mgmtHang r) s = .next (s.sealed (s.mgmtHangs r)) := rfl

theorem exec_mgmtRestarted (s : State) : Sys2Proof.Machine.exec .mgmtRestarted s = .next (s.sealed s.mgmtBack) := rfl

theorem exec_eventFrame (s : State) : Sys2Proof.Machine.exec .eventFrame s = .next (s.sealed s.eventFrame) := rfl

theorem exec_queueSample (s : State) (l : List QueueDelay) :
    Sys2Proof.Machine.exec (.queueSample l) s = .next (s.sealed (s.sampleQueues l)) := rfl

theorem exec_lbistDone (s : State) (r : LbistOutcome) : Sys2Proof.Machine.exec (.lbistDone r) s = .next (s.sealed (s.lbistEnd r)) := rfl

theorem exec_asbDone (s : State) (n : BitVec 4) (r : AsbOutcome) :
    Sys2Proof.Machine.exec (.asbDone n r) s = .next (s.sealed (s.asbEnd n.toNat r)) := rfl

section
variable {s : State}

/-! ## The firmware (R348, R349) -/

theorem mgmtHangs_up {r : RestartOutcome} (up : s.mgmtUp = true) : s.mgmtHangs r =
    (s.raise 0x16 islMgmt 0 none [] false fun _ t => t).restartAll r.failedCores r.imageOk := by
  rw [State.mgmtHangs, up, Bool.not_true, if_neg Bool.false_ne_true]

theorem mgmtHangs_down {r : RestartOutcome} (down : s.mgmtUp = false) : s.mgmtHangs r = s := by
  rw [State.mgmtHangs, down, Bool.not_false, if_pos rfl]

theorem mgmtBack_restarting (running : s.boot.st = .running) (restarting : s.boot.mgmtRestarting = true) : s.mgmtBack =
    (s.modBoot fun b => { b with mgmtRestarting := false }).note 0x0110 none islMgmt 0 [s.counter 0x8300 3, s.boot.coresWorking] :=
  if_pos ⟨running, restarting⟩

theorem mgmtBack_none (none : s.boot.st ≠ .running ∨ s.boot.mgmtRestarting = false) : s.mgmtBack = s :=
  if_neg (by rintro ⟨running, restarting⟩; simp [running, restarting] at none)

theorem clockCheck_down {l : List Nat} (down : s.romUp = false) : s.clockCheck l = s := by
  rw [State.clockCheck, down, Bool.not_false, if_pos rfl]

theorem clockCheck_up {l : List Nat} (up : s.romUp = true) : s.clockCheck l = l.foldl (fun t k => t.clockFault k false)
    (s.modFaults fun f => { f with time := f.time + 1, ceLogged := if (f.time + 1) % 10000 = 0 then [] else f.ceLogged }) := by
  rw [State.clockCheck, up, Bool.not_true, if_neg Bool.false_ne_true]

/-! ## Event frames (R403) -/

/-- The records of the next frame. -/
def State.frameRecords (s : State) : List EventRec := s.faults.gather.take 64

/-- The node without the records of the next frame. -/
def State.framed (s : State) : State := s.modFaults fun f => { f with gather := f.gather.drop 64 }

theorem eventFrame_none (none : s.frameRecords = []) : s.eventFrame = s := by
  unfold State.frameRecords at none
  rw [State.eventFrame, none]
  rfl

theorem eventFrame_some (some : s.frameRecords ≠ []) : s.eventFrame =
    if (s.qp (s.num 0x8200 5)).isMgmt && (s.qp (s.num 0x8200 5)).st == .rts
      then s.framed.sendMgmt (s.num 0x8200 5)
        (leBytes 8 3 ++ leBytes 2 s.frameRecords.length ++ leBytes 6 0 ++ s.frameRecords.flatMap fun e => e.bytes false)
      else s.framed.bump 0x8200 7 :=
  if_neg (by simpa [State.frameRecords] using some)

/-! ## Queue samples (R318) -/

theorem sampleQueues_up {l : List QueueDelay} (up : s.alive = true) :
    s.sampleQueues l = (akeys s.queues.sqs).foldl (fun t n => t.sampleSq l n) s := if_pos up

theorem sampleQueues_down {l : List QueueDelay} (down : s.alive = false) : s.sampleQueues l = s := if_neg (Bool.eq_false_iff.1 down)

/-- Commands of a queue that have been admitted. -/
def State.admittedOf (s : State) (n : Nat) : Nat := (s.sched.cmds.filter fun c => c.sq == n).length

/-- The delay of a queue's oldest admitted command, of those that are reported. -/
def State.delayOf (s : State) (l : List QueueDelay) (n : Nat) : Nat :=
  if s.admittedOf n = 0 then 0 else ((l.find? fun x => x.sq.toNat == n).map fun x => x.delayNs.toNat).getD 0

/-- The alarm of a queue's domain, in ns. -/
def State.alarmOf (s : State) (q : Sq) : Nat := 1000 * s.num 0x7140 1 (sqDom q.cfg)

/-- A queue with one sample taken. -/
def State.sampledSq (s : State) (l : List QueueDelay) (n : Nat) (q : Sq) : State :=
  s.modSq n fun _ => { sampled q (s.admittedOf n) (s.delayOf l n) with
    alarmed := s.alarmOf q != 0 && decide (s.alarmOf q < s.delayOf l n)
      || (q.alarmed && decide (s.alarmOf q ≤ 2 * s.delayOf l n) && s.alarmOf q != 0) }

theorem sampleSq_live {l : List QueueDelay} {n : Nat} {q : Sq} (found : aget s.queues.sqs n = some q)
    (live : q.st = .active ∨ q.st = .error) : s.sampleSq l n =
      if (s.alarmOf q != 0 && decide (s.alarmOf q < s.delayOf l n)) && !q.alarmed
        then (s.sampledSq l n q).note 0x010B (some (sqDom q.cfg)) islSched n [n, s.delayOf l n]
        else s.sampledSq l n q := by
  have sampledAt : ¬ (q.st ≠ .active ∧ q.st ≠ .error) := by rwa [not_and_or, not_not, not_not]
  simp only [State.sampleSq, found, sampledAt, if_false]
  rfl

/-- QUEUE_DELAY is posted when a delay first exceeds an alarm that is set. -/
theorem delayPosted_iff {alarm delay : Nat} {alarmed : Bool} :
    ((alarm != 0 && decide (alarm < delay)) && !alarmed) = true ↔ 0 < alarm ∧ alarm < delay ∧ alarmed = false := by
  simp [Nat.pos_iff_ne_zero, and_assoc]

/-! ## Self-tests (R97, R427, R428) -/

/-- A tile's self-test ended, with what its logic and its memory test found. -/
def State.lbistRead (s : State) (r : LbistOutcome) (logic mem : Bool) : State :=
  (s.modTest fun y =>
    { y with lbState := if logic || mem then 3 else 2, lbFails := b2n logic + 2 * b2n mem, lbSig := r.signature.toNat
             lbRows := r.rows, rowsRepaired := y.rowsRepaired + r.rows, sparesFree := y.sparesFree - r.rows }).modTile
    s.test.lbTile fun t => { t with testing := false }

/-- The logic test of a tile failed. -/
def State.lbistLogic (s : State) (r : LbistOutcome) : Bool := s.test.lbModes.testBit 0 && r.signature.toNat != s.test.lbExp

/-- The memory test of a tile failed. -/
def State.lbistMem (s : State) (r : LbistOutcome) : Bool := s.test.lbModes.testBit 1 && r.memoryFail

theorem lbistEnd_idle {r : LbistOutcome} (idle : s.test.lbState ≠ 1) : s.lbistEnd r = s := if_pos idle

theorem lbistEnd_running {r : LbistOutcome} (running : s.test.lbState = 1) : s.lbistEnd r =
    if s.lbistLogic r || s.lbistMem r then (s.lbistRead r (s.lbistLogic r) (s.lbistMem r)).retireTile s.test.lbTile
    else (s.lbistRead r (s.lbistLogic r) (s.lbistMem r)).modTile s.test.lbTile fun t => { t with st := 1 } :=
  if_neg (not_not.2 running)

/-- The failing awns that are not retired yet. -/
def State.failedAwns (s : State) (r : AsbOutcome) : List Nat := (r.awns.map BitVec.toNat).filter fun u => (s.awn u).st != 2

/-- The failing channels of a stack that are not gone yet. -/
def State.failedChans (s : State) (k : Nat) (r : AsbOutcome) : List Nat :=
  (r.channels.map BitVec.toNat).filter fun p => !s.chanGone k p

/-- A stack's failing awns and channels retired, with their spares mapped. -/
def State.asbRetired (s : State) (k : Nat) (r : AsbOutcome) : State :=
  (s.failedChans k r).foldl (fun t p => t.asbChan k p) ((s.failedAwns r).foldl (fun t u => (t.retireAwn u).mapAwn u) s)

/-- A stack's slots scrubbed but for those that fail. -/
def State.asbScrubbed (s : State) (k : Nat) (fails : List Nat) : State :=
  fails.foldl (fun t n => t.setUse n .withdrawn) (s.modPages fun p =>
    { p with use := p.use.filter fun u => slotStack u.1 != k || (u.2 == .withdrawn && (!s.slotWorks u.1 || fails.contains u.1))
             slots := p.slots.filter fun u => slotStack u.1 != k
             lost := p.lost.filter fun x => slotStack x != k })

theorem asbEnd_idle {k : Nat} {r : AsbOutcome} (idle : (s.asbOf k).st ≠ 2 ∨ s.power.brownOut = true) : s.asbEnd k r = s := if_pos idle

theorem asbEnd_running {k : Nat} {r : AsbOutcome} {t : State} (running : (s.asbOf k).st = 2) (powered : s.power.brownOut = false)
    (scrubbed : t = (s.asbRetired k r).asbScrubbed k (r.slots.map BitVec.toNat)) : s.asbEnd k r =
      (t.setAsb k { st := 3, awns := (s.failedAwns r).length, channels := (s.failedChans k r).length, withdrawn := t.stackWithdrawn k
                    restored := s.stackWithdrawn k - t.stackWithdrawn k }).lowCheck := by
  subst scrubbed
  exact if_neg (by simp [running, powered])

end

/-! ## Every case -/

/-- Settles O58: FAULT_EVENT by its source, and each of the other events by what it finds. -/
theorem faultsAreTakenIn : Obligations.FaultsAreTakenIn := by
  refine ⟨?_, fun s => rfl, fun s k => ⟨fun up island first => ?_, ?_⟩, fun s l => ⟨fun up => ?_, fun down => ?_⟩,
    fun s r => ⟨fun up => ?_, fun down => ?_⟩, fun s => ⟨fun running restarting => ?_, fun none => ?_⟩, ?_,
    fun s l => ⟨fun up => ?_, fun down => ?_, ?_⟩, ?_, ?_⟩
  · rintro s f _ _ rfl rfl
    rw [exec_faultEvent]
    refine ⟨fun down => ?_, fun up => ⟨fun src => ?_, fun src none => ?_,
      fun n slot => ⟨fun src => ?_, fun src => ?_, fun src => ?_⟩, fun src none => ?_, fun a b chan => ⟨fun src => ?_, fun src => ?_⟩, ?_, fun src => ⟨fun unit => ?_, fun none => ?_⟩,
      fun src => ⟨fun it named none => ?_, fun noItem hit hits => ?_⟩, fun src => ?_, ?_, ?_, ?_,
      fun src => ⟨fun none => ?_, fun it named => ?_⟩, fun src hit named unnamed => ?_,
      fun src => ⟨fun none => ?_, fun entry => ?_⟩, fun src => ⟨fun none => ?_, ?_⟩, fun src => ?_,
      fun src => ⟨fun known => ?_, fun island first => ?_⟩, fun src => ?_, fun src => ⟨fun serves => ?_, fun held => ?_⟩,
      fun src => ⟨fun running => ?_, fun other => ?_⟩, fun src => ?_⟩⟩
    · rw [faultEvent_down down]
    · rw [faultEvent_reported up src]
    · rw [faultEvent_noSlot up src none]
    · rw [faultEvent_arrayCe up src slot]
    · rw [faultEvent_arrayUe up src slot]
    · rw [faultEvent_pageCrc up src slot]
    · rw [faultEvent_noChan up src none]
    · rw [faultEvent_channelPredict up src chan]
    · rw [faultEvent_channelLoss up src chan]
    · rintro src r found
      obtain rfl : r = s.stripeNamed f := found
      rw [faultEvent_awnCheck up src]
      refine ⟨fun none unit => ?_, fun none noUnit => ?_, fun x named => ?_⟩
      · rw [awnFault_noStripe none, if_pos unit]
      · rw [awnFault_noStripe none, noUnit, if_neg Bool.false_ne_true]
      · rw [awnFault_stripe named]
        rfl
    · rw [faultEvent_awnSweep up src, unit]
      rfl
    · rw [faultEvent_awnSweep up src, none]
      rfl
    · rw [faultEvent_tile up src, tileFault_item named none]
    · obtain rfl : hit = State.failCollects f (s.collectsHit f) := funext hits
      rw [faultEvent_tile up src, tileFault_sets noItem]
    · rw [faultEvent_tileSweep up src]
    · rintro src again rfl
      rw [faultEvent_sramCe up src]
      rfl
    · intro src hit sets lost const noTile named unnamed tile replaced
      obtain rfl : hit = s.sramItems f := eq_sramItems (fun store => (const store).1) named unnamed
      obtain rfl : sets = s.sramSets f := eq_sramSets (fun store => (const store).2) noTile tile
      obtain rfl : lost = State.sramLost (s.sramItems f) (s.sramSets f) := funext replaced
      rw [faultEvent_sramUe up src, sramUe_eq]
    · rintro src slot mark own rfl noSlot suspect noOwner owned
      obtain rfl : mark = State.suspectAt (s.faultSlot f) := eq_suspectAt noSlot suspect
      obtain rfl : own = State.ownerFails (s.itemOf f) := eq_ownerFails noOwner owned
      rw [faultEvent_identity up src]
      refine ⟨fun none => ?_, fun p page => ?_⟩
      · rw [identityFault_noPage none]
      · rw [identityFault_page page]
        rfl
    · rw [faultEvent_coverage up src, coverageFault_noItem none]
    · rw [faultEvent_coverage up src, coverageFault_item named]
    · rw [faultEvent_linkUe up src, linkFault_eq, eq_linkItems named unnamed]
    · rw [faultEvent_noEntry up src none]
    · rw [faultEvent_entry up src entry]
    · rw [faultEvent_domainStateUe up src, domainFault_none none]
    · intro d down dom torn
      obtain rfl : down = State.domDown d.toNat := funext torn
      rw [faultEvent_domainStateUe up src]
      refine ⟨fun state => ?_, fun key xts => ?_, fun key fabric => ?_⟩
      · rw [domainFault_state dom state]
      · rw [domainFault_xtsKey dom key xts]
      · rw [domainFault_fabricKey dom key fabric]
    · rw [faultEvent_checkerLate up src]
      rfl
    · rw [faultEvent_clockIsland up src, clockFault_known known]
    · rw [faultEvent_clockIsland up src, clockFault_first island first]
    · rw [faultEvent_hostLink up src]
    · rw [faultEvent_mgmtHang up src, if_pos serves]
    · rw [faultEvent_mgmtHang up src, held, if_neg Bool.false_ne_true]
    · rw [faultEvent_mgmtStorm up src, if_pos running]
    · rw [faultEvent_mgmtStorm up src, if_neg other]
    · rw [faultEvent_thermalCrit up src]
  · rw [exec_islandLinkTimeout, if_pos up, clockFault_first island first]
  · rw [exec_islandLinkTimeout]
    rintro (down | known)
    · rw [down, if_neg Bool.false_ne_true]
    · rw [clockFault_known known, ite_self]
  · rw [exec_clockCheck, clockCheck_up up]
  · rw [exec_clockCheck, clockCheck_down down]
  · rw [exec_mgmtHang, mgmtHangs_up up]
  · rw [exec_mgmtHang, mgmtHangs_down down]
  · rw [exec_mgmtRestarted, mgmtBack_restarting running restarting]
  · rw [exec_mgmtRestarted, mgmtBack_none none]
  · rintro s t l n rfl rfl rfl
    rw [exec_eventFrame]
    refine ⟨fun none => ?_, fun some mgmt rts => ?_, fun some noQp => ?_⟩
    · rw [eventFrame_none none]
    · rw [eventFrame_some some, if_pos (by simp [mgmt, rts])]
      rfl
    · rw [eventFrame_some some, if_neg (by simpa [imp_iff_not_or] using noQp)]
      rfl
  · rw [exec_queueSample, sampleQueues_up up]
  · rw [exec_queueSample, sampleQueues_down down]
  · rintro n q found live mine delay alarm t rfl rfl rfl sampled
    obtain rfl : t = s.sampledSq l n q := sampled
    rw [sampleSq_live found live]
    refine ⟨fun armed late first => if_pos (delayPosted_iff.2 ⟨armed, late, first⟩), fun none => if_neg (mt delayPosted_iff.1 ?_)⟩
    rintro ⟨armed, late, first⟩
    rcases none with unarmed | early | again
    · exact armed.ne' unarmed
    · exact late.not_ge early
    · exact Bool.false_ne_true (first.symm.trans again)
  · rintro s t r logic mem rfl rfl read
    obtain rfl : t = s.lbistRead r (s.lbistLogic r) (s.lbistMem r) := read
    rw [exec_lbistDone]
    refine ⟨fun idle => ?_, fun running logic mem => ?_, fun running fails => ?_⟩
    · rw [lbistEnd_idle idle]
    · have passes : (s.lbistLogic r || s.lbistMem r) = false := Bool.or_eq_false_iff.2 ⟨logic, mem⟩
      rw [lbistEnd_running running, passes, if_neg Bool.false_ne_true]
    · have failed : (s.lbistLogic r || s.lbistMem r) = true := (Bool.or_eq_true _ _).mpr fails
      rw [lbistEnd_running running, if_pos failed]
  · rintro s s2 t n r k awns chans fails rfl rfl rfl rfl retired scrubbed
    obtain rfl : s2 = s.asbRetired n.toNat r := retired
    rw [exec_asbDone]
    exact ⟨fun idle => by rw [asbEnd_idle idle], fun running powered => by rw [asbEnd_running running powered scrubbed]; rfl⟩

end Sys2Proof.Machine
end

section
/-! SUPPORT. The merge tree of R129: partials are placed by their FIRST_PAGE, so their order of arrival is lost before the first level. -/

namespace Sys2Proof.Machine

theorem insertPartial_cons_of_lt {x y : Nat × Partial} (lt : x.1 < y.1) (r : List (Nat × Partial)) :
    insertPartial x (y :: r) = x :: y :: r := if_pos lt

theorem insertPartial_cons_of_le {x y : Nat × Partial} (le : y.1 ≤ x.1) (r : List (Nat × Partial)) :
    insertPartial x (y :: r) = y :: insertPartial x r := if_neg le.not_gt

/-- The lower of two positions is reached first in either order, and the list need not be sorted: at each entry both pass it, or
one of them stops before it. -/
theorem insertPartial_comm_of_lt {x y : Nat × Partial} (lt : x.1 < y.1) (l : List (Nat × Partial)) :
    insertPartial x (insertPartial y l) = insertPartial y (insertPartial x l) := by
  induction l with
  | nil =>
    calc insertPartial x [y]
      _ = [x, y] := insertPartial_cons_of_lt lt []
      _ = insertPartial y [x] := (insertPartial_cons_of_le lt.le []).symm
  | cons z r ih =>
    rcases lt_or_ge x.1 z.1 with xz | zx
    · rw [insertPartial_cons_of_lt xz, insertPartial_cons_of_le lt.le]
      rcases lt_or_ge y.1 z.1 with yz | zy
      · rw [insertPartial_cons_of_lt yz, insertPartial_cons_of_lt lt]
      · rw [insertPartial_cons_of_le zy, insertPartial_cons_of_lt xz]
    · have zy : z.1 ≤ y.1 := zx.trans lt.le
      rw [insertPartial_cons_of_le zy, insertPartial_cons_of_le zx, insertPartial_cons_of_le zx, insertPartial_cons_of_le zy, ih]

theorem insertPartial_comm {x y : Nat × Partial} (ne : x.1 ≠ y.1) (l : List (Nat × Partial)) :
    insertPartial x (insertPartial y l) = insertPartial y (insertPartial x l) := by
  rcases ne.lt_or_gt with lt | gt
  · exact insertPartial_comm_of_lt lt l
  · exact (insertPartial_comm_of_lt gt l).symm

theorem foldl_insertPartial_perm {l m : List Partial} (perm : l.Perm m) (distinct : (l.map Partial.first).Nodup)
    (acc : List (Nat × Partial)) :
    l.foldl (fun acc p => insertPartial (p.first, p) acc) acc = m.foldl (fun acc p => insertPartial (p.first, p) acc) acc := by
  refine perm.foldl_eq' (fun p hp q hq _ => ?_) acc
  by_cases same : p.first = q.first
  · rw [List.inj_on_of_nodup_map distinct hp hq same]
  · exact (insertPartial_comm (Ne.symm same) _)

theorem treeMerge_perm {l m : List Partial} (perm : l.Perm m) (distinct : (l.map Partial.first).Nodup) :
    treeMerge l = treeMerge m := by
  rw [treeMerge, treeMerge, foldl_insertPartial_perm perm distinct]

theorem mergeLevel_singleton (h pos : Nat) (p : Partial) :
    mergeLevel h [(pos, p)] = [(pos / 2 ^ (h + 1) * 2 ^ (h + 1), p)] := rfl

/-- A lone entry goes up through any levels unmerged; only its position is cut down. -/
theorem foldl_mergeLevel_singleton (levels : List Nat) (pos : Nat) (p : Partial) :
    ∃ pos', levels.foldl (fun acc h => mergeLevel h acc) [(pos, p)] = [(pos', p)] := by
  induction levels generalizing pos with
  | nil => exact ⟨pos, rfl⟩
  | cons h hs ih =>
    rw [List.foldl_cons, mergeLevel_singleton]
    exact ih _

theorem treeMerge_singleton (p : Partial) : treeMerge [p] = some p := by
  obtain ⟨pos, alone⟩ := foldl_mergeLevel_singleton (List.range 27) p.first p
  calc treeMerge [p]
    _ = ((List.range 27).foldl (fun acc h => mergeLevel h acc) [(p.first, p)]).head?.map Prod.snd := rfl
    _ = some p := by rw [alone, List.head?_cons, Option.map_some]

/-- Settles O9: placing by FIRST_PAGE gives one list for every order of arrival, and a lone partial passes every level. -/
theorem partialsMergeInAnyOrder : Obligations.PartialsMergeInAnyOrder :=
  ⟨fun _ _ perm distinct => treeMerge_perm perm distinct, treeMerge_singleton⟩

end Sys2Proof.Machine
end

section
/-! SUPPORT. ITEM_OVERRUN (R146): what a killed item comes to, and the two items that replace one. Each is formed again from
the cut of the request, for its own rows and leaves (log 71); no FANNED collection is reserved again (log 123). -/

namespace Sys2Proof.Machine

theorem exec_itemOverrun (s : State) (tag : BitVec 14) :
    Sys2Proof.Machine.exec (.itemOverrun tag) s = .next (s.sealed (s.itemOverrun tag.toNat)) := rfl

/-! ## The kill -/

/-- The item an overrun killed, as it stands in the scoreboard again: of the same row set, at the same rows and leaves. -/
def Item.replaces (it x : Item) : Bool := it.meets x && x.row0 == it.row0 && x.leaf0 == it.leaf0

/-- A running item counted and killed. -/
def State.overrunKilled (s : State) (it : Item) : State := (s.bump 0xB100 0xB).requeueAll [it]

/-- The killed item taken out, its halves put in, and its row set's reservation formed again. -/
def State.halveItem (s : State) (v : Cut) (it w : Item) : State :=
  ((v.halves { w with tag := 0 }).foldl State.addItem
    (s.modSched fun q => { q with items := q.items.filter fun x => !it.replaces x })).rechain v it

theorem itemOverrun_idle {s : State} {tag : Nat} (idle : ∀ it ∈ s.sched.items, it.tag = tag → it.st ≠ .running) :
    s.itemOverrun tag = s := by
  have unfound : (s.sched.items.find? fun it => it.tag == tag && it.st == .running) = none :=
    List.find?_eq_none.2 fun it mem => by simpa using idle it mem
  simp only [State.itemOverrun, unfound]

section
variable {s : State} {tag : Nat} {it : Item}
  (found : (s.sched.items.find? fun it => it.tag == tag && it.st == .running) = some it)
include found

theorem itemOverrun_halved {w : Item} {c : Cmd} {v : Cut} (again : (s.overrunKilled it).sched.items.find? it.replaces = some w)
    (cmd : (s.overrunKilled it).cmd it.cmd = some c) (cut : (s.overrunKilled it).itemCut c w = some v) :
    s.itemOverrun tag = (s.overrunKilled it).halveItem v it w := by
  unfold State.overrunKilled Item.replaces at *
  simp only [State.itemOverrun, found, again, cmd, cut]
  rfl

theorem itemOverrun_uncut (uncut : ∀ w c, (s.overrunKilled it).sched.items.find? it.replaces = some w →
    (s.overrunKilled it).cmd it.cmd = some c → (s.overrunKilled it).itemCut c w = none) :
    s.itemOverrun tag = s.overrunKilled it := by
  unfold State.overrunKilled Item.replaces at *
  simp only [State.itemOverrun, found]
  split
  · next w c again cmd => rw [uncut w c again cmd]
  · rfl

end

/-! ## The halves -/

/-- An item that waits anew. -/
def Item.anew (it : Item) : Item := { it with st := .waiting, stripes := [], trailers := [] }

/-- A part of an item formed again from the cut; a part of a ring's span has no pages of its own. It keeps
every field of `x` but its path, lane sets, granules, positions, stripes to come and pages. -/
def Cut.part (v : Cut) (it x : Item) : Item := { v.shape x with pages := if it.org = 0 then (v.shape x).pages else [] }

theorem halves_leaves (v : Cut) {it : Item} (many : 2 ≤ it.leaves) : v.halves it =
    [v.part it { it.anew with leaves := it.leaves / 2 },
     v.part it { it.anew with leaf0 := it.leaf0 + it.leaves / 2, leaves := it.leaves - it.leaves / 2 }] := if_pos many

theorem halves_rows (v : Cut) {it : Item} (leaf : it.leaves < 2) (many : 2 ≤ it.rows) : v.halves it =
    [v.part it { it.anew with rows := it.rows / 2 },
     v.part it { it.anew with row0 := it.row0 + it.rows / 2, rows := it.rows - it.rows / 2 }] :=
  (if_neg leaf.not_ge).trans (if_pos many)

theorem halves_whole (v : Cut) {it : Item} (leaf : it.leaves < 2) (row : it.rows < 2) : v.halves it = [it.anew] :=
  (if_neg leaf.not_ge).trans (if_neg row.not_ge)

theorem halves_sum {n : Nat} (many : 2 ≤ n) : n / 2 + (n - n / 2) = n ∧ 0 < n / 2 ∧ 0 < n - n / 2 := by omega

/-! ## Every case -/

/-- Settles O30: the three ways an overrun goes; then an item halved by its leaves, by its rows, and one that is neither. -/
theorem halvesTogetherAreTheItem : Obligations.HalvesTogetherAreTheItem := by
  refine ⟨fun s tag => ⟨?_, fun idle => ?_⟩, fun v it => ⟨fun many => ?_, halves_whole v⟩⟩
  · rintro it _ found rfl
    refine ⟨fun w c v again cmd cut => ?_, fun uncut => ?_⟩ <;> rw [exec_itemOverrun]
    · rw [itemOverrun_halved found again cmd cut]
      rfl
    · rw [itemOverrun_uncut found uncut]
      rfl
  · rw [exec_itemOverrun, itemOverrun_idle idle]
  · rcases Nat.lt_or_ge it.leaves 2 with leaf | leaves
    · have rows : 2 ≤ it.rows := many.resolve_left leaf.not_ge
      obtain ⟨sum, first, second⟩ := halves_sum rows
      exact ⟨_, _, halves_rows v leaf rows, rfl, rfl, rfl, rfl, rfl, rfl, rfl, rfl, rfl, rfl, fun leaves => absurd leaf leaves.not_gt,
        fun _ => ⟨rfl, rfl, sum, rfl, rfl, first, second⟩⟩
    · obtain ⟨sum, first, second⟩ := halves_sum leaves
      exact ⟨_, _, halves_leaves v leaves, rfl, rfl, rfl, rfl, rfl, rfl, rfl, rfl, rfl, rfl,
        fun _ => ⟨rfl, rfl, sum, rfl, rfl, first, second⟩, fun leaf => absurd leaf leaves.not_gt⟩

end Sys2Proof.Machine
end

section
/-! SUPPORT. Turns pass and items are pre-empted: who comes next on a tile and what it is charged (R190, R191, R309; the edge
clock times a turn, log 76), and whom an item that waits for granules kills (R193, R194). -/

namespace Sys2Proof.Machine

theorem exec_turnEnd (s : State) (tile : BitVec 6) (ns : BitVec 32) :
    Sys2Proof.Machine.exec (.turnEnd tile ns) s = .next (s.sealed (s.turnEnd tile.toNat ns.toNat)) := rfl

theorem exec_preemptWait (s : State) (tag : BitVec 14) :
    Sys2Proof.Machine.exec (.preemptWait tag) s = .next (s.sealed (s.preempt tag.toNat)) := rfl

/-! ## Turns (R190, R309) -/

section
variable {s : State} {l h overrun : Nat} {line : List Nat}

/-- The domains in line for a tile. -/
def State.turnLine (s : State) (l : Nat) : List Nat :=
  if s.strict then s.tileDoms l else (s.tileDoms l).filter fun d =>
    s.sched.items.any fun it => it.dom == d && s.itemReady it && (s.sliceTiles it.slice d).contains l

/-- The domain of a line to which the turn of a tile passes. -/
def State.turnNext (s : State) (l : Nat) (line : List Nat) : Option Nat :=
  match (s.turn l).holder with
  | some h =>
    match line.find? fun d => decide (h < d) with
    | some d => some d
    | none => if s.strict ∧ ((s.tileDoms l).map fun d => s.num 0x7120 3 d).sum < 64 then none else line.head?
  | none => line.head?

/-- The charges of a tile's turns once the holder's overrun is charged (R191). -/
def State.turnCharged (s : State) (l overrun : Nat) : List (Nat × Nat) :=
  match (s.turn l).holder with
  | some h => if s.strict ∨ overrun = 0 then (s.turn l).charges else abump (s.turn l).charges h overrun
  | none => (s.turn l).charges

/-- The turn that the next domain takes, its charge spent. -/
def State.turnOf (s : State) (next : Option Nat) (charges : List (Nat × Nat)) : Turn :=
  { holder := next
    till := match next with
      | some d => if s.strict then s.xnt.clock + 1000 * (s.num 0x7120 3 d * s.num 0x4200 3) else 0
      | none => 0
    charges := match next with | some d => adel charges d | none => charges }

/-- The turn of a tile given on. -/
def State.passTurn (s : State) (l : Nat) (t : Turn) : State := s.modSched fun q => { q with turns := aput q.turns l t }

theorem turnEnd_eq :
    s.turnEnd l overrun = s.passTurn l (s.turnOf (s.turnNext l (s.turnLine l)) (s.turnCharged l overrun)) := rfl

theorem turnNext_above {d : Nat} (held : (s.turn l).holder = some h) (above : line.find? (fun d => decide (h < d)) = some d) :
    s.turnNext l line = some d := by
  simp only [State.turnNext, held, above]

theorem turnNext_around (held : (s.turn l).holder = some h) (last : ∀ d ∈ line, d ≤ h) : s.turnNext l line =
    if s.strict = true ∧ ((s.tileDoms l).map fun d => s.num 0x7120 3 d).sum < 64 then none else line.head? := by
  have noneAbove : line.find? (fun d => decide (h < d)) = none :=
    List.find?_eq_none.2 fun d mem => by simpa using last d mem
  simp only [State.turnNext, held, noneAbove]

theorem turnNext_free (free : (s.turn l).holder = none) : s.turnNext l line = line.head? := by
  simp only [State.turnNext, free]

theorem turnCharged_overrun (held : (s.turn l).holder = some h) (shared : s.strict = false) (late : 0 < overrun) :
    s.turnCharged l overrun = abump (s.turn l).charges h overrun := by
  simp only [State.turnCharged, held, shared, late.ne', Bool.false_eq_true, or_self, if_false]

theorem turnCharged_same (same : (s.turn l).holder = none ∨ s.strict = true ∨ overrun = 0) :
    s.turnCharged l overrun = (s.turn l).charges := by
  cases held : (s.turn l).holder with
  | none => simp only [State.turnCharged, held]
  | some h =>
    have uncharged : s.strict = true ∨ overrun = 0 := same.resolve_left (by simp [held])
    simp only [State.turnCharged, held, if_pos uncharged]

end

/-! ## Pre-emption (R193, R194) -/

section
variable {s : State} {tag : Nat} {it : Item} {b : Nat × Nat × Nat × Nat}

/-- A kill counted, and noted on the victim and on the rest of its CHAINED row set (R194). -/
def State.countKill (s : State) (y : Item) : State :=
  (s.bump 0x4000 9).modSched fun q => { q with items := q.items.map fun z =>
    if z.tag = y.tag ∨ (y.chained = true ∧ y.meets z = true) then { z with kills := z.kills + 1 } else z }

/-- One victim killed for an item that waits, where it is still on its tile (R191). -/
def State.killFor (s : State) (it : Item) (t : State) (x : Item) : State :=
  match t.sched.items.find? fun y => y.tag == x.tag && y.cmd == x.cmd && y.onTile with
  | some y => (if s.strict then t.countKill y else (t.countKill y).chargeTurn y.tile it.dom (t.ranFor y)).requeue y
  | none => t

theorem preempt_waiting (found : (s.sched.items.find? fun it => it.tag == tag) = some it)
    (barred : (s.sched.barred.find? fun b => b.1 == tag) = some b) (own : b.2.1 = it.cmd) (waits : s.preempts it = true) :
    s.preempt tag = ((s.killsOn it b.2.2.1).getD []).foldl (s.killFor it) s := by
  simp only [State.preempt, found, barred, own, waits, and_self, if_true]
  rfl

theorem preempt_served (found : (s.sched.items.find? fun it => it.tag == tag) = some it)
    (barred : (s.sched.barred.find? fun b => b.1 == tag) = some b) (served : ¬ (b.2.1 = it.cmd ∧ s.preempts it = true)) :
    s.preempt tag = s := by
  simp only [State.preempt, found, barred, if_neg served]

theorem preempt_unbegun (unbegun : (∀ it ∈ s.sched.items, it.tag ≠ tag) ∨ ∀ b ∈ s.sched.barred, b.1 ≠ tag) :
    s.preempt tag = s := by
  rcases unbegun with noItem | noWait
  · have unfound : (s.sched.items.find? fun it => it.tag == tag) = none := by simpa using noItem
    simp only [State.preempt, unfound]
  · have unbarred : (s.sched.barred.find? fun b => b.1 == tag) = none := by simpa using noWait
    cases found : s.sched.items.find? fun it => it.tag == tag <;> simp only [State.preempt, found, unbarred]

/-- A killing that counts, charges and requeues each victim still on its tile, and passes over the others, is that of the model. -/
theorem eq_killFor {kill : State → Item → State}
    (gone : ∀ (t : State) x, (∀ y ∈ t.sched.items, y.tag = x.tag → y.cmd = x.cmd → y.onTile = false) → kill t x = t)
    (there : ∀ (t u : State) (x y : Item), (t.sched.items.find? fun y => y.tag == x.tag && y.cmd == x.cmd && y.onTile) = some y →
      u = t.countKill y → (s.strict = true → kill t x = u.requeue y)
        ∧ (s.strict = false → kill t x = (u.chargeTurn y.tile it.dom (t.ranFor y)).requeue y)) : kill = s.killFor it := by
  funext t x
  cases found : t.sched.items.find? fun y => y.tag == x.tag && y.cmd == x.cmd && y.onTile with
  | none =>
    rw [gone t x (by simpa [and_imp] using found)]
    simp only [State.killFor, found]
  | some y =>
    obtain ⟨inStrict, inShared⟩ := there t _ x y found rfl
    cases mode : s.strict with
    | true => rw [inStrict mode]; simp only [State.killFor, found, mode, if_true]
    | false => rw [inShared mode]; simp only [State.killFor, found, mode, Bool.false_eq_true, if_false]

/-- The victims taken are the first of the line, their granules suffice, and without the last of them they would not. -/
theorem takeVictims_least {n : Nat} {l v : List Item} (taken : takeVictims n l = some v) :
    ∃ r, l = v ++ r ∧ n ≤ (v.map Item.granules).sum ∧ ∀ k, k < v.length → ((v.take k).map Item.granules).sum < n := by
  fun_induction takeVictims n l generalizing v with
  | case1 l =>
    obtain rfl : [] = v := Option.some.inj taken
    exact ⟨l, rfl, Nat.zero_le _, fun k short => absurd short (Nat.not_lt_zero k)⟩
  | case2 n => exact absurd taken (Option.some_ne_none v).symm
  | case3 n x l ih =>
    obtain ⟨w, rest, rfl⟩ := Option.map_eq_some_iff.1 taken
    obtain ⟨r, rfl, enough, least⟩ := ih rest
    refine ⟨r, rfl, ?_, fun k short => ?_⟩
    · rw [List.map_cons, List.sum_cons]
      omega
    · cases k with
      | zero => exact Nat.succ_pos n
      | succ k =>
        have before := least k (Nat.lt_of_succ_lt_succ short)
        rw [List.take_succ_cons, List.map_cons, List.sum_cons]
        omega

end

/-! ## Every case -/

/-- Settles O31: the next holder, its charges and its time, as they are computed; the wait's victims; and induction on their line. -/
theorem turnsAndPreemption : Obligations.TurnsAndPreemption := by
  refine ⟨?_, fun s tag => ⟨fun it b found barred => ⟨fun v kill own waits victims gone there => ?_, fun served => ?_⟩,
    fun unbegun => ?_⟩, fun n l v taken => takeVictims_least taken⟩
  · rintro s tile ns _ _ next c1 c2 till rfl rfl after first overrun same spent ended
    have hnext : next = s.turnNext tile.toNat (s.turnLine tile.toNat) := by
      cases held : (s.turn tile.toNat).holder with
      | none => rw [first held, turnNext_free held]; rfl
      | some h =>
        obtain ⟨above, around⟩ := after h held
        cases up : (s.turnLine tile.toNat).find? fun d => decide (h < d) with
        | some d => rw [above d up, turnNext_above held up]
        | none =>
          have last : ∀ d ∈ s.turnLine tile.toNat, d ≤ h := by simpa using up
          rw [around last, turnNext_around held last]
          rfl
    have hcharges : c1 = s.turnCharged tile.toNat ns.toNat := by
      by_cases uncharged : (s.turn tile.toNat).holder = none ∨ s.strict = true ∨ ns.toNat = 0
      · rw [same uncharged, turnCharged_same uncharged]
      · simp only [not_or, Bool.not_eq_true, ← ne_eq, Option.ne_none_iff_exists'] at uncharged
        obtain ⟨⟨h, held⟩, shared, late⟩ := uncharged
        rw [overrun h held shared (Nat.pos_of_ne_zero late), turnCharged_overrun held shared (Nat.pos_of_ne_zero late)]
    rw [exec_turnEnd, turnEnd_eq, ← hnext, ← hcharges]
    cases next with
    | none => obtain ⟨rfl, rfl⟩ := ended rfl; rfl
    | some d => obtain ⟨rfl, rfl⟩ := spent d rfl; rfl
  · rw [exec_preemptWait, preempt_waiting found barred own waits, victims, eq_killFor gone there, Option.getD_some]
  · rw [exec_preemptWait]
    by_cases waits : b.2.1 = it.cmd ∧ s.preempts it = true
    · have noVictims : s.killsOn it b.2.2.1 = none :=
        (served.resolve_left (not_not.2 waits.1)).resolve_left (by simp [waits.2])
      rw [preempt_waiting found barred waits.1 waits.2, noVictims]
      rfl
    · rw [preempt_served found barred waits]
  · rw [exec_preemptWait, preempt_unbegun unbegun]

end Sys2Proof.Machine
end

section
/-! SUPPORT. A completion on its way to its slot (R168, R175, R176); one for which there is no room waits (log 26). -/

namespace Sys2Proof.Machine

/-! ## What a completion changes -/

section
variable {s : State} {n : Nat} {q : Cq} {e : BitVec 256}

/-- A completion queue changed reads as changed. -/
theorem modCq_aget {f : Cq → Cq} (found : aget s.queues.cqs n = some q) : aget (s.modCq n f).queues.cqs n = some (f q) :=
  aget_amod s.queues.cqs n f q found

theorem modCq_out (s : State) (n : Nat) (f : Cq → Cq) : (s.modCq n f).out = s.out := rfl

theorem hostWrite_out (s : State) (a : Nat) (l : List Byte) : (s.hostWrite a l).out = s.out := rfl

theorem emit_out (s : State) (o : Output) : (s.emit o).out = s.out ++ [o] := rfl

theorem postHost_out : (s.postHost n q e).out = s.out ++ if bit q.cfg 22 && q.msi then [.msix (fld q.cfg 48 11)] else [] := by
  unfold State.postHost
  dsimp only
  by_cases interrupts : (bit q.cfg 22 && q.msi) = true
  · rw [if_pos interrupts, if_pos interrupts, emit_out, modCq_out, hostWrite_out]
  · rw [if_neg interrupts, if_neg interrupts, List.append_nil, modCq_out, hostWrite_out]

/-- An interrupt that goes out leaves the queue unarmed; one that is not enabled leaves it as it was. -/
theorem msi_armed (enabled armed : Bool) : (armed && !(enabled && armed)) = (armed && !enabled) := by
  cases armed <;> simp

/-- A message queued on a QP changes nothing but the QPs. -/
theorem send_frame (s : State) (qp op : Nat) (ext : Nat → Bool → List Byte) (payload : List Byte) (own src : Nat) :
    (s.send qp op ext payload own src).hostMem = s.hostMem ∧ (s.send qp op ext payload own src).nodeMem = s.nodeMem
      ∧ (s.send qp op ext payload own src).out = s.out ∧ (s.send qp op ext payload own src).queues = s.queues := by
  unfold State.send
  dsimp only
  split <;> exact ⟨rfl, rfl, rfl, rfl⟩

theorem advance_tail : q.advance.tail = if q.tail + 1 = cqDepth q.cfg then 0 else q.tail + 1 := by
  simp only [Cq.advance, beq_iff_eq]

theorem advance_phase : q.advance.phase = if q.tail + 1 = cqDepth q.cfg then !q.phase else q.phase := by
  simp only [Cq.advance, beq_iff_eq]

/-! ## Where it goes -/

theorem post_host (found : aget s.queues.cqs n = some q) (home : bit q.cfg 21 = false) (room : s.cqTakes q = true)
    (front : q.held = []) : s.post n e = s.postHost n q e := by
  simp only [State.post, found, room, front, home, List.isEmpty_nil, Bool.and_self, Bool.false_eq_true, if_true, if_false]

theorem post_fabric (found : aget s.queues.cqs n = some q) (home : bit q.cfg 21 = true) (room : s.cqTakes q = true)
    (front : q.held = []) : s.post n e = s.postFabric n q e := by
  simp only [State.post, found, room, front, home, List.isEmpty_nil, Bool.and_self, if_true]

theorem post_waits (found : aget s.queues.cqs n = some q) (waits : s.cqTakes q = false ∨ q.held ≠ []) :
    s.post n e = s.modCq n fun x => { x with held := x.held ++ [e] } := by
  have noSlot : ¬ (s.cqTakes q && q.held.isEmpty) = true := by
    rcases waits with full | behind <;> simp [*]
  simp only [State.post, found, if_neg noSlot]

end

/-! ## Every case -/

/-- Settles O60: the bytes written to a HOST ring, the message sent to a FABRIC ring, and the completion that is held. -/
theorem completionsGoToTheirSlot : Obligations.CompletionsGoToTheirSlot := by
  refine ⟨fun s n q e found home room front => ?_, fun s n q e found home room front => ?_,
    fun s n q e found waits => post_waits found waits⟩
  · rw [post_host found home room front]
    obtain ⟨host, node, queues⟩ := postHost_spec s n q e
    have moved : aget (s.postHost n q e).queues.cqs n = some { q.advance with msi := q.msi && !(bit q.cfg 22 && q.msi) } := by
      rw [queues]
      exact modCq_aget found
    refine ⟨fun a out => ?_, node, ?_, postHost_out, ⟨_, moved, advance_tail, advance_phase, msi_armed _ _⟩⟩
    · rw [host, Memory.read_writeBytes_out _ _ _ _ (by rwa [withPhase_length])]
    · rw [host]
      exact withPhase_length e q.phase ▸ Memory.readBytes_writeBytes _ _ _
  · rw [post_fabric found home room front]
    obtain ⟨host, node, out, queues⟩ := send_frame s (fld q.cfg 32 16) 2 _ (withPhase e q.phase) 0 0
    exact ⟨host, node, out, rfl, ⟨_, modCq_aget (queues ▸ found), advance_tail, advance_phase⟩⟩

end Sys2Proof.Machine
end

section
/-! SUPPORT. A descriptor submitted, fetched, admitted and run (R172, R173, R395; the queue logs 4 and 57), and the effect that
commits (R178). -/

namespace Sys2Proof.Machine

/-! ## Queues -/

section
variable {s : State} {n : Nat} {q : Sq}

theorem sqOf_eq (found : aget s.queues.sqs n = some q) : s.sqOf n = q := by
  rw [State.sqOf, found, Option.getD_some]

theorem sqOf_modSq {f : Sq → Sq} (found : aget s.queues.sqs n = some q) : (s.modSq n f).sqOf n = f q :=
  sqOf_eq (modSq_aget s n f q found)

/-- Two changes that agree on the queue that is there are one. -/
theorem modSq_congr {f g : Sq → Sq} (found : aget s.queues.sqs n = some q) (same : f q = g q) : s.modSq n f = s.modSq n g := by
  simp only [State.modSq, amod, State.modQueues, found, same]

theorem sqOf_bump (a b c d : Nat) : (s.bump a b c d).sqOf n = s.sqOf n := rfl

/-- The entries that an admission takes leave the queues. -/
theorem takeEntries_queues (s : State) (dom : Nat) : (s.takeEntries dom).queues = s.queues := by
  have fold : ∀ (l : List (PdKey × List Byte)) (t : State), (l.foldl (fun t p => t.setActive p.1 p.2) t).queues = t.queues := by
    intro l
    induction l with
    | nil => exact fun t => rfl
    | cons p l ih => exact fun t => ih (t.setActive p.1 p.2)
  exact fold _ s

theorem sqOf_takeEntries (dom : Nat) : (s.takeEntries dom).sqOf n = s.sqOf n := by
  rw [State.sqOf, takeEntries_queues, State.sqOf]

/-! ## A descriptor reaches its queue (R168, R172) -/

/-- The place behind the head of a ring. -/
def Sq.next (q : Sq) : Nat := (q.head + 1) % sqDepth q.cfg

/-- A queue that takes a descriptor, behind what it has fetched. -/
def Sq.take (q : Sq) (d : Desc) : Sq :=
  { q with head := q.next, tail := (q.tail + 1) % sqDepth q.cfg, fetched := q.fetched ++ [(d, q.next)] }

/-- The node reads the ring of the queue, or the submitter writes it. -/
abbrev State.Reads (s : State) (q : Sq) : Prop := sqFabric q.cfg = true ∨ s.dmaOk = true

theorem submit_active {d : Desc} (found : aget s.queues.sqs n = some q) (active : q.st = .active) (reads : s.Reads q) :
    s.submit n d = (s.fetchAll n q.waiting).modSq n fun x => x.take d := by
  have open_ : (!sqFabric q.cfg && !s.dmaOk) = false := by rcases reads with fabric | dma <;> simp [*]
  simp only [State.submit, found, open_, active, Bool.false_eq_true, if_false, if_true]
  rfl

theorem submit_inactive {d : Desc} (found : aget s.queues.sqs n = some q) (inactive : q.st ≠ .active) (reads : s.Reads q) :
    s.submit n d = s.bump 0x4000 8 := by
  have open_ : (!sqFabric q.cfg && !s.dmaOk) = false := by rcases reads with fabric | dma <;> simp [*]
  simp only [State.submit, found, open_, inactive, Bool.false_eq_true, if_false]

theorem submit_noDma {d : Desc} (found : aget s.queues.sqs n = some q) (host : sqFabric q.cfg = false) (noDma : s.dmaOk = false) :
    s.submit n d = s := by
  simp only [State.submit, found, host, noDma, Bool.not_false, Bool.and_self, if_true]

theorem submit_absent {d : Desc} (absent : aget s.queues.sqs n = none) : s.submit n d = s.bump 0x4000 8 := by
  simp only [State.submit, absent]

/-- A queue with an empty ring and nothing fetched holds the one descriptor. -/
theorem submit_empty {d : Desc} (found : aget s.queues.sqs n = some q) (active : q.st = .active) (reads : s.Reads q)
    (empty : q.waiting = 0) : s.submit n d = s.modSq n fun x => x.take d := by
  rw [submit_active found active reads, empty, State.fetchAll]

end

/-! ## The front descriptor (R172, R173) -/

section
variable {s : State} {n k head : Nat} {d : Desc} {rest : List (Desc × Nat)}

theorem admitFront_admits (front : (s.sqOf n).fetched = (d, head) :: rest) (may : s.canAdmit n d = true) :
    s.admitFront n = (s.modSq n fun x => { x with fetched := rest }).admitDesc n d head := by
  simp only [State.admitFront, front, may, if_true]

theorem admitFront_keeps (front : (s.sqOf n).fetched = (d, head) :: rest) (mayNot : s.canAdmit n d = false) : s.admitFront n = s := by
  simp only [State.admitFront, front, mayNot, Bool.false_eq_true, if_false]

theorem admitFront_none (none : (s.sqOf n).fetched = []) : s.admitFront n = s := by
  simp only [State.admitFront, none]

theorem admitRun_admits (front : (s.sqOf n).fetched = (d, head) :: rest) (may : s.canAdmit n d = true) :
    s.admitRun n (k + 1) = ((s.admitFront n).runCmd s.sched.nextId).admitRun n k := by
  simp only [State.admitRun, front, may, if_true]

theorem admitRun_keeps (front : (s.sqOf n).fetched = (d, head) :: rest) (mayNot : s.canAdmit n d = false) :
    s.admitRun n (k + 1) = s := by
  simp only [State.admitRun, front, mayNot, Bool.false_eq_true, if_false]

section
variable {q : Sq} (cfg : (s.sqOf n).cfg = q.cfg)
include cfg

theorem admitDesc_admitted {t : State} {c : Cmd} (passes : (s.takeEntries (sqDom q.cfg)).admission
    ((s.takeEntries (sqDom q.cfg)).newCmd n d head) (sqFabric q.cfg) = .ok (t, c)) :
    s.admitDesc n d head = (t.startCmd c).lowCheck := by
  rw [← cfg] at passes
  simp only [State.admitDesc, passes]

theorem admitDesc_refused {f : Fail} (fails : (s.takeEntries (sqDom q.cfg)).admission
    ((s.takeEntries (sqDom q.cfg)).newCmd n d head) (sqFabric q.cfg) = .error f) :
    s.admitDesc n d head = ((s.takeEntries (sqDom q.cfg)).failAdmission n (fld q.cfg 0 16) head d f).lowCheck := by
  have cq : ((s.takeEntries (sqDom q.cfg)).newCmd n d head).cq = fld q.cfg 0 16 := by
    show fld ((s.takeEntries _).sqOf n).cfg 0 16 = _
    rw [sqOf_takeEntries, cfg]
  rw [← cq]
  rw [← cfg] at fails ⊢
  simp only [State.admitDesc, fails]

end

end

/-! ## A command run whole (log 4) -/

/-- An ACTIVE queue that takes a descriptor, with nothing before it. -/
structure State.TakesNext (s : State) (n : Nat) (q : Sq) : Prop where
  found : aget s.queues.sqs n = some q
  active : q.st = .active
  reads : s.Reads q
  idle : q.fetched = []
  empty : q.waiting = 0

section
variable {s : State} {n : Nat} {d : Desc} {q : Sq}

theorem runOp_unfetched (none : ((s.submit n d).sqOf n).fetched = []) : s.runOp n d = s.submit n d := by
  rw [State.runOp, none, List.length_nil, State.admitRun]

theorem State.TakesNext.submit (h : s.TakesNext n q) : s.submit n d = s.modSq n fun x => x.take d :=
  submit_empty h.found h.active h.reads h.empty

theorem State.TakesNext.submit_idle (h : s.TakesNext n q) : s.submit n d = s.modSq n fun x =>
    { x with head := q.next, tail := (q.tail + 1) % sqDepth q.cfg, fetched := [(d, q.next)] } := by
  rw [h.submit]
  exact modSq_congr h.found (by simp only [Sq.take, h.idle, List.nil_append])

theorem State.TakesNext.aget_submit (h : s.TakesNext n q) : aget (s.submit n d).queues.sqs n = some (q.take d) := by
  rw [h.submit, modSq_aget s n _ q h.found]

/-- The descriptor is the only one that its queue has fetched. -/
theorem State.TakesNext.front (h : s.TakesNext n q) : ((s.submit n d).sqOf n).fetched = [(d, q.next)] := by
  rw [sqOf_eq h.aget_submit, Sq.take, h.idle, List.nil_append]

theorem State.TakesNext.nextId (h : s.TakesNext n q) : (s.submit n d).sched.nextId = s.sched.nextId := by
  rw [h.submit]
  rfl

/-- A queue keeps its configuration as its front descriptor is taken off. -/
theorem State.TakesNext.cfg (h : s.TakesNext n q) :
    (((s.submit n d).modSq n fun x => { x with fetched := [] }).sqOf n).cfg = q.cfg := by
  rw [sqOf_modSq h.aget_submit, Sq.take]

theorem State.TakesNext.runOp_admits (h : s.TakesNext n q) (may : (s.submit n d).canAdmit n d = true) :
    s.runOp n d = ((s.submit n d).admitFront n).runCmd s.sched.nextId := by
  rw [State.runOp, h.front, List.length_singleton, admitRun_admits h.front may, State.admitRun, h.nextId]

theorem State.TakesNext.admitFront (h : s.TakesNext n q) (may : (s.submit n d).canAdmit n d = true) :
    (s.submit n d).admitFront n = ((s.submit n d).modSq n fun x => { x with fetched := [] }).admitDesc n d q.next :=
  admitFront_admits h.front may

theorem State.TakesNext.runOp_keeps (h : s.TakesNext n q) (mayNot : (s.submit n d).canAdmit n d = false) :
    s.runOp n d = s.submit n d := by
  rw [State.runOp, h.front, List.length_singleton, admitRun_keeps h.front mayNot]

end

/-- Settles O11: the one descriptor admitted, refused or kept; the queues that take none; and what stands before it. -/
theorem submittedCommandIsAdmittedOrRefused : Obligations.SubmittedCommandIsAdmittedOrRefused := by
  refine ⟨fun i s t n d q c command found active reads idle empty may passes => ?_,
    fun i s n d q f command found active reads idle empty may fails => ?_,
    fun i s n d q command found active reads idle empty mayNot => ?_, fun i s n d command absent => ?_,
    fun i s n d q command found idle reads inactive => ?_, fun i s n d q command found idle host noDma => ?_,
    fun i s u n k d q command found active reads made count => ?_,
    fun s n k h d r front => ⟨fun may => ?_, admitRun_keeps front⟩⟩
  · have next : s.TakesNext n q := ⟨found, active, reads, idle, empty⟩
    rw [submitted_exec s command, next.runOp_admits may, next.admitFront may, admitDesc_admitted (head := q.next) next.cfg passes]
  · have next : s.TakesNext n q := ⟨found, active, reads, idle, empty⟩
    rw [submitted_exec s command, next.runOp_admits may, next.admitFront may, admitDesc_refused (head := q.next) next.cfg fails]
    rfl
  · have next : s.TakesNext n q := ⟨found, active, reads, idle, empty⟩
    rw [submitted_exec s command, next.runOp_keeps mayNot, next.submit_idle]
    rfl
  · have submit : s.submit n d = s.bump 0x4000 8 := submit_absent absent
    have unfetched : (s.sqOf n).fetched = [] := by rw [State.sqOf, absent, Option.getD_none]
    rw [submitted_exec s command, runOp_unfetched (by rw [submit, sqOf_bump, unfetched]), submit]
  · have submit : s.submit n d = s.bump 0x4000 8 := submit_inactive found inactive reads
    rw [submitted_exec s command, runOp_unfetched (by rw [submit, sqOf_bump, sqOf_eq found, idle]), submit]
  · have submit : s.submit n d = s := submit_noDma found host noDma
    rw [submitted_exec s command, runOp_unfetched (by rw [submit, sqOf_eq found, idle]), submit]
  · subst made count
    exact ⟨submit_active found active reads, submitted_exec s command⟩
  · rw [admitRun_admits front may, admitFront_admits front may]

end Sys2Proof.Machine
end

section
/-! SUPPORT. A command that commits (R18, R178, R272): whether it does, and with which effect for each row of the table. -/

namespace Sys2Proof.Machine

/-! ## Whether it commits -/

section
variable {s : State} {id : Nat} {c : Cmd}

theorem tryCommit_gone (gone : s.cmd id = none) : s.tryCommit id = s := by
  simp only [State.tryCommit, gone]

theorem tryCommit_held (found : s.cmd id = some c) (ended : s.heldEnded c = true) :
    s.tryCommit id = (s.endCmd c ⟨stBusy, 0, 0, 0⟩).wake := by
  simp only [State.tryCommit, found, ended, if_true]

theorem tryCommit_failed {st cause r0 r1 : Nat} (found : s.cmd id = some c) (open_ : s.heldEnded c = false)
    (failed : c.stage = .failed st cause r0 r1) : s.tryCommit id = (s.endCmd c ⟨st, cause, r0, r1⟩).wake := by
  simp only [State.tryCommit, found, open_, failed, Bool.false_eq_true, if_false]

/-- A command is ready only once its work is planned. -/
theorem planned_of_ready (ready : s.commitReady c = true) : c.stage = .planned := by
  simp only [State.commitReady, Bool.and_eq_true, beq_iff_eq] at ready
  exact ready.1.1.1.1

theorem tryCommit_ready (found : s.cmd id = some c) (open_ : s.heldEnded c = false) (ready : s.commitReady c = true) :
    s.tryCommit id = s.commitCmd c := by
  simp only [State.tryCommit, found, open_, planned_of_ready ready, ready, Bool.false_eq_true, if_false, if_true]

theorem tryCommit_unready (found : s.cmd id = some c) (open_ : s.heldEnded c = false)
    (works : ∀ st cause r0 r1, c.stage ≠ .failed st cause r0 r1) (unready : s.commitReady c = false) : s.tryCommit id = s := by
  simp only [State.tryCommit, found, open_, unready, Bool.false_eq_true, if_false]

theorem commitCmd_lost (lost : s.unitFails c = true) : s.commitCmd c = (s.endCmd c ⟨stPartFail, 0, 0, 0⟩).wake.lowCheck := by
  simp only [State.commitCmd, lost, if_true]

theorem commitCmd_moved {f : Fail} (whole : s.unitFails c = false) (moved : s.seqGone c = some f) :
    s.commitCmd c = (s.endCmd c f).wake.lowCheck := by
  simp only [State.commitCmd, whole, moved, Bool.false_eq_true, if_false]

theorem commitCmd_effect (whole : s.unitFails c = false) (stays : s.seqGone c = none) :
    s.commitCmd c = (s.opCommit c).wake.lowCheck := by
  simp only [State.commitCmd, whole, stays, Bool.false_eq_true, if_false]

end

/-! ## Its effect -/

section
variable {s : State} {c : Cmd} {d : Desc} {op : Nat}

theorem dOp_of_row (row : c.desc = rowDesc op 0 0 d) (byte : op < 256) : dOp c.desc = op := by
  rw [row, rowDesc_op op 0 0 d byte (by simp) (by simp)]

/-- Option bits lie above the opcode's byte. -/
theorem onesAt_above {lo n k : Nat} (above : 8 ≤ lo) (low : k < 8) : (onesAt lo n).getLsbD k = false := by
  rw [onesAt_getLsbD, decide_eq_false (by omega : ¬ lo ≤ k), Bool.and_false, Bool.false_and]

/-- An option bit of a row: set where the row sets it, clear where it clears it, else as it was submitted. -/
theorem rowDesc_option {set clear : BitVec 1024} {k : Nat} (byte : op < 256) (option : 8 ≤ k) (inside : k < 1024) :
    bit (rowDesc op set clear d) k = (d.getLsbD k && !clear.getLsbD k || set.getLsbD k) := by
  have noOp : op.testBit k = false :=
    Nat.testBit_lt_two_pow (byte.trans_le (Nat.pow_le_pow_right (by decide : 0 < 2) option))
  rw [bit, rowDesc_getLsbD _ _ _ _ _ inside, noOp, decide_eq_false (by omega : ¬ k < 8), Bool.not_false, Bool.and_true, Bool.or_false]

theorem migrate_out (row : c.desc = rowDesc 0x42 0 (moveBit ||| backBit) d) :
    dOp c.desc = 0x42 ∧ mMove c.desc = false ∧ mBack c.desc = false := by
  rw [row, mMove, mBack, rowDesc_option (by decide) (by decide) (by decide), rowDesc_option (by decide) (by decide) (by decide)]
  refine ⟨rowDesc_op _ _ _ _ (by decide) (by simp) fun k low => ?_, ?_, ?_⟩
  · rw [BitVec.getLsbD_or, moveBit, backBit, onesAt_above (by decide) low, onesAt_above (by decide) low, Bool.or_false]
  · simp [moveBit, onesAt_getLsbD]
  · simp [backBit, onesAt_getLsbD]

theorem migrate_in (row : c.desc = rowDesc 0x42 backBit moveBit d) :
    dOp c.desc = 0x42 ∧ mMove c.desc = false ∧ mBack c.desc = true := by
  rw [row, mMove, mBack, rowDesc_option (by decide) (by decide) (by decide), rowDesc_option (by decide) (by decide) (by decide)]
  refine ⟨rowDesc_op _ _ _ _ (by decide) (fun k => onesAt_above (by decide)) (fun k => onesAt_above (by decide)), ?_, ?_⟩
  · rw [moveBit, backBit, onesAt_getLsbD, onesAt_getLsbD]
    simp
  · simp [backBit, onesAt_getLsbD]

theorem migrate_move (row : c.desc = rowDesc 0x42 moveBit 0 d) : dOp c.desc = 0x42 ∧ mMove c.desc = true := by
  rw [row, mMove, rowDesc_option (by decide) (by decide) (by decide)]
  refine ⟨rowDesc_op _ _ _ _ (by decide) (fun k => onesAt_above (by decide)) (by simp), ?_⟩
  simp [moveBit, onesAt_getLsbD]

theorem opCommit_mask (mask : dOp c.desc = 0x50) : s.opCommit c = s.commitMask c := by
  simp only [State.opCommit, mask]

theorem opCommit_migrate (migrate : dOp c.desc = 0x42) : s.opCommit c = s.commitMigrate c := by
  simp only [State.opCommit, migrate]

theorem commitMigrate_out (copy : mMove c.desc = false) (out : mBack c.desc = false) : s.commitMigrate c =
    (c.jobs.foldl (fun t j => t.leavePage c j) s).endOk { c with jobs := [] } c.jobs.length 0 0 := by
  simp only [State.commitMigrate, copy, out, Bool.false_eq_true, if_false]

theorem commitMigrate_in (copy : mMove c.desc = false) (back : mBack c.desc = true) : s.commitMigrate c =
    (c.jobs.foldl (fun t j => t.landPage 2 j) s).endOk c c.jobs.length 0 0 := by
  simp only [State.commitMigrate, copy, back, Bool.false_eq_true, if_false, if_true]

theorem commitMigrate_move {m : MoveSt} (move : mMove c.desc = true)
    (found : (s.xnt.moves.find? fun x => x.cmd == some c.id) = some m) :
    s.commitMigrate c = (s.moveOut m).endOk { c with jobs := [] } (s.seq m.seq).handles.length 0 0 := by
  simp only [State.commitMigrate, move, found, if_true]

end

/-! ## Every row -/

/-- Settles O12: the command alone on its queue is run to its commit; then its effect, by the opcode of each row. -/
theorem submittedCommandCommitsItsEffect : Obligations.SubmittedCommandCommitsItsEffect := by
  refine ⟨fun i s u n d q c command found active reads idle empty may run left _ open_ ready whole stays => ?_, fun s c d => ?_⟩
  · have next : s.TakesNext n q := ⟨found, active, reads, idle, empty⟩
    rw [submitted_exec s command, next.runOp_admits may, State.runCmd, ← run, tryCommit_ready left open_ ready,
      commitCmd_effect whole stays]
  · refine ⟨?_, ?_, ?_, ?_, ?_, ?_, ?_, ?_, ?_, ?_, ?_, ?_, ?_, ?_, fun row => ?migrateOut, fun row => ?migrateIn,
      fun row m found => ?migrateMove, ?_, ?_, fun row => opCommit_mask ?maskPut, fun row => opCommit_mask ?maskDrop, ?_, ?_, ?_⟩
    case migrateOut =>
      obtain ⟨migrate, copy, out⟩ := migrate_out row
      rw [opCommit_migrate migrate, commitMigrate_out copy out]
    case migrateIn =>
      obtain ⟨migrate, copy, back⟩ := migrate_in row
      rw [opCommit_migrate migrate, commitMigrate_in copy back]
    case migrateMove =>
      obtain ⟨migrate, move⟩ := migrate_move row
      rw [opCommit_migrate migrate, commitMigrate_move move found]
    case maskPut => exact row ▸ rowDesc_op _ _ _ _ (by decide) (by simp) fun k => onesAt_above (by decide)
    case maskDrop =>
      exact row ▸ rowDesc_op _ _ _ _ (by decide) (fun k => onesAt_above (by decide)) fun k => onesAt_above (by decide)
    all_goals exact fun row => by simp only [State.opCommit, dOp_of_row row (by decide)]

end Sys2Proof.Machine
end

section
/-! SUPPORT. Doorbells of the host (R166, R168): whether the link carries one (R360, R364, R365), and what it moves. A head counts
modulo its queue's depth (log 55). -/

namespace Sys2Proof.Machine

theorem exec_sqTailDoorbell (s : State) (n v : BitVec 16) :
    Sys2Proof.Machine.exec (.sqTailDoorbell n v) s = .next (s.sealed (s.hostTail n.toNat v.toNat)) := rfl

theorem exec_cqHeadDoorbell (s : State) (n v : BitVec 16) :
    Sys2Proof.Machine.exec (.cqHeadDoorbell n v) s = .next (s.sealed (s.hostHead n.toNat v.toNat)) := rfl

/-! ## Tails -/

section
variable {s : State} {n v : Nat}

/-- The home of a submission queue, as its doorbell sees it. -/
theorem hostTail_eq : s.hostTail n v =
    if s.doorbellOpen (((aget s.queues.sqs n).map fun q => sqFabric q.cfg).getD false) then s.tailDoorbell n v else s := by
  unfold State.hostTail
  cases aget s.queues.sqs n <;> rfl

theorem hostTail_closed (closed : s.doorbellOpen (((aget s.queues.sqs n).map fun q => sqFabric q.cfg).getD false) = false) :
    s.hostTail n v = s := by
  rw [hostTail_eq, closed, if_neg Bool.false_ne_true]

theorem hostTail_open {q : Sq} (found : aget s.queues.sqs n = some q) (carried : s.doorbellOpen (sqFabric q.cfg) = true) :
    s.hostTail n v = s.tailDoorbell n v := by
  rw [hostTail_eq, found, Option.map_some, Option.getD_some, if_pos carried]

theorem hostTail_absent (absent : aget s.queues.sqs n = none) (carried : s.doorbellOpen false = true) :
    s.hostTail n v = s.bump 0x4000 8 := by
  rw [hostTail_eq, absent, Option.map_none, Option.getD_none, if_pos carried]
  simp only [State.tailDoorbell, absent]

section
variable {q : Sq} (found : aget s.queues.sqs n = some q)
include found

theorem tailDoorbell_inactive (inactive : q.st ≠ .active) : s.tailDoorbell n v = s.bump 0x4000 8 := by
  simp only [State.tailDoorbell, found, ne_eq, inactive, not_false_eq_true, if_true]

theorem tailDoorbell_within (active : q.st = .active) (within : v < sqDepth q.cfg) :
    s.tailDoorbell n v = s.modSq n fun x => { x with tail := v } := by
  simp only [State.tailDoorbell, found, active, ne_eq, not_true_eq_false, within.not_ge, if_false]

theorem tailDoorbell_beyond (active : q.st = .active) (beyond : sqDepth q.cfg ≤ v) : s.tailDoorbell n v =
    (s.modSq n fun x => { x with st := .error }).note 0x0106 (some (sqDom q.cfg)) islSched n [n] := by
  simp only [State.tailDoorbell, State.queueError, found, active, ne_eq, not_true_eq_false, beyond, if_false, if_true]

end

/-! ## Heads -/

/-- The home of a completion queue, as its doorbell sees it. -/
theorem hostHead_eq : s.hostHead n v =
    if s.doorbellOpen (((aget s.queues.cqs n).map fun q => bit q.cfg 21).getD false) then s.headDoorbell n v else s := by
  unfold State.hostHead
  cases aget s.queues.cqs n <;> rfl

theorem hostHead_closed (closed : s.doorbellOpen (((aget s.queues.cqs n).map fun q => bit q.cfg 21).getD false) = false) :
    s.hostHead n v = s := by
  rw [hostHead_eq, closed, if_neg Bool.false_ne_true]

theorem hostHead_open {q : Cq} (found : aget s.queues.cqs n = some q) (carried : s.doorbellOpen (bit q.cfg 21) = true) :
    s.hostHead n v = s.headDoorbell n v := by
  rw [hostHead_eq, found, Option.map_some, Option.getD_some, if_pos carried]

theorem hostHead_absent (absent : aget s.queues.cqs n = none) (carried : s.doorbellOpen false = true) :
    s.hostHead n v = s.bump 0x4000 8 := by
  rw [hostHead_eq, absent, Option.map_none, Option.getD_none, if_pos carried]
  simp only [State.headDoorbell, absent]

/-- The entries between the head of a ring and a place in it. -/
def Cq.ahead (q : Cq) (at_ : Nat) : Nat := (at_ + cqDepth q.cfg - q.head) % cqDepth q.cfg

section
variable {q : Cq} (found : aget s.queues.cqs n = some q)
include found

theorem headDoorbell_within (within : q.ahead (v % cqDepth q.cfg) ≤ q.ahead q.tail) : s.headDoorbell n v =
    ((s.modCq n fun x => { x with msi := true }).modCq n fun x => { x with head := v % cqDepth q.cfg }).flushCq n := by
  unfold Cq.ahead at within
  simp only [State.headDoorbell, found, if_pos within]

theorem headDoorbell_beyond (beyond : q.ahead q.tail < q.ahead (v % cqDepth q.cfg)) :
    s.headDoorbell n v = (s.modCq n fun x => { x with msi := true }).bump 0x4000 8 := by
  unfold Cq.ahead at beyond
  simp only [State.headDoorbell, found, if_neg beyond.not_ge]

end

end

/-! ## Every case -/

/-- Settles O13: a doorbell that the link carries, of a queue that is there or not, and one that it does not carry. -/
theorem doorbellsMoveTheQueue : Obligations.DoorbellsMoveTheQueue := by
  refine ⟨fun s n v q found carried => ?_, fun s n v absent carried => ?_, fun s n v closed => ?_, fun s n v q found carried => ?_,
    fun s n v absent carried => ?_, fun s n v closed => ?_⟩
  · rw [exec_sqTailDoorbell, hostTail_open found carried]
    refine ⟨fun active within => ?_, fun active beyond => ?_, fun inactive => ?_⟩
    · rw [tailDoorbell_within found active within]
    · rw [tailDoorbell_beyond found active beyond]
    · rw [tailDoorbell_inactive found inactive]
  · rw [exec_sqTailDoorbell, hostTail_absent absent carried]
  · rw [exec_sqTailDoorbell, hostTail_closed closed]
  · rw [exec_cqHeadDoorbell, hostHead_open found carried]
    refine ⟨fun within => ?_, fun beyond => ?_⟩
    · rw [headDoorbell_within found within]
    · rw [headDoorbell_beyond found beyond]
  · rw [exec_cqHeadDoorbell, hostHead_absent absent carried]
  · rw [exec_cqHeadDoorbell, hostHead_closed closed]

end Sys2Proof.Machine
end

section
/-! SUPPORT. The events of a command's life (R172 to R174, R178), and the ends of deletions (R164, R298, R302). -/

namespace Sys2Proof.Machine

theorem exec_descriptorFetch (s : State) (n : BitVec 16) :
    Sys2Proof.Machine.exec (.descriptorFetch n) s = .next (s.sealed (s.fetch n.toNat)) := rfl

theorem exec_commandAdmit (s : State) (n : BitVec 16) :
    Sys2Proof.Machine.exec (.commandAdmit n) s = .next (s.sealed (s.admitFront n.toNat)) := rfl

theorem exec_commandWaitLimit (s : State) (id : Nat) :
    Sys2Proof.Machine.exec (.commandWaitLimit id) s = .next (s.sealed (s.waitLimit id)) := rfl

theorem exec_commandCommit (s : State) (id : Nat) :
    Sys2Proof.Machine.exec (.commandCommit id) s = .next (s.sealed (s.tryCommit id)) := rfl

theorem exec_deleteSqDone (s : State) (n : BitVec 16) :
    Sys2Proof.Machine.exec (.deleteSqDone n) s = .next (s.sealed (s.sqDeleted n.toNat)) := rfl

theorem exec_teardownDone (s : State) (d : BitVec 12) :
    Sys2Proof.Machine.exec (.teardownDone d) s = .next (s.sealed (s.teardownDone d.toNat)) := rfl

section
variable {s : State} {n id d : Nat}

/-! ## Fetch (R172) -/

/-- The node may fetch from a queue, whose ring holds something. -/
abbrev State.Fetches (s : State) (q : Sq) : Prop := s.alive = true ∧ q.st = .active ∧ q.head ≠ q.tail ∧ s.Reads q

theorem fetch_eq {q : Sq} (found : aget s.queues.sqs n = some q) : s.fetch n =
    if s.Fetches q then s.modSq n fun x => { x with head := q.next, fetched := x.fetched ++ [(s.ringDesc q, q.next)] } else s := by
  simp only [State.fetch, found, Bool.and_eq_true, Bool.or_eq_true, beq_iff_eq, bne_iff_ne, and_assoc]
  rfl

theorem fetch_absent (absent : aget s.queues.sqs n = none) : s.fetch n = s := by
  simp only [State.fetch, absent]

/-! ## Wait limit (R174, R290) -/

theorem waitLimit_gone (gone : s.cmd id = none) : s.waitLimit id = s := by
  simp only [State.waitLimit, gone]

section
variable {c : Cmd} (found : s.cmd id = some c)
include found

theorem waitLimit_uncounted (uncounted : s.waitCounts c = false) : s.waitLimit id = s := by
  simp only [State.waitLimit, found, uncounted, Bool.not_false, if_true]

theorem waitLimit_ends (counts : s.waitCounts c = true) (alone : s.ringed id = false) :
    s.waitLimit id = (s.endCmd c ⟨stBusy, 1, 0, 0⟩).wake.lowCheck := by
  simp only [State.waitLimit, found, counts, alone, Bool.not_true, Bool.false_eq_true, if_false]

theorem waitLimit_aborts (counts : s.waitCounts c = true) (lap : s.ringed id = true) :
    s.waitLimit id = (s.detectAbort 5 none).wake.lowCheck := by
  simp only [State.waitLimit, found, counts, lap, Bool.not_true, Bool.false_eq_true, if_false, if_true]

end

/-! ## The ends of deletions (R164, R298, R302) -/

/-- No admitted command is left of the queue, or of the domain, that goes. -/
theorem noneLeft_iff (of : Cmd → Nat) : (!(s.sched.cmds.any fun c => of c == n)) = true ↔ ∀ c ∈ s.sched.cmds, of c ≠ n := by
  simp

theorem sqDeleted_eq {q : Sq} (found : aget s.queues.sqs n = some q) : s.sqDeleted n =
    if q.st = .deleting ∧ ∀ c ∈ s.sched.cmds, c.sq ≠ n then
      if sqFabric q.cfg then (s.modQueues fun x => { x with sqs := adel x.sqs n }).nodeClear q.region (sqRegion q.cfg)
      else s.modQueues fun x => { x with sqs := adel x.sqs n }
    else s := by
  simp only [State.sqDeleted, found, noneLeft_iff]

theorem sqDeleted_absent (absent : aget s.queues.sqs n = none) : s.sqDeleted n = s := by
  simp only [State.sqDeleted, absent]

theorem teardownDone_eq {x : Domain} (found : aget s.dom.doms d = some x) : s.teardownDone d =
    if x.tearing = true ∧ ∀ c ∈ s.sched.cmds, c.dom ≠ d then
      ((s.modDom fun y => { y with doms := amod y.doms d fun z => { z with tearing := false } }).bump 0x7000 5).note 0x0111
        (some d) islSched d [d]
    else s := by
  simp only [State.teardownDone, found, Bool.and_eq_true, noneLeft_iff]

theorem teardownDone_absent (absent : aget s.dom.doms d = none) : s.teardownDone d = s := by
  simp only [State.teardownDone, absent]

end

/-! ## Every case -/

/-- Settles O14: each event by what it finds. -/
theorem commandLifeEventsAndDeletions : Obligations.CommandLifeEventsAndDeletions := by
  refine ⟨⟨fun s n q found => ⟨fun fetches => ?_, fun idle => ?_⟩, fun s n absent => ?_,
      fun s n d h r front => ⟨fun may => ?_, fun mayNot => ?_⟩, fun s n none => ?_,
      fun s id c found => ⟨fun counts alone => ?_, fun counts lap => ?_, fun uncounted => ?_⟩,
      fun s id c found => ⟨fun ended => ?_, fun open_ => ⟨fun st cause r0 r1 failed => ?_,
        fun ready => ⟨fun lost => ?_, fun f whole moved => ?_, fun whole stays => ?_⟩, fun works unready => ?_⟩⟩,
      fun s id gone => ⟨?_, ?_⟩⟩,
    fun s n q found => ⟨fun done => ?_, fun waits => ?_⟩, fun s n absent => ?_,
    fun s d x found => ⟨fun done => ?_, fun waits => ?_⟩, fun s d absent => ?_⟩
  · rw [exec_descriptorFetch, fetch_eq found, if_pos fetches]
    rfl
  · rw [exec_descriptorFetch, fetch_eq found, if_neg idle]
  · rw [exec_descriptorFetch, fetch_absent absent]
  · rw [exec_commandAdmit, admitFront_admits front may]
  · rw [exec_commandAdmit, admitFront_keeps front mayNot]
  · rw [exec_commandAdmit, admitFront_none none]
  · rw [exec_commandWaitLimit, waitLimit_ends found counts alone]
  · rw [exec_commandWaitLimit, waitLimit_aborts found counts lap]
  · rw [exec_commandWaitLimit, waitLimit_uncounted found uncounted]
  · rw [exec_commandCommit, tryCommit_held found ended]
  · rw [exec_commandCommit, tryCommit_failed found open_ failed]
  · rw [exec_commandCommit, tryCommit_ready found open_ ready, commitCmd_lost lost]
  · rw [exec_commandCommit, tryCommit_ready found open_ ready, commitCmd_moved whole moved]
  · rw [exec_commandCommit, tryCommit_ready found open_ ready, commitCmd_effect whole stays]
  · rw [exec_commandCommit, tryCommit_unready found open_ works unready]
  · rw [exec_commandWaitLimit, waitLimit_gone gone]
  · rw [exec_commandCommit, tryCommit_gone gone]
  · rw [exec_deleteSqDone, sqDeleted_eq found, if_pos done]
  · rw [exec_deleteSqDone, sqDeleted_eq found, if_neg waits]
  · rw [exec_deleteSqDone, sqDeleted_absent absent]
  · rw [exec_teardownDone, teardownDone_eq found, if_pos done]
  · rw [exec_teardownDone, teardownDone_eq found, if_neg waits]
  · rw [exec_teardownDone, teardownDone_absent absent]

end Sys2Proof.Machine
end

section
/-! SUPPORT. Queues created and deleted (R161 to R165): QUEUE_OP as an entry, and what each of its operations does. -/

namespace Sys2Proof.Machine

/-! ## The entry (R437) -/

section
variable {s : State} {ch : Chan} {v : Byte}

/-- QUEUE_OP as the dictionary has it: one byte, 1 to 4, that acts at once. -/
theorem pdRow_queueOp : pdRow 0x4100 4 = some ⟨0x4100, 4, 4, 1, 1, true, 0, 2, 2, 0, 0, 0, 1, 4⟩ := by decide

theorem State.MayWrite.reachesQueueOp (may : s.MayWrite ⟨ch, 0, 0x4100, 4, [v]⟩) (known : 1 ≤ v.toNat ∧ v.toNat ≤ 4) :
    s.ReachesEntry ⟨ch, 0, 0x4100, 4, [v]⟩ := by
  obtain ⟨serves, r, access⟩ := may
  obtain rfl := Option.some.inj (pdRow_queueOp.symm.trans (accessFail_row access))
  have plain : 0x4100 ≠ 0x7000 ∧ 0x4100 ≠ 0x8300 ∧ 0x4100 ≠ 0x8400 := by decide
  refine ⟨serves, ⟨_, access, rfl, plain_value _ _ _ _ _ rfl rfl (by decide) (fun _ => ?_) rfl plain.1 rfl⟩, rfl, plain.2⟩
  rwa [leNat, leNat, Nat.mul_zero, Nat.add_zero]

end

/-! ## Creates (R161 to R165) -/

section
variable {s : State} {n : Nat} {c : BitVec 256}

/-- The configuration staged for a submission queue may be created, but for the queue that may be there (R161, R162, R164, R426). -/
structure State.SqStaged (s : State) (n : Nat) (c : BitVec 256) (q : Cq) : Prop where
  staged : c = (aget s.queues.stagedSq n).getD 0
  cq : aget s.queues.cqs (fld c 0 16) = some q
  ok : sqCfgOk c = true
  dom : s.domActive (sqDom c) = true
  fits : cqMatches c q = true
  room : sqFabric c = false ∨ s.queueMemory + sqRegion c ≤ s.num 0x4000 5
  starts : s.createsFail = false

/-- A submission queue put in its place. -/
def State.putSq (s : State) (n : Nat) (c : BitVec 256) (rkey region : Nat) : State :=
  s.modQueues fun x => { x with sqs := aput x.sqs n { cfg := c, rkey := rkey, region := region } }

theorem State.SqStaged.room_true {q : Cq} (h : s.SqStaged n c q) :
    (!sqFabric c || decide (s.queueMemory + sqRegion c ≤ s.num 0x4000 5)) = true := by
  rcases h.room with host | memory <;> simp [*]

section
variable {q : Cq} (h : s.SqStaged n c q)
include h

theorem createSq_host (home : sqFabric c = false) (absent : aget s.queues.sqs n = none) :
    s.createSq n = .ok (s.putSq n c 0 0) := by
  simp only [State.createSq, ← h.staged, firstFail, h.cq, h.ok, h.dom, h.fits, h.starts, absent, home, Bool.and_self,
    Bool.not_false, Option.isNone_none, Bool.false_eq_true, if_true, if_false]
  rfl

theorem createSq_fabric {t : State} {k g : Nat} (home : sqFabric c = true) (absent : aget s.queues.sqs n = none)
    (key : s.newKey { kind := .queue, dom := sqDom c, len := sqRegion c, place := n } = some (t, k, g)) :
    s.createSq n = .ok (t.putSq n c k (s.regionPlace (sqRegion c))) := by
  have room := h.room_true
  rw [home] at room
  simp only [State.createSq, ← h.staged, firstFail, h.cq, h.ok, h.dom, h.fits, room, h.starts, absent, home, key, Bool.and_self,
    Bool.not_false, Option.isNone_none, if_true]
  rfl

theorem createSq_there (there : aget s.queues.sqs n ≠ none) : s.createSq n = .error busy0 := by
  obtain ⟨x, found⟩ := Option.ne_none_iff_exists'.1 there
  simp only [State.createSq, ← h.staged, firstFail, h.cq, h.ok, h.dom, h.fits, h.room_true, h.starts, found, Bool.and_self,
    Bool.not_false, Option.isNone_some, Bool.false_eq_true, if_true, if_false]

end

/-- The configuration staged for a completion queue may be created, but for the queue that may be there (R163, R164, R426). -/
structure State.CqStaged (s : State) (n : Nat) (c : BitVec 256) : Prop where
  staged : c = (aget s.queues.stagedCq n).getD 0
  ok : cqCfgOk c = true
  dom : s.domActive (fld c 0 12) = true
  starts : s.createsFail = false

theorem createCq_absent (h : s.CqStaged n c) (absent : aget s.queues.cqs n = none) :
    s.createCq n = .ok (s.modQueues fun x => { x with cqs := aput x.cqs n { cfg := c } }) := by
  simp only [State.createCq, ← h.staged, firstFail, h.ok, h.dom, h.starts, absent, Bool.and_self, Bool.not_false,
    Option.isNone_none, if_true]

theorem createCq_there (h : s.CqStaged n c) (there : aget s.queues.cqs n ≠ none) : s.createCq n = .error busy0 := by
  obtain ⟨x, found⟩ := Option.ne_none_iff_exists'.1 there
  simp only [State.createCq, ← h.staged, firstFail, h.ok, h.dom, h.starts, found, Bool.and_self, Bool.not_false,
    Option.isNone_some, Bool.false_eq_true, if_true, if_false]

end

/-! ## Deletes (R164, R266) -/

section
variable {s : State} {n : Nat}

/-- A submission queue that fetches no more; its fetched descriptors are aborted. -/
def State.abortFetched (s : State) (n : Nat) (q : Sq) : State :=
  q.fetched.foldl (fun t p => t.completeDesc n (fld q.cfg 0 16) p.2 p.1 ⟨stAborted, 0, 0, 0⟩)
    (s.modSq n fun x => { x with st := .deleting, fetched := [] })

theorem deleteSq_live {q : Sq} (found : aget s.queues.sqs n = some q) (live : q.st ≠ .deleting) : s.deleteSq n =
    .ok (if sqFabric q.cfg then (s.abortFetched n q).revoke q.rkey else s.abortFetched n q) := by
  simp only [State.deleteSq, found, if_neg live]
  rfl

theorem deleteSq_gone (gone : ∀ q, aget s.queues.sqs n = some q → q.st = .deleting) : s.deleteSq n = .error busy0 := by
  cases found : aget s.queues.sqs n with
  | none => simp only [State.deleteSq, found]
  | some q => simp only [State.deleteSq, found, if_pos (gone q found)]

theorem deleteCq_unused {q : Cq} (found : aget s.queues.cqs n = some q) (unused : ∀ p ∈ s.queues.sqs, fld p.2.cfg 0 16 ≠ n) :
    s.deleteCq n = .ok (s.modQueues fun x => { x with cqs := adel x.cqs n }) := by
  have free : ¬ ((aget s.queues.cqs n).isNone = true ∨ s.queues.sqs.any (fun p => fld p.2.cfg 0 16 == n) = true) := by
    simpa [found] using fun a x => unused (a, x)
  rw [State.deleteCq, if_neg free]

theorem deleteCq_used (used : aget s.queues.cqs n = none ∨ ∃ p ∈ s.queues.sqs, fld p.2.cfg 0 16 = n) :
    s.deleteCq n = .error busy0 := by
  have held : (aget s.queues.cqs n).isNone = true ∨ s.queues.sqs.any (fun p => fld p.2.cfg 0 16 == n) = true := by
    simpa using used
  rw [State.deleteCq, if_pos held]

end

/-! ## The commands -/

section
variable {s t : State} {ch : Chan}

/-- A refused operation on a queue is answered ST_BUSY and leaves no mark. -/
theorem queueOp_busy {i : Instr} {v : Byte} (may : s.MayWrite ⟨ch, 0, 0x4100, 4, [v]⟩) (known : 1 ≤ v.toNat ∧ v.toNat ≤ 4)
    (command : entryWrite i = some ⟨ch, 0, 0x4100, 4, [v]⟩) (busy : s.queueOp (s.sel ch 0x4100 1) (leNat [v]) = .error busy0) :
    Sys2Proof.Machine.exec i s = .next (s.sealed (s.answer s ⟨ch, 0, 0x4100, 4, [v]⟩ stBusy 0)) :=
  (may.reachesQueueOp known).refused (f := busy0) command busy (by decide) (by decide)

theorem queueOp_done {i : Instr} {v : Byte} (may : s.MayWrite ⟨ch, 0, 0x4100, 4, [v]⟩) (known : 1 ≤ v.toNat ∧ v.toNat ≤ 4)
    (command : entryWrite i = some ⟨ch, 0, 0x4100, 4, [v]⟩) (done : s.queueOp (s.sel ch 0x4100 1) (leNat [v]) = .ok t) :
    Sys2Proof.Machine.exec i s = .next (s.sealed (t.answer s ⟨ch, 0, 0x4100, 4, [v]⟩ 0 0)) :=
  (may.reachesQueueOp known).taken command done

end

/-- Settles O19: each operation on a queue that it may be done to, and each on one that it may not. -/
theorem queuesAreCreatedAndDeleted : Obligations.QueuesAreCreatedAndDeleted := by
  refine ⟨fun s ch may n c q sel staged cq ok dom fits home starts absent => ?_,
    fun s ch may n c q t k g sel staged cq ok dom fits home room starts absent key => ?_,
    fun s ch may n c sel staged ok dom starts absent => ?_, fun s ch may n q sel found unused => ?_,
    fun s ch may n q sel found live => ?_,
    fun s ch n sel => ⟨fun c q may staged cq ok dom fits room starts there => ?_, fun c may staged ok dom starts there => ?_,
      fun may gone => ?_, fun may used => ?_⟩⟩ <;> subst sel
  · exact queueOp_done may (by decide) rfl (createSq_host ⟨staged, cq, ok, dom, fits, .inl home, starts⟩ home absent)
  · exact queueOp_done may (by decide) rfl (createSq_fabric ⟨staged, cq, ok, dom, fits, .inr room, starts⟩ home absent key)
  · exact queueOp_done may (by decide) rfl (createCq_absent ⟨staged, ok, dom, starts⟩ absent)
  · exact queueOp_done may (by decide) rfl (deleteCq_unused found unused)
  · exact queueOp_done may (by decide) rfl (congrArg (Except.map (State.sqDeleted · _)) (deleteSq_live found live))
  · exact queueOp_busy may (by decide) rfl (createSq_there ⟨staged, cq, ok, dom, fits, room, starts⟩ there)
  · exact queueOp_busy may (by decide) rfl (createCq_there ⟨staged, ok, dom, starts⟩ there)
  · exact queueOp_busy may (by decide) rfl (congrArg (Except.map (State.sqDeleted · _)) (deleteSq_gone gone))
  · exact queueOp_busy may (by decide) rfl (deleteCq_used used)

end Sys2Proof.Machine
end

section
/-! SUPPORT. Work items on the tiles: a sheaf built (R189, R190, R193), an item's start and end (R146, R148, R149, R156, R309, R345,
R414), and granules cleared (R152). The clock of a start, and of what an item's run is charged, is the model's (logs 68, 76, 134). -/

namespace Sys2Proof.Machine

theorem exec_sheafBuild (s : State) (slice : BitVec 4) :
    Sys2Proof.Machine.exec (.sheafBuild slice) s = .next (s.sealed (s.buildSheaf slice.toNat)) := rfl

theorem exec_itemStart (s : State) (tag : BitVec 14) :
    Sys2Proof.Machine.exec (.itemStart tag) s = .next (s.sealed (s.itemStart tag.toNat)) := rfl

theorem exec_itemEnd (s : State) (tag : BitVec 14) :
    Sys2Proof.Machine.exec (.itemEnd tag) s = .next (s.sealed (s.itemEnd tag.toNat)) := rfl

theorem exec_granuleZeroFillDone (s : State) (tile : BitVec 7) :
    Sys2Proof.Machine.exec (.granuleZeroFillDone tile) s = .next (s.sealed (s.zeroFilled tile.toNat)) := rfl

/-! ## A sheaf (R189, R190, R193) -/

section
variable {s : State} {ready l : List Item} {budget pos : Nat} {it : Item}

/-- The items of a sheaf taken in order, some of the prefill budget spent. -/
def sheafRun (ready : List Item) (budget : Nat) (s : State) (pos : Nat) (l : List Item) : State :=
  (l.foldl (State.sheafItem ready budget) (s, pos)).1

theorem buildSheaf_eq {t : State} {slice : Nat} (pumped : t = (List.range 12).foldl State.pump s)
    (sheaf : ready = t.sched.items.filter fun it => it.op == .score && it.slice == slice && t.itemReady it)
    (share : budget = t.num 0x4200 2 * ((List.range 16).filter fun g => (sliceGroups (t.sliceReg slice)).testBit g).length) :
    s.buildSheaf slice = sheafRun ready budget t 0 (sortBy t.sheafKey ready) := by
  subst share sheaf
  rw [State.buildSheaf, State.pumpAll, ← pumped, sheafRun]

/-- The prefill budget is spent for an item while items of the other path wait. -/
def beyondBudget (ready : List Item) (budget pos : Nat) (it : Item) : Bool :=
  it.tilePath && decide (budget < pos + it.positions) && ready.any fun x => !x.tilePath

/-- An item of a sheaf is passed over. -/
abbrev State.PassesOver (s : State) (ready : List Item) (budget pos : Nat) (it : Item) : Prop :=
  s.power.brownOut ∨ !s.itemReady it ∨ beyondBudget ready budget pos it = true ∨ (!it.tilePath && !s.tokensFor it) = true

theorem passesOver_iff : s.PassesOver ready budget pos it ↔ s.power.brownOut = true ∨ s.itemReady it = false
    ∨ (it.tilePath = true ∧ budget < pos + it.positions ∧ ∃ x ∈ ready, x.tilePath = false)
    ∨ (it.tilePath = false ∧ s.tokensFor it = false) := by
  simp [State.PassesOver, beyondBudget, and_assoc]

theorem sheafItem_passes (skipped : s.PassesOver ready budget pos it) :
    State.sheafItem ready budget (s, pos) it = (s, pos) := if_pos skipped

theorem sheafRun_passes (skipped : s.PassesOver ready budget pos it) :
    sheafRun ready budget s pos (it :: l) = sheafRun ready budget s pos l := by
  rw [sheafRun, List.foldl_cons, sheafItem_passes skipped, sheafRun]

section
variable (taken : ¬ s.PassesOver ready budget pos it)
include taken

theorem sheafItem_places {k : Nat} (tile : ((s.itemTiles it).find? fun k => s.fits it k && s.turnFree ready it k) = some k) :
    State.sheafItem ready budget (s, pos) it = (s.place it k, if it.tilePath then pos + it.positions else pos) :=
  (if_neg taken).trans (by rw [tile])

theorem sheafItem_waits (noTile : ((s.itemTiles it).find? fun k => s.fits it k && s.turnFree ready it k) = none) :
    State.sheafItem ready budget (s, pos) it = (s.beginWait it, pos) :=
  (if_neg taken).trans (by rw [noTile])

theorem sheafRun_places {k : Nat} (tile : ((s.itemTiles it).find? fun k => s.fits it k && s.turnFree ready it k) = some k) :
    sheafRun ready budget s pos (it :: l) =
      sheafRun ready budget (s.place it k) (if it.tilePath then pos + it.positions else pos) l := by
  rw [sheafRun, List.foldl_cons, sheafItem_places taken tile, sheafRun]

theorem sheafRun_waits (noTile : ((s.itemTiles it).find? fun k => s.fits it k && s.turnFree ready it k) = none) :
    sheafRun ready budget s pos (it :: l) = sheafRun ready budget (s.beginWait it) pos l := by
  rw [sheafRun, List.foldl_cons, sheafItem_waits taken noTile, sheafRun]

end

end

/-! ## An item's start (R146, R148, R309, R414) -/

section
variable {s : State} {tag : Nat} {it : Item}

theorem leaves_any : ((List.range it.leaves).any fun k => s.leafIn it (it.leaf0 + k)) = true ↔
    ∃ k < it.leaves, s.leafIn it (it.leaf0 + k) = true := by
  simp

theorem leaves_all : ((List.range it.leaves).all fun k => s.leafIn it (it.leaf0 + k)) = true ↔
    ∀ k < it.leaves, s.leafIn it (it.leaf0 + k) = true := by
  simp

/-- An item may start now. -/
abbrev State.Starts (s : State) (it : Item) : Prop :=
  (s.power.brownOut = false ∧ s.turnOk it.tile it.dom = true) ∧ ∃ k < it.leaves, s.leafIn it (it.leaf0 + k) = true

theorem itemStart_placed (found : (s.sched.items.find? fun it => it.tag == tag && it.st == .placed) = some it) :
    s.itemStart tag =
      if s.Starts it then s.modItem tag fun x => { x with st := .running, startedAt := s.xnt.clock } else s := by
  simp only [State.itemStart, found, Bool.and_eq_true, Bool.not_eq_true', leaves_any]

theorem itemStart_none (none : ∀ it ∈ s.sched.items, it.tag = tag → it.st ≠ .placed) : s.itemStart tag = s := by
  have unfound : (s.sched.items.find? fun it => it.tag == tag && it.st == .placed) = Option.none :=
    List.find?_eq_none.2 fun it mem => by simpa using none it mem
  simp only [State.itemStart, unfound]

/-! ## An item's end (R149, R156, R345) -/

theorem itemEnd_none (none : ∀ it ∈ s.sched.items, it.tag = tag → it.st ≠ .running) : s.itemEnd tag = s := by
  have unfound : (s.sched.items.find? fun it => it.tag == tag && it.st == .running) = Option.none :=
    List.find?_eq_none.2 fun it mem => by simpa using none it mem
  simp only [State.itemEnd, unfound]

/-- All inputs of an item have been accepted. -/
abbrev State.AllIn (s : State) (it : Item) : Prop := it.stripes = [] ∧ ∀ k < it.leaves, s.leafIn it (it.leaf0 + k) = true

/-- What an item that ends well leaves counted and charged (R159, R190). -/
def State.countItem (s : State) (it : Item) : State :=
  let u := if it.tilePath then s.bump 0xB100 0xC else s
  if it.backfill then u.chargeTurn it.tile it.dom (s.ranFor it) else u

/-- An item that ends, and its row set with it when it is the last. -/
def State.endItem (s : State) (it : Item) : State := ((s.freeItem it).modItem it.tag fun x => { x with st := .ended }).closeRows it

theorem itemDone_chained {x : Item} (chained : it.chained = true) (next : (s.countItem it).chainNext it = some x) :
    s.itemDone it = (s.countItem it).chainOn it x := by
  unfold State.countItem at *
  simp only [State.itemDone, chained, if_true, next]

theorem itemDone_last (last : it.chained = false ∨ (s.countItem it).chainNext it = none) :
    s.itemDone it = (s.countItem it).endItem it := by
  have noNext : (if it.chained then (s.countItem it).chainNext it else none) = none := by
    rcases last with single | done
    · rw [single, if_neg Bool.false_ne_true]
    · rw [done, ite_self]
  unfold State.countItem at *
  simp only [State.itemDone, noNext]
  rfl

section
variable (found : (s.sched.items.find? fun it => it.tag == tag && it.st == .running) = some it)
include found

theorem itemEnd_awaits (awaits : ¬ s.AllIn it) : s.itemEnd tag = s := by
  have missing : (!it.stripes.isEmpty || !((List.range it.leaves).all fun k => s.leafIn it (it.leaf0 + k))) = true := by
    rw [← Bool.not_and, Bool.not_eq_true', Bool.eq_false_iff, ne_eq, Bool.and_eq_true, List.isEmpty_iff, leaves_all]
    exact awaits
  simp only [State.itemEnd, found, missing, if_true]

theorem itemEnd_in {inj off : Bool} {a t : State} (all : s.AllIn it)
    (inject : (s.itemErrors (s.physTile it.tile)).takeInject (s.physTile it.tile) (s.physTile it.tile) 0 = (inj, a))
    (check : a.checkOff (s.physTile it.tile) (s.physTile it.tile) = (off, t)) :
    s.itemEnd tag = if inj && !off then t.tileFails 0x06 it true else t.itemDone it := by
  have whole : (!it.stripes.isEmpty || !((List.range it.leaves).all fun k => s.leafIn it (it.leaf0 + k))) = false := by
    rw [← Bool.not_and, Bool.not_eq_false', Bool.and_eq_true, List.isEmpty_iff, leaves_all]
    exact all
  simp only [State.itemEnd, found, whole, inject, check, Bool.false_eq_true, if_false]

end

end

/-! ## Every case -/

/-- Settles O29: the items of a sheaf one after the other; the start and the end of an item by what it has; and cleared granules. -/
theorem itemsRunOnTiles : Obligations.ItemsRunOnTiles := by
  refine ⟨?_, fun s tag => ⟨fun it found => ⟨fun power turn leaf => ?_, fun held => ?_⟩, fun none => ?_⟩,
    fun s tag => ⟨fun it found => ⟨fun awaits => ?_, ?_⟩, fun none => ?_⟩, fun s k w t inject => ?_, exec_granuleZeroFillDone⟩
  · rintro s t slice ready budget pumped sheaf share
    refine ⟨sheafRun ready budget, fun u p => rfl, fun u p it l skipped => sheafRun_passes (passesOver_iff.2 skipped),
      fun u p it l power isReady within tokens => ?_, ?_⟩
    · have taken : ¬ u.PassesOver ready budget p it := by
        intro skipped
        rcases passesOver_iff.1 skipped with out | unready | ⟨path, spent, x, mem, other⟩ | ⟨path, none⟩
        · exact absurd out (by simp [power])
        · exact absurd isReady (by simp [unready])
        · exact (within path).elim spent.not_ge fun all => by simp [all x mem] at other
        · exact absurd (tokens path) (by simp [none])
      refine ⟨fun k tile => sheafRun_places taken tile, fun noTile => sheafRun_waits taken ?_⟩
      exact List.find?_eq_none.2 fun k mem => by simpa using noTile k mem
    · rw [exec_sheafBuild, buildSheaf_eq pumped sheaf share]
  · rw [exec_itemStart, itemStart_placed found, if_pos ⟨⟨power, turn⟩, leaf⟩]
  · have waits : ¬ s.Starts it := by
      rintro ⟨⟨power, turn⟩, k, lt, leaf⟩
      rcases held with out | other | noLeaf
      · simp [power] at out
      · simp [turn] at other
      · simp [noLeaf k lt] at leaf
    rw [exec_itemStart, itemStart_placed found, if_neg waits]
  · rw [exec_itemStart, itemStart_none none]
  · rw [exec_itemEnd, itemEnd_awaits found]
    rintro ⟨stripes, leaves⟩
    rcases awaits with stripe | ⟨k, lt, leaf⟩
    · exact stripe stripes
    · simp [leaves k lt] at leaf
  · rintro inj off a t _ _ stripes leaves inject check rfl rfl
    have ends := itemEnd_in found ⟨stripes, leaves⟩ inject check
    refine ⟨fun fails checked => ?_, fun x passes chained next => ?_, fun passes last => ?_⟩ <;> rw [exec_itemEnd, ends]
    · rw [fails, checked]
      rfl
    · rw [if_neg (by rcases passes with h | h <;> simp [h]), itemDone_chained chained next]
      rfl
    · rw [if_neg (by rcases passes with h | h <;> simp [h]), itemDone_last last]
      rfl
  · rw [exec_itemEnd, itemEnd_none none]
  · rw [State.itemErrors, inject]

end Sys2Proof.Machine
end

section
/-! SUPPORT. Entries whose value waits in a shadow copy for its boundary: their writes (R217, R317, R394) and what the boundary
does (R395). -/

namespace Sys2Proof.Machine

/-! ## Writes (R217, R317, R437) -/

/-- What the dictionary says of a CMD entry of a domain: its row, a store that no DATA QP writes, and neither the restart's entry
nor the session's. -/
abbrev CmdEntry (idx sub : Nat) (r : PdRow) : Prop :=
  pdRow idx sub = some r ∧ r.eff = 1 ∧ r.dm.testBit 1 = false ∧ pdScoped idx = true ∧ pdSelect idx sub = false
    ∧ idx ≠ 0x8300 ∧ idx ≠ 0x8400

/-- The check of a write of the host tier (R217); other CMD entries have none. -/
def State.tierFail (s : State) (w : EntryWrite) : Option Fail :=
  if w.idx = 0x3510 then s.tierWrite w.sub w.dom (leNat w.value) else none

/-- A CMD entry whose value fails the host tier's check refuses it (R217). -/
theorem writeEntry_cmdRefused {s : State} {ch : Chan} {r : PdRow} {k : PdKey} {l : List Byte} {f : Fail} (cmd : r.eff = 1)
    (stored : pdSelect k.idx k.sub = false) (value : s.valueFail r k l = none)
    (tier : (if k.idx = 0x3510 then s.tierWrite k.sub k.dom (leNat l) else none) = some f) :
    s.writeEntry ch r k l = .error f := by
  have later : r.eff ≠ 0 := by omega
  simp only [State.writeEntry, value, stored, later, tier]
  rfl

section
variable {s : State} {i : Instr} {w : EntryWrite} {r : PdRow}

theorem State.MayWrite.access_of_row (may : s.MayWrite w) (row : pdRow w.idx w.sub = some r) :
    s.accessFail w.ch true (s.writeKey w) w.value = .ok r := by
  obtain ⟨_, r', access⟩ := may
  cases row.symm.trans (accessFail_row access)
  exact access

/-- The entry of the domain that the write names: no DATA QP may write it. -/
theorem CmdEntry.writeKey (entry : CmdEntry w.idx w.sub r) (may : s.MayWrite w) : s.writeKey w = ⟨w.idx, w.sub, w.dom⟩ := by
  obtain ⟨row, _, noDomain, ofDomain, _⟩ := entry
  rw [State.writeKey, callerDom_of_mayWrite s w r may row noDomain, pdKey, if_pos ofDomain]

/-- A value that passes its checks waits in the shadow copy, and the write is answered with status 0 (R394). -/
theorem State.MayWrite.lands (may : s.MayWrite w) (entry : CmdEntry w.idx w.sub r) (command : entryWrite i = some w)
    (value : s.valueFail r ⟨w.idx, w.sub, w.dom⟩ w.value = none) (tier : s.tierFail w = none) :
    Sys2Proof.Machine.exec i s = .next (s.sealed ((s.setShadow ⟨w.idx, w.sub, w.dom⟩ w.value).answer s w 0 0)) := by
  have key := entry.writeKey may
  obtain ⟨row, cmd, _, _, stored, noRestart, _⟩ := entry
  have op : s.pdOp (s.writeReq w) w.op = .ok (s.setShadow (s.writeKey w) w.value, .value []) :=
    pdOp_imm (may.access_of_row row) (by omega) (writeEntry_cmd cmd stored (by rwa [key]) (by rwa [key]))
  have stays : w.op.restarts = false := by simp [PdOp.restarts, EntryWrite.op, noRestart]
  rw [write_exec s command, oneWrite_serves may.1, State.writeReq_ops, ← key]
  simp only [State.runOps, op, stays]
  rfl

/-- A value that the host tier's check turns away is answered with the failure, which leaves no mark (R217). -/
theorem State.MayWrite.turnedAway {f : Fail} (may : s.MayWrite w) (entry : CmdEntry w.idx w.sub r)
    (command : entryWrite i = some w) (value : s.valueFail r ⟨w.idx, w.sub, w.dom⟩ w.value = none)
    (tier : s.tierFail w = some f) (known : f.st ≠ stDenied) (cause : f.st = stBadParam → f.cause ≠ 0xFF) :
    Sys2Proof.Machine.exec i s = .next (s.sealed (s.answer s w f.st f.cause)) := by
  have key := entry.writeKey may
  obtain ⟨row, cmd, _, _, stored, _, noSession⟩ := entry
  have op : s.pdOp (s.writeReq w) w.op = .error f :=
    pdOp_refused (may.access_of_row row) (by omega) (writeEntry_cmdRefused cmd stored (by rwa [key]) (by rwa [key]))
  rw [write_exec s command, oneWrite_failed may.1 op, opFailed_unmarked known cause noSession]

end

/-! ## The shapers (R317) -/

theorem shaperFabric_entry : CmdEntry 0x7130 0 ⟨0x7130, 0, 0, 9, 32, true, 1, 3, 3, 0, 1, 0, 0, 0⟩ := by decide

theorem shaperTier_entry : CmdEntry 0x7130 1 ⟨0x7130, 1, 1, 9, 32, true, 1, 3, 3, 0, 1, 0, 0, 0⟩ := by decide

/-! ## The host tier (R217) -/

/-- A failure of a list of checks is one of the list's. -/
theorem mem_of_firstFail {l : List (Bool × Fail)} {f : Fail} (h : firstFail l = some f) : ∃ ok, (ok, f) ∈ l := by
  induction l with
  | nil => cases h
  | cons p l ih =>
    obtain ⟨ok, g⟩ := p
    cases ok with
    | true => exact (ih h).imp fun _ => List.mem_cons_of_mem _
    | false =>
      cases h
      exact ⟨false, List.mem_cons_self⟩

/-- A failed check of the host tier is ST_BAD_PARAM at byte 0, or ST_BUSY. -/
theorem tierWrite_fail {s : State} {sub d v : Nat} {f : Fail} (h : s.tierWrite sub d v = some f) : f = bad 0 ∨ f = busy0 := by
  obtain ⟨ok, mem⟩ := mem_of_firstFail h
  simp only [List.mem_cons, Prod.mk.injEq, List.not_mem_nil, or_false] at mem
  tauto

/-- HOST_TIER_BASE and HOST_TIER_UNITS as the dictionary has them. -/
abbrev tierRow (sub ty len mx : Nat) : PdRow := ⟨0x3510, sub, sub, ty, len, true, 1, 3, 0, 0, 1, 0, 0, mx⟩

theorem tierBase_entry : CmdEntry 0x3510 1 (tierRow 1 4 8 (2 ^ 64 - 1)) := by decide

theorem tierUnits_entry : CmdEntry 0x3510 2 (tierRow 2 3 4 (2 ^ 32 - 1)) := by decide

section
variable {s : State} {i : Instr} {ch : Chan} {d sub ty len n : Nat} {v : BitVec n}

/-- Every value of the entry's width passes the checks that entries share. -/
theorem tierValue_passes (noText : ty < 8) (fits : 2 ^ n ≤ 256 ^ len) :
    s.valueFail (tierRow sub ty len (2 ^ n - 1)) ⟨0x3510, sub, d⟩ (leBytes len v.toNat) = none := by
  refine plain_value _ _ _ _ _ (by simp [lenOk, leBytes_length]) (by simp [namedBits]) (Nat.ne_of_lt noText) (fun _ => ?_)
    (by simp [State.valueBad]) (by decide) (by simp [inPartChecks])
  rw [leNat_leBytes_toNat v fits]
  exact ⟨Nat.zero_le _, Nat.le_sub_one_of_lt v.isLt⟩

/-- The check of a write of the host tier is R217's, of the value written. -/
theorem tierFail_tier (fits : 2 ^ n ≤ 256 ^ len) :
    s.tierFail ⟨ch, d, 0x3510, sub, leBytes len v.toNat⟩ = s.tierWrite sub d v.toNat := by
  rw [State.tierFail, if_pos rfl, leNat_leBytes_toNat v fits]

theorem tier_lands (entry : CmdEntry 0x3510 sub (tierRow sub ty len (2 ^ n - 1))) (noText : ty < 8) (fits : 2 ^ n ≤ 256 ^ len)
    (command : entryWrite i = some ⟨ch, d, 0x3510, sub, leBytes len v.toNat⟩)
    (may : s.MayWrite ⟨ch, d, 0x3510, sub, leBytes len v.toNat⟩) (passes : s.tierWrite sub d v.toNat = none) :
    Sys2Proof.Machine.exec i s = .next (s.sealed ((s.setShadow ⟨0x3510, sub, d⟩ (leBytes len v.toNat)).answer s
      ⟨ch, d, 0x3510, sub, leBytes len v.toNat⟩ 0 0)) :=
  may.lands entry command (tierValue_passes noText fits) ((tierFail_tier fits).trans passes)

theorem tier_refused {f : Fail} (entry : CmdEntry 0x3510 sub (tierRow sub ty len (2 ^ n - 1))) (noText : ty < 8)
    (fits : 2 ^ n ≤ 256 ^ len) (command : entryWrite i = some ⟨ch, d, 0x3510, sub, leBytes len v.toNat⟩)
    (may : s.MayWrite ⟨ch, d, 0x3510, sub, leBytes len v.toNat⟩) (fails : s.tierWrite sub d v.toNat = some f) :
    Sys2Proof.Machine.exec i s = .next (s.sealed (s.answer s ⟨ch, d, 0x3510, sub, leBytes len v.toNat⟩ f.st f.cause)) := by
  have known : f.st ≠ stDenied ∧ (f.st = stBadParam → f.cause ≠ 0xFF) := by
    rcases tierWrite_fail fails with rfl | rfl <;> decide
  exact may.turnedAway entry command (tierValue_passes noText fits) ((tierFail_tier fits).trans fails) known.1 known.2

end

/-! ## The boundary (R395) -/

theorem exec_cmdEffect (s : State) (k : PdKey) : Sys2Proof.Machine.exec (.cmdEffect k) s = .next (s.sealed (s.cmdEffect k)) := rfl

/-- A waiting value moved to the active copy. -/
def State.takeCopy (s : State) (k : PdKey) (l : List Byte) : State :=
  (s.setActive k l).modDict fun d => { d with shadow := d.shadow.filter fun q => q.1 ≠ k }

/-- What follows an entry's new active copy: a shaper's bucket (R317), the event ring (R347), a low-water mark (R58, R213). -/
def State.copyTaken (t : State) (k : PdKey) : State :=
  if k.idx = 0x7130 ∧ k.sub ≤ 1 then t.resetShaper k.dom k.sub
  else if k.idx = 0x8200 ∧ (k.sub = 1 ∨ k.sub = 2) then t.ringRestart
  else if k.idx = 0x3000 then t.lowCheck
  else if k.idx = 0xA000 then t.indexCheck
  else t

section
variable {s t : State} {k : PdKey}

theorem cmdEffect_waiting {l : List Byte} {r : PdRow} (found : (s.dict.shadow.find? fun p => p.1 == k) = some (k, l))
    (row : pdRow k.idx k.sub = some r) (cmd : r.eff = 1) (noRing : governsRing k = false) :
    s.cmdEffect k = ((s.takeCopy k l).copyTaken k).wake := by
  simp [State.cmdEffect, found, row, cmd, noRing, State.copyTaken, State.takeCopy]

/-- Without a waiting value, without a row of a CMD entry, and for the ring's entries (R294), nothing changes. -/
theorem cmdEffect_idle (idle : (s.dict.shadow.find? fun p => p.1 == k) = none ∨ pdRow k.idx k.sub = none
    ∨ (∃ r, pdRow k.idx k.sub = some r ∧ r.eff ≠ 1) ∨ governsRing k = true) : s.cmdEffect k = s := by
  unfold State.cmdEffect
  split
  case h_1 p r found row =>
    refine if_pos ?_
    rcases idle with empty | noRow | ⟨r', row', other⟩ | ring
    · cases empty.symm.trans found
    · cases noRow.symm.trans row
    · cases row'.symm.trans row
      exact .inl other
    · exact .inr ring
  case h_2 => rfl

theorem copyTaken_shaper (shaper : k.idx = 0x7130) (bucket : k.sub ≤ 1) : t.copyTaken k = t.resetShaper k.dom k.sub :=
  if_pos ⟨shaper, bucket⟩

theorem copyTaken_eventRing (ring : k.idx = 0x8200) (place : k.sub = 1 ∨ k.sub = 2) : t.copyTaken k = t.ringRestart := by
  simp [State.copyTaken, ring, place]

theorem copyTaken_pages (pages : k.idx = 0x3000) : t.copyTaken k = t.lowCheck := by simp [State.copyTaken, pages]

theorem copyTaken_index (index : k.idx = 0xA000) : t.copyTaken k = t.indexCheck := by simp [State.copyTaken, index]

theorem copyTaken_other (shaper : ¬ (k.idx = 0x7130 ∧ k.sub ≤ 1)) (ring : ¬ (k.idx = 0x8200 ∧ (k.sub = 1 ∨ k.sub = 2)))
    (pages : k.idx ≠ 0x3000) (index : k.idx ≠ 0xA000) : t.copyTaken k = t := by
  rw [State.copyTaken, if_neg shaper, if_neg ring, if_neg pages, if_neg index]

end

/-- Settles O26: each write lands in its shadow copy or is refused; then the boundary, by the entry whose copy waits. -/
theorem cmdEntriesWaitInTheirShadow : Obligations.CmdEntriesWaitInTheirShadow := by
  refine ⟨fun s ch d v may value => ?_, fun s ch d v may value => ?_, fun s ch d v may passes => ?_, fun s ch d v may passes => ?_,
    fun s ch d v f may fails => ?_, fun s ch d v f may fails => ?_, fun s t k l r found row cmd noRing ht => ?_, fun s k idle => ?_⟩
  · exact may.lands shaperFabric_entry rfl value rfl
  · exact may.lands shaperTier_entry rfl value rfl
  · exact tier_lands tierBase_entry (by decide) (by decide) rfl may passes
  · exact tier_lands tierUnits_entry (by decide) (by decide) rfl may passes
  · exact tier_refused tierBase_entry (by decide) (by decide) rfl may fails
  · exact tier_refused tierUnits_entry (by decide) (by decide) rfl may fails
  · obtain rfl : t = s.takeCopy k l := ht
    rw [exec_cmdEffect, cmdEffect_waiting found row cmd noRing]
    refine ⟨fun shaper bucket => ?_, fun ring place => ?_, fun pages => ?_, fun index => ?_, fun shaper ring pages index => ?_⟩
    · rw [copyTaken_shaper shaper bucket]
    · rw [copyTaken_eventRing ring place]
    · rw [copyTaken_pages pages]
    · rw [copyTaken_index index]
    · rw [copyTaken_other shaper ring pages index]
  · rw [exec_cmdEffect, cmdEffect_idle idle]

end Sys2Proof.Machine
end

section
/-! SUPPORT. The operations on a selected QP (R249, R426, R437): QP_OP as an entry, and what it does in each state of the QP. -/

namespace Sys2Proof.Machine

/-- A check that answers where a condition does not hold lets through what meets it. -/
theorem bnot_ne_true {b : Bool} (h : b = true) : ¬ (!b) = true := by rw [h]; exact Bool.false_ne_true

/-! ## The entry (R437) -/

section
variable {s : State} {ch : Chan} {v : Byte}

/-- QP_OP as the dictionary has it: one byte, 1 to 4, that acts at once. -/
theorem pdRow_qpOp : pdRow 0x6100 3 = some ⟨0x6100, 3, 3, 1, 1, true, 0, 2, 2, 0, 0, 0, 1, 4⟩ := by decide

theorem State.MayWrite.reachesQpOp (may : s.MayWrite ⟨ch, 0, 0x6100, 3, [v]⟩) (known : 1 ≤ v.toNat ∧ v.toNat ≤ 4) :
    s.ReachesEntry ⟨ch, 0, 0x6100, 3, [v]⟩ := by
  obtain ⟨serves, r, access⟩ := may
  obtain rfl := Option.some.inj (pdRow_qpOp.symm.trans (accessFail_row access))
  have plain : 0x6100 ≠ 0x7000 ∧ 0x6100 ≠ 0x8300 ∧ 0x6100 ≠ 0x8400 := by decide
  refine ⟨serves, ⟨_, access, rfl, plain_value _ _ _ _ _ rfl rfl (by decide) (fun _ => ?_) rfl plain.1 rfl⟩, rfl, plain.2⟩
  rwa [leNat, leNat, Nat.mul_zero, Nat.add_zero]

/-- No check of the profile, the partition or a session leaves its number at QP_OP. -/
theorem opFailed_qpOp {f : Fail} (known : f.st ≠ stDenied) :
    s.opFailed (s.writeReq ⟨ch, 0, 0x6100, 3, [v]⟩) (EntryWrite.op ⟨ch, 0, 0x6100, 3, [v]⟩) f = s := by
  have mark : ∀ d, s.markFail ⟨0x6100, 3, d⟩ [v] f = s := fun d => by
    simp [State.markFail, State.partBroken, inPartChecks]
  simp [State.opFailed, EntryWrite.op, pdKey, mark, known]

theorem qpOp_done {t : State} {i : Instr} (may : s.MayWrite ⟨ch, 0, 0x6100, 3, [v]⟩) (known : 1 ≤ v.toNat ∧ v.toNat ≤ 4)
    (command : entryWrite i = some ⟨ch, 0, 0x6100, 3, [v]⟩) (done : s.qpOp (s.sel ch 0x6100 1) (leNat [v]) = .ok t) :
    Sys2Proof.Machine.exec i s = .next (s.sealed (t.answer s ⟨ch, 0, 0x6100, 3, [v]⟩ 0 0)) :=
  (may.reachesQpOp known).taken command done

/-- An operation that fails is answered with its failure and leaves no mark. -/
theorem qpOp_fails (f : Fail) {i : Instr} (may : s.MayWrite ⟨ch, 0, 0x6100, 3, [v]⟩) (known : 1 ≤ v.toNat ∧ v.toNat ≤ 4)
    (command : entryWrite i = some ⟨ch, 0, 0x6100, 3, [v]⟩) (fails : s.qpOp (s.sel ch 0x6100 1) (leNat [v]) = .error f)
    (status : f.st ≠ stDenied) :
    Sys2Proof.Machine.exec i s = .next (s.sealed (s.answer s ⟨ch, 0, 0x6100, 3, [v]⟩ f.st f.cause)) := by
  obtain ⟨serves, ⟨r, access, imm, value⟩, stored, _⟩ := may.reachesQpOp known
  have op : s.pdOp (s.writeReq ⟨ch, 0, 0x6100, 3, [v]⟩) (EntryWrite.op ⟨ch, 0, 0x6100, 3, [v]⟩) = .error f :=
    pdOp_refused access (by omega) ((writeEntry_imm imm stored value).trans fails)
  rw [write_exec s command, oneWrite_failed serves op, opFailed_qpOp status]

end

/-! ## The operations (R249, R426) -/

section
variable {s : State} {n : Nat}

/-- The state that each operation is for (R249). -/
def qpOpFrom : Nat → QpSt
  | 1 => .reset
  | 2 => .reset
  | 3 => .rts
  | _ => .error

theorem qpOp_badCfg (v : Nat) (invalid : s.qpCfgOk (s.qp n) = false) : s.qpOp n v = .error (bad 0xFF) := by
  have stop : (!s.qpCfgOk (s.qp n)) = true := (Bool.not_eq_true' _).mpr invalid
  have noCreate : ¬ (s.qpCfgOk (s.qp n) && s.createsFail) = true := by rw [invalid]; exact Bool.false_ne_true
  unfold State.qpOp
  split
  · exact (if_neg noCreate).trans (if_pos stop)
  · exact (if_neg noCreate).trans (if_pos stop)
  · exact if_pos stop
  · exact if_pos stop

section
variable (ok : s.qpCfgOk (s.qp n) = true)
include ok

theorem creates_start (starts : s.createsFail = false) : ¬ (s.qpCfgOk (s.qp n) && s.createsFail) = true := by
  rw [ok, starts]; exact Bool.false_ne_true

/-- Creates are CONNECT and LISTEN (R426). -/
theorem qpOp_createsFail {v : Nat} (create : v = 1 ∨ v = 2) (fail : s.createsFail = true) :
    s.qpOp n v = .error ⟨stPartFail, 0, 0, 0⟩ := by
  have noCreate : (s.qpCfgOk (s.qp n) && s.createsFail) = true := by rw [ok, fail]; rfl
  unfold State.qpOp
  rcases create with rfl | rfl <;> exact if_pos noCreate

theorem qpOp_otherState (v : Nat) (starts : v = 1 ∨ v = 2 → s.createsFail = false) (other : (s.qp n).st ≠ qpOpFrom v) :
    s.qpOp n v = .error busy0 := by
  have valid := bnot_ne_true ok
  unfold State.qpOp
  split
  · exact (if_neg (creates_start ok (starts (.inl rfl)))).trans ((if_neg valid).trans (if_pos other))
  · exact (if_neg (creates_start ok (starts (.inr rfl)))).trans ((if_neg valid).trans (if_pos other))
  · exact (if_neg valid).trans (if_pos other)
  · next one two three =>
    have error : qpOpFrom v = .error := by unfold qpOpFrom; split <;> trivial
    exact (if_neg valid).trans (if_pos (error ▸ other))

theorem qpOp_connect (starts : s.createsFail = false) (reset : (s.qp n).st = .reset) : s.qpOp n 1 =
    .ok ((s.setQp n { s.qp n with st := .connecting, connId := ((s.qp n).connId + 1) % 65536, attempts := 0 }).sendConnect n) := by
  unfold State.qpOp
  exact (if_neg (creates_start ok starts)).trans ((if_neg (bnot_ne_true ok)).trans (if_neg (not_not.2 reset)))

theorem qpOp_listen (starts : s.createsFail = false) (reset : (s.qp n).st = .reset) :
    s.qpOp n 2 = .ok (s.setQp n { s.qp n with st := .listen }) := by
  unfold State.qpOp
  exact (if_neg (creates_start ok starts)).trans ((if_neg (bnot_ne_true ok)).trans (if_neg (not_not.2 reset)))

theorem qpOp_disconnect (rts : (s.qp n).st = .rts) :
    s.qpOp n 3 = .ok ((s.setQp n { s.qp n with st := .draining }).drainStep n) :=
  (if_neg (bnot_ne_true ok)).trans (if_neg (not_not.2 rts))

theorem qpOp_reset (error : (s.qp n).st = .error) : s.qpOp n 4 = .ok (s.qpToReset n) :=
  (if_neg (bnot_ne_true ok)).trans (if_neg (not_not.2 error))

end

end

/-! ## Every case -/

/-- Settles O21: each operation from its state, from another, without a valid configuration, and while creates fail. -/
theorem qpOperations : Obligations.QpOperations := by
  refine ⟨fun s ch may n sel ok starts reset => ?_, fun s ch may n sel ok starts reset => ?_, fun s ch may n sel ok rts => ?_,
    fun s ch may n sel ok error => ?_,
    fun s ch n sel => ⟨fun ok => ⟨fun may starts other => ?_, fun may starts other => ?_, fun may fail => ?_,
      fun may fail => ?_, fun may other => ?_, fun may other => ?_⟩,
      fun invalid => ⟨fun may => ?_, fun may => ?_, fun may => ?_, fun may => ?_⟩⟩⟩ <;> subst sel
  · exact qpOp_done may (by decide) rfl (qpOp_connect ok starts reset)
  · exact qpOp_done may (by decide) rfl (qpOp_listen ok starts reset)
  · exact qpOp_done may (by decide) rfl (qpOp_disconnect ok rts)
  · exact qpOp_done may (by decide) rfl (qpOp_reset ok error)
  · exact qpOp_fails busy0 may (by decide) rfl (qpOp_otherState ok 1 (fun _ => starts) other) (by decide)
  · exact qpOp_fails busy0 may (by decide) rfl (qpOp_otherState ok 2 (fun _ => starts) other) (by decide)
  · exact qpOp_fails ⟨stPartFail, 0, 0, 0⟩ may (by decide) rfl (qpOp_createsFail ok (.inl rfl) fail) (by decide)
  · exact qpOp_fails ⟨stPartFail, 0, 0, 0⟩ may (by decide) rfl (qpOp_createsFail ok (.inr rfl) fail) (by decide)
  · exact qpOp_fails busy0 may (by decide) rfl (qpOp_otherState ok 3 (fun h => absurd h (by decide)) other) (by decide)
  · exact qpOp_fails busy0 may (by decide) rfl (qpOp_otherState ok 4 (fun h => absurd h (by decide)) other) (by decide)
  · exact qpOp_fails (bad 0xFF) may (by decide) rfl (qpOp_badCfg 1 invalid) (by decide)
  · exact qpOp_fails (bad 0xFF) may (by decide) rfl (qpOp_badCfg 2 invalid) (by decide)
  · exact qpOp_fails (bad 0xFF) may (by decide) rfl (qpOp_badCfg 3 invalid) (by decide)
  · exact qpOp_fails (bad 0xFF) may (by decide) rfl (qpOp_badCfg 4 invalid) (by decide)

end Sys2Proof.Machine
end

section
/-! SUPPORT. A packet on its way in (R243, R247, R250, R257): how far it comes in each case, and what takes it then. -/

namespace Sys2Proof.Machine

/-! ## Rows (R243) -/

section
variable {i : Instr} {p : RxPacket} {ok : Nat → Bool} {s : State}

theorem rxRow_foreign (frame : p.frameOk = true) (foreign : ok (bOp p.base) = false) : s.rxRow ok p = s :=
  if_neg (by simp [frame, foreign])

/-- A packet of the row's own opcode, and a frame without one, is received. -/
theorem rxRow_own (own : p.frameOk = true → ok (bOp p.base) = true) : s.rxRow ok p = s.receive p :=
  if_pos (by cases frame : p.frameOk <;> simp [own, frame])

/-- A sequenced packet that passes steps 1 to 5 is handled in PSN order. -/
theorem exec_sequenced {payload : List Byte} (row : packetRow i = some (p, ok)) (own : ok (bOp p.base) = true)
    (receives : s.Receives p payload) (sequenced : seqOp (bOp p.base) = true) :
    Sys2Proof.Machine.exec i s = .next (s.sealed
      (((s.received p).rxSeq (bDstQp p.base) p payload).drainStep (bDstQp p.base))) := by
  rw [packet_exec row, rxRow_own fun _ => own, receive_ok receives, if_pos sequenced]

/-- Another packet that passes them is handled at once. -/
theorem exec_unsequenced {payload : List Byte} {op : Nat} (row : packetRow i = some (p, ok)) (receives : s.Receives p payload)
    (opcode : bOp p.base = op) (own : ok op = true) (unsequenced : seqOp op = false) :
    Sys2Proof.Machine.exec i s = .next (s.sealed ((s.received p).rxUn (bDstQp p.base) p)) := by
  subst opcode
  rw [packet_exec row, rxRow_own fun _ => own, receive_ok receives, unsequenced, if_neg Bool.false_ne_true]

end

/-! ## The steps (R257) -/

section
variable {p : RxPacket} {s : State}

theorem receive_down (down : s.portUp p.subport.toNat = false) : s.receive p = s := if_pos ((Bool.not_eq_true' _).mpr down)

section
variable (up : s.portUp p.subport.toNat = true)
include up

theorem receive_badFrame (frame : p.frameOk = false) : s.receive p = (s.received p).bump 0x6400 1 :=
  (if_neg (bnot_ne_true up)).trans (if_pos ((Bool.not_eq_true' _).mpr frame))

/-- The QP that the packet is for does not take it (steps 2 to 4). -/
theorem receive_untaken (frame : p.frameOk = true) (untaken : knownOp (bOp p.base) = false
    ∨ s.rxVersion (s.qp (bDstQp p.base)) p.base = false ∨ (s.qp (bDstQp p.base)).accepts p.base = false
    ∨ rxFrom (s.qp (bDstQp p.base)) p.base = false) : s.receive p = s.received p :=
  (if_neg (bnot_ne_true up)).trans ((if_neg (bnot_ne_true frame)).trans
    (if_pos (by simpa [or_assoc] using untaken)))

end

/-- Steps 1 to 4 let the packet through. -/
structure State.Takes (s : State) (p : RxPacket) : Prop where
  up : s.portUp p.subport.toNat = true
  frame : p.frameOk = true
  known : knownOp (bOp p.base) = true
  version : s.rxVersion (s.qp (bDstQp p.base)) p.base = true
  accepted : (s.qp (bDstQp p.base)).accepts p.base = true
  sender : rxFrom (s.qp (bDstQp p.base)) p.base = true

section
variable (taken : s.Takes p)
include taken

theorem State.Takes.passes : ¬ (!s.portUp p.subport.toNat) = true ∧ ¬ (!p.frameOk) = true
    ∧ ¬ (!knownOp (bOp p.base) || !s.rxVersion (s.qp (bDstQp p.base)) p.base || !(s.qp (bDstQp p.base)).accepts p.base
      || !rxFrom (s.qp (bDstQp p.base)) p.base) = true := by
  obtain ⟨up, frame, known, version, accepted, sender⟩ := taken
  exact ⟨bnot_ne_true up, bnot_ne_true frame, by simp [known, version, accepted, sender]⟩

/-- A CONNECT to a QP without a key, within PSN_GUARD (R250). -/
theorem receive_keylessGuarded (connect : bOp p.base = 0x20) (keyless : (s.qpKey (s.qp (bDstQp p.base))).isEmpty = true)
    (guarded : (s.qp (bDstQp p.base)).guarded = true) : s.receive p = s.received p := by
  obtain ⟨up, frame, takes⟩ := taken.passes
  exact (if_neg up).trans ((if_neg frame).trans ((if_neg takes).trans ((if_pos ⟨connect, keyless⟩).trans (if_pos guarded))))

/-- A CONNECT to a QP without a key is refused with NO_KEY (R247). -/
theorem receive_keyless (connect : bOp p.base = 0x20) (keyless : (s.qpKey (s.qp (bDstQp p.base))).isEmpty = true)
    (free : (s.qp (bDstQp p.base)).guarded = false) :
    s.receive p = (s.received p).refuseConn (bDstQp p.base) 2 (bConn p.base) := by
  obtain ⟨up, frame, takes⟩ := taken.passes
  exact (if_neg up).trans ((if_neg frame).trans ((if_neg takes).trans
    ((if_pos ⟨connect, keyless⟩).trans (if_neg (ne_true_of_eq_false free)))))

/-- The husk does not open (step 5). -/
theorem receive_unopened (keyed : bOp p.base = 0x20 → (s.qpKey (s.qp (bDstQp p.base))).isEmpty = false)
    (closed : s.rxOpen (s.qp (bDstQp p.base)) p = none) : s.receive p = (s.received p).bump 0x6400 2 := by
  obtain ⟨up, frame, takes⟩ := taken.passes
  refine (if_neg up).trans ((if_neg frame).trans ((if_neg takes).trans ((if_neg ?_).trans ?_)))
  · rintro ⟨connect, keyless⟩
    exact Bool.false_ne_true ((keyed connect).symm.trans keyless)
  · rw [closed]
    rfl

theorem State.Takes.receives {payload : List Byte} (opens : s.rxOpen (s.qp (bDstQp p.base)) p = some payload) :
    s.Receives p payload :=
  ⟨taken.up, taken.frame, taken.known, taken.version, taken.accepted, taken.sender, opens⟩

end

end

/-! ## Every case -/

/-- Settles O47: the steps in their order, each for the packets that come so far. -/
theorem packetsAreReceived : Obligations.PacketsAreReceived := by
  rintro i p ok s _ _ row rfl rfl
  refine ⟨fun frame foreign => ?_, fun down => ?_, fun up => ⟨fun frame => ?_, fun frame own => ?_⟩⟩
  · rw [packet_exec row, rxRow_foreign frame foreign]
  · rw [packet_exec row, State.rxRow, receive_down down, ite_self]
  · rw [packet_exec row, rxRow_own (by simp [frame]), receive_badFrame up frame]
  · have received : Sys2Proof.Machine.exec i s = .next (s.sealed (s.receive p)) := by
      rw [packet_exec row, rxRow_own fun _ => own]
    refine ⟨fun untaken => ?_, fun known version accepted sender => ?_⟩
    · rw [received, receive_untaken up frame untaken]
    · have taken : s.Takes p := ⟨up, frame, known, version, accepted, sender⟩
      refine ⟨fun connect keyless => ⟨fun guarded => ?_, fun free => ?_⟩,
        fun keyed => ⟨fun closed => ?_, fun payload opens => ⟨fun sequenced => ?_, fun unsequenced => ?_⟩⟩⟩
      · rw [received, receive_keylessGuarded taken connect keyless guarded]
      · rw [received, receive_keyless taken connect keyless free]
      · rw [received, receive_unopened taken keyed closed]
      · exact exec_sequenced row own (taken.receives opens) sequenced
      · exact exec_unsequenced row (taken.receives opens) rfl own unsequenced

end Sys2Proof.Machine
end

section
/-! SUPPORT. The unsequenced packets of a QP (R249, R250, R261, R269): RNR, REFUSAL_ACK, and the handshake that makes and ends a
connection. -/

namespace Sys2Proof.Machine

section
variable {s : State} {n : Nat} {ext : List Byte}

/-! ## RNR and REFUSAL_ACK (R261, R269) -/

theorem onRnr_fits (fits : ext.length = 16) : s.onRnr n ext = s.modQp n fun q =>
    { q with tx := q.tx.map fun t =>
        if t.psn = leNat (slice ext 0 3) ∧ t.sent ∧ !t.done then { t with held := true, rnr := true } else t } :=
  if_neg (not_not.2 fits)

theorem onRnr_badLength (bad : ext.length ≠ 16) : s.onRnr n ext = s := if_pos bad

theorem onRefusalAck_fits (fits : ext.length = 8) : s.onRefusalAck n ext = s.modQp n fun q =>
    { q with refused := q.refused.filter fun r => newer 16 r.no (leNat (slice ext 0 2)) } := if_neg (not_not.2 fits)

theorem onRefusalAck_badLength (bad : ext.length ≠ 8) : s.onRefusalAck n ext = s := if_pos bad

/-! ## The answer to a CONNECT (R250) -/

section
variable {conn : Nat} {c : BitVec 256}

/-- The CONNECT is for this kind of QP, for the connection that carries it, and in strict mode for a domain with shares. -/
def State.ConnectFits (s : State) (n conn : Nat) (c : BitVec 256) : Prop :=
  fld c 112 2 = b2n (s.qp n).isMgmt ∧ fld c 96 16 = conn
    ∧ (s.strict = false ∨ (s.qp n).isMgmt = true ∨ s.provisioned (s.qp n).dom = true)

theorem State.connectFits_iff : s.ConnectFits n conn c ↔ ¬ (fld c 112 2 ≠ b2n (s.qp n).isMgmt ∨ fld c 96 16 ≠ conn
    ∨ (s.strict && !(s.qp n).isMgmt && !s.provisioned (s.qp n).dom) = true) := by
  simp only [State.ConnectFits, not_or, not_not, ne_eq, Bool.not_eq_true, Bool.and_eq_false_iff, Bool.not_eq_false', or_assoc]

theorem answerConnect_mismatch (mismatch : fld c 112 2 ≠ b2n (s.qp n).isMgmt ∨ fld c 96 16 ≠ conn
    ∨ s.strict = true ∧ (s.qp n).isMgmt = false ∧ s.provisioned (s.qp n).dom = false) :
    s.answerConnect n conn c = s.refuseConn n 3 conn :=
  if_pos (by simpa only [Bool.and_eq_true, Bool.not_eq_true', and_assoc] using mismatch)

section
variable (fits : s.ConnectFits n conn c)
include fits

theorem answerConnect_version (other : fld c 8 8 < 1 ∨ 1 < fld c 0 8) : s.answerConnect n conn c = s.refuseConn n 1 conn :=
  (if_neg (State.connectFits_iff.1 fits)).trans (if_pos other)

theorem answerConnect_agreed (most : 1 ≤ fld c 8 8) (least : fld c 0 8 ≤ 1) : s.answerConnect n conn c =
    (s.enterRts n 1 (Nat.min (fld c 114 2) (fld (s.qp n).cfg 48 2)) conn (c.extractLsb' 32 64)).sendConn n
      0x21 0 1 1 (Nat.min (fld c 114 2) (fld (s.qp n).cfg 48 2)) conn :=
  (if_neg (State.connectFits_iff.1 fits)).trans (if_neg (by omega))

end

end

/-! ## CONNECT (R250) -/

section
variable {conn : Nat}

theorem peerRestart_ends (stays : bit (s.qp n).cfg 2 = false) : s.peerRestart n = s.qpError n 6 :=
  if_neg (ne_true_of_eq_false stays)

theorem peerRestart_listens (again : bit (s.qp n).cfg 2 = true) : s.peerRestart n =
    ((s.qpDrop n).setQp n { cfg := (s.qp n).cfg, connId := (s.qp n).connId, st := .listen, guarded := true }).ringLost n :=
  if_pos again

theorem onConnect_dropped (dropped : (s.qp n).guarded = true ∨ ext.length ≠ 32) : s.onConnect n conn ext = s :=
  if_pos (by simpa using dropped)

/-- Of two QPs that connect to each other, the one of the lower node and QP number goes on connecting. -/
def State.LowerPeer (s : State) (n : Nat) : Prop :=
  s.nodeId < (s.qp n).peerNode ∨ s.nodeId = (s.qp n).peerNode ∧ n < (s.qp n).peerQp

section
variable (free : (s.qp n).guarded = false) (fits : ext.length = 32)
include free fits

theorem connect_looked_at : ¬ ((s.qp n).guarded || ext.length != 32) = true := by simp [free, fits]

theorem onConnect_answers (listens : (s.qp n).st = .listen ∨ (s.qp n).st = .connecting ∧ ¬ s.LowerPeer n) :
    s.onConnect n conn ext = s.answerConnect n conn (ofBytes 256 ext) := by
  refine (if_neg (connect_looked_at free fits)).trans ?_
  rcases listens with st | ⟨st, upper⟩
  · rw [st]
  · rw [st]
    exact if_neg upper

theorem onConnect_lower (st : (s.qp n).st = .connecting) (lower : s.LowerPeer n) : s.onConnect n conn ext = s := by
  refine (if_neg (connect_looked_at free fits)).trans ?_
  rw [st]
  exact if_pos lower

theorem onConnect_restarted (st : (s.qp n).st = .rts ∨ (s.qp n).st = .draining)
    (other : (ofBytes 256 ext).extractLsb' 32 64 ≠ (s.qp n).peerBoot) : s.onConnect n conn ext = s.peerRestart n := by
  refine (if_neg (connect_looked_at free fits)).trans ?_
  rcases st with st | st <;> rw [st] <;> exact if_pos other

section
variable (same : (ofBytes 256 ext).extractLsb' 32 64 = (s.qp n).peerBoot)
include same

theorem onConnect_repeated (st : (s.qp n).st = .rts) (own : conn = (s.qp n).connId) :
    s.onConnect n conn ext = s.sendConn n 0x21 0 1 1 (s.qp n).pmtu conn := by
  refine (if_neg (connect_looked_at free fits)).trans ?_
  rw [st]
  exact (if_neg (not_not.2 same)).trans (if_pos own)

theorem onConnect_otherConn (st : (s.qp n).st = .rts) (other : conn ≠ (s.qp n).connId) : s.onConnect n conn ext = s := by
  refine (if_neg (connect_looked_at free fits)).trans ?_
  rw [st]
  exact (if_neg (not_not.2 same)).trans (if_neg other)

theorem onConnect_draining (st : (s.qp n).st = .draining) : s.onConnect n conn ext = s := by
  refine (if_neg (connect_looked_at free fits)).trans ?_
  rw [st]
  exact if_neg (not_not.2 same)

end

end

end

/-! ## The other packets of the handshake (R249, R250) -/

section
variable {conn : Nat} {c : BitVec 256}

/-- A CONNECT_REPLY agrees with the QP that waits for it. -/
def Qp.ReplyAgrees (q : Qp) (ext : List Byte) : Prop :=
  q.st = .connecting ∧ ext.length = 32 ∧ fld (ofBytes 256 ext) 0 8 = 1 ∧ fld (ofBytes 256 ext) 8 8 = 1
    ∧ fld (ofBytes 256 ext) 112 2 = b2n q.isMgmt

theorem Qp.replyAgrees_iff {q : Qp} : q.ReplyAgrees ext ↔ ¬ (q.st ≠ .connecting ∨ ext.length ≠ 32
    ∨ fld (ofBytes 256 ext) 0 8 ≠ 1 ∨ fld (ofBytes 256 ext) 8 8 ≠ 1 ∨ fld (ofBytes 256 ext) 112 2 ≠ b2n q.isMgmt) := by
  simp only [Qp.ReplyAgrees, not_or, not_not, ne_eq]

theorem onReply_agrees (agrees : (s.qp n).ReplyAgrees ext) : s.onReply n conn ext =
    s.enterRts n 1 (fld (ofBytes 256 ext) 114 2) conn ((ofBytes 256 ext).extractLsb' 32 64) := if_neg (Qp.replyAgrees_iff.1 agrees)

theorem onReply_other (other : ¬ (s.qp n).ReplyAgrees ext) : s.onReply n conn ext = s :=
  if_pos (not_not.1 (mt Qp.replyAgrees_iff.2 other))

theorem onRefused_ends (st : (s.qp n).st = .connecting) (fits : ext.length = 32) : s.onRefused n ext = s.qpError n 4 :=
  if_pos ⟨st, fits⟩

theorem onRefused_other (other : (s.qp n).st ≠ .connecting ∨ ext.length ≠ 32) : s.onRefused n ext = s :=
  if_neg (not_and_or.2 other)

theorem onDisconnect_drains (open_ : (s.qp n).st = .rts ∨ (s.qp n).st = .draining) :
    s.onDisconnect n = (s.modQp n fun x => { x with st := .draining, discRecv := true }).drainStep n := if_pos open_

theorem onDisconnect_other (rts : (s.qp n).st ≠ .rts) (draining : (s.qp n).st ≠ .draining) : s.onDisconnect n = s :=
  if_neg (not_or.2 ⟨rts, draining⟩)

theorem onDisconnectAck_ends (st : (s.qp n).st = .draining) (sent : (s.qp n).discSent = true) :
    s.onDisconnectAck n = s.qpToReset n := if_pos ⟨st, sent⟩

theorem onDisconnectAck_other (other : (s.qp n).st ≠ .draining ∨ (s.qp n).discSent = false) : s.onDisconnectAck n = s :=
  if_neg (by rintro ⟨st, sent⟩; simp [st, sent] at other)

end

end

/-! ## What an opcode comes down to (R257) -/

section
variable {s : State} {p : RxPacket} {payload : List Byte} (receives : s.Receives p payload)
include receives

theorem exec_rnr (op : bOp p.base = 0x12) : Sys2Proof.Machine.exec (.rnr p) s = .next (s.sealed
    ((s.received p).onRnr (bDstQp p.base) p.ext)) := by
  rw [exec_unsequenced rfl receives op rfl rfl, State.rxUn, op]
  rfl

theorem exec_refusalAck (op : bOp p.base = 0x13) : Sys2Proof.Machine.exec (.refusalAck p) s = .next (s.sealed
    ((s.received p).onRefusalAck (bDstQp p.base) p.ext)) := by
  rw [exec_unsequenced rfl receives op rfl rfl, State.rxUn, op]
  rfl

theorem exec_connect (op : bOp p.base = 0x20) : Sys2Proof.Machine.exec (.connect p) s = .next (s.sealed
    ((s.received p).onConnect (bDstQp p.base) (bConn p.base) p.ext)) := by
  rw [exec_unsequenced rfl receives op rfl rfl, State.rxUn, op]
  rfl

theorem exec_connectReply (op : bOp p.base = 0x21) : Sys2Proof.Machine.exec (.connectReply p) s = .next (s.sealed
    ((s.received p).onReply (bDstQp p.base) (bConn p.base) p.ext)) := by
  rw [exec_unsequenced rfl receives op rfl rfl, State.rxUn, op]
  rfl

theorem exec_connectRefuse (op : bOp p.base = 0x22) : Sys2Proof.Machine.exec (.connectRefuse p) s = .next (s.sealed
    ((s.received p).onRefused (bDstQp p.base) p.ext)) := by
  rw [exec_unsequenced rfl receives op rfl rfl, State.rxUn, op]
  rfl

theorem exec_disconnect (op : bOp p.base = 0x23) : Sys2Proof.Machine.exec (.disconnect p) s = .next (s.sealed
    ((s.received p).onDisconnect (bDstQp p.base))) := by
  rw [exec_unsequenced rfl receives op rfl rfl, State.rxUn, op]
  rfl

theorem exec_disconnectAck (op : bOp p.base = 0x24) : Sys2Proof.Machine.exec (.disconnectAck p) s = .next (s.sealed
    ((s.received p).onDisconnectAck (bDstQp p.base))) := by
  rw [exec_unsequenced rfl receives op rfl rfl, State.rxUn, op]
  rfl

end

/-! ## Every case -/

/-- Settles O48: each packet by its opcode; a CONNECT by the state of the QP, which counting the frame leaves as it was. -/
theorem connectionsRiseAndEnd : Obligations.ConnectionsRiseAndEnd := by
  rintro p s t payload _ _ _ receives received rfl rfl rfl
  have qp : s.qp (bDstQp p.base) = t.qp (bDstQp p.base) := by rw [received]; rfl
  obtain ⟨strict, nodeId, provisioned⟩ :
      s.strict = t.strict ∧ s.nodeId = t.nodeId ∧ s.provisioned = t.provisioned := by rw [received]; exact ⟨rfl, rfl, rfl⟩
  rw [qp, strict, nodeId, provisioned]
  refine ⟨fun op => ⟨fun fits => ?_, fun bad => ?_⟩, fun op => ⟨fun fits => ?_, fun bad => ?_⟩, ?connect, ?reply,
    fun op => ⟨fun st fits => ?_, fun other => ?_⟩, fun op => ⟨fun open_ => ?_, fun rts draining => ?_⟩,
    fun op => ⟨fun st sent => ?_, fun other => ?_⟩⟩
  · rw [exec_rnr receives op, ← received, onRnr_fits fits]
  · rw [exec_rnr receives op, ← received, onRnr_badLength bad]
  · rw [exec_refusalAck receives op, ← received, onRefusalAck_fits fits]
  · rw [exec_refusalAck receives op, ← received, onRefusalAck_badLength bad]
  case connect =>
    refine fun op => ⟨fun dropped => ?_, fun free fits => ⟨fun listens => ⟨fun mismatch => ?_, fun kind conn shares =>
      ⟨fun version => ?_, fun most least => ?_⟩⟩, fun st lower => ?_, fun st other => ⟨fun stays => ?_, fun again => ?_⟩,
      fun st same => ⟨fun own => ?_, fun other => ?_⟩, fun st same => ?_⟩⟩ <;> rw [exec_connect receives op, ← received]
    · rw [onConnect_dropped dropped]
    · rw [onConnect_answers free fits listens, answerConnect_mismatch mismatch]
    · rw [onConnect_answers free fits listens, answerConnect_version ⟨kind, conn, shares⟩ version]
    · rw [onConnect_answers free fits listens, answerConnect_agreed ⟨kind, conn, shares⟩ most least]
    · rw [onConnect_lower free fits st lower]
    · rw [onConnect_restarted free fits st other, peerRestart_ends stays]
    · rw [onConnect_restarted free fits st other, peerRestart_listens again]
    · rw [onConnect_repeated free fits same st own]
    · rw [onConnect_otherConn free fits same st other]
    · rw [onConnect_draining free fits same st]
  case reply =>
    refine fun op good goodIff => ⟨fun agrees => ?_, fun other => ?_⟩ <;> rw [exec_connectReply receives op, ← received]
    · rw [onReply_agrees (goodIff.1 agrees)]
    · rw [onReply_other (mt goodIff.2 other)]
  · rw [exec_connectRefuse receives op, ← received, onRefused_ends st fits]
  · rw [exec_connectRefuse receives op, ← received, onRefused_other other]
  · rw [exec_disconnect receives op, ← received, onDisconnect_drains open_]
  · rw [exec_disconnect receives op, ← received, onDisconnect_other rts draining]
  · rw [exec_disconnectAck receives op, ← received, onDisconnectAck_ends st sent]
  · rw [exec_disconnectAck receives op, ← received, onDisconnectAck_other other]

end Sys2Proof.Machine
end

section
/-! SUPPORT. The sequenced packets of a QP (R243, R249, R252, R257 to R263, R268): what becomes of one that passes steps 1 to 5, by its
place in the window, its message, its key and the units that it needs. -/

namespace Sys2Proof.Machine

/-! ## Place and message (R252, R257, R261) -/

section
variable {s : State} {n : Nat} {p : RxPacket} {payload : List Byte}

/-- The CE mark of a packet is noted (R262). -/
def State.noteCe (s : State) (n : Nat) (p : RxPacket) : State := if p.ce then s.modQp n fun q => { q with ce := q.ce + 1 } else s

/-- The PSN of a packet is done. -/
def Qp.DonePsn (q : Qp) (psn : Nat) : Prop := newer 24 q.cpsn psn = true ∨ psn ∈ q.done

theorem Qp.donePsn_iff {q : Qp} {psn : Nat} : q.DonePsn psn ↔ (newer 24 q.cpsn psn || q.done.contains psn) = true := by
  simp [Qp.DonePsn]

/-- The message is one of those that a QP has refused (R261). -/
theorem Qp.refusedMsg_iff {q : Qp} {msn : Nat} : (q.refused.any fun r => r.msn == msn) = true ↔ ∃ r ∈ q.refused, r.msn = msn := by
  simp

theorem rxSeq_again (again : ((s.noteCe n p).qp n).DonePsn (bPsn p.base)) :
    s.rxSeq n p payload = ((s.noteCe n p).bump 0x6400 3).sendAck n false := if_pos (Qp.donePsn_iff.1 again)

section
variable (new : ¬ ((s.noteCe n p).qp n).DonePsn (bPsn p.base))
include new

theorem rxSeq_beyond (beyond : 1024 ≤ (bPsn p.base + 2 ^ 24 - ((s.noteCe n p).qp n).cpsn) % 2 ^ 24) :
    s.rxSeq n p payload = (s.noteCe n p).bump 0x6400 4 := (if_neg (mt Qp.donePsn_iff.2 new)).trans (if_pos beyond)

section
variable (within : (bPsn p.base + 2 ^ 24 - ((s.noteCe n p).qp n).cpsn) % 2 ^ 24 < 1024)
include within

/-- A packet of a refused message is only done. -/
theorem rxSeq_ofRefused {u : State} (begun : u = (s.noteCe n p).modQp n fun x => x.begin (bMsn p.base))
    (refused : ∃ r ∈ ((s.noteCe n p).qp n).refused, r.msn = bMsn p.base) : s.rxSeq n p payload =
    ((if bLast p.base then u.modQp n fun x => x.noteAct (bPsn p.base) (bMsn p.base) .plain else u).markDone n
      (bPsn p.base)).ackNow n (u.ackSoon n p) := by
  subst begun
  exact (if_neg (mt Qp.donePsn_iff.2 new)).trans ((if_neg within.not_ge).trans (if_pos (Qp.refusedMsg_iff.2 refused)))

theorem rxSeq_ofOther {u : State} (begun : u = (s.noteCe n p).modQp n fun x => x.begin (bMsn p.base))
    (other : ∀ r ∈ ((s.noteCe n p).qp n).refused, r.msn ≠ bMsn p.base) : s.rxSeq n p payload = u.rxNew n p payload := by
  subst begun
  refine (if_neg (mt Qp.donePsn_iff.2 new)).trans ((if_neg within.not_ge).trans (if_neg (mt Qp.refusedMsg_iff.1 ?_)))
  rintro ⟨r, mem, same⟩
  exact other r mem same

end

end

end

/-! ## A new packet (R243, R263, R265 to R268) -/

section
variable {u : State} {n : Nat} {p : RxPacket} {payload : List Byte}

theorem rxNew_badRole (bad : roleOk (u.qp n) p = false) : u.rxNew n p payload = u.refusePkt n p.base 4 :=
  if_pos ((Bool.not_eq_true' _).mpr bad)

section
variable (role : roleOk (u.qp n) p = true)
include role

/-- The packet's key does not allow it (step 10). -/
theorem rxNew_denied {code : Nat} (keyed : bOp p.base ≤ 3)
    (denied : u.addrCheck (u.qp n) (bOp p.base) p.ext payload.length = some code) :
    u.rxNew n p payload = u.refusePkt n p.base code := by
  refine (if_neg (bnot_ne_true role)).trans ((if_pos keyed).trans ?_)
  rw [denied]

theorem rxNew_resp (op : bOp p.base = 4) :
    u.rxNew n p payload = (u.placeResp n p.base p.ext payload).ackNow n (u.ackSoon n p) :=
  (if_neg (bnot_ne_true role)).trans ((if_neg (by omega)).trans (if_pos op))

theorem rxNew_part (op : bOp p.base = 5 ∨ bOp p.base = 6) :
    u.rxNew n p payload = (u.placePart n p.base p.ext payload).ackNow n (u.ackSoon n p) :=
  (if_neg (bnot_ne_true role)).trans ((if_neg (by omega)).trans (if_neg (by omega)))

section
variable (allowed : u.addrCheck (u.qp n) (bOp p.base) p.ext payload.length = none)
include allowed

/-- A packet that its key allows is a read, or a write that needs its units (R263, R268). -/
theorem rxNew_read (op : bOp p.base = 3) : u.rxNew n p payload =
    if 16 ≤ readsRunning (u.qp n) then u.sendRnr n (bPsn p.base)
    else ((u.modQp n fun x => x.noteAct (bPsn p.base) (bMsn p.base) (.read (aKey p.ext) (aOff p.ext) (aLen p.ext))).markDone n
      (bPsn p.base)).ackNow n (u.ackSoon n p) := by
  refine (if_neg (bnot_ne_true role)).trans ((if_pos op.le).trans ?_)
  rw [allowed]
  exact if_pos op

section
variable (op : bOp p.base = 1 ∨ bOp p.base = 2)
include op

theorem rxNew_queueWrite (queue : u.landingOf (aKey p.ext) = none) :
    u.rxNew n p payload = (u.placeWrite n p.base p.ext payload).ackNow n (u.ackSoon n p) := by
  refine (if_neg (bnot_ne_true role)).trans ((if_pos (by omega)).trans ?_)
  rw [allowed]
  exact (if_neg (by omega)).trans (if_pos (by rw [queue]; rfl))

section
variable (landing : u.landingOf (aKey p.ext) ≠ none)
include landing

theorem rxNew_landingBound {w : State}
    (bound : u.bindUnits (aKey p.ext) (u.qp n).slice (unitsOf (aOff p.ext) payload.length) = some w) :
    u.rxNew n p payload = ((w.placeWrite n p.base p.ext payload).ackNow n (u.ackSoon n p)).lowCheck := by
  refine (if_neg (bnot_ne_true role)).trans ((if_pos (by omega)).trans ?_)
  rw [allowed]
  refine (if_neg (by omega)).trans ((if_neg (by simpa using landing)).trans ?_)
  rw [bound]

/-- A write whose units cannot be bound at once (step 11). -/
theorem rxNew_unbound
    (unbound : u.bindUnits (aKey p.ext) (u.qp n).slice (unitsOf (aOff p.ext) payload.length) = none) : u.rxNew n p payload =
    if u.xnt.fault.any fun f => f.qp == n && f.psn == bPsn p.base then u
    else if u.scrubCount = 0 then u.refusePkt n p.base 3
    else if u.faultRoom (u.qp n).dom payload.length then u.stallPkt n p.base p.ext payload
    else u.sendRnr n (bPsn p.base) := by
  refine (if_neg (bnot_ne_true role)).trans ((if_pos (by omega)).trans ?_)
  rw [allowed]
  refine (if_neg (by omega)).trans ((if_neg (by simpa using landing)).trans ?_)
  rw [unbound]

end

end

end

end

/-- The fault buffer holds a packet of the QP with this PSN. -/
theorem held_iff {psn : Nat} : (u.xnt.fault.any fun f => f.qp == n && f.psn == psn) = true
    ↔ ∃ f ∈ u.xnt.fault, f.qp = n ∧ f.psn = psn := by simp

end

/-! ## Every case -/

/-- Settles O49: a packet passes its QP's window, its message, its role, its key and its units in this order. -/
theorem sequencedPacketsArePlaced : Obligations.SequencedPacketsArePlaced := by
  rintro i ok p s t u payload _ _ _ _ row rfl own sequenced receives rfl marked unmarked rfl begun rfl
  obtain rfl : t = (s.received p).noteCe (bDstQp p.base) p := by
    cases ce : p.ce
    · rw [unmarked ce, State.noteCe, ce, if_neg Bool.false_ne_true]
    · rw [marked ce, State.noteCe, if_pos ce]
  rw [exec_sequenced row own receives sequenced]
  refine ⟨fun again => ?_, fun late fresh => ?_⟩
  · rw [rxSeq_again again]
  have new : ¬ (((s.received p).noteCe (bDstQp p.base) p).qp (bDstQp p.base)).DonePsn (bPsn p.base) := by
    rintro (done | done)
    · exact Bool.false_ne_true (late.symm.trans done)
    · exact fresh done
  refine ⟨fun beyond => ?_, fun within => ⟨fun refused => ?_, fun other => ?_⟩⟩
  · rw [rxSeq_beyond new beyond]
  · rw [rxSeq_ofRefused new within begun refused]
  rw [rxSeq_ofOther new within begun other]
  refine ⟨fun bad => ?_, fun role => ⟨fun code keyed denied => ?_, fun op allowed => ⟨fun few => ?_, fun many => ?_⟩,
    fun op allowed => ⟨fun queue => ?_, ?landing⟩, fun op => ?_, fun op => ?_⟩⟩
  · rw [rxNew_badRole bad]
  · rw [rxNew_denied role keyed denied]
  · rw [rxNew_read role allowed op, if_neg few.not_ge]
  · rw [rxNew_read role allowed op, if_pos many]
  · rw [rxNew_queueWrite role allowed op queue]
  case landing =>
    rintro landing _ rfl
    refine ⟨fun w bound => ?_, fun unbound held heldIff => ?_⟩
    · rw [rxNew_landingBound role allowed op landing bound]
    · rw [rxNew_unbound role allowed op landing unbound]
      have inBuffer := held_iff.trans heldIff.symm
      refine ⟨fun h => ?_, fun h idle => ?_, fun h scrubs room => ?_, fun h scrubs full => ?_⟩
      · rw [if_pos (inBuffer.2 h)]
      · rw [if_neg (mt inBuffer.1 h), if_pos idle]
      · rw [if_neg (mt inBuffer.1 h), if_neg scrubs, if_pos room]
      · rw [if_neg (mt inBuffer.1 h), if_neg scrubs, full, if_neg Bool.false_ne_true]
  · rw [rxNew_resp role op]
  · rw [rxNew_part role op]

end Sys2Proof.Machine
end

section
/-! SUPPORT. ACK and NAK (R245, R254, R261, R263, R264): which PSNs an ACK reports as done, and what the sender makes of it. -/

namespace Sys2Proof.Machine

/-! ## What an ACK reports (R245) -/

/-- The sum of those powers of two below `2 ^ n` that a predicate picks. -/
def sumPowers (f : Nat → Bool) (n : Nat) : Nat := ((List.range n).map fun i => if f i then 2 ^ i else 0).sum

theorem sumPowers_succ (f : Nat → Bool) (n : Nat) : sumPowers f (n + 1) = 2 ^ n * (f n).toNat + sumPowers f n := by
  rw [sumPowers, List.range_succ, List.map_append, List.sum_append, List.map_singleton, List.sum_singleton, Nat.add_comm]
  cases f n <;> simp [sumPowers]

theorem sumPowers_lt (f : Nat → Bool) (n : Nat) : sumPowers f n < 2 ^ n := by
  induction n with
  | zero => exact Nat.one_pos
  | succ n ih =>
    rw [sumPowers_succ, Nat.pow_succ]
    cases f n <;> simp only [Bool.toNat_false, Bool.toNat_true] <;> omega

/-- No two of the powers meet: the bits of the sum are the picks. -/
theorem testBit_sumPowers (f : Nat → Bool) (n j : Nat) : (sumPowers f n).testBit j = (decide (j < n) && f j) := by
  induction n with
  | zero => simp [sumPowers]
  | succ n ih =>
    rw [sumPowers_succ, Nat.testBit_two_pow_mul_add _ (sumPowers_lt f n), ih]
    rcases Nat.lt_trichotomy j n with h | rfl | h
    · simp [h, Nat.lt_succ_of_lt h]
    · rw [if_neg (lt_irrefl j), Nat.sub_self, Nat.testBit_bool_toNat]
      simp
    · simp [h.not_gt, show ¬ j < n + 1 by omega, Nat.testBit_bool_toNat, show j - n ≠ 0 by omega]

/-- The front part of a byte string. -/
theorem slice_front (a b : List Byte) (n : Nat) (h : a.length = n) : slice (a ++ b) 0 n = a := by
  simp [slice, ← h]

/-- The bits of the selective acknowledgement: of the 128 PSNs after CPSN, those that are done. -/
def Qp.sack (q : Qp) : Nat := sumPowers (fun i => q.done.contains ((q.cpsn + 1 + i) % 2 ^ 24)) 128

theorem ackExt_cpsn {q : Qp} (fits : q.cpsn < 2 ^ 24) : leNat (slice (ackExt q) 0 3) = q.cpsn := by
  simp only [ackExt, List.append_assoc]
  rw [slice_front _ _ _ (leBytes_length _ _), leNat_leBytes]
  exact Nat.mod_eq_of_lt fits

theorem ackExt_sack (q : Qp) : leNat (slice (ackExt q) 4 16) = q.sack := by
  have split : ∃ rest, ackExt q = (leBytes 3 q.cpsn ++ leBytes 1 q.refused.length) ++ (leBytes 16 q.sack ++ rest) := by
    simp only [ackExt, List.append_assoc]
    exact ⟨_, rfl⟩
  obtain ⟨rest, ext⟩ := split
  rw [ext, slice_append _ _ _ _ (by simp), slice_front _ _ _ (leBytes_length _ _), leNat_leBytes]
  exact Nat.mod_eq_of_lt (sumPowers_lt _ 128)

theorem ackCovers_ackExt {q : Qp} {psn : Nat} (cpsn : q.cpsn < 2 ^ 24) (fits : psn < 2 ^ 24) :
    ackCovers (ackExt q) psn = true ↔ newer 24 q.cpsn psn = true
      ∨ ((psn + 2 ^ 24 - (q.cpsn + 1)) % 2 ^ 24 < 128 ∧ psn ∈ q.done) := by
  have back : (q.cpsn + 1 + (psn + 2 ^ 24 - (q.cpsn + 1)) % 2 ^ 24) % 2 ^ 24 = psn := by omega
  have bits : q.sack.testBit ((psn + 2 ^ 24 - (q.cpsn + 1)) % 2 ^ 24)
      = (decide ((psn + 2 ^ 24 - (q.cpsn + 1)) % 2 ^ 24 < 128) && q.done.contains psn) := by
    rw [Qp.sack, testBit_sumPowers, back]
  simp only [ackCovers, ackExt_cpsn cpsn, ackExt_sack, bits, Bool.or_eq_true, Bool.and_eq_true, decide_eq_true_eq, List.contains_iff_mem,
    and_self_left]

/-! ## What the sender makes of it (R254, R261, R263, R264) -/

/-- The records of an ACK. -/
def ackRecords (ext : List Byte) : Nat := leNat (slice ext 3 1)

/-- The messages that its records name. -/
def ackMsns (ext : List Byte) : List Nat := (List.range (ackRecords ext)).map fun i => leNat (slice ext (32 + 8 * i) 3)

/-- The packets of a QP that an ACK newly reports as done. -/
def Qp.newlyDone (q : Qp) (ext : List Byte) : List TxPkt := q.tx.filter fun t => t.out && ackCovers ext t.psn

/-- When the last of those packets left. -/
def Qp.lastLeft (q : Qp) (ext : List Byte) : Nat := (q.newlyDone ext).foldl (fun m t => Nat.max m t.sentAt) 0

/-- The commands of the messages named, each once. -/
def Qp.ackOwners (q : Qp) (ext : List Byte) : List Nat :=
  ((q.tx.filter fun t => (ackMsns ext).contains t.msn && t.own != 0).map TxPkt.own).eraseDups

section
variable {s : State} {n : Nat} {ext : List Byte}

/-- A packet that a later one has overtaken by more than the reordering allowed (R254). -/
def State.Overtaken (s : State) (n : Nat) (ext : List Byte) (t : TxPkt) : Prop :=
  ackCovers ext t.psn = false ∧ t.sent = true ∧ t.done = false ∧ t.held = false ∧ (s.qp n).newlyDone ext ≠ []
    ∧ t.sentAt + 1000 * s.num 0x6300 3 ≤ (s.qp n).lastLeft ext

/-- A packet of a message named serves no command any more. -/
def disowned (ext : List Byte) (t : TxPkt) : TxPkt := if (ackMsns ext).contains t.msn then { t with own := 0 } else t

/-- What an ACK makes of a packet: it is done, lost, or as it was. -/
def State.ackTurn (s : State) (n : Nat) (ext : List Byte) (t : TxPkt) : TxPkt :=
  if t.out && ackCovers ext t.psn then { t with done := true }
  else if t.sent && !t.done && !t.held && !ackCovers ext t.psn && !((s.qp n).newlyDone ext).isEmpty
    && decide (t.sentAt + 1000 * s.num 0x6300 3 ≤ (s.qp n).lastLeft ext) then t.lose
  else t

theorem State.overtaken_iff {t : TxPkt} : (t.sent && !t.done && !t.held && !ackCovers ext t.psn && !((s.qp n).newlyDone ext).isEmpty
    && decide (t.sentAt + 1000 * s.num 0x6300 3 ≤ (s.qp n).lastLeft ext)) = true ↔ s.Overtaken n ext t := by
  simp only [State.Overtaken, Bool.and_eq_true, Bool.not_eq_true', decide_eq_true_eq, List.isEmpty_eq_false_iff]
  tauto

section
variable {t : TxPkt}

theorem ackTurn_reported (out : t.out = true) (covered : ackCovers ext t.psn = true) :
    s.ackTurn n ext t = { t with done := true } := if_pos (by rw [out, covered]; rfl)

theorem ackTurn_overtaken (late : s.Overtaken n ext t) : s.ackTurn n ext t = t.lose := by
  have ⟨uncovered, _⟩ := late
  exact (if_neg (by simp [uncovered])).trans (if_pos (State.overtaken_iff.2 late))

theorem ackTurn_other (open_ : ¬ (t.out = true ∧ ackCovers ext t.psn = true)) (prompt : ¬ s.Overtaken n ext t) :
    s.ackTurn n ext t = t :=
  (if_neg (by rwa [Bool.and_eq_true])).trans (if_neg (mt State.overtaken_iff.1 prompt))

end

/-- The sender once the packets reported are done. -/
def State.ackTaken (s : State) (n : Nat) (ext : List Byte) : State :=
  s.setQp n { (((s.qp n).newlyDone ext).filter fun t => !t.resent && !t.rnr).foldl
                (fun a t => a.sampleRtt (s.xnt.clock - t.sentAt)) (s.qp n) with
    tx := ((s.qp n).tx.map fun t => s.ackTurn n ext (disowned ext t)).dropWhile TxPkt.done
    marked := (s.qp n).marked + leNat (slice ext 20 2)
    acked := (s.qp n).acked + leNat (slice ext 22 2)
    pathTimeouts := (s.qp n).pathTimeouts.filter fun t => !(((s.qp n).newlyDone ext).map TxPkt.path).contains t.1 }

theorem onAck_badLength (bad : ext.length ≠ 32 + 8 * ackRecords ext ∨ 8 < ackRecords ext) : s.onAck n ext = s := if_pos bad

theorem onAck_fits (fits : ext.length = 32 + 8 * ackRecords ext) (few : ackRecords ext ≤ 8) : s.onAck n ext =
    ((if ackRecords ext = 0 then s.ackTaken n ext
      else (((s.qp n).ackOwners ext).foldl State.ownFails ((s.ackTaken n ext).failReads n (ackMsns ext))).sendUn n 0x13
        (slice ext 24 2 ++ leBytes 6 0) (s.qp n).connId).drainStep n).wake := by
  have turned : ((s.qp n).tx.map fun t => s.ackTurn n ext (disowned ext t))
      = ((s.qp n).tx.map (disowned ext)).map (s.ackTurn n ext) := by
    rw [List.map_map]
    rfl
  refine (if_neg (not_or.2 ⟨not_not.2 fits, few.not_gt⟩)).trans ?_
  rw [State.ackTaken, turned]
  rfl

end

/-! ## Every case -/

theorem exec_acknowledges {i : Instr} {s : State} {p : RxPacket} {payload : List Byte} (receives : s.Receives p payload)
    (command : i = .xntAck p ∧ bOp p.base = 0x10 ∨ i = .xntNak p ∧ bOp p.base = 0x11) :
    Sys2Proof.Machine.exec i s = .next (s.sealed ((s.received p).onAck (bDstQp p.base) p.ext)) := by
  rcases command with ⟨rfl, op⟩ | ⟨rfl, op⟩
  · rw [exec_unsequenced rfl receives op rfl rfl, State.rxUn, op]
    rfl
  · rw [exec_unsequenced rfl receives op rfl rfl, State.rxUn, op]
    rfl

/-- Settles O50: the bits of an ACK are those of the PSNs that are done, and each packet of the sender turns by what it reports. -/
theorem acknowledgementsSayWhatIsDone : Obligations.AcknowledgementsSayWhatIsDone := by
  refine ⟨fun q psn cpsn fits => ackCovers_ackExt cpsn fits, ?_⟩
  rintro i p s t payload _ _ q receives command received rfl same rfl
  obtain rfl : q = t.qp (bDstQp p.base) := by rw [same, received]; rfl
  rw [exec_acknowledges receives command, ← received]
  refine ⟨fun bad => ?_, fun fits few => ?_⟩
  · rw [onAck_badLength bad]
  rintro _ _ _ _ after _ u rfl rfl rfl rfl turns rfl taken
  have after_eq : after = fun x => t.ackTurn (bDstQp p.base) p.ext (disowned p.ext x) := by
    funext x
    obtain ⟨reported, lost, stays⟩ := turns x (disowned p.ext x) (if_congr List.contains_iff_mem rfl rfl)
    by_cases done : (disowned p.ext x).out = true ∧ ackCovers p.ext (disowned p.ext x).psn = true
    · rw [reported done.1 done.2, ackTurn_reported done.1 done.2]
    by_cases late : t.Overtaken (bDstQp p.base) p.ext (disowned p.ext x)
    · obtain ⟨uncovered, sent, open_, free, new, before⟩ := id late
      rw [lost uncovered sent open_ free new before, ackTurn_overtaken late]
    · rw [stays done late, ackTurn_other done late]
  obtain rfl : u = t.ackTaken (bDstQp p.base) p.ext := by rw [taken, after_eq]; rfl
  refine ⟨fun (none_ : ackRecords p.ext = 0) => ?_, fun (some_ : ackRecords p.ext ≠ 0) => ?_⟩
  · rw [onAck_fits fits few, if_pos none_]
  · rw [onAck_fits fits few, if_neg some_]
    rfl

end Sys2Proof.Machine
end

section
/-! SUPPORT. The timers of a QP (R249 to R251, R254, R255, R262, R264, R269): what each does, and where it finds nothing. -/

namespace Sys2Proof.Machine

/-- A command that comes down to an operation answers what the operation comes to. -/
theorem exec_comes_to {i : Instr} {s t u : State} (runs : Sys2Proof.Machine.exec i s = .next (s.sealed t)) (comes : t = u) :
    Sys2Proof.Machine.exec i s = .next (s.sealed u) := comes ▸ runs

section
variable {s : State} {n : Nat}

/-! ## Retransmission (R254, R255) -/

section
variable {psn : Nat}

/-- A packet that its retransmission timer is for: it is out, not done and not held. -/
def TxPkt.timed (psn : Nat) (t : TxPkt) : Bool := t.psn == psn && t.sent && !t.done && !t.held

theorem timeout_untimed (untimed : ∀ t ∈ (s.qp n).tx, t.timed psn = false) : s.timeout n psn = s := by
  have none_ : (s.qp n).tx.find? (fun t => t.psn == psn && t.sent && !t.done && !t.held) = none :=
    List.find?_eq_none.2 fun t mem => ne_true_of_eq_false (untimed t mem)
  simp only [State.timeout, none_]

section
variable {t : TxPkt} (found : (s.qp n).tx.find? (TxPkt.timed psn) = some t)
include found

theorem timeout_timed : s.timeout n psn =
    if !(s.qp n).sends then s
    else if s.num 0x6300 6 ≤ t.retries then s.qpError n 1
    else s.modQp n fun x =>
      { (x.pathTimeout t.path) with
          rate := s.halfRate x.rate, tx := x.tx.map fun y => if y.psn = psn then y.lose else y } := by
  have timed : (s.qp n).tx.find? (fun t => t.psn == psn && t.sent && !t.done && !t.held) = some t := found
  simp only [State.timeout, timed]

end

theorem timeout_silent (silent : (s.qp n).sends = false) : s.timeout n psn = s := by
  cases found : (s.qp n).tx.find? (TxPkt.timed psn) with
  | none => exact timeout_untimed fun t mem => eq_false_of_ne_true (List.find?_eq_none.1 found t mem)
  | some t => rw [timeout_timed found, silent, Bool.not_false, if_pos rfl]

end

/-! ## Acknowledgement and rate (R251, R262, R264) -/

theorem ackDelay_sends (sends : (s.qp n).sends = true) (some_ : (s.qp n).unacked ≠ 0) : s.ackDelay n = s.sendAck n false :=
  if_pos (by simp [sends, some_])

theorem ackDelay_idle (idle : (s.qp n).sends = false ∨ (s.qp n).unacked = 0) : s.ackDelay n = s :=
  if_neg (by rcases idle with h | h <;> simp [h])

theorem ratePeriod_idle (idle : (s.qp n).sends = false ∨ (s.qp n).sent = false) : s.ratePeriod n = s :=
  if_pos (by rcases idle with h | h <;> simp [h])

/-- Alpha after a rate period: it follows the share of marked packets (R264). -/
def Qp.nextAlpha (q : Qp) : Rat := q.alpha * 15 / 16 + ((q.marked : Rat) / ((Nat.max q.acked 1 : Nat) : Rat)) / 16

/-- Rate periods without a mark. -/
def Qp.nextSteps (q : Qp) : Nat := if 0 < q.marked then 0 else q.steps + 1

/-- What a period without a mark adds to the rate. -/
def State.rateGain (s : State) (q : Qp) : Rat :=
  ((if q.nextSteps ≤ 5 then s.num 0x6300 0x13 else s.num 0x6300 0x14 : Nat) : Rat)

/-- The rate after a period: cut down to RATE_MIN by marks, else raised up to RATE_MAX. -/
def State.nextRate (s : State) (q : Qp) : Rat :=
  if 0 < q.marked then
    if q.rate * (1 - q.nextAlpha / 2) < ((s.num 0x6300 0x12 : Nat) : Rat) then ((s.num 0x6300 0x12 : Nat) : Rat)
    else q.rate * (1 - q.nextAlpha / 2)
  else if ((s.rateMax q : Nat) : Rat) < q.rate + s.rateGain q then ((s.rateMax q : Nat) : Rat) else q.rate + s.rateGain q

theorem ratePeriod_ends (sends : (s.qp n).sends = true) (sent : (s.qp n).sent = true) : s.ratePeriod n = s.modQp n fun x =>
    { x with alpha := (s.qp n).nextAlpha, rate := s.nextRate (s.qp n), steps := (s.qp n).nextSteps
             marked := 0, acked := 0, sent := false } := if_neg (by rw [sends, sent]; exact Bool.false_ne_true)

/-! ## The connection (R249, R269) -/

theorem connectRetry_other (other : (s.qp n).st ≠ .connecting) : s.connectRetry n = s := if_pos other

section
variable (st : (s.qp n).st = .connecting)
include st

theorem connectRetry_ends (spent : 16 ≤ (s.qp n).attempts) : s.connectRetry n = s.qpError n 4 :=
  (if_neg (not_not.2 st)).trans (if_pos spent)

theorem connectRetry_sends (left : (s.qp n).attempts < 16) : s.connectRetry n = s.sendConnect n :=
  (if_neg (not_not.2 st)).trans (if_neg left.not_ge)

end

theorem sendConnect_guarded (guarded : (s.qp n).guarded = true) : s.sendConnect n = s := if_pos guarded

theorem sendConnect_free (free : (s.qp n).guarded = false) :
    s.sendConnect n = (s.sendOwn n 0x20).modQp n fun q => { q with attempts := q.attempts + 1 } :=
  if_neg (ne_true_of_eq_false free)

theorem rnrLimit_ends {psn : Nat} (sends : (s.qp n).sends = true)
    (waits : ∃ t ∈ (s.qp n).tx, t.psn = psn ∧ t.rnr = true ∧ t.done = false) : s.rnrLimit n psn = s.qpError n 2 :=
  if_pos (by simpa [sends, and_assoc] using waits)

theorem rnrLimit_idle {psn : Nat} (idle : (s.qp n).sends = false
    ∨ ∀ t ∈ (s.qp n).tx, ¬ (t.psn = psn ∧ t.rnr = true ∧ t.done = false)) : s.rnrLimit n psn = s :=
  by
  refine if_neg fun limit => ?_
  obtain ⟨sends, waits⟩ := Bool.and_eq_true_iff.1 limit
  rcases idle with silent | idle
  · exact Bool.false_ne_true (silent.symm.trans sends)
  · obtain ⟨t, mem, waiting⟩ := List.any_eq_true.1 waits
    exact idle t mem (by simpa [and_assoc] using waiting)

end

/-! ## Every timer -/

/-- Settles O51: each timer where it is for something, and where it is not. -/
theorem transportTimersAct : Obligations.TransportTimersAct := by
  refine ⟨?retransmit, fun s qp => ⟨fun sends some_ => ?_, fun idle => ?_⟩, ?rate, fun s qp path => rfl,
    fun s qp => ⟨fun st => ⟨fun left free => ?_, fun left guarded => ?_, fun spent => ?_⟩, fun other => ?_⟩,
    fun s qp => ⟨fun st => ?_, fun other => ?_⟩, fun s qp => rfl, fun s qp psn => rfl,
    fun s qp psn => ⟨fun sends waits => ?_, fun idle => ?_⟩⟩
  case retransmit =>
    intro s qp psn out spec
    obtain rfl : out = TxPkt.timed psn.toNat := funext spec
    refine ⟨fun t sends found => ⟨fun left => ?_, fun spent => ?_⟩, fun idle => exec_comes_to rfl (congrArg State.wake ?_)⟩
    · refine exec_comes_to rfl (congrArg State.wake ?_)
      rw [timeout_timed found, sends, Bool.not_true, if_neg Bool.false_ne_true, if_neg left.not_ge]
    · refine exec_comes_to rfl (congrArg State.wake ?_)
      rw [timeout_timed found, sends, Bool.not_true, if_neg Bool.false_ne_true, if_pos spent]
    · exact idle.elim timeout_silent timeout_untimed
  · exact exec_comes_to rfl (ackDelay_sends sends some_)
  · exact exec_comes_to rfl (ackDelay_idle idle)
  case rate =>
    rintro s qp _ rfl
    refine ⟨fun idle => exec_comes_to rfl (ratePeriod_idle idle), ?_⟩
    rintro sends sent _ rate _ _ rfl rfl rfl marks clean
    have next : rate = s.nextRate (s.qp qp.toNat) := by
      rcases Nat.eq_zero_or_pos (s.qp qp.toNat).marked with none_ | some_
      · exact (clean none_).trans (if_neg (by omega)).symm
      · exact (marks some_).trans (if_pos some_).symm
    rw [next]
    exact exec_comes_to rfl (ratePeriod_ends sends sent)
  · exact exec_comes_to rfl ((connectRetry_sends st left).trans (sendConnect_free free))
  · exact exec_comes_to rfl ((connectRetry_sends st left).trans (sendConnect_guarded guarded))
  · exact exec_comes_to rfl (connectRetry_ends st spent)
  · exact exec_comes_to rfl (connectRetry_other other)
  · exact exec_comes_to rfl (if_pos st)
  · exact exec_comes_to rfl (if_neg other)
  · exact exec_comes_to rfl (congrArg State.wake (rnrLimit_ends sends waits))
  · exact exec_comes_to rfl (congrArg State.wake (rnrLimit_idle idle))

end Sys2Proof.Machine
end

section
/-! SUPPORT. Packets that wait for their units (R267, R268), the ends of region keys (R266), what a sub-port answers to its neighbours
(R237, R239), and the shapers' ticks (R264, R315). -/

namespace Sys2Proof.Machine

section
variable {s : State} {n : Nat}

/-! ## Held packets (R267, R268) -/

section
variable {psn : Nat}

theorem odpBind_none (none_ : s.stalled n psn = none) : s.odpBind n psn = s := by simp only [State.odpBind, none_]

theorem odpLimit_none (none_ : s.stalled n psn = none) : s.odpLimit n psn = s :=
  if_neg (by rw [none_]; exact Bool.false_ne_true)

section
variable {f : Stalled} (held : s.stalled n psn = some f)
include held

theorem odpLimit_held : s.odpLimit n psn = s.dropRnr n psn := if_pos (by rw [held]; rfl)

/-- The region of the packet has ended (R267). -/
theorem odpBind_closed (closed : s.landingOf f.key = none) : s.odpBind n psn = s.dropRnr n psn := by
  simp only [State.odpBind, held, closed, Option.isNone_none, if_true]

section
variable (landing : s.landingOf f.key ≠ none)
include landing

theorem odpBind_unbound (unbound : s.bindUnits f.key (s.qp n).slice (unitsOf f.off f.payload.length) = none) :
    s.odpBind n psn = s := by
  simp only [State.odpBind, held, unbound, ite_eq_right_iff, Option.isNone_iff_eq_none]
  exact fun closed => absurd closed landing

theorem odpBind_bound {u : State} (bound : s.bindUnits f.key (s.qp n).slice (unitsOf f.off f.payload.length) = some u) :
    s.odpBind n psn = ((((u.placeBytes f.key f.off f.payload).dropStalled fun x => x.qp == n && x.psn == psn).markDone n
      psn).ackNow n ((s.qp n).acts.any fun a => a.1 == psn)).lowCheck := by
  have open_ : ¬ (s.landingOf f.key).isNone = true := mt Option.isNone_iff_eq_none.1 landing
  simp only [State.odpBind, held, bound, if_neg open_]

end

end

end

/-! ## Region keys (R266) -/

section
variable {k : Nat}

/-- A key is revoking, and nothing is in flight against it. -/
def Rkey.Revoked (r : Rkey) : Prop := r.st = 2 ∧ r.inflight = 0

theorem revoked_completes {r : Rkey} (found : s.rkey k = some r) (done : r.Revoked) : s.revoked k = s.modXnt fun x =>
    { x with rkeys := aput x.rkeys k { r with st := 3, gen := (r.gen + 1) % 256 }
             rkeyGens := aput x.rkeyGens k ((r.gen + 1) % 256) } := by
  unfold State.revoked
  rw [found]
  exact if_pos done

theorem revoked_other (other : ∀ r, s.rkey k = some r → ¬ r.Revoked) : s.revoked k = s := by
  unfold State.revoked
  cases found : s.rkey k with
  | none => rfl
  | some r => exact if_neg (other r found)

theorem freeKey_quiet {r : Rkey} (found : s.rkey k = some r) (quiet : r.st = 3) :
    s.freeKey k = s.modXnt fun x => { x with rkeys := adel x.rkeys k } := by
  unfold State.freeKey
  rw [found]
  exact if_pos quiet

theorem freeKey_other (other : ∀ r, s.rkey k = some r → r.st ≠ 3) : s.freeKey k = s := by
  unfold State.freeKey
  cases found : s.rkey k with
  | none => rfl
  | some r => exact if_neg (other r found)

end

/-! ## Neighbours (R239) -/

section
variable {v6 : Bool} {target asker : BitVec 128} {vlan : Option (BitVec 12)} {data : List Byte}

theorem arp_down (down : s.portUp n = false) : s.arp n v6 target asker vlan = s := if_pos ((Bool.not_eq_true' _).mpr down)

theorem echo_down (down : s.portUp n = false) : s.echo n v6 target asker vlan data = s := if_pos ((Bool.not_eq_true' _).mpr down)

section
variable (up : s.portUp n = true)
include up

theorem arp_own (own : (s.ownAddr n v6 target && s.ownVlan n vlan) = true) : s.arp n v6 target asker vlan =
    s.answered n (some (.arp n (s.answerHdr n v6 target asker) target (fld (s.portCfg n) 32 48))) := by
  rw [State.arp, up, own, Bool.not_true, if_neg Bool.false_ne_true, if_pos rfl]

theorem arp_foreign (foreign : (s.ownAddr n v6 target && s.ownVlan n vlan) = false) :
    s.arp n v6 target asker vlan = s.answered n none := by
  rw [State.arp, up, foreign, Bool.not_true, if_neg Bool.false_ne_true, if_neg Bool.false_ne_true]

theorem echo_own (own : (s.ownAddr n v6 target && s.ownVlan n vlan) = true) (few : anat s.xnt.echoes n < 1000) :
    s.echo n v6 target asker vlan data
      = (s.answered n (some (.echo n (s.answerHdr n v6 target asker) data))).modXnt fun x =>
        { x with echoes := abump x.echoes n 1 } := by
  rw [State.echo, up, own, Bool.not_true, if_neg Bool.false_ne_true, if_pos (by simp [few])]

theorem echo_unanswered (unanswered : (s.ownAddr n v6 target && s.ownVlan n vlan) = false ∨ 1000 ≤ anat s.xnt.echoes n) :
    s.echo n v6 target asker vlan data = s.answered n none := by
  rw [State.echo, up, Bool.not_true, if_neg Bool.false_ne_true, if_neg]
  rintro answered
  obtain ⟨own, few⟩ := Bool.and_eq_true_iff.1 answered
  rcases unanswered with foreign | many
  · exact Bool.false_ne_true (foreign.symm.trans own)
  · exact (of_decide_eq_true few).not_ge many

end

end

end

/-! ## Every case -/

/-- Settles O52: held packets, keys, neighbours, links and ticks, each where it is for something and where it is not. -/
theorem placementKeysAndNeighbours : Obligations.PlacementKeysAndNeighbours := by
  refine ⟨?held, fun s k => ⟨fun r found st idle => ?_, fun other => ?_, fun r found quiet => ?_, fun other => ?_⟩, ?neighbours,
    fun s n up => rfl, ?tick⟩
  case held =>
    rintro s _ qp psn rfl
    refine ⟨fun none_ => ⟨?_, ?_⟩, fun f held => ⟨?_, fun closed => ?_, ?_⟩⟩
    · exact exec_comes_to rfl (odpBind_none none_)
    · exact exec_comes_to rfl (odpLimit_none none_)
    · exact exec_comes_to rfl (odpLimit_held held)
    · exact exec_comes_to rfl (odpBind_closed held closed)
    · rintro landing _ rfl
      exact ⟨fun unbound => exec_comes_to rfl (odpBind_unbound held landing unbound),
        fun u bound => exec_comes_to rfl (odpBind_bound held landing bound)⟩
  · exact exec_comes_to rfl (revoked_completes found ⟨st, idle⟩)
  · exact exec_comes_to rfl (revoked_other fun r found => not_and_or.2 (other r found))
  · exact exec_comes_to rfl (freeKey_quiet found quiet)
  · exact exec_comes_to rfl (freeKey_other other)
  case neighbours =>
    rintro s n v6 a w vlan data _ _ rfl rfl
    refine ⟨fun down => ⟨?_, ?_⟩, ?_⟩
    · exact exec_comes_to rfl (arp_down down)
    · exact exec_comes_to rfl (echo_down down)
    · rintro up _ rfl
      refine ⟨fun own => ?_, fun foreign => ?_, fun own few => ?_, fun unanswered => ?_⟩
      · exact exec_comes_to rfl (arp_own up own)
      · exact exec_comes_to rfl (arp_foreign up foreign)
      · exact exec_comes_to rfl (echo_own up own few)
      · exact exec_comes_to rfl (echo_unanswered up unanswered)
  case tick =>
    rintro s dt _ rfl
    exact exec_comes_to rfl rfl

end Sys2Proof.Machine
end

section
/-! SUPPORT. The SERVICE rows (R260, R270): what acts on a message, and the header that its row makes of it. -/

namespace Sys2Proof.Machine

/-- Settles O54: a row acts exactly where its QP takes messages, and SVC is the only field of the header that it changes. -/
theorem serviceMessagesAreActedOn : Obligations.ServiceMessagesAreActedOn := by
  refine ⟨fun i q svc m s row acts => ?_, fun i q svc m s row idle => ?_, fun svc m small => ?_⟩
  · rw [serviceRow_exec row, if_pos acts]
  · rw [serviceRow_exec row, idle, if_neg Bool.false_ne_true]
  · have field : ∀ lo len, 8 ≤ lo → fld (rowHdr svc m) lo len = fld m.hdr lo len := rowHdr_fld svc m small
    have seq : hSeq (rowHdr svc m) = hSeq m.hdr := BitVec.eq_of_toNat_eq (field 64 64 (by decide))
    exact ⟨rowHdr_svc svc m small, field 8 8 (by decide), field 16 16 (by decide), field 32 32 (by decide), seq,
      field 128 16 (by decide), field 144 8 (by decide)⟩

end Sys2Proof.Machine
end

section
/-! SUPPORT. Traffic shapers (R315, R317): what a tick adds, how a unit may leave, and what it takes. -/

namespace Sys2Proof.Machine

section
variable {s : State} {d n b : Nat}

/-! ## A disabled shaper -/

theorem eligible_disabled (off : bit (s.shaper d n) 0 = false) : s.eligible d n b = .committed := by
  simp only [State.eligible, off, Bool.not_false, if_true]

theorem leave_disabled (how : Leave) (off : bit (s.shaper d n) 0 = false) : s.leave d n b how = s := by
  simp only [State.leave, off, Bool.not_false, if_true]

/-! ## An enabled shaper -/

section
variable (on : bit (s.shaper d n) 0 = true)
include on

/-- A tick adds to each bucket what its rate gains, up to its burst. -/
theorem refill_enabled (dt : Nat) : s.refill d n dt = s.setBuckets d n
    (Nat.min (fld (s.shaper d n) 96 32 * 65536)
      ((s.buckets d n).1 + bucketGain (fld (s.shaper d n) 32 32) dt (n == 1 && s.link.width == 8)))
    (Nat.min (fld (s.shaper d n) 128 32 * 65536)
      ((s.buckets d n).2 + bucketGain (fld (s.shaper d n) 64 32) dt (n == 1 && s.link.width == 8))) :=
  if_pos on

/-- A unit leaves committed where both buckets hold it, else as excess in shared mode where the peak bucket does, else it waits. -/
theorem eligible_enabled : s.eligible d n b =
    if b * 65536 ≤ (s.buckets d n).1 ∧ b * 65536 ≤ (s.buckets d n).2 then .committed
    else if s.strict = false ∧ b * 65536 ≤ (s.buckets d n).2 then .excess
    else .wait := by
  simp only [State.eligible, on, Bool.not_true, Bool.false_eq_true, if_false, Bool.and_eq_true, Bool.not_eq_true', decide_eq_true_iff]

theorem eligible_committed_iff :
    s.eligible d n b = .committed ↔ b * 65536 ≤ (s.buckets d n).1 ∧ b * 65536 ≤ (s.buckets d n).2 := by
  rw [eligible_enabled on]
  split
  · next both => simp only [both, and_self]
  · next short => split <;> simp [short]

theorem eligible_excess_iff : s.eligible d n b = .excess ↔
    s.strict = false ∧ b * 65536 ≤ (s.buckets d n).2 ∧ (s.buckets d n).1 < b * 65536 := by
  rw [eligible_enabled on]
  split
  · next both => simp [both.1]
  · next short =>
    have committedShort : b * 65536 ≤ (s.buckets d n).2 → (s.buckets d n).1 < b * 65536 := by omega
    split
    · next shared => simp only [shared, committedShort shared.2, and_self]
    · next waits => simp only [reduceCtorEq, false_iff]; exact fun h => waits ⟨h.1, h.2.1⟩

/-- Committed traffic is taken from both buckets. -/
theorem leave_committed : s.leave d n b .committed =
    s.setBuckets d n ((s.buckets d n).1 - b * 65536) ((s.buckets d n).2 - b * 65536) :=
  (if_neg (bnot_ne_true on)).trans (if_neg Leave.noConfusion)

/-- Excess traffic is taken from the peak bucket, and counted. -/
theorem leave_excess : s.leave d n b .excess =
    (s.setBuckets d n (s.buckets d n).1 ((s.buckets d n).2 - b * 65536)).bump 0x7130 (2 + n) b d :=
  (if_neg (bnot_ne_true on)).trans (if_pos rfl)

end

end

/-! ## The traffic of a domain -/

/-- Settles O53: an enabled shaper fills, decides and takes as its two buckets stand; a disabled one does nothing. -/
theorem shapersLimitTraffic : Obligations.ShapersLimitTraffic := by
  refine ⟨fun s d n dt x there on => ?fills, fun s d n b x there on => ⟨?decides, ?exceeds, fun _ => ?takes, fun _ => ?takesExcess⟩,
    fun s d n b off => ⟨eligible_disabled off, leave_disabled _ off⟩⟩
  case fills =>
    rw [refill_enabled on, setBuckets_buckets s d n _ _ x there]
    exact ⟨rfl, rfl⟩
  case decides => exact eligible_committed_iff on
  case exceeds => exact eligible_excess_iff on
  case takes => rw [leave_committed on, setBuckets_buckets s d n _ _ x there]
  case takesExcess => rw [leave_excess on, bump_buckets, setBuckets_buckets s d n _ _ x there]

end Sys2Proof.Machine
end

section
/-! SUPPORT. Domains and their keys (R298, R299, R303, R437): DOMAIN_OP and the key entries, and what a write of each does. -/

namespace Sys2Proof.Machine

/-! ## The entries (R437) -/

section
variable {s : State} {ch : Chan} {d : Nat}

/-- An entry of a domain that no DATA QP may write is the entry of the domain that the write names. -/
theorem State.MayWrite.writeKey_ofDomain {w : EntryWrite} {r : PdRow} (may : s.MayWrite w) (row : pdRow w.idx w.sub = some r)
    (noDomain : r.dm.testBit 1 = false) (ofDomain : pdScoped w.idx = true) : s.writeKey w = ⟨w.idx, w.sub, w.dom⟩ := by
  rw [State.writeKey, callerDom_of_mayWrite s w r may row noDomain, pdKey, if_pos ofDomain]

/-- DOMAIN_OP as the dictionary has it: one byte, 1 to 3, that acts at once. -/
theorem pdRow_domainOp : pdRow 0x7100 2 = some ⟨0x7100, 2, 2, 1, 1, true, 0, 2, 2, 0, 0, 0, 1, 3⟩ := by decide

theorem State.MayWrite.reachesDomainOp {v : Byte} (may : s.MayWrite ⟨ch, d, 0x7100, 2, [v]⟩)
    (known : 1 ≤ v.toNat ∧ v.toNat ≤ 3) : s.ReachesEntry ⟨ch, d, 0x7100, 2, [v]⟩ := by
  have plain : 0x7100 ≠ 0x7000 ∧ 0x7100 ≠ 0x8300 ∧ 0x7100 ≠ 0x8400 := by decide
  refine ⟨may.1, ⟨_, may.access_of_row pdRow_domainOp, rfl,
    plain_value _ _ _ _ _ rfl rfl (by decide) (fun _ => ?_) rfl plain.1 rfl⟩, rfl, plain.2⟩
  rwa [leNat, leNat, Nat.mul_zero, Nat.add_zero]

theorem immWrite_domainOp {v : Byte} (may : s.MayWrite ⟨ch, d, 0x7100, 2, [v]⟩) :
    s.immWrite ch (s.writeKey ⟨ch, d, 0x7100, 2, [v]⟩) [v] = s.domainOp d (leNat [v]) := by
  rw [may.writeKey_ofDomain pdRow_domainOp rfl rfl]
  rfl

variable {k : List Byte}

theorem State.MayWrite.reachesXtsKey (may : s.MayWrite ⟨ch, d, 0x7110, 1, k⟩) (full : k.length = 64) :
    s.ReachesEntry ⟨ch, d, 0x7110, 1, k⟩ :=
  may.reachesEntry (by decide : ImmEntry 0x7110 1 64 none) full (by simp) (by simp [namedBits]) rfl

theorem State.MayWrite.reachesFabricKey (may : s.MayWrite ⟨ch, d, 0x7110, 2, k⟩) (full : k.length = 32) :
    s.ReachesEntry ⟨ch, d, 0x7110, 2, k⟩ :=
  may.reachesEntry (by decide : ImmEntry 0x7110 2 32 none) full (by simp) (by simp [namedBits]) rfl

theorem State.MayWrite.reachesMgmtKey (may : s.MayWrite ⟨ch, d, 0x7010, 1, k⟩) (full : k.length = 32) :
    s.ReachesEntry ⟨ch, d, 0x7010, 1, k⟩ :=
  may.reachesEntry (by decide : ImmEntry 0x7010 1 32 none) full (by simp) (by simp [namedBits]) rfl

/-- XTS_KEY and FABRIC_KEY as the dictionary has them: no DATA QP writes them. -/
theorem pdRow_xtsKey : pdRow 0x7110 1 = some ⟨0x7110, 1, 1, 9, 64, true, 0, 2, 0, 0, 0, 0, 0, 0⟩ := by decide

theorem pdRow_fabricKey : pdRow 0x7110 2 = some ⟨0x7110, 2, 2, 9, 32, true, 0, 2, 0, 0, 0, 0, 0, 0⟩ := by decide

theorem immWrite_xtsKey (may : s.MayWrite ⟨ch, d, 0x7110, 1, k⟩) :
    s.immWrite ch (s.writeKey ⟨ch, d, 0x7110, 1, k⟩) k = s.setXts d k := by
  rw [may.writeKey_ofDomain pdRow_xtsKey rfl rfl]
  rfl

theorem immWrite_fabricKey (may : s.MayWrite ⟨ch, d, 0x7110, 2, k⟩) :
    s.immWrite ch (s.writeKey ⟨ch, d, 0x7110, 2, k⟩) k = s.setFabric d k := by
  rw [may.writeKey_ofDomain pdRow_fabricKey rfl rfl]
  rfl

/-- No check of the profile, the partition or a session leaves its number at XTS_KEY. -/
theorem opFailed_xtsKey {f : Fail} (known : f.st ≠ stDenied) :
    s.opFailed (s.writeReq ⟨ch, d, 0x7110, 1, k⟩) (EntryWrite.op ⟨ch, d, 0x7110, 1, k⟩) f = s := by
  have mark : ∀ e, s.markFail ⟨0x7110, 1, e⟩ k f = s := fun e => by simp [State.markFail, State.partBroken, inPartChecks]
  simp [State.opFailed, EntryWrite.op, pdKey, mark, known]

/-- An XTS_KEY that fails is answered with its failure and leaves no mark. -/
theorem xtsKey_fails (f : Fail) {i : Instr} (may : s.MayWrite ⟨ch, d, 0x7110, 1, k⟩) (full : k.length = 64)
    (command : entryWrite i = some ⟨ch, d, 0x7110, 1, k⟩) (fails : s.setXts d k = .error f) (status : f.st ≠ stDenied) :
    Sys2Proof.Machine.exec i s = .next (s.sealed (s.answer s ⟨ch, d, 0x7110, 1, k⟩ f.st f.cause)) := by
  obtain ⟨serves, ⟨r, access, imm, value⟩, stored, _⟩ := may.reachesXtsKey full
  have op : s.pdOp (s.writeReq ⟨ch, d, 0x7110, 1, k⟩) (EntryWrite.op ⟨ch, d, 0x7110, 1, k⟩) = .error f :=
    pdOp_refused access (by omega) ((writeEntry_imm imm stored value).trans ((immWrite_xtsKey may).trans fails))
  rw [write_exec s command, oneWrite_failed serves op, opFailed_xtsKey status]

end

/-! ## DOMAIN_OP (R298, R299) -/

section
variable {s t : State} {ch : Chan} {d : Nat}

/-- An absent domain put in its place, with its entries at their defaults. -/
def State.freshDomain (s : State) (d : Nat) : State := (s.clearEntries d).modDom fun x => { x with doms := aput x.doms d {} }

theorem domCreate_absent (absent : aget s.dom.doms d = none) : s.domCreate d =
    .ok (if s.strict then quotaEntries.foldl (fun t e => t.setActive ⟨e.1, e.2.1, d⟩ (leBytes e.2.2 0)) (s.freshDomain d)
      else s.freshDomain d) := by
  rw [State.domCreate, absent]
  rfl

theorem domCreate_there (there : aget s.dom.doms d ≠ none) : s.domCreate d = .error busy0 :=
  if_pos (Option.isSome_iff_ne_none.2 there)

theorem domTeardown_active (active : s.domActive d = true) : s.domTeardown d = .ok (s.teardown d) := if_pos active

theorem domTeardown_inactive (inactive : s.domActive d = false) : s.domTeardown d = .error busy0 :=
  if_neg (Bool.not_eq_true _ ▸ inactive)

theorem domDelete_unused (active : s.domActive d = true) (unused : s.domOwns d = false) :
    s.domDelete d = .ok ((s.clearEntries d).modDom fun x => { x with doms := adel x.doms d }) := by
  simp [State.domDelete, active, unused]

theorem domDelete_used (used : s.domActive d = false ∨ s.domOwns d = true) : s.domDelete d = .error busy0 := by
  have stop : (!s.domActive d || s.domOwns d) = true := by simpa using used
  exact if_pos stop

theorem domainOp_done {i : Instr} {v : Byte} (may : s.MayWrite ⟨ch, d, 0x7100, 2, [v]⟩) (known : 1 ≤ v.toNat ∧ v.toNat ≤ 3)
    (command : entryWrite i = some ⟨ch, d, 0x7100, 2, [v]⟩) (done : s.domainOp d (leNat [v]) = .ok t) :
    Sys2Proof.Machine.exec i s = .next (s.sealed (t.answer s ⟨ch, d, 0x7100, 2, [v]⟩ 0 0)) :=
  (may.reachesDomainOp known).taken command ((immWrite_domainOp may).trans done)

/-- A refused operation on a domain is answered ST_BUSY and leaves no mark. -/
theorem domainOp_busy {i : Instr} {v : Byte} (may : s.MayWrite ⟨ch, d, 0x7100, 2, [v]⟩) (known : 1 ≤ v.toNat ∧ v.toNat ≤ 3)
    (command : entryWrite i = some ⟨ch, d, 0x7100, 2, [v]⟩) (busy : s.domainOp d (leNat [v]) = .error busy0) :
    Sys2Proof.Machine.exec i s = .next (s.sealed (s.answer s ⟨ch, d, 0x7100, 2, [v]⟩ stBusy 0)) :=
  (may.reachesDomainOp known).refused (f := busy0) command ((immWrite_domainOp may).trans busy) (by decide) (by decide)

end

/-! ## Keys (R219, R246, R247, R303) -/

theorem keyValue_loaded {k : List Byte} (loaded : (keyValue k).isEmpty = false) : keyValue k = k := by
  refine if_neg fun zeros => ?_
  rw [keyValue, if_pos zeros] at loaded
  exact Bool.noConfusion loaded

section
variable {s : State} {d : Nat} {k : List Byte}

/-- The check of R219 on the halves of a pair, read on the value as written. -/
theorem xtsHalves_iff : (!(keyValue k).isEmpty && (keyValue k).take 32 == (keyValue k).drop 32) = true ↔
    (keyValue k).isEmpty = false ∧ k.take 32 = k.drop 32 := by
  rw [Bool.and_eq_true, Bool.not_eq_true', beq_iff_eq]
  exact and_congr_right fun loaded => by rw [keyValue_loaded loaded]

theorem setXts_equalHalves (loaded : (keyValue k).isEmpty = false) (equal : k.take 32 = k.drop 32) :
    s.setXts d k = .error (bad 0xFF) :=
  if_pos (xtsHalves_iff.2 ⟨loaded, equal⟩)

section
variable (apart : (keyValue k).isEmpty = true ∨ k.take 32 ≠ k.drop 32)
include apart

theorem xtsHalves_apart : ¬ (!(keyValue k).isEmpty && (keyValue k).take 32 == (keyValue k).drop 32) = true := by
  rw [xtsHalves_iff]
  rintro ⟨loaded, equal⟩
  exact apart.elim (fun empty => Bool.noConfusion (empty.symm.trans loaded)) fun differ => differ equal

theorem setXts_done (free : ((aget s.dom.doms d).getD {}).xtsKey = [] ∨ keyValue k = ((aget s.dom.doms d).getD {}).xtsKey
      ∨ s.unitsHeld d = 0) : s.setXts d k =
    .ok (s.modDom fun y => { y with doms := amod y.doms d fun z => { z with xtsKey := keyValue k } }) := by
  refine (if_neg (xtsHalves_apart apart)).trans (if_neg ?_)
  rintro ⟨loaded, changes, held⟩
  rcases free with unloaded | same | none_
  · exact loaded unloaded
  · exact changes same
  · omega

theorem setXts_inUse (loaded : ((aget s.dom.doms d).getD {}).xtsKey ≠ [])
    (changes : keyValue k ≠ ((aget s.dom.doms d).getD {}).xtsKey) (held : 0 < s.unitsHeld d) : s.setXts d k = .error busy0 :=
  (if_neg (xtsHalves_apart apart)).trans (if_pos ⟨loaded, changes, held⟩)

end

/-- The QPs that keep a loaded FABRIC_KEY in use (R247). -/
theorem fabricQps_iff : s.xnt.qps.any (fun p => !p.2.isMgmt && p.2.dom == d && p.2.st != .reset) = true ↔
    ∃ p ∈ s.xnt.qps, p.2.isMgmt = false ∧ p.2.dom = d ∧ p.2.st ≠ .reset := by
  simp [and_assoc]

theorem setFabric_same (same : keyValue k = ((aget s.dom.doms d).getD {}).fabricKey) : s.setFabric d k = .ok s := if_pos same

section
variable (changes : keyValue k ≠ ((aget s.dom.doms d).getD {}).fabricKey)
include changes

theorem setFabric_done (free : ((aget s.dom.doms d).getD {}).fabricKey = []
      ∨ ∀ p ∈ s.xnt.qps, p.2.isMgmt = true ∨ p.2.dom ≠ d ∨ p.2.st = .reset) : s.setFabric d k =
    .ok ((s.modDom fun y => { y with doms := amod y.doms d fun z => { z with fabricKey := keyValue k } }).clearNonce d) := by
  refine (if_neg changes).trans (if_neg ?_)
  rw [fabricQps_iff]
  rintro ⟨loaded, p, mem, data, own, live⟩
  rcases free with unloaded | idle
  · exact loaded unloaded
  · rcases idle p mem with mgmt | other | reset
    · exact Bool.noConfusion (mgmt.symm.trans data)
    · exact other own
    · exact live reset

theorem setFabric_inUse (loaded : ((aget s.dom.doms d).getD {}).fabricKey ≠ [])
    (live : ∃ p ∈ s.xnt.qps, p.2.isMgmt = false ∧ p.2.dom = d ∧ p.2.st ≠ .reset) : s.setFabric d k = .error busy0 :=
  (if_neg changes).trans (if_pos ⟨loaded, fabricQps_iff.2 live⟩)

end

/-- The QPs that keep a loaded MGMT_FABRIC_KEY in use (R303). -/
theorem mgmtQps_iff : s.xnt.qps.any (fun p => p.2.isMgmt && p.2.st != .reset) = true ↔
    ∃ p ∈ s.xnt.qps, p.2.isMgmt = true ∧ p.2.st ≠ .reset := by
  simp

theorem setMgmtKey_same (same : keyValue k = s.dom.mgmtKey) : s.setMgmtKey k = .ok s := if_pos same

section
variable (changes : keyValue k ≠ s.dom.mgmtKey)
include changes

theorem setMgmtKey_done (free : s.dom.mgmtKey = [] ∨ ∀ p ∈ s.xnt.qps, p.2.isMgmt = false ∨ p.2.st = .reset) :
    s.setMgmtKey k = .ok ((s.modDom fun y => { y with mgmtKey := keyValue k }).clearNonce 4096) := by
  refine (if_neg changes).trans (if_neg ?_)
  rw [mgmtQps_iff]
  rintro ⟨loaded, p, mem, mgmt, live⟩
  rcases free with unloaded | idle
  · exact loaded unloaded
  · rcases idle p mem with data | reset
    · exact Bool.noConfusion (data.symm.trans mgmt)
    · exact live reset

theorem setMgmtKey_inUse (loaded : s.dom.mgmtKey ≠ []) (live : ∃ p ∈ s.xnt.qps, p.2.isMgmt = true ∧ p.2.st ≠ .reset) :
    s.setMgmtKey k = .error busy0 :=
  (if_neg changes).trans (if_pos ⟨loaded, mgmtQps_iff.2 live⟩)

end

end

/-! ## The commands -/

section
variable {s t : State} {ch : Chan} {d : Nat} {k : List Byte}

theorem xtsKey_done {i : Instr} (may : s.MayWrite ⟨ch, d, 0x7110, 1, k⟩) (full : k.length = 64)
    (command : entryWrite i = some ⟨ch, d, 0x7110, 1, k⟩) (done : s.setXts d k = .ok t) :
    Sys2Proof.Machine.exec i s = .next (s.sealed (t.answer s ⟨ch, d, 0x7110, 1, k⟩ 0 0)) :=
  (may.reachesXtsKey full).taken command ((immWrite_xtsKey may).trans done)

theorem fabricKey_done {i : Instr} (may : s.MayWrite ⟨ch, d, 0x7110, 2, k⟩) (full : k.length = 32)
    (command : entryWrite i = some ⟨ch, d, 0x7110, 2, k⟩) (done : s.setFabric d k = .ok t) :
    Sys2Proof.Machine.exec i s = .next (s.sealed (t.answer s ⟨ch, d, 0x7110, 2, k⟩ 0 0)) :=
  (may.reachesFabricKey full).taken command ((immWrite_fabricKey may).trans done)

theorem fabricKey_busy {i : Instr} (may : s.MayWrite ⟨ch, d, 0x7110, 2, k⟩) (full : k.length = 32)
    (command : entryWrite i = some ⟨ch, d, 0x7110, 2, k⟩) (busy : s.setFabric d k = .error busy0) :
    Sys2Proof.Machine.exec i s = .next (s.sealed (s.answer s ⟨ch, d, 0x7110, 2, k⟩ stBusy 0)) :=
  (may.reachesFabricKey full).refused (f := busy0) command ((immWrite_fabricKey may).trans busy) (by decide) (by decide)

end

/-- Settles O20: each operation on a domain that it may be done to and on one that it may not, and each key loaded, kept and
refused. -/
theorem domainsAndTheirKeys : Obligations.DomainsAndTheirKeys := by
  refine ⟨⟨fun s ch d may absent shared => ?_, fun s ch d may absent strict => ?_, fun s ch d may active => ?_,
      fun s ch d may active unused => ?_,
      fun s ch d => ⟨fun may there => ?_, fun may inactive => ?_, fun may used => ?_⟩⟩,
    fun s ch d k may full apart free => ?_,
    fun s ch d k may full => ⟨fun loaded equal => ?_, fun apart loaded changes held => ?_⟩,
    fun s ch d k may full => ⟨fun same => ?_, fun changes free => ?_, fun changes loaded live => ?_⟩,
    fun s ch k may full => ⟨fun same => ?_, fun changes free => ?_, fun changes loaded live => ?_⟩⟩
  · exact domainOp_done may (by decide) rfl ((domCreate_absent absent).trans (by rw [shared]; rfl))
  · exact domainOp_done may (by decide) rfl ((domCreate_absent absent).trans (by rw [strict]; rfl))
  · exact domainOp_done may (by decide) rfl (congrArg (Except.map (State.teardownDone · _)) (domTeardown_active active))
  · exact domainOp_done may (by decide) rfl (domDelete_unused active unused)
  · exact domainOp_busy may (by decide) rfl (domCreate_there there)
  · exact domainOp_busy may (by decide) rfl
      (congrArg (Except.map (State.teardownDone · _)) (domTeardown_inactive inactive))
  · exact domainOp_busy may (by decide) rfl (domDelete_used used)
  · exact xtsKey_done may full rfl (setXts_done apart free)
  · exact xtsKey_fails (bad 0xFF) may full rfl (setXts_equalHalves loaded equal) (by decide)
  · exact xtsKey_fails busy0 may full rfl (setXts_inUse apart loaded changes held) (by decide)
  · exact fabricKey_done may full rfl (setFabric_same same)
  · exact fabricKey_done may full rfl (setFabric_done changes free)
  · exact fabricKey_busy may full rfl (setFabric_inUse changes loaded live)
  · exact (may.reachesMgmtKey full).taken rfl (setMgmtKey_same same)
  · exact (may.reachesMgmtKey full).taken rfl (setMgmtKey_done changes free)
  · exact (may.reachesMgmtKey full).refused (f := busy0) rfl (setMgmtKey_inUse changes loaded live) (by decide) (by decide)

end Sys2Proof.Machine
end

section
/-! SUPPORT. The block and its queue (log 1), and the state after reset (R371, R387). -/

namespace Sys2Proof.Machine

/-- Settles O1: the two forms of the queue. -/
theorem stepRunsFrontCommand : Obligations.StepRunsFrontCommand :=
  ⟨fun _ _ _ front => step_cons front, fun _ none => step_nil none⟩

/-- Settles O2: what every command answers is sealed, and sealing leaves the queue. -/
theorem everyCommandAnswers : Obligations.EveryCommandAnswers := fun c s => by
  obtain ⟨t, answer⟩ := exec_sealed c s
  exact ⟨s.sealed t, answer, State.sealed_pending s t⟩

theorem inv_reset : State.reset.Inv := ⟨rfl, rfl, rfl, by rintro _ ⟨⟩⟩

/-- Settles O3: its memories and its queue are empty, and each field is the one that reset gives. -/
theorem resetIsSafe : Obligations.ResetIsSafe :=
  ⟨inv_reset, rfl, rfl, rfl, rfl, rfl, rfl, rfl, rfl, rfl, rfl⟩

end Sys2Proof.Machine
end

section
/-! SUPPORT. What a warm reset keeps and loses, and what a power loss leaves (R381, R382). -/

namespace Sys2Proof.Machine

section
variable {s : State}

/-- The entry of a node that is no shadow scrubs nothing first (R354, R382). -/
theorem warmEntry_keepsTables (own : (s.shadowOn && s.shadow.isShadow) = false) (cause source : Nat) :
    (s.warmEntry cause source).pages = { s.pages with suspects := [], lowArmed := true }
      ∧ (s.warmEntry cause source).seqs.table = s.seqs.table
      ∧ (s.warmEntry cause source).index.entries = s.index.entries
      ∧ (s.warmEntry cause source).masks = s.masks
      ∧ (s.warmEntry cause source).tier.tables = s.tier.tables
      ∧ (s.warmEntry cause source).tier.units = s.tier.units := by
  simp [State.warmEntry, own]

theorem warmEntry_keepsMaps (own : (s.shadowOn && s.shadow.isShadow) = false) (cause source : Nat) :
    (s.warmEntry cause source).boot.minSvn = s.boot.minSvn
      ∧ (s.warmEntry cause source).awns.chanMap = s.awns.chanMap
      ∧ (s.warmEntry cause source).tiles.groupMap = s.tiles.groupMap
      ∧ (s.warmEntry cause source).faults.log = s.faults.log := by
  simp [State.warmEntry, own]

/-- R386: HBM_KEPT says that the tables stand. -/
theorem resetCauseWord_warmEntry (own : (s.shadowOn && s.shadow.isShadow) = false) (cause source : Nat) :
    (s.warmEntry cause source).resetCauseWord = cause + source * 256 + (if s.boot.clearTables then 0 else 65536) := by
  cases clear : s.boot.clearTables <;> simp [State.resetCauseWord, State.warmEntry, own, clear, b2n]

theorem resetCauseWord_cold (p : Supply) : (s.cold p).resetCauseWord = 0 := by
  simp [State.resetCauseWord, State.cold, b2n]

end

/-- Settles O45: a warm reset keeps the tables and maps of a node that is no shadow, and loses the rest whatever the node is; after a power
loss each field is reset's but for those named. -/
theorem whatResetsKeep : Obligations.WhatResetsKeep := by
  refine ⟨?_, ?_⟩
  · rintro s cause source own _ rfl
    obtain ⟨pages, seqs, index, masks, tables, units⟩ := warmEntry_keepsTables own cause source
    obtain ⟨minSvn, chanMap, groupMap, log⟩ := warmEntry_keepsMaps own cause source
    rw [pages]
    exact ⟨rfl, rfl, rfl, seqs, index, masks, tables, units, minSvn, chanMap, groupMap, log, rfl, rfl, rfl, rfl, rfl, rfl, rfl,
      rfl, rfl, rfl, rfl, rfl, rfl, resetCauseWord_warmEntry own cause source⟩
  · rintro s p _ rfl
    exact ⟨rfl, rfl, rfl, rfl, rfl, rfl, rfl, rfl, rfl, rfl, rfl, rfl, rfl, rfl, rfl, resetCauseWord_cold p, rfl, rfl⟩

end Sys2Proof.Machine
end

section
/-! SUPPORT. Tile frequencies (R423), polls of the sensors (R421, R424), and the throttling step that follows the wanted one (R422). -/

namespace Sys2Proof.Machine

theorem exec_tileFrequencyStepDown (s : State) (t : BitVec 7) :
    Sys2Proof.Machine.exec (.tileFrequencyStepDown t) s = .next (s.sealed (s.stepDown t.toNat)) := rfl

theorem exec_tempReading (s : State) (r : Readings) :
    Sys2Proof.Machine.exec (.tempReading r) s = .next (s.sealed (s.poll r)) := rfl

section
variable {s : State}

/-! ## Tile frequencies and polls (R421, R423) -/

theorem stepDown_free {t f : Nat} (waits : (s.tile t).want = some f) (free : s.itemsOn t = []) :
    s.stepDown t = s.modTile t fun x => { x with mhz := f, want := none } := by
  simp [State.stepDown, waits, free]

theorem stepDown_stays {t : Nat} (stays : (s.tile t).want = none ∨ s.itemsOn t ≠ []) : s.stepDown t = s := by
  cases waits : (s.tile t).want with
  | none => simp [State.stepDown, waits]
  | some f => simp [State.stepDown, waits, stays.resolve_left (by simp [waits])]

theorem poll_down {r : Readings} (down : s.romUp = false) : s.poll r = s := by
  rw [State.poll, down, Bool.not_false, if_pos rfl]

/-! ## The step (R422) -/

/-- Taking a step changes no other number of the throttling, whether or not the step is a new one. -/
theorem setStep_therm (n : Nat) : (s.setStep n).therm = { s.therm with step := n } := by
  unfold State.setStep
  split
  · next same => subst same; rfl
  · rfl

/-- The readings in a row whose wanted step was below the step, this one included. -/
def State.belowNext (s : State) : Nat := if s.wantedStep < s.therm.step then s.therm.below + 1 else 0

/-- The cause and the count of one reading. -/
def State.stepCounted (s : State) : State := s.modTherm fun x => { x with cause := s.throttleCause, below := s.belowNext }

theorem throttle_eq : s.throttle =
    if s.therm.step < s.wantedStep then s.stepCounted.setStep s.wantedStep
    else if s.belowNext < 10 then s.stepCounted.thermPin
    else (s.stepCounted.modTherm fun x => { x with below := 0 }).setStep (s.therm.step - 1) := rfl

theorem throttle_up (above : s.therm.step < s.wantedStep) :
    s.throttle.therm.step = s.wantedStep ∧ s.throttle.therm.below = s.belowNext := by
  rw [throttle_eq, if_pos above, setStep_therm]
  exact ⟨rfl, rfl⟩

theorem throttle_holds (notAbove : s.wantedStep ≤ s.therm.step) (early : s.belowNext < 10) :
    s.throttle.therm.step = s.therm.step ∧ s.throttle.therm.below = s.belowNext := by
  rw [throttle_eq, if_neg notAbove.not_gt, if_pos early]
  exact ⟨rfl, rfl⟩

theorem throttle_down (notAbove : s.wantedStep ≤ s.therm.step) (late : 10 ≤ s.belowNext) :
    s.throttle.therm.step = s.therm.step - 1 ∧ s.throttle.therm.below = 0 := by
  rw [throttle_eq, if_neg notAbove.not_gt, if_neg late.not_gt, setStep_therm]
  exact ⟨rfl, rfl⟩

theorem belowNext_below (below : s.wantedStep < s.therm.step) : s.belowNext = s.therm.below + 1 := if_pos below

theorem belowNext_reached (reached : s.therm.step ≤ s.wantedStep) : s.belowNext = 0 := if_neg reached.not_gt

end

/-- Settles O46: a tile's frequency, a poll, and the step by how the wanted one compares with it. -/
theorem throttlingFollowsTheWantedStep : Obligations.ThrottlingFollowsTheWantedStep := by
  refine ⟨fun s t => ⟨fun f waits free => ?_, fun stays => ?_⟩, fun s t r polled => ⟨fun up => ?_, fun down => ?_⟩,
    fun s above => ?_, fun s same => ?_, fun s below early => ?_, fun s below late => ?_⟩
  · rw [exec_tileFrequencyStepDown, stepDown_free waits free]
  · rw [exec_tileFrequencyStepDown, stepDown_stays stays]
  · rw [exec_tempReading, polled, State.poll, up, Bool.not_true, if_neg Bool.false_ne_true]
  · rw [exec_tempReading, poll_down down]
  · exact belowNext_reached above.le ▸ throttle_up above
  · have zero := belowNext_reached same.ge
    exact zero ▸ throttle_holds same.le (by omega)
  · have one := belowNext_below below
    exact one ▸ throttle_holds below.le (by omega)
  · have one := belowNext_below below
    exact throttle_down below.le (by omega)

end Sys2Proof.Machine
end

section
/-! SUPPORT. A write of one entry that has its effect or is turned away (R394, R437), and the rights that each class of callers lacks
(R390, R391). -/

namespace Sys2Proof.Machine

/-! ## Taken and turned away (R394, R437) -/

/-- A write whose operation takes effect at once is answered with status 0, unless it restarts the firmware. -/
theorem write_done {i : Instr} {w : EntryWrite} {s t : State} (command : entryWrite i = some w) (serves : s.Serves w.ch)
    (stays : w.idx = 0x8300 → w.sub ≠ 6) (done : s.pdOp (s.writeReq w) w.op = .ok (t, .value [])) :
    Sys2Proof.Machine.exec i s = .next (s.sealed (t.answer s w 0 0)) := by
  have noRestart : w.op.restarts = false := by simpa [PdOp.restarts, EntryWrite.op] using stays
  rw [write_exec s command, oneWrite_serves serves, State.writeReq_ops]
  simp only [State.runOps, done, noRestart]
  rfl

/-- A write whose operation fails is answered with the failure, after the marks that the failure leaves. -/
theorem write_turnedAway {i : Instr} {w : EntryWrite} {s : State} {f : Fail} (command : entryWrite i = some w)
    (serves : s.Serves w.ch) (fails : s.pdOp (s.writeReq w) w.op = .error f) :
    Sys2Proof.Machine.exec i s = .next (s.sealed ((s.opFailed (s.writeReq w) w.op f).answer s w f.st f.cause)) := by
  rw [write_exec s command, oneWrite_failed serves fails]

/-- Settles O17: the operation of the write takes effect, or fails at its access or at its entry. -/
theorem entryWriteIsAnswered : Obligations.EntryWriteIsAnswered := by
  refine ⟨fun i w s t r command serves access now stays taken => ?_, fun i w s f command serves fails => ?_⟩
  · exact write_done command serves stays (pdOp_imm access now taken)
  · refine write_turnedAway command serves ?_
    rcases fails with denied | ⟨r, access, now, refused⟩
    · exact pdOp_denied denied
    · exact pdOp_refused access now refused

/-! ## Rights (R391) -/

/-- A denial leaves one mark, the count of denials (R408). -/
theorem opFailed_denied (s : State) (w : EntryWrite) :
    s.opFailed (s.writeReq w) w.op ⟨stDenied, 0, 0, 0⟩ = s.bump 0x1000 0x15 := by
  have unmarked : ∀ k l, s.markFail k l ⟨stDenied, 0, 0, 0⟩ = s := fun k l => by
    rw [State.markFail, if_pos (Or.inl (by decide))]
  simp [State.opFailed, EntryWrite.op, unmarked]

/-- A write without the right is denied and counted. -/
theorem write_withoutRight {i : Instr} {w : EntryWrite} {s : State} {r : PdRow} (command : entryWrite i = some w)
    (serves : s.Serves w.ch) (row : pdRow w.idx w.sub = some r)
    (lacks : (r.rights (chanClass w.ch)).testBit 1 = false ∨ s.writeDenied w.ch (s.writeKey w) w.value = true) :
    Sys2Proof.Machine.exec i s = .next (s.sealed ((s.bump 0x1000 0x15).answer s w stDenied 0)) := by
  rw [write_turnedAway command serves (pdOp_denied (accessFail_denied row lacks)), opFailed_denied]

theorem pdTable_domain : ∀ r ∈ pdTable, r.dm.testBit 1 = true → r.idx ∈ [0x3110, 0x7300] := by decide +kernel

theorem pdTable_sideband : ∀ r ∈ pdTable, r.sb.testBit 1 = true → r.idx ∈ [0x8000, 0x8120, 0x9100, 0x9200]
    ∨ (r.idx = 0x8200 ∧ 8 ≤ r.lo) ∨ (r.idx = 0x1000 ∧ 14 ≤ r.lo) := by decide +kernel

/-- The addresses that only HOST_ADMIN may write, of those that commands write. -/
abbrev AdminAddress (idx sub : Nat) : Prop :=
  idx ∈ [0x1000, 0x2000, 0x3510, 0x3710, 0x5000, 0x7000, 0x7010, 0x7110, 0x8000, 0x8100, 0x8130, 0x8300]
    ∨ (0x2100 ≤ idx ∧ idx ≤ 0x2105) ∨ (idx = 0x8200 ∧ sub ≤ 4)

theorem pdTable_fabric : ∀ r ∈ pdTable, r.fm.testBit 1 = true → ¬ AdminAddress r.idx r.lo := by decide +kernel

theorem scoreEntry_idx (e : ScoreEntry) : 0x2100 ≤ (scoreEntry e).1 ∧ (scoreEntry e).1 ≤ 0x2105 := by
  cases e <;> simp [scoreEntry]

section
variable {i : Instr} {w : EntryWrite} {r : PdRow}

/-- A DOMAIN caller may write no entry of a command but SAMPLE_CLEAR's. -/
theorem lacks_domain (command : entryWrite i = some w) (other : ∀ c, i ≠ .sampleClear c) (row : pdRow w.idx w.sub = some r) :
    r.dm.testBit 1 = false := by
  obtain ⟨mem, idx, -⟩ := pdRow_mem row
  refine Bool.eq_false_iff.2 fun may => ?_
  have writable := pdTable_domain r mem may
  rw [idx] at writable
  clear row idx mem may
  cases i <;> simp only [entryWrite, reduceCtorEq, Option.some.injEq] at command <;> subst command
  case sampleClear ch => exact other ch rfl
  case scoreProgram ch e l =>
    have := scoreEntry_idx e
    simp only [List.mem_cons, List.not_mem_nil, or_false] at writable
    omega
  all_goals simp at writable

/-- A SIDEBAND caller may write no entry of a command but ERRN_CLEAR's. -/
theorem lacks_sideband (command : entryWrite i = some w) (other : ∀ c, i ≠ .errnClear c) (row : pdRow w.idx w.sub = some r) :
    r.sb.testBit 1 = false := by
  obtain ⟨mem, idx, lo, -⟩ := pdRow_mem row
  refine Bool.eq_false_iff.2 fun may => ?_
  have writable := pdTable_sideband r mem may
  rw [idx] at writable
  clear row idx mem may
  cases i <;> simp only [entryWrite, reduceCtorEq, Option.some.injEq] at command <;> subst command
  case errnClear ch => exact other ch rfl
  case scoreProgram ch e l =>
    have := scoreEntry_idx e
    simp only [List.mem_cons, List.not_mem_nil, or_false] at writable
    omega
  all_goals
    simp only [List.mem_cons, List.not_mem_nil, or_false] at writable lo
    omega

theorem lacks_fabric (admin : AdminAddress w.idx w.sub) (row : pdRow w.idx w.sub = some r) : r.fm.testBit 1 = false := by
  obtain ⟨mem, idx, lo, -⟩ := pdRow_mem row
  refine Bool.eq_false_iff.2 fun may => pdTable_fabric r mem may ?_
  rw [idx]
  exact admin.imp_right (Or.imp_right (And.imp_right lo.trans))

end

/-- FABRIC_MGR may not create or delete a domain (R298). -/
theorem writeDenied_domainOp {s : State} {w : EntryWrite} {n : BitVec 16} (domain : w.idx = 0x7100) (op : w.value = [1] ∨ w.value = [3]) :
    s.writeDenied (.mgmtQp n) (s.writeKey w) w.value = true := by
  rcases op with create | delete <;> simp [State.writeDenied, State.writeKey, pdKey, chanClass, leNat, *]

/-- Settles O18: each class by the entries that it may write. -/
theorem writesNeedRights : Obligations.WritesNeedRights := by
  intro i w s command serves known kind
  obtain ⟨r, row⟩ := Option.ne_none_iff_exists'.1 known
  refine write_withoutRight command serves row ?_
  rcases kind with ⟨⟨n, caller⟩, other⟩ | ⟨caller, other⟩ | ⟨⟨n, caller⟩, kind⟩
  · rw [caller]
    exact .inl (lacks_domain command other row)
  · rw [caller]
    exact .inl (lacks_sideband command other row)
  · rw [caller]
    have address : AdminAddress w.idx w.sub ∨ w.idx = 0x7100 ∧ (w.value = [1] ∨ w.value = [3]) := by
      rcases kind with ⟨c, rfl⟩ | ⟨c, e, v, rfl⟩ | ⟨c, v, rfl⟩ | ⟨c, d, k, v, rfl⟩ | ⟨c, d, k, rfl⟩ | ⟨c, d, k, rfl⟩ | ⟨c, k, rfl⟩
        | ⟨c, d, v, rfl⟩ | ⟨c, d, v, rfl⟩ | ⟨c, rfl⟩ | ⟨c, v, rfl⟩ | ⟨c, k, v, rfl⟩ | ⟨c, v, rfl⟩ | ⟨c, rfl⟩ | ⟨c, v, rfl⟩ | ⟨c, v, rfl⟩
        | ⟨c, d, rfl⟩ | ⟨c, d, rfl⟩ <;> cases command <;> simp [AdminAddress, scoreEntry_idx]
    exact address.imp (lacks_fabric · row) fun ⟨domain, op⟩ => writeDenied_domainOp domain op

end Sys2Proof.Machine
end

section
/-! SUPPORT. SHADOW_OP and MGMT_RESTART as entries (R437): the operations of the shadow session (R351, R352), and the firmware's restart
(R397, R409). -/

namespace Sys2Proof.Machine

/-! ## Entries of one byte that act at once (R437) -/

/-- A write of an immediate entry passes every check before the entry's own rule (R437, steps 1 to 5). -/
structure State.PassesChecks (s : State) (w : EntryWrite) : Prop where
  serves : s.Serves w.ch
  row : ∃ r, s.accessFail w.ch true (s.writeKey w) w.value = .ok r ∧ r.eff = 0 ∧ s.valueFail r (s.writeKey w) w.value = none
  stored : pdSelect w.idx w.sub = false

section
variable {s t : State} {w : EntryWrite} {f : Fail}

theorem State.PassesChecks.pdOp_taken (passes : s.PassesChecks w) (taken : s.immWrite w.ch (s.writeKey w) w.value = .ok t) :
    s.pdOp (s.writeReq w) w.op = .ok (t, .value []) := by
  obtain ⟨_, ⟨r, access, imm, value⟩, stored⟩ := passes
  exact pdOp_imm access (by omega) ((writeEntry_imm imm stored value).trans taken)

theorem State.PassesChecks.pdOp_refused (passes : s.PassesChecks w)
    (refused : s.immWrite w.ch (s.writeKey w) w.value = .error f) : s.pdOp (s.writeReq w) w.op = .error f := by
  obtain ⟨_, ⟨r, access, imm, value⟩, stored⟩ := passes
  exact Machine.pdOp_refused access (by omega) ((writeEntry_imm imm stored value).trans refused)

theorem State.PassesChecks.taken {i : Instr} (passes : s.PassesChecks w) (command : entryWrite i = some w)
    (stays : w.idx = 0x8300 → w.sub ≠ 6) (taken : s.immWrite w.ch (s.writeKey w) w.value = .ok t) :
    Sys2Proof.Machine.exec i s = .next (s.sealed (t.answer s w 0 0)) :=
  write_done command passes.serves stays (passes.pdOp_taken taken)

/-- Only a failed check of the profile or of the partition leaves its number (R61, R305). -/
theorem markFail_otherEntry {k : PdKey} {l : List Byte} (profile : k.idx ≠ 0x2000) (partition : k.idx ≠ 0x7000)
    (unchecked : inPartChecks k = false) : s.markFail k l f = s := by
  have unbroken : s.partBroken k l = 0 := by simp [State.partBroken, partition, unchecked]
  simp [State.markFail, profile, unbroken]

/-- An entry of neither the profile, the partition nor the shadow session. -/
abbrev Markless (idx sub : Nat) : Prop :=
  idx ≠ 0x2000 ∧ idx ≠ 0x7000 ∧ idx ≠ 0x8400 ∧ inPartChecks ⟨idx, sub, 0⟩ = false

/-- A write that such an entry refuses is answered with the refusal, which leaves no mark. -/
theorem State.PassesChecks.refused {i : Instr} (passes : s.PassesChecks w) (command : entryWrite i = some w)
    (markless : Markless w.idx w.sub) (known : f.st ≠ stDenied) (refused : s.immWrite w.ch (s.writeKey w) w.value = .error f) :
    Sys2Proof.Machine.exec i s = .next (s.sealed (s.answer s w f.st f.cause)) := by
  obtain ⟨profile, partition, session, unchecked⟩ := markless
  have unmarked : ∀ d l, s.markFail ⟨w.idx, w.sub, d⟩ l f = s := fun d l => markFail_otherEntry profile partition unchecked
  have kept : s.opFailed (s.writeReq w) w.op f = s := by
    simp [State.opFailed, EntryWrite.op, pdKey, unmarked, session, known]
  rw [write_turnedAway command passes.serves (passes.pdOp_refused refused), kept]

theorem State.ReachesEntry.passes (reaches : s.ReachesEntry w) : s.PassesChecks w :=
  ⟨reaches.serves, reaches.row, reaches.stored⟩

/-- What the dictionary says of an immediate entry of one byte with a range. -/
abbrev ByteEntry (idx sub least most : Nat) : Prop :=
  pdSelect idx sub = false ∧ namedBits idx sub = none ∧ (idx ≠ 0x7000 ∧ inPartChecks ⟨idx, sub, 0⟩ = false)
    ∧ ∀ r ∈ pdRow idx sub, r.eff = 0 ∧ (r.idx ≠ 0x2100 ∧ r.fixed = true ∧ r.len = 1) ∧ r.ty < 8 ∧ r.mn = least ∧ r.mx = most

theorem State.MayWrite.passesByte {ch : Chan} {d idx sub least most : Nat} {v : Byte} (may : s.MayWrite ⟨ch, d, idx, sub, [v]⟩)
    (entry : ByteEntry idx sub least most) (range : least ≤ v.toNat ∧ v.toNat ≤ most) (own : ∀ d, s.valueBad ⟨idx, sub, d⟩ [v] = none) :
    s.PassesChecks ⟨ch, d, idx, sub, [v]⟩ := by
  obtain ⟨serves, r, access⟩ := may
  obtain ⟨stored, noNames, ⟨noPart, unchecked⟩, row⟩ := entry
  obtain ⟨imm, ⟨noProgram, fixed, one⟩, scalar, rfl, rfl⟩ := row r (accessFail_row access)
  have fits : lenOk r [v] = true := by simp [lenOk, noProgram, fixed, one]
  have inRange : r.ty < 8 → r.mn ≤ leNat [v] ∧ leNat [v] ≤ r.mx := fun _ => by simpa [leNat] using range
  exact ⟨serves, ⟨r, access, imm, plain_value _ _ _ _ _ fits noNames (by omega) inRange (own _) noPart unchecked⟩, stored⟩

end

/-! ## SHADOW_OP (R351, R352) -/

section
variable {s t : State} {ch : Chan} {v : Byte} {i : Instr} {f : Fail}

theorem State.MayWrite.passesShadowOp (may : s.MayWrite ⟨ch, 0, 0x8400, 1, [v]⟩) (known : 1 ≤ v.toNat ∧ v.toNat ≤ 4) :
    s.PassesChecks ⟨ch, 0, 0x8400, 1, [v]⟩ :=
  may.passesByte (by decide : ByteEntry 0x8400 1 1 4) known fun _ => rfl

theorem immWrite_shadowOp : s.immWrite ch ⟨0x8400, 1, 0⟩ [v] = s.shadowOp (leNat [v]) := rfl

theorem shadowOp_done (may : s.MayWrite ⟨ch, 0, 0x8400, 1, [v]⟩) (known : 1 ≤ v.toNat ∧ v.toNat ≤ 4)
    (command : entryWrite i = some ⟨ch, 0, 0x8400, 1, [v]⟩) (done : s.shadowOp (leNat [v]) = .ok t) :
    Sys2Proof.Machine.exec i s = .next (s.sealed (t.answer s ⟨ch, 0, 0x8400, 1, [v]⟩ 0 0)) :=
  (may.passesShadowOp known).taken command (by simp) (immWrite_shadowOp.trans done)

/-- A failed operation of the session names the check of R351 that failed, where one did. -/
theorem opFailed_shadowOp (known : f.st ≠ stDenied) :
    s.opFailed (s.writeReq ⟨ch, 0, 0x8400, 1, [v]⟩) (EntryWrite.op ⟨ch, 0, 0x8400, 1, [v]⟩) f
      = if f.r1 ≠ 0 then s.shadowStartFailed f.r1 else s := by
  have unmarked : s.markFail ⟨0x8400, 1, 0⟩ [v] f = s := markFail_otherEntry (by decide) (by decide) rfl
  simp [State.opFailed, EntryWrite.op, pdKey, pdScoped, unmarked, known]

theorem shadowOp_fails (may : s.MayWrite ⟨ch, 0, 0x8400, 1, [v]⟩) (inRange : 1 ≤ v.toNat ∧ v.toNat ≤ 4)
    (command : entryWrite i = some ⟨ch, 0, 0x8400, 1, [v]⟩) (fails : s.shadowOp (leNat [v]) = .error f) (known : f.st ≠ stDenied) :
    Sys2Proof.Machine.exec i s = .next (s.sealed
      ((if f.r1 ≠ 0 then s.shadowStartFailed f.r1 else s).answer s ⟨ch, 0, 0x8400, 1, [v]⟩ f.st f.cause)) := by
  have op := (may.passesShadowOp inRange).pdOp_refused (immWrite_shadowOp.trans fails)
  rw [write_turnedAway command may.1 op, opFailed_shadowOp known]

/-- An operation that comes in another state of the session is answered ST_BUSY. -/
theorem shadowOp_busy (may : s.MayWrite ⟨ch, 0, 0x8400, 1, [v]⟩) (known : 1 ≤ v.toNat ∧ v.toNat ≤ 4)
    (command : entryWrite i = some ⟨ch, 0, 0x8400, 1, [v]⟩) (busy : s.shadowOp (leNat [v]) = .error busy0) :
    Sys2Proof.Machine.exec i s = .next (s.sealed (s.answer s ⟨ch, 0, 0x8400, 1, [v]⟩ stBusy 0)) :=
  shadowOp_fails may known command busy (by decide)

/-! ## START (R351) -/

theorem shadowStart_begun (begun : s.shadow.st ≠ 0 ∨ s.shadow.started = true) : s.shadowStart = .error busy0 := if_pos begun

/-- Over an RTS QP, a node in IDLE without a hello becomes the shadow, and one with a hello the primary. -/
theorem shadowStart_idle {q : Nat} (idle : s.shadow.st = 0) (fresh : s.shadow.started = false) (qp : s.shadowQp = some q)
    (rts : (s.qp q).st = .rts) : s.shadowStart =
      if s.shadow.hello = [] then
        .ok (s.modShadow fun x => { x with isShadow := true, started := true, startCheck := 0 }).sendShadowHello
      else s.startPrimary := by
  simp [State.shadowStart, idle, fresh, qp, rts]

theorem shadowStart_noQp (idle : s.shadow.st = 0) (fresh : s.shadow.started = false)
    (noQp : ∀ q, s.shadowQp = some q → (s.qp q).st ≠ .rts) : s.shadowStart = .error (bad 0xFF) := by
  cases qp : s.shadowQp with
  | none => simp [State.shadowStart, idle, fresh, qp, bad]
  | some q => simp [State.shadowStart, idle, fresh, qp, noQp q qp, bad]

theorem startPrimary_failed (failed : shadowCheck s.shadowHelloBytes s.shadow.hello ≠ 0) :
    s.startPrimary = .error ⟨stBadParam, 0xFF, 0, shadowCheck s.shadowHelloBytes s.shadow.hello⟩ := if_pos failed

/-! ## TAKEOVER, ABANDON, RESET (R352) -/

/-- The shadowed sequences that are still the primary's own. -/
def State.liveShadowed (s : State) : List (BitVec 64) :=
  s.shadow.seqs.filter fun id => seqIdOf (sidIndex id) (s.seq (sidIndex id)) == id

/-- SHADOW_COMMIT sent to each mirrored domain's shadow. -/
def State.sendCommits (s : State) : State :=
  s.mirroredDoms.foldl (fun u d => match u.mirrorQp d with
    | some q => u.sendSvc q (svcHdr 0x32 0 0 0 0 0 0) []
    | none => u) s

/-- TAKEOVER with a redirect record for each of the live sequences. -/
theorem shadowTakeover_ready {u : State} (ready : s.shadow.st = 3) (primary : s.shadow.isShadow = false)
    (room : s.takeRecords s.liveShadowed.length = some t)
    (after : u = (t.modSeqs fun q => { q with moveReserved := q.moveReserved.filter (· ≠ s.sched.nextId) }).shadowState 4) :
    s.shadowTakeover = .ok (((s.liveShadowed.foldl (fun x id => x.moveOut { seq := sidIndex id, node := s.num 0x8400 2 })
      u.sendCommits).modShadow fun x => { x with seqs := [] }).shadowState 5) := by
  have taken : ¬ (s.shadow.st ≠ 3 ∨ s.shadow.isShadow = true) := by simp [ready, primary]
  unfold State.liveShadowed at room
  subst after
  rw [State.shadowTakeover, if_neg taken, room]
  rfl

theorem shadowTakeover_busy (busy : s.shadow.st ≠ 3 ∨ s.shadow.isShadow = true ∨ s.takeRecords s.liveShadowed.length = none) :
    s.shadowTakeover = .error busy0 := by
  by_cases state : s.shadow.st ≠ 3 ∨ s.shadow.isShadow = true
  · exact if_pos state
  · have full : s.takeRecords s.liveShadowed.length = none := by tauto
    unfold State.liveShadowed at full
    simp only [State.shadowTakeover, if_neg state, full]
    rfl

theorem shadowAbandon_started (started : s.shadow.started = true) :
    s.shadowAbandon = .ok (s.modShadow fun x => { x with started := false, hello := [] }) := if_pos started

theorem shadowAbandon_on (fresh : s.shadow.started = false) (on : s.shadowOn = true) :
    s.shadowAbandon = .ok (s.shadowFail 7) := by simp [State.shadowAbandon, fresh, on]

theorem shadowAbandon_off (fresh : s.shadow.started = false) (off : s.shadowOn = false) :
    s.shadowAbandon = .error busy0 := by simp [State.shadowAbandon, fresh, off, busy0]

theorem shadowReset_ended (ended : s.shadow.st = 5 ∨ s.shadow.st = 6) : s.shadowReset = .ok (s.modShadow fun _ => {}) := if_pos ended

theorem shadowReset_live (notDone : s.shadow.st ≠ 5) (notFailed : s.shadow.st ≠ 6) : s.shadowReset = .error busy0 :=
  if_neg (not_or.2 ⟨notDone, notFailed⟩)

end

/-! ## MGMT_RESTART (R397, R409) -/

/-- The restart follows the response. -/
theorem exec_mgmtRestart {s : State} {ch : Chan} (may : s.MayWrite ⟨ch, 0, 0x8300, 6, [1]⟩) :
    Sys2Proof.Machine.exec (.mgmtRestart ch) s = .next (s.sealed
      (((s.respond (s.writeReq ⟨ch, 0, 0x8300, 6, [1]⟩) 0 0 [pdResult 0x8300 6 0 0 []]).restartAll 0 true).settle)) := by
  have passes := may.passesByte (by decide : ByteEntry 0x8300 6 1 1) (by decide) fun _ => rfl
  have op := passes.pdOp_taken (t := s) rfl
  rw [write_exec s (w := ⟨ch, 0, 0x8300, 6, [1]⟩) rfl, oneWrite_serves may.1, State.writeReq_ops]
  have restarts : (EntryWrite.op ⟨ch, 0, 0x8300, 6, [1]⟩).restarts = true := rfl
  simp only [State.runOps, op, restarts, Bool.or_true, if_true]
  rfl

/-- Settles O25: each operation of the session where it is taken and where it is not, and the restart. -/
theorem shadowAndRestartOperations : Obligations.ShadowAndRestartOperations := by
  refine ⟨⟨fun s ch q may idle fresh qp rts noHello => ?_, fun s t ch q may idle fresh qp rts hello primary => ?_,
    fun s ch q may idle fresh qp rts hello failed => ?_, fun s ch may idle fresh noQp => ?_,
    fun s t u ch live may ready primary own room after => ?_, fun s ch may busy => ?_, fun s ch may started => ?_,
    fun s ch may fresh on => ?_, fun s ch may ended => ?_,
    fun s ch => ⟨fun may begun => ?_, fun may fresh off => ?_, fun may notDone notFailed => ?_⟩⟩, fun s ch may => exec_mgmtRestart may⟩
  · exact shadowOp_done may (by decide) rfl ((shadowStart_idle idle fresh qp rts).trans (if_pos noHello))
  · exact shadowOp_done may (by decide) rfl ((shadowStart_idle idle fresh qp rts).trans ((if_neg hello).trans primary))
  · have fails := (shadowStart_idle idle fresh qp rts).trans ((if_neg hello).trans (startPrimary_failed failed))
    rw [shadowOp_fails may (by decide) rfl fails (show stBadParam ≠ stDenied by decide), if_pos failed]
  · exact shadowOp_fails may (by decide) rfl (shadowStart_noQp idle fresh noQp) (by decide)
  · subst own
    exact shadowOp_done may (by decide) rfl (shadowTakeover_ready ready primary room after)
  · exact shadowOp_busy may (by decide) rfl (shadowTakeover_busy busy)
  · exact shadowOp_done may (by decide) rfl (shadowAbandon_started started)
  · exact shadowOp_done may (by decide) rfl (shadowAbandon_on fresh on)
  · exact shadowOp_done may (by decide) rfl (shadowReset_ended ended)
  · exact shadowOp_busy may (by decide) rfl (shadowStart_begun begun)
  · exact shadowOp_busy may (by decide) rfl (shadowAbandon_off fresh off)
  · exact shadowOp_busy may (by decide) rfl (shadowReset_live notDone notFailed)

end Sys2Proof.Machine
end

section
/-! SUPPORT. The entries that act on faults, events, samples and the security version (R320, R325, R326, R329, R345, R347, R375), and
those that drive the self-tests (R427, R428), each from its write to its effect (R437). -/

namespace Sys2Proof.Machine

theorem ofBytes_leBytes {n m : Nat} (v : BitVec n) (h : 2 ^ n ≤ 256 ^ m) : ofBytes n (leBytes m v.toNat) = v := by
  rw [ofBytes, leNat_leBytes_toNat v h, BitVec.ofNat_toNat, BitVec.setWidth_eq]

/-- A list of checks that all pass has no failure. -/
theorem firstFail_none {l : List (Bool × Fail)} (pass : ∀ p ∈ l, p.1 = true) : firstFail l = none := by
  induction l with
  | nil => rfl
  | cons p l ih =>
    obtain ⟨first, rest⟩ := List.forall_mem_cons.1 pass
    rw [firstFail, if_pos first, ih rest]

/-! ## The entries (R437) -/

section
variable {s : State} {ch : Chan}

theorem State.MayWrite.passesErrnClear (may : s.MayWrite ⟨ch, 0, 0x8000, 4, [1]⟩) : s.PassesChecks ⟨ch, 0, 0x8000, 4, [1]⟩ :=
  may.passesByte (by decide : ByteEntry 0x8000 4 1 1) (by decide) fun _ => rfl

theorem State.MayWrite.passesSampleClear (may : s.MayWrite ⟨ch, 0, 0x7300, 4, [1]⟩) : s.PassesChecks ⟨ch, 0, 0x7300, 4, [1]⟩ :=
  may.passesByte (by decide : ByteEntry 0x7300 4 1 1) (by decide) fun _ => rfl

theorem State.MayWrite.passesInject {v : BitVec 128} (may : s.MayWrite ⟨ch, 0, 0x8130, 1, leBytes 16 v.toNat⟩) :
    s.PassesChecks ⟨ch, 0, 0x8130, 1, leBytes 16 v.toNat⟩ :=
  (may.reachesEntry (by decide : ImmEntry 0x8130 1 16 none) (leBytes_length _ _) (by simp) (by simp [namedBits]) rfl).passes

theorem pdTable_reaction : ∀ r ∈ pdTable, r.idx = 0x8100 → r = ⟨0x8100, 0, 27, 3, 4, true, 0, 3, 1, 1, 0, 0, 0, 4294967295⟩ := by
  decide +kernel

/-- Every SOURCE_REACTION_n is an entry of four bytes. -/
theorem reactionEntry (n : Nat) : ImmEntry 0x8100 n 4 (some (2 ^ 32 - 1)) := by
  refine ⟨rfl, by decide, ⟨by decide, rfl⟩, fun r row => ?_⟩
  obtain ⟨mem, idx, -⟩ := pdRow_mem row
  rw [pdTable_reaction r mem idx]
  decide

theorem reaction_markless (n : Nat) : Markless 0x8100 n := ⟨by decide, by decide, by decide, rfl⟩

theorem State.MayWrite.passesReaction {n : BitVec 8} {v : BitVec 32} (may : s.MayWrite ⟨ch, 0, 0x8100, n.toNat, leBytes 4 v.toNat⟩) :
    s.PassesChecks ⟨ch, 0, 0x8100, n.toNat, leBytes 4 v.toNat⟩ :=
  (may.reachesBits (k := 32) (reactionEntry _) (by decide) v.isLt (by simp [namedBits]) fun _ => rfl).passes

theorem State.MayWrite.passesRingHead {v : BitVec 32} (may : s.MayWrite ⟨ch, 0, 0x8200, 4, leBytes 4 v.toNat⟩) :
    s.PassesChecks ⟨ch, 0, 0x8200, 4, leBytes 4 v.toNat⟩ :=
  (may.reachesBits (k := 32) (by decide) (by decide) v.isLt (by decide) fun _ => rfl).passes

theorem State.MayWrite.passesSvn {v : BitVec 16} (may : s.MayWrite ⟨ch, 0, 0x1000, 7, leBytes 2 v.toNat⟩) :
    s.PassesChecks ⟨ch, 0, 0x1000, 7, leBytes 2 v.toNat⟩ :=
  (may.reachesBits (k := 16) (by decide) (by decide) v.isLt (by decide) fun _ => rfl).passes

theorem State.MayWrite.passesLbist {v : BitVec 64} (may : s.MayWrite ⟨ch, 0, 0x5000, 1, leBytes 8 v.toNat⟩) :
    s.PassesChecks ⟨ch, 0, 0x5000, 1, leBytes 8 v.toNat⟩ :=
  (may.reachesEntry (by decide : ImmEntry 0x5000 1 8 none) (leBytes_length _ _) (by simp) (by simp [namedBits]) rfl).passes

theorem State.MayWrite.passesAsb {v : Nat} (may : s.MayWrite ⟨ch, 0, 0x5200, 1, leBytes 1 v⟩) :
    s.PassesChecks ⟨ch, 0, 0x5200, 1, leBytes 1 v⟩ := by
  refine (may.reachesEntry (by decide : ImmEntry 0x5200 1 1 (some 255)) (leBytes_length _ _) ?_ (by simp [namedBits]) rfl).passes
  rintro _ ⟨⟩
  rw [leNat_leBytes]
  omega

variable (l : List Byte)

theorem immWrite_inject : s.immWrite ch ⟨0x8130, 1, 0⟩ l = s.armInject l := rfl

theorem immWrite_reaction (n : Nat) : s.immWrite ch ⟨0x8100, n, 0⟩ l = s.setReaction n (leNat l) := by
  unfold State.immWrite
  rfl

theorem immWrite_ringHead : s.immWrite ch ⟨0x8200, 4, 0⟩ l = s.setRingHead (leNat l) := rfl

theorem immWrite_svn : s.immWrite ch ⟨0x1000, 7, 0⟩ l = s.raiseSvn (leNat l) := rfl

theorem ringHead_value (v : BitVec 32) : s.immWrite ch ⟨0x8200, 4, 0⟩ (leBytes 4 v.toNat) = s.setRingHead v.toNat := by
  rw [immWrite_ringHead, leNat_leBytes_toNat v (by decide)]

theorem svn_value (v : BitVec 16) : s.immWrite ch ⟨0x1000, 7, 0⟩ (leBytes 2 v.toNat) = s.raiseSvn v.toNat := by
  rw [immWrite_svn, leNat_leBytes_toNat v (by decide)]

theorem immWrite_lbist : s.immWrite ch ⟨0x5000, 1, 0⟩ l = s.lbistStart (ofBytes 64 l) := rfl

theorem immWrite_asb : s.immWrite ch ⟨0x5200, 1, 0⟩ l = s.asbOp (leNat l) := rfl

end

/-! ## Faults, events, samples and the security version (R320, R325, R326, R345, R347, R375) -/

section
variable {s : State}

/-- The checks of FAULT_INJECT (R345). -/
def injectChecks (v : BitVec 128) : List (Bool × Fail) :=
  [(fld v 12 4 == 0, bad 1), (decide (fld v 48 4 < 4), bad 6), (fld v 58 6 == 0, bad 7), (fld v 64 16 != 0, bad 8),
    (fld v 80 48 == 0, bad 10)]

theorem armInject_passes {v : BitVec 128} (passes : firstFail (injectChecks v) = none) : s.armInject (leBytes 16 v.toNat) =
    .ok (s.modFaults fun f => { f with inject := f.inject ++ [⟨v, fld v 64 16⟩] }) := by
  unfold injectChecks at passes
  simp only [State.armInject, ofBytes_leBytes (m := 16) v (by decide), passes]

theorem armInject_fails {v : BitVec 128} {f : Fail} (fails : firstFail (injectChecks v) = some f) :
    s.armInject (leBytes 16 v.toNat) = .error f := by
  unfold injectChecks at fails
  simp only [State.armInject, ofBytes_leBytes (m := 16) v (by decide), fails]

/-- The checks of SOURCE_REACTION_n (R325). -/
def reactionChecks (n : Nat) (v : BitVec 32) : List (Bool × Fail) :=
  [(fld v 5 3 == 0, bad 0), (fld v 13 3 == 0, bad 1), (fld v 18 14 == 0, bad (if fld v 18 6 ≠ 0 then 2 else 3)),
    (srcForced n &&& (v.toNat % 32) == srcForced n, bad 0), (!v.getLsbD 2 || srcBlock n, bad 0)]

theorem setReaction_passes {n : Nat} {v : BitVec 32} (passes : firstFail (reactionChecks n v) = none) : s.setReaction n (leNat (leBytes 4 v.toNat)) =
    .ok (s.setActive ⟨0x8100, n, 0⟩ (leBytes 4 (v.toNat % 32 + sourceDefault n / 256 * 256))) := by
  unfold reactionChecks at passes
  simp only [State.setReaction, leNat_leBytes_toNat (m := 4) v (by decide), BitVec.ofNat_toNat, BitVec.setWidth_eq, passes]

theorem setReaction_fails {n : Nat} {v : BitVec 32} {f : Fail} (fails : firstFail (reactionChecks n v) = some f) :
    s.setReaction n (leNat (leBytes 4 v.toNat)) = .error f := by
  unfold reactionChecks at fails
  simp only [State.setReaction, leNat_leBytes_toNat (m := 4) v (by decide), BitVec.ofNat_toNat, BitVec.setWidth_eq, fails]

/-- The records that a new head releases. -/
def State.headMoves (s : State) (v : Nat) : Nat := (v + s.ringDepth - s.faults.ringHead) % s.ringDepth

theorem setRingHead_outside {v : Nat} (outside : s.ringDepth ≤ v) : s.setRingHead v = .error (bad 0) := if_pos outside

/-- A head within the ring arms the interrupt, and moves where the records that it releases have been posted. -/
theorem setRingHead_inside {v : Nat} (inside : v < s.ringDepth) : s.setRingHead v =
    .ok (if s.headMoves v ≤ s.faults.ringCount then
      ((s.modFaults fun f => { f with ringMsi := true }).modFaults fun f =>
        { f with ringHead := v, ringCount := s.faults.ringCount - s.headMoves v }).ringResume
      else s.modFaults fun f => { f with ringMsi := true }) := if_neg inside.not_ge

theorem sampleClear_seen {ch : Chan} (seen : s.hidden ch (sqDom (s.sqOf (s.sel ch 0x7300 2)).cfg) = false) :
    s.sampleClear ch = s.modSq (s.sel ch 0x7300 2) fun q => { q with depthMax := 0, delayMax := 0 } :=
  if_neg (Bool.eq_false_iff.1 seen)

theorem sampleClear_hidden {ch : Chan} (hidden : s.hidden ch (sqDom (s.sqOf (s.sel ch 0x7300 2)).cfg) = true) :
    s.sampleClear ch = s := if_pos hidden

theorem raiseSvn_within {v : Nat} (image : v ≤ s.boot.fwSvn) (most : v ≤ 64) :
    s.raiseSvn v = .ok (s.modBoot fun b => { b with minSvn := Nat.max b.minSvn v }) :=
  if_neg (not_or.2 ⟨image.not_gt, most.not_gt⟩)

theorem raiseSvn_above {v : Nat} (above : s.boot.fwSvn < v ∨ 64 < v) : s.raiseSvn v = .error (bad 0) := if_pos above

/-- Every check of both entries fails with ST_BAD_PARAM. -/
theorem badParam_of_fails {l : List (Bool × Fail)} {f : Fail} (params : ∀ p ∈ l, p.2.st = stBadParam)
    (fails : firstFail l = some f) : f.st = stBadParam := by
  obtain ⟨ok, mem⟩ := mem_of_firstFail fails
  exact params _ mem

end

/-- Settles O23: each entry with a value that it takes, and with one that it does not. -/
theorem faultEntriesAct : Obligations.FaultEntriesAct := by
  refine ⟨fun s ch may => ?_, fun s ch v may class_ kind free count rest => ?_, fun s ch n v may low mid high forced block => ?_,
    fun s ch v may inside posted => ?_, fun s ch may seen => ?_, fun s ch v may image most => ?_, fun s ch v f may fails => ?_,
    fun s ch n v f may fails => ?_, fun s ch v may => ⟨fun outside => ?_, fun inside beyond => ?_⟩, fun s ch may hidden => ?_,
    fun s ch v may above => ?_⟩
  · exact may.passesErrnClear.taken rfl (by simp) rfl
  · have passes : firstFail (injectChecks v) = none := firstFail_none (by simp [injectChecks, *])
    exact may.passesInject.taken rfl (by simp) ((immWrite_inject _).trans (armInject_passes passes))
  · have island : (!v.getLsbD 2 || srcBlock n.toNat) = true := by simpa [imp_iff_not_or] using block
    have passes : firstFail (reactionChecks n.toNat v) = none := firstFail_none (by simp only [reactionChecks, low, mid, high, forced, island, List.forall_mem_cons, BEq.rfl, List.not_mem_nil, false_imp_iff, implies_true, and_self])
    exact may.passesReaction.taken rfl (by simp) ((immWrite_reaction _ _).trans (setReaction_passes passes))
  · exact may.passesRingHead.taken rfl (by simp)
      ((ringHead_value v).trans ((setRingHead_inside inside).trans (congrArg _ (if_pos posted))))
  · exact may.passesSampleClear.taken rfl (by simp) (congrArg Except.ok (sampleClear_seen seen))
  · exact may.passesSvn.taken rfl (by simp) ((svn_value v).trans (raiseSvn_within image most))
  · have param := badParam_of_fails (l := injectChecks v) (by simp [injectChecks, bad]) fails
    rw [← param]
    exact may.passesInject.refused rfl (show Markless 0x8130 1 by decide) (param ▸ by decide) ((immWrite_inject _).trans (armInject_fails fails))
  · have param := badParam_of_fails (l := reactionChecks n.toNat v) (by simp [reactionChecks, bad]) fails
    rw [← param]
    exact may.passesReaction.refused rfl (reaction_markless _) (param ▸ by decide)
      ((immWrite_reaction _ _).trans (setReaction_fails fails))
  · exact may.passesRingHead.refused (f := bad 0) rfl (show Markless 0x8200 4 by decide) (by decide)
      ((ringHead_value v).trans (setRingHead_outside outside))
  · exact may.passesRingHead.taken rfl (by simp)
      ((ringHead_value v).trans ((setRingHead_inside inside).trans (congrArg _ (if_neg beyond.not_ge))))
  · exact may.passesSampleClear.taken rfl (by simp) (congrArg Except.ok (sampleClear_hidden hidden))
  · exact may.passesSvn.refused (f := bad 0) rfl (show Markless 0x1000 7 by decide) (by decide) ((svn_value v).trans (raiseSvn_above above))

end Sys2Proof.Machine
end

section
/-! SUPPORT. LBIST_START and ASB_OP (R427, R428): the start of a tile's self-test, and the operations on a stack's. -/

namespace Sys2Proof.Machine

theorem firstFail_append {l m : List (Bool × Fail)} : firstFail (l ++ m) = (firstFail l).or (firstFail m) := by
  induction l with
  | nil => rfl
  | cons p l ih => cases ok : p.1 <;> simp [firstFail, ok, ih]

/-! ## LBIST_START (R427) -/

section
variable {s : State} {v : BitVec 64} {e : BitVec 128} {f : Fail}

/-- The checks of LBIST_START before it looks for a spare. -/
def State.lbistChecks (s : State) (v : BitVec 64) : List (Bool × Fail) :=
  [(decide (fld v 0 7 ≤ 71) && !bit v 7, bad 0), (fld v 10 54 == 0, bad 1), (fld v 8 2 != 0, bad 1),
    ((s.bistEntry 0 (s.num 0x5000 4)).isSome, bad 0xFF), (s.test.lbState != 1, busy0)]

/-- The last check: an ACTIVE tile has a spare that takes its place. -/
def State.lbistSpare (s : State) (v : BitVec 64) : Bool × Fail :=
  (!(s.tile (fld v 0 7)).st == 0 || (s.spareTile (fld v 0 7)).isSome, busy0)

/-- An ACTIVE tile replaced, with its items started anew elsewhere. -/
def State.lbistReplaced (s : State) (k : Nat) : State :=
  (((s.requeueAll (s.itemsOn k)).dropHomed k).modTile k fun x => { x with st := 2 }).mapTile k

/-- The self-test of a tile under way, against the signature of its entry. -/
def State.lbistRuns (s : State) (v : BitVec 64) (e : BitVec 128) : State :=
  s.modTest fun x =>
    { x with lbState := 1, lbTile := fld v 0 7, lbModes := fld v 8 2, lbFails := 0, lbSig := 0, lbRows := 0, lbExp := fld e 96 32 }

theorem lbistStart_fails (fails : firstFail (s.lbistChecks v ++ [s.lbistSpare v]) = some f) : s.lbistStart v = .error f := by
  simp only [State.lbistChecks, State.lbistSpare, List.cons_append, List.nil_append] at fails
  simp only [State.lbistStart, fails]

theorem lbistStart_passes (passes : firstFail (s.lbistChecks v ++ [s.lbistSpare v]) = none)
    (entry : s.bistEntry 0 (s.num 0x5000 4) = some e) : s.lbistStart v =
      .ok ((((if (s.tile (fld v 0 7)).st == 0 then s.lbistReplaced (fld v 0 7) else s).modTile (fld v 0 7) fun x =>
        { x with testing := true, st := if (s.tile (fld v 0 7)).st == 0 then 1 else x.st })).lbistRuns v e) := by
  simp only [State.lbistChecks, State.lbistSpare, List.cons_append, List.nil_append] at passes
  simp only [State.lbistStart, passes]
  rw [entry]
  rfl

/-- A tile that may be named, with modes and a signature, while no tile's test runs. -/
theorem lbistChecks_pass (tile : fld v 0 7 ≤ 71) (flat : bit v 7 = false) (rest : fld v 10 54 = 0) (modes : fld v 8 2 ≠ 0)
    (entry : s.bistEntry 0 (s.num 0x5000 4) = some e) (idle : s.test.lbState ≠ 1) : firstFail (s.lbistChecks v) = none :=
  firstFail_none (by simp [State.lbistChecks, *])

theorem lbistStart_inactive (checks : firstFail (s.lbistChecks v) = none) (entry : s.bistEntry 0 (s.num 0x5000 4) = some e)
    (inactive : (s.tile (fld v 0 7)).st ≠ 0) :
    s.lbistStart v = .ok ((s.modTile (fld v 0 7) fun x => { x with testing := true }).lbistRuns v e) := by
  have no : ((s.tile (fld v 0 7)).st == 0) = false := by simpa using inactive
  have passes : firstFail (s.lbistChecks v ++ [s.lbistSpare v]) = none := by
    simp [firstFail_append, checks, State.lbistSpare, firstFail, inactive]
  rw [lbistStart_passes passes entry, no]
  rfl

theorem lbistStart_active (checks : firstFail (s.lbistChecks v) = none) (entry : s.bistEntry 0 (s.num 0x5000 4) = some e)
    (active : (s.tile (fld v 0 7)).st = 0) (spare : s.spareTile (fld v 0 7) ≠ none) : s.lbistStart v =
      .ok (((s.lbistReplaced (fld v 0 7)).modTile (fld v 0 7) fun x => { x with testing := true, st := 1 }).lbistRuns v e) := by
  have yes : ((s.tile (fld v 0 7)).st == 0) = true := by simp [active]
  have passes : firstFail (s.lbistChecks v ++ [s.lbistSpare v]) = none := by
    simp [firstFail_append, checks, State.lbistSpare, firstFail, Option.isSome_iff_ne_none, spare]
  rw [lbistStart_passes passes entry, yes]
  rfl

theorem lbistStart_noSpare (checks : firstFail (s.lbistChecks v) = none) (active : (s.tile (fld v 0 7)).st = 0)
    (noSpare : s.spareTile (fld v 0 7) = none) : s.lbistStart v = .error busy0 :=
  lbistStart_fails (by simp [firstFail_append, checks, State.lbistSpare, firstFail, active, noSpare])

theorem lbistStart_checkFails (fails : firstFail (s.lbistChecks v) = some f) : s.lbistStart v = .error f :=
  lbistStart_fails (by rw [firstFail_append, fails]; rfl)

/-- The value of an LBIST_START reaches it whole. -/
theorem lbist_value {ch : Chan} : s.immWrite ch ⟨0x5000, 1, 0⟩ (leBytes 8 v.toNat) = s.lbistStart v := by
  rw [immWrite_lbist, ofBytes_leBytes v (by decide)]

end

/-! ## ASB_OP (R428) -/

section
variable {s : State} {n : Nat}

/-- The byte of an operation on a stack. -/
theorem asb_value {ch : Chan} (n : BitVec 4) {op : Nat} (known : op ≤ 3) :
    s.immWrite ch ⟨0x5200, 1, 0⟩ (leBytes 1 (n.toNat + op * 16)) = s.asbOp (n.toNat + op * 16) := by
  rw [immWrite_asb, leNat_leBytes, pow_one, Nat.mod_eq_of_lt (by omega)]

theorem asbOp_noStack {op : Nat} (small : n < 16) (none : 12 ≤ n) : s.asbOp (n + op * 16) = .error (bad 0) := by
  have stack : (n + op * 16) % 16 = n := by omega
  rw [State.asbOp, stack, if_pos none]

section
variable (stack : n < 12)
include stack

/-- An operation on a stack that is there, by its number. -/
theorem asbOp_stack {op : Nat} : ¬ 12 ≤ (n + op * 16) % 16 ∧ (n + op * 16) % 16 = n ∧ (n + op * 16) / 16 = op := by omega

theorem asbOp_prepare : s.asbOp (n + 1 * 16) = if (s.asbOf n).st = 0 ∨ (s.asbOf n).st = 3
    then .ok (s.setAsb n { s.asbOf n with st := 1 }).lowCheck else .error busy0 := by
  obtain ⟨there, number, oper⟩ := asbOp_stack stack (op := 1)
  rw [State.asbOp, if_neg there, number, oper]
  rfl

theorem asbOp_start : s.asbOp (n + 2 * 16) = if (s.asbOf n).st = 1 ∧ s.stackHeld n = 0
    then .ok (s.setAsb n { s.asbOf n with st := 2 }) else .error busy0 := by
  obtain ⟨there, number, oper⟩ := asbOp_stack stack (op := 2)
  rw [State.asbOp, if_neg there, number, oper]
  rfl

theorem asbOp_release : s.asbOp (n + 3 * 16) = if (s.asbOf n).st = 1
    then .ok (s.setAsb n { s.asbOf n with st := 0 }).lowCheck else .error busy0 := by
  obtain ⟨there, number, oper⟩ := asbOp_stack stack (op := 3)
  rw [State.asbOp, if_neg there, number, oper]
  rfl

end

end

/-- Settles O24: a tile's test started at once, with a spare, or not; a stack's test prepared, started and released, or not. -/
theorem testEntriesAct : Obligations.TestEntriesAct := by
  refine ⟨fun s ch v e may tile flat rest modes entry idle inactive => ?_, fun s ch n may stack fresh => ?_,
    fun s ch n may stack prepared empty => ?_, fun s ch n may stack prepared => ?_,
    fun s ch v e may tile flat rest modes entry idle active => ⟨fun spare => ?_, fun noSpare => ?_⟩, fun s ch v f may fails => ?_,
    fun s ch n op i may kind => ⟨fun none => ?_, fun stack busy => ?_⟩⟩
  · have checks := lbistChecks_pass tile flat rest modes entry idle
    exact may.passesLbist.taken rfl (by simp) (lbist_value.trans (lbistStart_inactive checks entry inactive))
  · exact may.passesAsb.taken rfl (by simp) ((asb_value n (by decide)).trans ((asbOp_prepare stack).trans (if_pos fresh)))
  · exact may.passesAsb.taken rfl (by simp)
      ((asb_value n (by decide)).trans ((asbOp_start stack).trans (if_pos ⟨prepared, empty⟩)))
  · exact may.passesAsb.taken rfl (by simp) ((asb_value n (by decide)).trans ((asbOp_release stack).trans (if_pos prepared)))
  · have checks := lbistChecks_pass tile flat rest modes entry idle
    exact may.passesLbist.taken rfl (by simp) (lbist_value.trans (lbistStart_active checks entry active spare))
  · have checks := lbistChecks_pass tile flat rest modes entry idle
    exact may.passesLbist.refused (f := busy0) rfl (show Markless 0x5000 1 by decide) (by decide)
      (lbist_value.trans (lbistStart_noSpare checks active noSpare))
  · have known : f.st ≠ stDenied := by
      obtain ⟨ok, mem⟩ := mem_of_firstFail fails
      have statuses : ∀ p ∈ s.lbistChecks v, p.2.st ≠ stDenied := by simp [State.lbistChecks, bad, busy0]
      exact statuses _ mem
    exact may.passesLbist.refused rfl (show Markless 0x5000 1 by decide) known (lbist_value.trans (lbistStart_checkFails fails))
  · have command : entryWrite i = some ⟨ch, 0, 0x5200, 1, leBytes 1 (n.toNat + op * 16)⟩ := by
      rcases kind with ⟨rfl, rfl⟩ | ⟨rfl, rfl⟩ | ⟨rfl, rfl⟩ <;> rfl
    exact may.passesAsb.refused (f := bad 0) command (show Markless 0x5200 1 by decide) (by decide)
      ((asb_value n (by omega)).trans (asbOp_noStack n.isLt none))
  · have markless : Markless 0x5200 1 := by decide
    rcases kind with ⟨rfl, rfl⟩ | ⟨rfl, rfl⟩ | ⟨rfl, rfl⟩ <;> simp at busy
    · exact may.passesAsb.refused (f := busy0) rfl markless (by decide)
        ((asb_value n (by decide)).trans ((asbOp_prepare stack).trans (if_neg (not_or.2 busy))))
    · exact may.passesAsb.refused (f := busy0) rfl markless (by decide)
        ((asb_value n (by decide)).trans ((asbOp_start stack).trans (if_neg (not_and_or.2 busy))))
    · exact may.passesAsb.refused (f := busy0) rfl markless (by decide)
        ((asb_value n (by decide)).trans ((asbOp_release stack).trans (if_neg busy)))

end Sys2Proof.Machine
end

section
/-! SUPPORT. Requests of the dictionary (R349, R390, R398, R400, R402), and the event ring's new place (R347). -/

namespace Sys2Proof.Machine

/-! ## Requests (R349, R400, R402) -/

/-- However far a request's bytes can be read, it is a request of its channel. -/
theorem parseRequest_ch (ch : Chan) (tag dom : Nat) (l : List Byte) : (parseRequest ch tag dom l).ch = ch := by
  unfold parseRequest
  dsimp only
  split
  · rfl
  · split
    · rfl
    · split
      · rfl
      · split
        · rfl
        · split <;> rfl

/-- PD_REQUEST, and PD_ACCESS on the mailbox, read the bytes as a request of the channel and its caller's domain (R390). -/
theorem exec_request {i : Instr} {s : State} {ch : Chan} {l : List Byte} {q : PdReq}
    (command : i = .pdRequest ch l ∨ (ch = .mailbox ∧ i = .pdAccess l))
    (read : q = parseRequest ch 0 (s.callerDom ch 0) l) :
    Sys2Proof.Machine.exec i s = .next (s.sealed (s.request q)) := by
  subst read
  rcases command with rfl | ⟨rfl, rfl⟩ <;> rfl

section
variable {s : State} {q : PdReq}

theorem request_closed (closed : s.chanOpen q.ch = false) : s.request q = s := by simp [State.request, closed]

theorem request_waits (isOpen : s.chanOpen q.ch = true)
    (full : chanLimit q.ch ≤ s.inFlight q.ch ∨ ∃ w ∈ s.dict.waiting, w.ch = q.ch) :
    s.request q = s.modDict fun d => { d with waiting := d.waiting ++ [q] } := by
  have busy : chanLimit q.ch ≤ s.inFlight q.ch ∨ s.dict.waiting.any (fun w => w.ch == q.ch) = true := by simpa using full
  rw [State.request, isOpen, Bool.not_true, if_neg Bool.false_ne_true, if_pos busy]

theorem request_runs (isOpen : s.chanOpen q.ch = true) (room : s.inFlight q.ch < chanLimit q.ch)
    (first : ∀ w ∈ s.dict.waiting, w.ch ≠ q.ch) : s.request q = (s.runRequest q).settle := by
  have free : ¬ (chanLimit q.ch ≤ s.inFlight q.ch ∨ s.dict.waiting.any (fun w => w.ch == q.ch) = true) := by
    simpa [room] using first
  rw [State.request, isOpen, Bool.not_true, if_neg Bool.false_ne_true, if_neg free]

theorem runRequest_down (down : s.mgmtUp = false) : s.runRequest q = s.respond q stBusy 2 [] := by
  simp [State.runRequest, down]

theorem runRequest_malformed {st cause : Nat} (up : s.mgmtUp = true) (malformed : q.bad = some (st, cause)) :
    s.runRequest q = s.respond q st cause [] := by simp [State.runRequest, up, malformed]

theorem runRequest_wellFormed (up : s.mgmtUp = true) (formed : q.bad = none) : s.runRequest q = s.runOps q [] false q.ops := by
  simp [State.runRequest, up, formed]

end

/-! ## The event ring's place (R347) -/

theorem exec_eventRingReconfig (s : State) : Sys2Proof.Machine.exec .eventRingReconfig s =
    .next (s.sealed ((s.cmdEffect ⟨0x8200, 1, 0⟩).cmdEffect ⟨0x8200, 2, 0⟩)) := rfl

theorem pdRow_ringPlace {sub : Nat} (half : sub = 1 ∨ sub = 2) : ∃ r, pdRow 0x8200 sub = some r ∧ r.eff = 1 := by
  rcases half with rfl | rfl
  · exact ⟨⟨0x8200, 1, 1, 4, 8, true, 1, 3, 0, 0, 0, 0, 0, 18446744073709551615⟩, by decide, rfl⟩
  · exact ⟨⟨0x8200, 2, 2, 1, 1, true, 1, 3, 0, 0, 0, 10, 6, 16⟩, by decide, rfl⟩

/-- Either half of the ring's place, where it waits, takes effect, and the ring starts again. -/
theorem cmdEffect_ringPlace {s : State} {sub : Nat} {l : List Byte} (half : sub = 1 ∨ sub = 2)
    (found : (s.dict.shadow.find? fun p => p.1 == ⟨0x8200, sub, 0⟩) = some (⟨0x8200, sub, 0⟩, l)) :
    s.cmdEffect ⟨0x8200, sub, 0⟩ = (s.takeCopy ⟨0x8200, sub, 0⟩ l).ringRestart.wake := by
  obtain ⟨r, row, cmd⟩ := pdRow_ringPlace half
  rw [cmdEffect_waiting found row cmd rfl, copyTaken_eventRing rfl half]

/-- Settles O28: a request by its channel and its form, then each half of the ring's place that waits. -/
theorem requestsRunAndTheEventRingMoves : Obligations.RequestsRunAndTheEventRingMoves := by
  refine ⟨fun i s ch l q command read => ?_, fun s t a first moved => ⟨fun second => ?_, fun b second => ?_⟩,
    fun s first => ⟨fun second => ?_, fun b second => ?_⟩, fun s => rfl⟩
  · obtain rfl : q.ch = ch := by rw [read, parseRequest_ch]
    rw [exec_request command read]
    refine ⟨fun serves formed => ?_, fun st cause serves malformed => ?_, fun isOpen room first down => ?_, fun isOpen full => ?_,
      fun closed => ?_⟩
    · obtain ⟨isOpen, up, room, first⟩ := serves
      rw [request_runs isOpen room first, runRequest_wellFormed up formed]
    · obtain ⟨isOpen, up, room, first⟩ := serves
      rw [request_runs isOpen room first, runRequest_malformed up malformed]
    · rw [request_runs isOpen room first, runRequest_down down]
    · rw [request_waits isOpen full]
    · rw [request_closed closed]
  · obtain rfl : t = (s.takeCopy ⟨0x8200, 1, 0⟩ a).ringRestart.wake := moved
    rw [exec_eventRingReconfig, cmdEffect_ringPlace (.inl rfl) first, cmdEffect_idle (.inl second)]
  · obtain rfl : t = (s.takeCopy ⟨0x8200, 1, 0⟩ a).ringRestart.wake := moved
    rw [exec_eventRingReconfig, cmdEffect_ringPlace (.inl rfl) first, cmdEffect_ringPlace (.inr rfl) second]
    rfl
  · rw [exec_eventRingReconfig, cmdEffect_idle (.inl first), cmdEffect_idle (.inl second)]
  · rw [exec_eventRingReconfig, cmdEffect_idle (.inl first), cmdEffect_ringPlace (.inr rfl) second]
    rfl

end Sys2Proof.Machine
end

section
/-! SUPPORT. The ROM's mailbox commands (R360, R368, R373, R377): where the ROM takes one, and what each does with its operands. -/

namespace Sys2Proof.Machine

/-! ## Where a command runs (R360, R368, R373) -/

theorem exec_fwLoadChunk (s : State) (off len : BitVec 32) (res : BitVec 64) (l : List Byte) :
    Sys2Proof.Machine.exec (.fwLoadChunk off len res l) s =
      .next (s.sealed (s.romCmd fun t => t.loadChunk off.toNat len.toNat res.toNat l)) := rfl

theorem exec_fwLoadDma (s : State) (a : BitVec 64) (len off : BitVec 32) : Sys2Proof.Machine.exec (.fwLoadDma a len off) s =
    .next (s.sealed (s.romCmd fun t => t.loadDma a.toNat len.toNat off.toNat)) := rfl

theorem exec_fwStart (s : State) (len : BitVec 32) :
    Sys2Proof.Machine.exec (.fwStart len) s = .next (s.sealed (s.romCmd fun t => t.fwStart len.toNat)) := rfl

theorem exec_fwAbort (s : State) : Sys2Proof.Machine.exec .fwAbort s = .next (s.sealed (s.romCmd State.fwAbort)) := rfl

theorem exec_certLoad (s : State) (len : BitVec 32) (l : List Byte) :
    Sys2Proof.Machine.exec (.certLoad len l) s = .next (s.sealed (s.romCmd fun t => t.certLoad len.toNat l)) := rfl

section
variable {s t : State} {f : State → Nat × State}

/-- A ROM that awaits or loads an image takes its commands (R371). -/
theorem romCmd_taken (up : s.linkUp = true) (waits : s.boot.st = .awaitImage ∨ s.boot.st = .loading) {st : Nat}
    (effect : f s = (st, t)) : s.romCmd f = t.mboxAnswer st := by
  have taken : s.romRefuses = none := by rcases waits with st | st <;> simp [State.romRefuses, st]
  simp [State.romCmd, up, taken, effect]

theorem romCmd_refused {st : Nat} (up : s.linkUp = true) (refuses : s.romRefuses = some st) : s.romCmd f = s.mboxAnswer st := by
  simp [State.romCmd, up, refuses]

theorem romCmd_down (down : s.linkUp = false) : s.romCmd f = s := by simp [State.romCmd, down]

theorem romRefuses_started (started : s.boot.st = .running ∨ s.boot.st = .halted) : s.romRefuses = some stDenied := by
  rcases started with st | st <;> simp [State.romRefuses, st]

theorem romRefuses_starting (starting : s.boot.st = .verifying ∨ s.boot.st = .starting) : s.romRefuses = some stBusy := by
  rcases starting with st | st <;> simp [State.romRefuses, st]

/-! ## Chunks, DMA loads and certificates (R368, R373, R377) -/

variable {off len res addr : Nat} {l : List Byte}

theorem loadChunk_malformed (malformed : res ≠ 0 ∨ l.length ≠ len) : s.loadChunk off len res l = (stMalformed, s) := if_pos malformed

theorem loadChunk_misplaced (zero : res = 0) (whole : l.length = len)
    (misplaced : len % 4096 ≠ 0 ∨ 1044480 < len ∨ imageMax < off + len) : s.loadChunk off len res l = (stBadParam, s) := by
  rw [State.loadChunk, if_neg (by simp [zero, whole]), if_pos misplaced]

theorem loadChunk_stored (zero : res = 0) (whole : l.length = len) (aligned : len % 4096 = 0) (most : len ≤ 1044480)
    (inside : off + len ≤ imageMax) : s.loadChunk off len res l = (stOk, s.loadBytes off l) := by
  rw [State.loadChunk, if_neg (by simp [zero, whole]), if_neg (by omega)]

theorem loadDma_outside (outside : imageMax < off + len) : s.loadDma addr len off = (stBadParam, s) := if_pos outside

theorem loadDma_noDma (inside : off + len ≤ imageMax) (noDma : s.dmaOk = false) :
    s.loadDma addr len off = (stBufAccess, s) := by
  rw [State.loadDma, if_neg inside.not_gt, noDma, Bool.not_false, if_pos rfl]

theorem loadDma_stored (inside : off + len ≤ imageMax) (dma : s.dmaOk = true) :
    s.loadDma addr len off = (stOk, s.loadBytes off (Memory.readBytes s.hostMem addr len)) := by
  rw [State.loadDma, if_neg inside.not_gt, dma, Bool.not_true, if_neg Bool.false_ne_true]

theorem certLoad_malformed (malformed : l.length ≠ len) : s.certLoad len l = (stMalformed, s) := if_pos malformed

theorem certLoad_long (whole : l.length = len) (long : 16384 < len) : s.certLoad len l = (stBadParam, s) := by
  rw [State.certLoad, if_neg (not_not.2 whole), if_pos long]

theorem certLoad_kept (whole : l.length = len) (most : len ≤ 16384) :
    s.certLoad len l = (stOk, s.modBoot fun b => { b with certs := l }) := by
  rw [State.certLoad, if_neg (not_not.2 whole), if_neg most.not_gt]

end

/-- Each of the five is a ROM command. -/
theorem exec_romCmd {i : Instr} (s : State) (command : (∃ a b c l, i = .fwLoadChunk a b c l) ∨ (∃ a b c, i = .fwLoadDma a b c)
    ∨ (∃ n, i = .fwStart n) ∨ i = .fwAbort ∨ (∃ n l, i = .certLoad n l)) :
    ∃ f, Sys2Proof.Machine.exec i s = .next (s.sealed (s.romCmd f)) := by
  rcases command with ⟨a, b, c, l, rfl⟩ | ⟨a, b, c, rfl⟩ | ⟨n, rfl⟩ | rfl | ⟨n, l, rfl⟩ <;> exact ⟨_, rfl⟩

/-- Settles O41: each command where the ROM takes it, by its operands; then all five where it does not. -/
theorem romCommands : Obligations.RomCommands := by
  refine ⟨fun s up waits => ⟨fun off len res l => ⟨fun malformed => ?_, fun zero whole => ⟨fun misplaced => ?_,
      fun aligned most inside => ?_⟩⟩, fun a len off => ⟨fun outside => ?_, fun inside noDma => ?_, fun inside dma => ?_⟩,
      fun len => ?_, ?_, fun len l => ⟨fun malformed => ?_, fun whole long => ?_, fun whole most => ?_⟩⟩,
    fun s i command => ⟨fun down => ?_, fun up started => ?_, fun up starting => ?_⟩⟩
  · rw [exec_fwLoadChunk, romCmd_taken up waits (loadChunk_malformed malformed)]
  · rw [exec_fwLoadChunk, romCmd_taken up waits (loadChunk_misplaced zero whole misplaced)]
  · rw [exec_fwLoadChunk, romCmd_taken up waits (loadChunk_stored zero whole aligned most inside)]
  · rw [exec_fwLoadDma, romCmd_taken up waits (loadDma_outside outside)]
  · rw [exec_fwLoadDma, romCmd_taken up waits (loadDma_noDma inside noDma)]
  · rw [exec_fwLoadDma, romCmd_taken up waits (loadDma_stored inside dma)]
  · rw [exec_fwStart, romCmd_taken (f := fun t => t.fwStart len.toNat) up waits rfl]
  · rw [exec_fwAbort, romCmd_taken (f := State.fwAbort) up waits rfl]
  · rw [exec_certLoad, romCmd_taken up waits (certLoad_malformed malformed)]
  · rw [exec_certLoad, romCmd_taken up waits (certLoad_long whole long)]
  · rw [exec_certLoad, romCmd_taken up waits (certLoad_kept whole most)]
  all_goals obtain ⟨f, run⟩ := exec_romCmd s command
  · rw [run, romCmd_down down]
  · rw [run, romCmd_refused up (romRefuses_started started)]
  · rw [run, romCmd_refused up (romRefuses_starting starting)]

end Sys2Proof.Machine
end

section
/-! SUPPORT. The CXL link (R317, R360, R362 to R364), IDE streams and their keys (R365, R378). -/

namespace Sys2Proof.Machine

theorem exec_h2dSnoop (s : State) (a : BitVec 64) : Sys2Proof.Machine.exec (.h2dSnoop a) s = .next (s.sealed s.snoop) := rfl

theorem exec_hdmDecoderCommit (s : State) (base size : BitVec 64) (ways : BitVec 8) :
    Sys2Proof.Machine.exec (.hdmDecoderCommit base size ways) s =
      .next (s.sealed (s.commitDecoder base.toNat size.toNat ways.toNat)) := rfl

theorem exec_viral (s : State) : Sys2Proof.Machine.exec .viral s = .next (s.sealed s.viralIn) := rfl

theorem exec_ideIntegrityFailure (s : State) (x : IdeStream) :
    Sys2Proof.Machine.exec (.ideIntegrityFailure x) s = .next (s.sealed (s.ideFails x)) := rfl

theorem exec_linkTrained (s : State) (w : BitVec 5) (full : Bool) :
    Sys2Proof.Machine.exec (.linkTrained w full) s = .next (s.sealed (s.trained w.toNat full)) := rfl

theorem exec_cxlIdeKm (s : State) (n : Nat) (x : IdeStream) (m : IdeKm) :
    Sys2Proof.Machine.exec (.cxlIdeKm n x m) s = .next (s.sealed (s.ideKm n x m)) := rfl

section
variable {s : State}

/-! ## Events of the link (R360, R362 to R364) -/

theorem snoop_enabled (up : s.linkUp = true) (full : s.linkFull = true) : s.snoop = s.emit .snoopMiss := by
  simp [State.snoop, up, full]

theorem snoop_disabled (disabled : s.linkUp = false ∨ s.linkFull = false) : s.snoop = s := by
  rcases disabled with down | half <;> simp [State.snoop, *]

theorem commitDecoder_down {base size ways : Nat} (down : s.linkUp = false) : s.commitDecoder base size ways = s := by
  rw [State.commitDecoder, down, Bool.not_false, if_pos rfl]

theorem commitDecoder_up {base size ways : Nat} (up : s.linkUp = true) : s.commitDecoder base size ways =
    if size = 2 ^ 36 ∧ ways = 1 then s.modLink fun l => { l with decoder := some base, decoderErr := false }
    else (s.modLink fun l => { l with decoderErr := true }).emit .decoderError := by
  rw [State.commitDecoder, up, Bool.not_true, if_neg Bool.false_ne_true]

theorem viralIn_up (up : s.linkUp = true) : s.viralIn =
    (s.modLink fun l => { l with viral := true }).raise 0x15 islHost 0 none [] false fun _ t => t.failHost := by
  rw [State.viralIn, up, Bool.not_true, if_neg Bool.false_ne_true]
  rfl

theorem viralIn_down (down : s.linkUp = false) : s.viralIn = s := by
  rw [State.viralIn, down, Bool.not_false, if_pos rfl]

/-! ## Training (R317, R360) -/

/-- The link at its new width and speed, PERST_N released. -/
def State.trainedTo (s : State) (w : Nat) (full : Bool) : State :=
  (s.modLink fun l => { l with width := w, speed := if full then 2 else 1 }).modPower fun p => { p with perstN := true }

theorem trained_not {w : Nat} {full : Bool} (not : s.romUp = false ∨ w = 0) : s.trained w full = s :=
  if_pos (by rcases not with down | none <;> simp [*])

theorem trained_up {w : Nat} {full : Bool} (up : s.romUp = true) (width : w ≠ 0) : s.trained w full =
    (if s.link.width = (s.trainedTo w full).link.width ∧ s.link.speed = (s.trainedTo w full).link.speed then s.trainedTo w full
      else (s.trainedTo w full).halvedNote).dmaBack.wake :=
  if_neg (by simp [up, width])

theorem halvedNote_none (none : s.alive = false ∨ s.linkFull = false ∨ s.link.width ≠ 8) : s.halvedNote = s :=
  if_neg (by rcases none with down | half | other <;> simp [*])

theorem halvedNote_x8 (alive : s.alive = true) (full : s.linkFull = true) (half : s.link.width = 8) :
    s.halvedNote = s.note 0x010C none islHost 0 [8] := if_pos (by simp [alive, full, half])

/-- A link that runs in full runs at 64 GT/s. -/
theorem speed_of_linkFull (full : s.linkFull = true) : s.link.speed = 2 := by
  simp only [State.linkFull, Bool.and_eq_true, beq_iff_eq] at full
  exact full.1

/-- TIER_SHAPER_HALVED is due where the node runs with a link that has come to x8 (R317). -/
theorem trained_same {w : Nat} {full : Bool} (up : s.romUp = true) (width : w ≠ 0)
    (same : (s.trainedTo w full).alive = false ∨ (s.trainedTo w full).linkFull = false ∨ w ≠ 8
      ∨ s.link.width = 8 ∧ s.link.speed = 2) : s.trained w full = (s.trainedTo w full).dmaBack.wake := by
  rw [trained_up up width]
  by_cases was : s.link.width = (s.trainedTo w full).link.width ∧ s.link.speed = (s.trainedTo w full).link.speed
  · rw [if_pos was]
  · rw [if_neg was, halvedNote_none]
    rcases same with down | half | other | before
    · exact .inl down
    · exact .inr (.inl half)
    · exact .inr (.inr other)
    · by_cases half : (s.trainedTo w full).linkFull = false
      · exact .inr (.inl half)
      · refine .inr (.inr fun eight => was ⟨before.1.trans eight.symm, before.2.trans ?_⟩)
        exact (speed_of_linkFull (Bool.not_eq_false _ ▸ half)).symm

theorem trained_halved {w : Nat} {full : Bool} (up : s.romUp = true) (alive : (s.trainedTo w full).alive = true)
    (fullRate : (s.trainedTo w full).linkFull = true) (half : w = 8) (new : ¬ (s.link.width = 8 ∧ s.link.speed = 2)) :
    s.trained w full = ((s.trainedTo w full).note 0x010C none islHost 0 [8]).dmaBack.wake := by
  have width : w ≠ 0 := by omega
  have changed : ¬ (s.link.width = (s.trainedTo w full).link.width ∧ s.link.speed = (s.trainedTo w full).link.speed) := by
    rw [speed_of_linkFull fullRate]
    exact fun was => new (was.imp_left fun same => same.trans half)
  rw [trained_up up width, if_neg changed, halvedNote_x8 alive fullRate half]

/-! ## IDE (R365, R378) -/

variable {x : IdeStream}

theorem ideFails_secure (secure : s.ideSt x = 2) : s.ideFails x =
    ((((s.setIde x 1 1).modLink fun l => { l with rekeyIo := 1, rekeyCm := 1 }).bump 0x3700 3).raise 0x15 islHost 0 none []
      false fun _ t => t.failHost) := if_neg (not_not.2 secure)

theorem ideFails_other (other : s.ideSt x ≠ 2) : s.ideFails x = s := if_pos other

variable {n : Nat} {m : IdeKm}

theorem ideKm_down (down : s.linkUp = false) : s.ideKm n x m = s := by
  simp [State.ideKm, down]

theorem ideKm_notServed (up : s.linkUp = true) (held : s.mgmtUp = false) : s.ideKm n x m = s.emit (.spdm .doe (.error 3)) := by
  simp [State.ideKm, up, held]

theorem ideKm_noSession (up : s.linkUp = true) (serves : s.mgmtUp = true) (unknown : n ∉ s.boot.sessionsDoe) :
    s.ideKm n x m = s.emit (.spdm .doe (.error 0xB)) := by
  simp [State.ideKm, up, serves, unknown]

section
variable (up : s.linkUp = true) (serves : s.mgmtUp = true) (session : n ∈ s.boot.sessionsDoe)
include up serves session

theorem ideKm_keyProg : s.ideKm n x .keyProg =
    (s.setIde x (Nat.max (s.ideSt x) 1) (if s.rekeySt x = 1 then 2 else s.rekeySt x)).emit (.spdm .doe (.ideKm true)) := by
  simp [State.ideKm, up, serves, session]

theorem ideKm_kSetGo : s.ideKm n x .kSetGo =
    if s.ideSt x = 0 ∨ s.rekeySt x = 1 then s.emit (.spdm .doe (.ideKm false))
    else ((s.setIde x 2 0).emit (.spdm .doe (.ideKm true))).dmaBack.wake := by
  simp [State.ideKm, up, serves, session]

theorem ideKm_kSetStop : s.ideKm n x .kSetStop =
    if s.ideSt x = 0 then s.emit (.spdm .doe (.ideKm false))
    else (s.setIde x 1 (s.rekeySt x)).emit (.spdm .doe (.ideKm true)) := by
  simp [State.ideKm, up, serves, session]

end

end

/-- Settles O39: each event of the link, of a stream and of its keys by what it finds. -/
theorem linkEventsAndIdeKeys : Obligations.LinkEventsAndIdeKeys := by
  refine ⟨fun s a => ⟨fun up full => ?_, fun disabled => ?_⟩,
    fun s base size ways => ⟨fun up whole one => ?_, fun up other => ?_, fun down => ?_⟩, fun s => ⟨fun up => ?_, fun down => ?_⟩,
    fun s x => ⟨fun secure => ?_, fun other => ?_⟩, ?_,
    fun s n x m => ⟨fun down => ?_, fun up => ⟨fun held => ?_, fun serves unknown => ?_, fun serves session =>
      ⟨?_, ?_, ?_, ?_, ?_⟩⟩⟩⟩
  · rw [exec_h2dSnoop, snoop_enabled up full]
  · rw [exec_h2dSnoop, snoop_disabled disabled]
  · rw [exec_hdmDecoderCommit, commitDecoder_up up, if_pos ⟨whole, one⟩]
  · rw [exec_hdmDecoderCommit, commitDecoder_up up, if_neg other]
  · rw [exec_hdmDecoderCommit, commitDecoder_down down]
  · rw [exec_viral, viralIn_up up]
  · rw [exec_viral, viralIn_down down]
  · rw [exec_ideIntegrityFailure, ideFails_secure secure]
  · rw [exec_ideIntegrityFailure, ideFails_other other]
  · intro s t w full after
    obtain rfl : t = s.trainedTo w.toNat full := after
    rw [exec_linkTrained]
    refine ⟨fun not => ?_, fun up width => ⟨fun same => ?_, fun alive fullRate half new => ?_⟩⟩
    · rw [trained_not not]
    · rw [trained_same up width same]
    · rw [trained_halved up alive fullRate half new]
  · rw [exec_cxlIdeKm, ideKm_down down]
  · rw [exec_cxlIdeKm, ideKm_notServed up held]
  · rw [exec_cxlIdeKm, ideKm_noSession up serves unknown]
  · rintro rfl
    rw [exec_cxlIdeKm, ideKm_keyProg up serves session]
  · rintro rfl keyed fresh
    rw [exec_cxlIdeKm, ideKm_kSetGo up serves session, if_neg (not_or.2 ⟨keyed, fresh⟩)]
  · rintro rfl stale
    rw [exec_cxlIdeKm, ideKm_kSetGo up serves session, if_pos stale]
  · rintro rfl keyed
    rw [exec_cxlIdeKm, ideKm_kSetStop up serves session, if_neg keyed]
  · rintro rfl noKey
    rw [exec_cxlIdeKm, ideKm_kSetStop up serves session, if_pos noKey]

end Sys2Proof.Machine
end

section
/-! SUPPORT. SPDM and its measurements (R367, R377 to R379), DOE discovery and the CDAT (R367), and MCTP control (R369). -/

namespace Sys2Proof.Machine

theorem exec_spdmRequest (s : State) (t : SpdmTransport) (r : SpdmReq) :
    Sys2Proof.Machine.exec (.spdmRequest t r) s = .next (s.sealed (s.spdm t r)) := rfl

theorem exec_getMeasurements (s : State) (t : SpdmTransport) (i : BitVec 8) (sign : Bool) (nonce : List Byte) :
    Sys2Proof.Machine.exec (.getMeasurements t i sign nonce) s = .next (s.sealed (s.getMeasurements t i.toNat sign nonce)) := rfl

theorem exec_doeDiscovery (s : State) (i : BitVec 8) :
    Sys2Proof.Machine.exec (.doeDiscovery i) s = .next (s.sealed (s.doeDiscovery i.toNat)) := rfl

theorem exec_cdatRead (s : State) (h : BitVec 16) :
    Sys2Proof.Machine.exec (.cdatRead h) s = .next (s.sealed (s.cdatRead h.toNat)) := rfl

theorem exec_mctpControl (s : State) (m : MctpCtl) :
    Sys2Proof.Machine.exec (.mctpControl m) s = .next (s.sealed (s.mctpControl m)) := rfl

section
variable {s : State} {t : SpdmTransport}

/-! ## SPDM (R377, R378) -/

theorem spdm_notCarried {r : SpdmReq} (none : s.spdmCarries t = false) : s.spdm t r = s := by
  rw [State.spdm, none, Bool.not_false, if_pos rfl]

theorem spdm_notServed {r : SpdmReq} (carries : s.spdmCarries t = true) (held : s.mgmtUp = false) :
    s.spdm t r = s.emit (.spdm t (.error 3)) := by
  simp [State.spdm, carries, held]

theorem spdm_served {r : SpdmReq} (carries : s.spdmCarries t = true) (serves : s.mgmtUp = true) : s.spdm t r = s.spdmServe t r := by
  simp [State.spdm, carries, serves]

theorem serve_digests : s.spdmServe t .getDigests = s.emit (.spdm t (.digests (s.chain.toList.map sha256))) := rfl

/-! Without a chain nothing of slot 0 is given out. -/

theorem serve_certificate_none (none : s.chain = none) (slot : BitVec 8) :
    s.spdmServe t (.getCertificate slot) = s.emit (.spdm t (.error 1)) := by simp [State.spdmServe, none]

theorem serve_challenge_none (none : s.chain = none) (slot : BitVec 8) (nonce : List Byte) :
    s.spdmServe t (.challenge slot nonce) = s.emit (.spdm t (.error 1)) := by simp [State.spdmServe, none]

theorem serve_keyExchange_none (none : s.chain = none) : s.spdmServe t .keyExchange = s.emit (.spdm t (.error 1)) := by
  simp [State.spdmServe, none]

theorem serve_certificate {c : List Byte} (chain : s.chain = some c) (slot : BitVec 8) :
    s.spdmServe t (.getCertificate slot) = s.emit (.spdm t (if slot = 0 then .certificate c else .error 1)) := by
  simp [State.spdmServe, chain]

theorem serve_challenge {c : List Byte} (chain : s.chain = some c) (slot : BitVec 8) (nonce : List Byte) :
    s.spdmServe t (.challenge slot nonce) =
      s.emit (.spdm t (if slot = 0 then .challengeAuth (Config.aliasSign nonce) else .error 1)) := by
  simp [State.spdmServe, chain]

theorem serve_keyExchange {c : List Byte} (chain : s.chain = some c) : s.spdmServe t .keyExchange =
    if (s.sessions t).length < sessionLimit t then
      (s.setSessions t (s.sessions t ++ [leastFree (s.sessions t) 1 (sessionLimit t)])).emit
        (.spdm t (.keyExchange (leastFree (s.sessions t) 1 (sessionLimit t))))
    else s.emit (.spdm t (.error 0xA)) := by
  by_cases room : (s.sessions t).length < sessionLimit t
  · simp [State.spdmServe, chain, room]
  · simp [State.spdmServe, chain, room]

/-! A request that names a session is answered where that session exists. -/

theorem inSession_eq (n : Nat) (r : SpdmRsp) : s.inSession t n r = s.emit (.spdm t (if n ∈ s.sessions t then r else .error 2)) := by
  simp [State.inSession]

theorem serve_finish (n : Nat) :
    s.spdmServe t (.finish n) = s.emit (.spdm t (if n ∈ s.sessions t then .finish else .error 2)) := inSession_eq n _

theorem serve_heartbeat (n : Nat) :
    s.spdmServe t (.heartbeat n) = s.emit (.spdm t (if n ∈ s.sessions t then .heartbeat else .error 2)) := inSession_eq n _

theorem serve_keyUpdate (n : Nat) :
    s.spdmServe t (.keyUpdate n) = s.emit (.spdm t (if n ∈ s.sessions t then .keyUpdate else .error 2)) := inSession_eq n _

theorem serve_endSession (n : Nat) : s.spdmServe t (.endSession n) =
    (s.emit (.spdm t (if n ∈ s.sessions t then .ended else .error 2))).setSessions t ((s.sessions t).filter (· ≠ n)) := by
  rw [← inSession_eq]
  rfl

/-! ## Measurements (R379) -/

variable {i : Nat} {sign : Bool} {nonce : List Byte}

theorem getMeasurements_notCarried (none : s.spdmCarries t = false) : s.getMeasurements t i sign nonce = s := by
  simp [State.getMeasurements, none]

theorem getMeasurements_notServed (carries : s.spdmCarries t = true) (held : s.mgmtUp = false) :
    s.getMeasurements t i sign nonce = s.emit (.spdm t (.error 3)) := by
  simp [State.getMeasurements, carries, held]

/-- An answer needs blocks, and a signed one the certificate. -/
theorem getMeasurements_none (carries : s.spdmCarries t = true) (serves : s.mgmtUp = true)
    (none : s.measured i = [] ∨ sign = true ∧ s.chain = none) : s.getMeasurements t i sign nonce = s.emit (.spdm t (.error 1)) := by
  have refused : ((s.measured i).isEmpty || (sign && s.chain.isNone)) = true := by simpa using none
  simp [State.getMeasurements, carries, serves, refused]

theorem getMeasurements_some (carries : s.spdmCarries t = true) (serves : s.mgmtUp = true) (found : s.measured i ≠ [])
    (slot : sign = true → s.chain ≠ none) : s.getMeasurements t i sign nonce = s.emit (.spdm t (.measurements (s.measured i)
      (if sign then some (Config.aliasSign (nonce ++ (s.measured i).flatMap fun m => leBytes 1 m.1 ++ leBytes 1 m.2.1 ++ m.2.2))
        else none))) := by
  have answered : ((s.measured i).isEmpty || (sign && s.chain.isNone)) = false := by
    simpa [found, Option.isSome_iff_ne_none] using slot
  simp [State.getMeasurements, carries, serves, answered]

/-! ## DOE, CDAT and MCTP control (R367, R369) -/

theorem doeDiscovery_known {v p : Nat} (up : s.linkUp = true) (known : doeProtocols[i]? = some (v, p)) :
    s.doeDiscovery i = s.emit (.doe i v p (if i + 1 < doeProtocols.length then i + 1 else 0)) := by
  simp [State.doeDiscovery, up, known]

theorem doeDiscovery_beyond (up : s.linkUp = true) (beyond : doeProtocols.length ≤ i) :
    s.doeDiscovery i = s.emit (.doe i 0xFFFF 0xFF 0) := by
  simp [State.doeDiscovery, up, List.getElem?_eq_none beyond]

theorem doeDiscovery_down (down : s.linkUp = false) : s.doeDiscovery i = s := by simp [State.doeDiscovery, down]

theorem cdatRead_up (up : s.linkUp = true) : s.cdatRead i = s.emit (.cdat (Config.cdat i)) := if_pos up

theorem cdatRead_down (down : s.linkUp = false) : s.cdatRead i = s := if_neg (Bool.eq_false_iff.1 down)

theorem mctpControl_down {m : MctpCtl} (down : s.romUp = false) : s.mctpControl m = s := by simp [State.mctpControl, down]

section
variable (up : s.romUp = true)
include up

theorem mctpControl_setEid (e : Byte) : s.mctpControl (.setEndpointId e) =
    if e = 0 ∨ e = 0xFF then s.emit (.mctp s.boot.mctpEid 2 [])
    else (s.modBoot fun b => { b with mctpEid := e.toNat }).emit (.mctp e.toNat 0 [0, e, 0]) := by
  simp [State.mctpControl, up]

theorem mctpControl_getEid : s.mctpControl .getEndpointId =
    s.emit (.mctp s.boot.mctpEid 0 [BitVec.ofNat 8 s.boot.mctpEid, 0, 0]) := by simp [State.mctpControl, up]

theorem mctpControl_getVersion : s.mctpControl .getVersion = s.emit (.mctp s.boot.mctpEid 0 [1, 0xF1, 0xF3, 0xF1, 0]) := by
  simp [State.mctpControl, up]

theorem mctpControl_getTypes : s.mctpControl .getMessageTypes =
    s.emit (.mctp s.boot.mctpEid 0 (BitVec.ofNat 8 s.mctpTypes.length :: s.mctpTypes)) := by simp [State.mctpControl, up]

theorem mctpControl_other (k : Byte) : s.mctpControl (.other k) = s.emit (.mctp s.boot.mctpEid 5 []) := by
  simp [State.mctpControl, up]

end

end

/-- Settles O40: SPDM by the request, and the other answers by what they are asked for. -/
theorem attestationAnswers : Obligations.AttestationAnswers := by
  refine ⟨fun s t r => ⟨fun none => ?_, fun carries held => ?_, fun carries serves => ?_⟩, ?_,
    fun s i => ⟨fun v p up known => ?_, fun up beyond => ?_, fun down => ?_⟩, fun s h => ⟨fun up => ?_, fun down => ?_⟩,
    fun s => ⟨fun down m => ?_, fun up => ⟨fun e low high => ?_, fun e edge => ?_, ?_, ?_, ?_, fun k => ?_⟩⟩⟩
  · rw [exec_spdmRequest, spdm_notCarried none]
  · rw [exec_spdmRequest, spdm_notServed carries held]
  · rw [exec_spdmRequest, spdm_served carries serves]
    cases r with
    | getVersion | getCapabilities | negotiateAlgorithms | absent _ => rfl
    | getDigests =>
      cases chain : s.chain with
      | none => rw [serve_digests, chain]; rfl
      | some c => rw [serve_digests, chain]; rfl
    | getCertificate slot =>
      cases chain : s.chain with
      | none => rw [serve_certificate_none chain]
      | some c => rw [serve_certificate chain]
    | challenge slot nonce =>
      cases chain : s.chain with
      | none => rw [serve_challenge_none chain]
      | some c => rw [serve_challenge chain]
    | keyExchange =>
      cases chain : s.chain with
      | none => rw [serve_keyExchange_none chain]
      | some c => rw [serve_keyExchange chain]
    | finish n => rw [serve_finish]
    | heartbeat n => rw [serve_heartbeat]
    | keyUpdate n => rw [serve_keyUpdate]
    | endSession n => rw [serve_endSession]
  · rintro s t i sign nonce l rfl
    rw [exec_getMeasurements]
    refine ⟨fun none => ?_, fun carries => ⟨fun held => ?_, fun serves => ⟨fun none => ?_, fun found plain => ?_,
      fun found signed slot => ?_⟩⟩⟩
    · rw [getMeasurements_notCarried none]
    · rw [getMeasurements_notServed carries held]
    · rw [getMeasurements_none carries serves none]
    · subst plain
      rw [getMeasurements_some carries serves found (by simp), if_neg Bool.false_ne_true]
    · subst signed
      rw [getMeasurements_some carries serves found fun _ => slot, if_pos rfl]
  · rw [exec_doeDiscovery, doeDiscovery_known up known]
  · rw [exec_doeDiscovery, doeDiscovery_beyond up beyond]
  · rw [exec_doeDiscovery, doeDiscovery_down down]
  · rw [exec_cdatRead, cdatRead_up up]
  · rw [exec_cdatRead, cdatRead_down down]
  · rw [exec_mctpControl, mctpControl_down down]
  · rw [exec_mctpControl, mctpControl_setEid up, if_neg (not_or.2 ⟨low, high⟩)]
  · rw [exec_mctpControl, mctpControl_setEid up, if_pos edge]
  · rw [exec_mctpControl, mctpControl_getEid up]
  · rw [exec_mctpControl, mctpControl_getVersion up]
  · rw [exec_mctpControl, mctpControl_getTypes up]
  · rw [exec_mctpControl, mctpControl_other up]

end Sys2Proof.Machine
end

section
/-! SUPPORT. Verification of an image (R373, R374, R376, R377) and the start of the firmware (R370, R383, R384, R426). -/

namespace Sys2Proof.Machine

theorem exec_bootStatus (s : State) (i3c : Bool) : Sys2Proof.Machine.exec (.bootStatus i3c) s = .next (s.sealed (s.readBoot i3c)) := rfl

theorem exec_fwVerifyDone (s : State) (cores : Bool) :
    Sys2Proof.Machine.exec (.fwVerifyDone cores) s = .next (s.sealed (s.verified cores)) := rfl

theorem exec_firmwareRunning (s : State) (b : BistOutcome) :
    Sys2Proof.Machine.exec (.firmwareRunning b) s = .next (s.sealed (s.startFirmware b)) := rfl

theorem exec_firmwareStartAfterReset (s : State) (b : BistOutcome) : Sys2Proof.Machine.exec (.firmwareStartAfterReset b) s =
    .next (s.sealed (if s.boot.warm then s.startFirmware b else s)) := rfl

section
variable {s : State}

/-! ## BOOT_STATUS (R368, R369, R371) -/

theorem readBoot_answered {i3c : Bool} (reached : (if i3c then s.romUp else s.linkUp) = true) :
    s.readBoot i3c = s.emit (.bootStatus i3c (BitVec.ofNat 64 s.bootWord)) := if_pos reached

theorem readBoot_unreached {i3c : Bool} (unreached : (if i3c then s.romUp else s.linkUp) = false) : s.readBoot i3c = s :=
  if_neg (Bool.eq_false_iff.1 unreached)

/-! ## Verification (R373, R374, R376, R377) -/

variable {cores : Bool}

theorem verified_none (none : s.boot.st ≠ .verifying) : s.verified cores = s := if_pos none

theorem verified_failed {i : Nat} (runs : s.boot.st = .verifying) (failed : (s.bootChecks cores).idxOf? false = some i) :
    s.verified cores =
      s.modBoot fun b => { b with st := .awaitImage, lastError := i + 1, attempts := Nat.min 255 (b.attempts + 1) } := by
  simp [State.verified, runs, failed]

theorem verified_passed (runs : s.boot.st = .verifying) (passed : ∀ c ∈ s.bootChecks cores, c = true) : s.verified cores =
    s.modBoot fun b =>
      { b with st := .starting, lastError := 0, fwMeas := s.measurement s.boot.startLen, fwVersion := hdrNum s.header 12 4,
               fwSvn := hdrNum s.header 16 2, fwAbi := hdrNum s.header 18 1,
               bistTable := Memory.readBytes b.image (hdrNum s.header 28 4) (hdrNum s.header 32 4),
               cdi := cdiOf (s.measurement s.boot.startLen), udsLocked := true, certState := certCheck b.certs } := by
  have noFailed : (s.bootChecks cores).idxOf? false = none :=
    List.idxOf?_eq_none_iff.2 fun mem => Bool.false_ne_true (passed _ mem)
  simp [State.verified, runs, noFailed]

/-! ## The start (R370, R383, R384, R426) -/

/-- What the new firmware begins with: cleared tables where that is asked, what it recovers after a warm reset, else what the new boot
left. -/
def State.bootTables (s : State) : State :=
  if s.boot.clearTables then s.newBoot.clearTables else if s.boot.warm then s.newBoot.recover else s.newBoot

/-- A firmware that reaches RUNNING through its start-up BIST. -/
def State.reachesRunning (t : State) (b : BistOutcome) : State :=
  ((((t.asbReturned.modBoot fun x => { x with st := .running, clearTables := false, warm := false }).modTherm fun x =>
    { x with maxima := [], powerPeak := 0 }).startupBistDone b).halvedNote).lowCheck

theorem startFirmware_none {b : BistOutcome} (none : s.boot.st ≠ .starting) : s.startFirmware b = s := if_pos none

theorem startFirmware_starting {b : BistOutcome} (starting : s.boot.st = .starting) :
    s.startFirmware b = s.bootTables.reachesRunning b := if_neg (not_not.2 starting)

theorem eq_bootTables {t : State} (clear : s.boot.clearTables = true → t = s.newBoot.clearTables)
    (warm : s.boot.clearTables = false → s.boot.warm = true → t = s.newBoot.recover)
    (cold : s.boot.clearTables = false → s.boot.warm = false → t = s.newBoot) : t = s.bootTables := by
  unfold State.bootTables
  split
  case isTrue asked => exact clear asked
  case isFalse notAsked =>
    have kept := Bool.eq_false_iff.2 notAsked
    split
    case isTrue reset => exact warm kept reset
    case isFalse noReset => exact cold kept (Bool.eq_false_iff.2 noReset)

end

/-- Settles O43: the status where it is reached; the end of a verification by its checks; the start by what came before it. -/
theorem bootGoesOn : Obligations.BootGoesOn := by
  refine ⟨fun s i3c => ⟨fun reached => ?_, fun unreached => ?_⟩, ?_, fun s t b => ⟨fun none => ?_, fun cold => ?_, ?_⟩⟩
  · rw [exec_bootStatus, readBoot_answered reached]
  · rw [exec_bootStatus, readBoot_unreached unreached]
  · rintro s cores h rfl
    rw [exec_fwVerifyDone]
    refine ⟨fun none => ?_, fun runs => ⟨fun i failed => ?_, fun passed => ?_⟩⟩
    · rw [verified_none none]
    · rw [verified_failed runs failed]
    · rw [verified_passed runs passed]
  · rw [exec_firmwareRunning, exec_firmwareStartAfterReset, startFirmware_none none, ite_self]
    exact ⟨rfl, rfl⟩
  · rw [exec_firmwareStartAfterReset, cold, if_neg Bool.false_ne_true]
  · rintro starting clear warm cold u rfl
    obtain rfl := eq_bootTables clear warm cold
    rw [exec_firmwareRunning, exec_firmwareStartAfterReset, startFirmware_starting starting]
    exact ⟨rfl, fun reset => by rw [reset, if_pos rfl]; rfl⟩

end Sys2Proof.Machine
end

section
/-! SUPPORT. Power and its faults (R370, R413 to R415, R422, R429), and the triggers of resets (R327, R328, R381, R386, R417). -/

namespace Sys2Proof.Machine

/-! ## What each row comes down to -/

section
variable (s : State)

theorem exec_pwrEnHigh (v : BitVec 32) : Sys2Proof.Machine.exec (.pwrEnHigh v) s = .next (s.sealed (s.pwrHigh v.toNat)) := rfl

theorem exec_pwrGood : Sys2Proof.Machine.exec .pwrGood s = .next (s.sealed s.pwrGoodNow) := rfl

theorem exec_pwrEnLow : Sys2Proof.Machine.exec .pwrEnLow s = .next (s.sealed s.pwrLow) := rfl

theorem exec_vinOver : Sys2Proof.Machine.exec .vinOver s = .next (s.sealed s.powerOff) := rfl

theorem exec_vinDropout : Sys2Proof.Machine.exec .vinDropout s = .next (s.sealed s.powerOff) := rfl

theorem exec_inputOverCurrent : Sys2Proof.Machine.exec .inputOverCurrent s =
    .next (s.sealed (if s.power.supply = .off then s else s.powerOff.modPower fun p => { p with latchedOff := true })) := rfl

theorem exec_railFault (r : Rail) : Sys2Proof.Machine.exec (.railFault r) s = .next (s.sealed (s.railFails r)) := rfl

theorem exec_brownOut : Sys2Proof.Machine.exec .brownOut s = .next (s.sealed s.brownOutNow) := rfl

theorem exec_vinLow : Sys2Proof.Machine.exec .vinLow s = .next (s.sealed s.inputLow) := rfl

theorem exec_cxlReset : Sys2Proof.Machine.exec .cxlReset s = .next (s.sealed (s.warmReset 2 0)) := rfl

theorem exec_linkDown : Sys2Proof.Machine.exec .linkDown s = .next (s.sealed (s.warmReset 3 0)) := rfl

theorem exec_perstN : Sys2Proof.Machine.exec .perstN s = .next (s.sealed s.perstLow) := rfl

theorem exec_rstNLow : Sys2Proof.Machine.exec .rstNLow s = .next (s.sealed s.rstLow) := rfl

theorem exec_chipReset : Sys2Proof.Machine.exec .chipReset s = .next (s.sealed s.chipResets) := rfl

end

section
variable {s t : State}

/-! ## Supply (R413 to R415) -/

/-- PWR_EN high: the supply charges exactly where it is off, not latched off and has 40 V. -/
theorem pwrHigh_eq {v : Nat} {c : Supply} (charges : s.power.supply = .off → s.power.latchedOff = false → 40000 ≤ v → c = .charging)
    (stays : (s.power.supply ≠ .off ∨ s.power.latchedOff = true ∨ v < 40000) → c = s.power.supply) :
    s.pwrHigh v = s.modPower fun p => { p with pwrEn := true, vinMv := v, supply := c } := by
  have supply : c = if s.power.supply == .off && !s.power.latchedOff && decide (40000 ≤ v) then .charging else s.power.supply := by
    split
    case isTrue ready =>
      obtain ⟨⟨off, latch⟩, volts⟩ : (s.power.supply = .off ∧ s.power.latchedOff = false) ∧ 40000 ≤ v := by simpa using ready
      exact charges off latch volts
    case isFalse unready =>
      refine stays ?_
      by_contra none
      simp only [not_or, not_not, Bool.not_eq_true, not_lt] at none
      simp [none] at unready
  subst supply
  rfl

theorem pwrGoodNow_charging (charging : s.power.supply = .charging) : s.pwrGoodNow = s.cold .good := if_pos charging

theorem pwrGoodNow_other (other : s.power.supply ≠ .charging) : s.pwrGoodNow = s := if_neg other

/-- A node that is off stays as it is; another goes off. -/
theorem eq_powerOff (off : s.power.supply = .off → t = s) (on : s.power.supply ≠ .off → t = s.cold .off) : t = s.powerOff := by
  unfold State.powerOff
  split
  case isTrue is => exact off is
  case isFalse isNot => exact on isNot

theorem powerFault_up {k : Nat} (up : s.romUp = true) :
    s.powerFault k = s.raise 0x1A islReg k none [] false fun _ t => t := if_pos up

theorem powerFault_down {k : Nat} (down : s.romUp = false) : s.powerFault k = s := if_neg (Bool.eq_false_iff.1 down)

theorem railFails_unpowered {r : Rail} (none : s.power.supply ≠ .good) : s.railFails r = s := if_pos none

theorem railFails_kills {r : Rail} (good : s.power.supply = .good) (kills : railKills r = true) : s.railFails r = s.cold .off := by
  have on : s.power.supply ≠ .off := by simp [good]
  rw [State.railFails, if_neg (not_not.2 good), if_pos kills, State.powerOff, if_neg on]

theorem railFails_reported {r : Rail} (good : s.power.supply = .good) (spares : railKills r = false) :
    s.railFails r = s.powerFault (railNo r) := by
  rw [State.railFails, if_neg (not_not.2 good), spares, if_neg Bool.false_ne_true]

/-! ## Brown-outs and a low input (R414, R415, R422, R429) -/

theorem brownOutNow_unpowered (none : s.power.supply ≠ .good) : s.brownOutNow = s := if_pos none

theorem brownOutNow_good (good : s.power.supply = .good) :
    s.brownOutNow = ((s.modPower fun p => { p with brownOut := true }).lbistAbandon).powerFault 0 := if_neg (not_not.2 good)

theorem eq_lbistAbandon {u : State}
    (runs : t.test.lbState = 1 → u = ((t.modTile t.test.lbTile fun x => { x with testing := false }).modTest fun x => { x with lbState := 0 }))
    (idle : t.test.lbState ≠ 1 → u = t) : u = t.lbistAbandon := by
  unfold State.lbistAbandon
  split
  case isTrue is => exact runs is
  case isFalse isNot => exact idle isNot

/-- A brown-out leaves the ROM running. -/
theorem romUp_brownOut (s : State) : (s.modPower fun p => { p with brownOut := true }).lbistAbandon.romUp = s.romUp := by
  unfold State.lbistAbandon
  split <;> rfl

/-- A low input noted, with the cause that it gives the throttling. -/
def State.inputLowNoted (s : State) : State :=
  (s.modPower fun p => { p with inputLow := true, vinOk := 0 }).modTherm fun x =>
    { x with cause := (s.modPower fun p => { p with inputLow := true, vinOk := 0 }).throttleCause }

theorem inputLow_down (down : s.romUp = false) : s.inputLow = s := by
  rw [State.inputLow, down, Bool.not_false, if_pos rfl]

theorem inputLow_up (up : s.romUp = true) : s.inputLow =
    if s.inputLowNoted.therm.step < s.inputLowNoted.wantedStep then s.inputLowNoted.setStep s.inputLowNoted.wantedStep
    else s.inputLowNoted := by
  rw [State.inputLow, up, Bool.not_true, if_neg Bool.false_ne_true]
  rfl

/-! ## Resets (R327, R328, R381, R386, R417) -/

variable {cause source : Nat}

theorem warmReset_taken (good : s.power.supply = .good) (free : s.power.resetEntry = false) :
    s.warmReset cause source = s.warmEntry cause source := if_neg (by simp [good, free])

theorem warmReset_ignored (not : s.power.supply ≠ .good ∨ s.power.resetEntry = true) : s.warmReset cause source = s := if_pos not

section
variable (good : s.power.supply = .good) (free : s.power.resetEntry = false)
include good free

theorem perstLow_taken : s.perstLow = (s.modPower fun p => { p with perstN := false }).warmEntry 3 0 :=
  warmReset_taken (s := s.modPower _) good free

theorem rstLow_taken (falls : s.power.rstN = true) : s.rstLow = (s.modPower fun p => { p with rstN := false }).warmEntry 1 0 :=
  (if_pos falls).trans (warmReset_taken (s := s.modPower _) good free)

theorem chipResets_taken (pending : s.boot.chipReset = true) :
    s.chipResets = s.warmEntry (if s.boot.clearTables then 5 else 4) s.boot.chipSource :=
  (if_pos pending).trans (warmReset_taken good free)

end

section
variable (not : s.power.supply ≠ .good ∨ s.power.resetEntry = true)
include not

theorem perstLow_ignored : s.perstLow = s.modPower fun p => { p with perstN := false } :=
  warmReset_ignored (s := s.modPower _) not

theorem rstLow_ignored (falls : s.power.rstN = true) : s.rstLow = s.modPower fun p => { p with rstN := false } :=
  (if_pos falls).trans (warmReset_ignored (s := s.modPower _) not)

theorem chipResets_ignored : s.chipResets = s := by
  rw [State.chipResets, warmReset_ignored not, ite_self]

end

theorem rstLow_isLow (low : s.power.rstN = false) : s.rstLow = s := if_neg (Bool.eq_false_iff.1 low)

theorem chipResets_none (none : s.boot.chipReset = false) : s.chipResets = s := if_neg (Bool.eq_false_iff.1 none)

end

/-- Settles O44: the supply's events, the two low inputs, and the triggers of resets. -/
theorem powerAndResets : Obligations.PowerAndResets := by
  refine ⟨fun s v c charges stays => ?_, fun s => ⟨fun charging => ?_, fun other => ?_⟩, fun s t off on => ?_,
    fun s r => ⟨fun none => ?_, fun good rail => ?_, fun good rail => ⟨fun up => ?_, fun down => ?_⟩⟩, ?_, ?_, ?_⟩
  · rw [exec_pwrEnHigh, pwrHigh_eq charges stays]
  · rw [exec_pwrGood, pwrGoodNow_charging charging]
  · rw [exec_pwrGood, pwrGoodNow_other other]
  · obtain rfl := eq_powerOff off on
    refine ⟨exec_pwrEnLow s, exec_vinOver s, exec_vinDropout s, fun isOff => ?_, fun isOn => ?_⟩
    · rw [exec_inputOverCurrent, if_pos isOff]
    · rw [exec_inputOverCurrent, if_neg isOn]
  · rw [exec_railFault, railFails_unpowered none]
  · have kills : railKills r = true := by rcases rail with rfl | rfl | rfl | rfl | rfl <;> rfl
    rw [exec_railFault, railFails_kills good kills]
  · have spares : railKills r = false := by rcases rail with rfl | rfl | rfl <;> rfl
    rw [exec_railFault, railFails_reported good spares, powerFault_up up]
  · have spares : railKills r = false := by rcases rail with rfl | rfl | rfl <;> rfl
    rw [exec_railFault, railFails_reported good spares, powerFault_down down]
  · rintro s _ u rfl runs idle
    obtain rfl := eq_lbistAbandon (t := s.modPower fun p => { p with brownOut := true }) runs idle
    rw [exec_brownOut]
    refine ⟨fun none => ?_, fun good => ?_⟩
    · rw [brownOutNow_unpowered none]
    · rw [brownOutNow_good good]
      refine ⟨fun up => ?_, fun down => ?_⟩
      · rw [powerFault_up ((romUp_brownOut s).trans up)]
      · rw [powerFault_down ((romUp_brownOut s).trans down)]
  · intro s t noted
    obtain rfl : t = s.inputLowNoted := noted
    rw [exec_vinLow]
    refine ⟨fun down => ?_, fun up enough => ?_, fun up below => ?_⟩
    · rw [inputLow_down down]
    · rw [inputLow_up up, if_neg enough.not_gt]
    · rw [inputLow_up up, if_pos below]
  · rintro s _ _ rfl rfl
    refine ⟨fun good free => ⟨?_, ?_, ?_, fun high => ?_, fun pending => ?_⟩, fun not => ⟨?_, ?_, ?_, fun high => ?_, ?_⟩, fun low => ?_,
      fun none => ?_, rfl, rfl⟩
    · rw [exec_cxlReset, warmReset_taken good free]
    · rw [exec_linkDown, warmReset_taken good free]
    · rw [exec_perstN, perstLow_taken good free]
    · rw [exec_rstNLow, rstLow_taken good free high]
    · rw [exec_chipReset, chipResets_taken good free pending]
    · rw [exec_cxlReset, warmReset_ignored not]
    · rw [exec_linkDown, warmReset_ignored not]
    · rw [exec_perstN, perstLow_ignored not]
    · rw [exec_rstNLow, rstLow_ignored not high]
    · rw [exec_chipReset, chipResets_ignored not]
    · rw [exec_rstNLow, rstLow_isLow low]
    · rw [exec_chipReset, chipResets_none none]

end Sys2Proof.Machine
end

section
/-! SUPPORT. The shadow's messages (R351 to R354) and the timers of the ring, of releases and of moves (R225, R272, R279, R290). -/

namespace Sys2Proof.Machine

/-! ## What each row comes down to (R270) -/

section
variable {s : State} {qp : BitVec 16}

theorem exec_shadowHello (m : SvcMsg) (acts : s.svcQp qp.toNat = true) :
    Sys2Proof.Machine.exec (.shadowHello qp m) s = .next (s.sealed
      ((s.shadowHello qp.toNat (hReason (rowHdr 0x30 m)) m.payload).wake.lowCheck)) := by
  rw [serviceRow_exec rfl, if_pos acts]
  simp only [State.onService, rowHdr_svc 0x30 m (by decide)]

theorem exec_shadowCmd (m : SvcMsg) (acts : s.svcQp qp.toNat = true) :
    Sys2Proof.Machine.exec (.shadowCmd qp m) s = .next (s.sealed
      ((s.shadowCmd qp.toNat (hTag (rowHdr 0x31 m)) (hCount (rowHdr 0x31 m)) m.payload).wake.lowCheck)) := by
  rw [serviceRow_exec rfl, if_pos acts]
  simp only [State.onService, rowHdr_svc 0x31 m (by decide)]

theorem exec_shadowCommit (m : SvcMsg) (acts : s.svcQp qp.toNat = true) :
    Sys2Proof.Machine.exec (.shadowCommit qp m) s = .next (s.sealed ((s.shadowCommit qp.toNat).wake.lowCheck)) := by
  rw [serviceRow_exec rfl, if_pos acts]
  simp only [State.onService, rowHdr_svc 0x32 m (by decide)]

theorem exec_shadowEnd (m : SvcMsg) (acts : s.svcQp qp.toNat = true) :
    Sys2Proof.Machine.exec (.shadowEnd qp m) s = .next (s.sealed
      ((s.shadowEnd qp.toNat (hReason (rowHdr 0x33 m)) (hCount (rowHdr 0x33 m)) (hSeq (rowHdr 0x33 m))).wake.lowCheck)) := by
  rw [serviceRow_exec rfl, if_pos acts]
  simp only [State.onService, rowHdr_svc 0x33 m (by decide)]

theorem exec_ringPulse : Sys2Proof.Machine.exec .ringPulse s = .next (s.sealed s.ringPulse) := rfl

theorem exec_ringIdleLimit : Sys2Proof.Machine.exec (.ringIdleLimit qp) s = .next (s.sealed (s.ringLost qp.toNat)) := rfl

theorem exec_helloHoldExpiry : Sys2Proof.Machine.exec (.helloHoldExpiry qp) s = .next (s.sealed
    (s.modRing fun r => { r with hellos := adel r.hellos qp.toNat })) := rfl

theorem exec_ringJoinLimit (id : Nat) : Sys2Proof.Machine.exec (.ringJoinLimit id) s = .next (s.sealed (s.joinLimit id)) := rfl

theorem exec_remoteReleaseTimeout (node : BitVec 12) (page : BitVec 25) :
    Sys2Proof.Machine.exec (.remoteReleaseTimeout node page) s = .next (s.sealed (s.releaseLost node.toNat page.toNat)) := rfl

theorem exec_moveFinalTimeout (i : BitVec 24) :
    Sys2Proof.Machine.exec (.moveFinalTimeout i) s = .next (s.sealed (s.moveTimeout i.toNat)) := rfl

theorem exec_moveQueryTimer (i : BitVec 24) :
    Sys2Proof.Machine.exec (.moveQueryTimer i) s = .next (s.sealed (s.moveAsk i.toNat)) := rfl

end

/-! ## SHADOW_HELLO (R351) -/

/-- What a check of the peer's hello leaves: the start is over, its result is kept, the counters start again. -/
def State.helloChecked (s : State) (k : Nat) : State :=
  s.modShadow fun x =>
    { x with started := false, startCheck := k, matched := 0, dropped := 0, seqs := [], failCause := 0, failSeq := 0 }

section
variable {s : State} {qp reason : Nat} {p : List Byte}

theorem shadowHello_otherQp (other : s.shadowQp ≠ some qp) : s.shadowHello qp reason p = s := if_pos other

theorem shadowHello_started (own : s.shadowQp = some qp) (started : s.shadow.started = true) :
    s.shadowHello qp reason p = if shadowCheck p s.shadowHelloBytes = 0
      then (s.helloChecked (shadowCheck p s.shadowHelloBytes)).shadowState 1
      else s.helloChecked (shadowCheck p s.shadowHelloBytes) :=
  (if_neg (not_not_intro own)).trans (if_pos started)

theorem shadowHello_atShadow (own : s.shadowQp = some qp) (idle : s.shadow.started = false) (on : s.shadowOn = true)
    (shadow : s.shadow.isShadow = true) :
    s.shadowHello qp reason p = if reason = 2 ∧ s.shadow.st = 1 then s.shadowState 2 else s := by
  simp [State.shadowHello, own, idle, on, shadow]

theorem shadowHello_kept (own : s.shadowQp = some qp) (idle : s.shadow.started = false)
    (other : s.shadowOn = false ∨ s.shadow.isShadow = false) :
    s.shadowHello qp reason p = s.modShadow fun x => { x with hello := padTo 98 p } := by
  rcases other with off | primary <;> simp [State.shadowHello, *]

end

/-! ## SHADOW_CMD (R353, R354) -/

section
variable {s : State} {qp tag n : Nat} {p : List Byte}

theorem shadowCmd_ignored (not : s.shadowOn = false ∨ s.mirrorsOn qp = false
      ∨ (s.shadow.isShadow = true ∧ n ≠ 0) ∨ (s.shadow.isShadow = false ∧ n ≠ 1)) :
    s.shadowCmd qp tag n p = s := by
  rcases not with off | other | ⟨shadow, count⟩ | ⟨primary, count⟩ <;> simp [State.shadowCmd, *]

theorem shadowCmd_atShadow (on : s.shadowOn = true) (mirrors : s.mirrorsOn qp = true) (shadow : s.shadow.isShadow = true) :
    s.shadowCmd qp tag 0 p = s.runMirror qp tag p := by
  simp [State.shadowCmd, on, mirrors, shadow]

theorem shadowCmd_atPrimary (on : s.shadowOn = true) (mirrors : s.mirrorsOn qp = true) (primary : s.shadow.isShadow = false) :
    s.shadowCmd qp tag 1 p = (s.modShadow fun x => { x with matched := x.matched + 1, lag := x.lag - 1 }).shadowReady := by
  simp [State.shadowCmd, on, mirrors, primary]

end

/-! ## SHADOW_COMMIT and SHADOW_END (R352, R353) -/

/-- A shadowed sequence becomes OPEN. -/
def State.openShadowed (s : State) (id : BitVec 64) : State :=
  if (s.seq (sidIndex id)).st = .shadowed then s.setSeq (sidIndex id) { s.seq (sidIndex id) with st := .open_ } else s

/-- The sequences of a domain leave the session as OPEN ones. -/
def State.openDomain (s : State) (d : Nat) : State :=
  ((s.shadow.seqs.filter fun id => sidDom id == d).foldl State.openShadowed s).modShadow
    fun x => { x with seqs := x.seqs.filter fun id => sidDom id != d }

/-- A shadowed sequence leaves the session, closed. -/
def State.dropShadowed (s : State) (id : BitVec 64) : State :=
  (if (s.seq (sidIndex id)).st = .shadowed then s.closeSeq (sidIndex id) else s).modShadow fun x =>
    { x with seqs := x.seqs.filter (· ≠ id), dropped := x.dropped + 1 }

section
variable {s : State} {qp reason n : Nat} {id : BitVec 64}

theorem shadowCommit_ignored (not : s.shadowOn = false ∨ s.shadow.isShadow = false ∨ s.mirrorsOn qp = false) :
    s.shadowCommit qp = s := by
  rcases not with off | primary | other <;> simp [State.shadowCommit, *]

theorem shadowCommit_taken (on : s.shadowOn = true) (shadow : s.shadow.isShadow = true) (mirrors : s.mirrorsOn qp = true) :
    s.shadowCommit qp = if (s.openDomain (s.qp qp).dom).shadow.seqs = [] then (s.openDomain (s.qp qp).dom).shadowState 5
      else s.openDomain (s.qp qp).dom := by
  have taken : (s.shadowOn && s.shadow.isShadow && s.mirrorsOn qp) = true := by simp [on, shadow, mirrors]
  refine (if_pos taken).trans ?_
  simp only [← List.isEmpty_iff]
  rfl

theorem shadowEnd_ignored (not : s.shadowOn = false ∨ s.mirrorsOn qp = false) : s.shadowEnd qp reason n id = s := by
  rcases not with off | other <;> simp [State.shadowEnd, *]

theorem shadowEnd_one (on : s.shadowOn = true) (mirrors : s.mirrorsOn qp = true) :
    s.shadowEnd qp reason 1 id =
      if s.shadow.isShadow = true ∧ sidDom id = (s.qp qp).dom ∧ id ∈ s.shadow.seqs then s.dropShadowed id else s := by
  simp [State.shadowEnd, State.dropShadowed, on, mirrors, and_assoc]

theorem shadowEnd_session (on : s.shadowOn = true) (mirrors : s.mirrorsOn qp = true) (count : n ≠ 1) :
    s.shadowEnd qp reason n id = if s.shadowQp = some qp then s.shadowFail (if reason = 0 then 5 else reason) else s := by
  simp [State.shadowEnd, on, mirrors, count]

end

/-! ## The ring's timers (R279, R290) -/

section
variable {s : State}

theorem ringPulse_none (none : s.ring.st = ringNone) : s.ringPulse = s := if_pos none

theorem ringPulse_sent (ring : s.ring.st ≠ ringNone) :
    s.ringPulse = if s.ring.nextQp = s.ring.prevQp then s.sendRing s.ring.prevQp 0x28 0 0 0 []
      else (s.sendRing s.ring.prevQp 0x28 0 0 0 []).sendRing s.ring.nextQp 0x28 0 0 0 [] := if_neg ring

theorem ringLost_neighbour {qp : Nat} (member : s.ringMember = true) (neighbour : s.ring.prevQp = qp ∨ s.ring.nextQp = qp) :
    s.ringLost qp = s.detectAbort 1 (some qp) := by
  simp [State.ringLost, member, neighbour]

theorem ringLost_other {qp : Nat} (other : s.ringMember = false ∨ (s.ring.prevQp ≠ qp ∧ s.ring.nextQp ≠ qp)) :
    s.ringLost qp = s := by
  rcases other with none | ⟨prev, next⟩ <;> simp [State.ringLost, *]

theorem joinLimit_join {id : Nat} {c : Cmd} (waits : s.cmd id = some c) (join : dOp c.desc = 0x60) :
    s.joinLimit id = s.failJoin c ⟨stBusy, 0, 0, 0⟩ := by
  simp [State.joinLimit, waits, join]

theorem joinLimit_other {id : Nat} (other : ∀ c, s.cmd id = some c → dOp c.desc ≠ 0x60) : s.joinLimit id = s := by
  unfold State.joinLimit
  split
  · next c waits => exact if_neg (other c waits)
  · rfl

end

/-! ## The timers of releases and moves (R225, R272) -/

section
variable {s : State}

theorem releaseLost_waiting {node page : Nat} (waits : ∃ r ∈ s.tier.releases, r.node = node ∧ r.page = page) :
    s.releaseLost node page = (s.modTier fun t =>
      { t with releases := t.releases.filter fun r => ¬ (r.node = node ∧ r.page = page) }).bump 0x3500 0xC :=
  if_pos (by simpa using waits)

theorem releaseLost_none {node page : Nat} (none : ∀ r ∈ s.tier.releases, ¬ (r.node = node ∧ r.page = page)) :
    s.releaseLost node page = s :=
  if_neg (by simpa using none)

/-- The move of a sequence whose MOVE_FINAL waits for its answer. -/
def State.finalOf (s : State) (n : Nat) : Option MoveSt := s.xnt.moves.find? fun m => m.seq == n && m.final && !m.unresolved

/-- The unresolved move of a sequence. -/
def State.unresolvedOf (s : State) (n : Nat) : Option MoveSt := s.xnt.moves.find? fun m => m.seq == n && m.unresolved

/-- A command ends where it waits. -/
def State.endWaiting (s : State) (c : Option Cmd) (f : Fail) : State := c.elim s fun c => s.endCmd c f

/-- The move of a sequence has become unresolved: its command ends, then the appends held for it, and the host is told. -/
def State.leftUnresolved (s u : State) (n : Nat) (v : MoveSt) : State :=
  (((u.pendingAppends n none).foldl (fun t c => t.endCmd c ⟨stBusy, 0, 0, 0⟩) u).note 0x0109 (some (s.seq n).dom) islEdge 0
    [(seqIdOf n (s.seq n)).toNat, v.node]).wake

theorem moveTimeout_none {n : Nat} (none : s.finalOf n = none) : s.moveTimeout n = s := by
  unfold State.finalOf at none
  simp only [State.moveTimeout, none]

theorem moveTimeout_shadow {n : Nat} {v : MoveSt} (found : s.finalOf n = some v) (shadow : v.shadow = true) :
    s.moveTimeout n = s.shadowFail 5 := by
  unfold State.finalOf at found
  simp only [State.moveTimeout, found, shadow, if_true]

theorem moveTimeout_move {n : Nat} {v : MoveSt} (found : s.finalOf n = some v) (own : v.shadow = false) :
    s.moveTimeout n = s.leftUnresolved ((s.setMove n false fun x => { x with unresolved := true, cmd := none }).endWaiting
      (v.cmd.bind s.cmd) ⟨stTierFail, 4, s.firstPage n, 0⟩) n v := by
  unfold State.finalOf at found
  simp only [State.moveTimeout, found, own, Bool.false_eq_true, if_false]
  cases v.cmd.bind s.cmd <;> rfl

/-- A state that is given by what waits is `endWaiting`. -/
theorem eq_endWaiting {t u : State} {w : Option Cmd} {f : Fail} (waits : ∀ c, w = some c → u = t.endCmd c f)
    (none : w = none → u = t) : u = t.endWaiting w f := by
  cases w with
  | none => exact none rfl
  | some c => exact waits c rfl

theorem moveAsk_none {n : Nat} (none : s.unresolvedOf n = none) : s.moveAsk n = s := by
  unfold State.unresolvedOf at none
  simp only [State.moveAsk, none]

theorem moveAsk_noQp {n : Nat} {v : MoveSt} (found : s.unresolvedOf n = some v) (noQp : s.qpTo (s.seq n).dom v.node = none) :
    s.moveAsk n = s := by
  unfold State.unresolvedOf at found
  simp only [State.moveAsk, found, noQp]

theorem moveAsk_sent {n q : Nat} {v : MoveSt} (found : s.unresolvedOf n = some v) (path : s.qpTo (s.seq n).dom v.node = some q) :
    s.moveAsk n = (s.sendSvc q (svcHdr 0x0C 0 (n % 65536) 0 (seqIdOf n (s.seq n)) 0 0) []).setMove n false
      fun x => { x with qp := q } := by
  unfold State.unresolvedOf at found
  simp only [State.moveAsk, found, path]

end

/-- Settles O57: the shadow's four messages, then the timers of the ring, of releases and of moves. -/
theorem exchangesAndTheirTimers : Obligations.ExchangesAndTheirTimers := by
  refine ⟨?_, ?_, ?_, ?_, ?_, fun s qp => ⟨fun member neighbour => ?_, fun other => ?_, exec_helloHoldExpiry⟩,
    fun s id => ⟨fun c waits join => ?_, fun other => ?_⟩, fun s node page => ⟨fun waits => ?_, fun none => ?_⟩, ?_, ?_⟩
  · rintro s t qp m k acts rfl checked
    obtain rfl : t = s.helloChecked _ := checked
    rw [exec_shadowHello m acts]
    refine ⟨fun other => ?_, fun own => ⟨fun started passed => ?_, fun started failed => ?_, fun idle on shadow => ⟨fun two one => ?_,
      fun not => ?_⟩, fun idle other => ?_⟩⟩
    · rw [shadowHello_otherQp other]
    · rw [shadowHello_started own started, if_pos passed]
    · rw [shadowHello_started own started, if_neg failed]
    · rw [shadowHello_atShadow own idle on shadow, if_pos ⟨two, one⟩]
    · rw [shadowHello_atShadow own idle on shadow, if_neg (not_and_or.2 not)]
    · rw [shadowHello_kept own idle other]
  · rintro s qp m n acts count
    rw [exec_shadowCmd m acts, ← count]
    refine ⟨fun not => ?_, fun on mirrors shadow zero => ?_, fun on mirrors primary one => ?_⟩
    · rw [shadowCmd_ignored not]
    · rw [zero, shadowCmd_atShadow on mirrors shadow]
    · rw [one, shadowCmd_atPrimary on mirrors primary]
  · rintro s t qp m d acts rfl opened
    obtain rfl : t = s.openDomain _ := opened
    rw [exec_shadowCommit m acts]
    refine ⟨fun not => ?_, fun on shadow mirrors => ⟨fun last => ?_, fun more => ?_⟩⟩
    · rw [shadowCommit_ignored not]
    · rw [shadowCommit_taken on shadow mirrors, if_pos last]
    · rw [shadowCommit_taken on shadow mirrors, if_neg more]
  · rintro s qp m h id acts rfl rfl
    rw [exec_shadowEnd m acts]
    refine ⟨fun not => ?_, fun on mirrors one => ⟨fun shadow dom isIn => ?_, fun not => ?_⟩, fun on mirrors session =>
      ⟨fun other => ?_, fun own => ?_⟩⟩
    · rw [shadowEnd_ignored not]
    · rw [one, shadowEnd_one on mirrors, if_pos ⟨shadow, dom, isIn⟩]
      rfl
    · rw [one, shadowEnd_one on mirrors, if_neg]
      rintro ⟨shadow, dom, isIn⟩
      rcases not with primary | foreign | out
      · exact absurd (shadow.symm.trans primary) (by decide)
      · exact foreign dom
      · exact out isIn
    · rw [shadowEnd_session on mirrors session, if_neg other]
    · rw [shadowEnd_session on mirrors session, if_pos own]
  · rintro s _ rfl
    rw [exec_ringPulse]
    refine ⟨fun none => ?_, fun ring same => ?_, fun ring two => ?_⟩
    · rw [ringPulse_none none]
    · rw [ringPulse_sent ring, if_pos same]
    · rw [ringPulse_sent ring, if_neg two]
  · rw [exec_ringIdleLimit, ringLost_neighbour member neighbour]
  · rw [exec_ringIdleLimit, ringLost_other other]
  · rw [exec_ringJoinLimit, joinLimit_join waits join]
    rfl
  · rw [exec_ringJoinLimit, joinLimit_other other]
  · rw [exec_remoteReleaseTimeout, releaseLost_waiting waits]
  · rw [exec_remoteReleaseTimeout, releaseLost_none none]
  · rintro s i _ r rfl found
    rw [exec_moveFinalTimeout]
    refine ⟨fun none => ?_, fun v isV shadow => ?_, fun v t u isV own unresolved waits noCmd => ?_⟩
    · rw [moveTimeout_none (found.symm.trans none)]
    · rw [moveTimeout_shadow (found.symm.trans isV) shadow]
    · rw [moveTimeout_move (found.symm.trans isV) own, ← unresolved, ← eq_endWaiting waits noCmd]
      rfl
  · rintro s i _ r rfl found
    rw [exec_moveQueryTimer]
    refine ⟨fun none => ?_, fun v isV noQp => ?_, fun v q isV path => ?_⟩
    · rw [moveAsk_none (found.symm.trans none)]
    · rw [moveAsk_noQp (found.symm.trans isV) noQp]
    · rw [moveAsk_sent (found.symm.trans isV) path]

end Sys2Proof.Machine
end
